-- ==== Sys2Proof/Word.lean ====
section
/-! DEFINITION. The word types of the KQ5120 and their plainest arithmetic: 64-bit register words, bytes, and the
sparse map from numbers that holds whatever the part has many of. -/

namespace Sys2Proof

/-- A 64-bit register or general-purpose word (R26, R168). -/
abbrev Word := BitVec 64

/-- One byte. -/
abbrev Byte := BitVec 8

/-- A sparse map from numbers, its keys strictly rising. A key it does not list holds the map's default. -/
abbrev NMap (α : Type) := List (Nat × α)

/-- The `w` bits of `v` from bit `lo` up. -/
def bits (v lo w : Nat) : Nat := (v / 2 ^ lo) % 2 ^ w

/-- `true` where bit `n` of `v` is 1. -/
def bit (v n : Nat) : Bool := (v / 2 ^ n) % 2 == 1

/-- A Boolean as a one-bit number. -/
def b2n (b : Bool) : Nat := if b then 1 else 0

/-- `v` read as a two's-complement number of `w` bits. -/
def sext (v w : Nat) : Int := if (v % 2 ^ w) < 2 ^ (w - 1) then ((v % 2 ^ w : Nat) : Int) else ((v % 2 ^ w : Nat) : Int) - 2 ^ w

/-- An integer wrapped into `w` bits. -/
def wrap (i : Int) (w : Nat) : Nat := (i % (2 ^ w : Int)).toNat

end Sys2Proof
end

