-- ==== Sys2Proof/Syntax.lean ====
section
/-! DEFINITION. The commands of the KQ5120: everything that changes its state, one constructor for each row of the table of
operations and events, with the operands the row takes. Numbered resources are `Fin`s, so that no operand names a unit
the part does not have (R17). -/

namespace Sys2Proof

/-- A port controller, 0 to 127 (R17). -/
abbrev PortId := Fin 128
/-- A tenant instance of this device. -/
abbrev InstId := Fin 4096
/-- A flue. -/
abbrev FlueId := Fin 2048
/-- A work queue. -/
abbrev QueueId := Fin 8192
/-- A completion queue. -/
abbrev CqId := Fin 4096
/-- A thread of this device: 128 × hearth + 4 × engine + thread (Table 15-2). -/
abbrev ThrId := Fin 2048
/-- A hearth. -/
abbrev HearthId := Fin 16
/-- A Damper channel, and its slot. -/
abbrev SlotId := Fin 32
/-- A Sirfin link of this device. -/
abbrev LinkId := Fin 4
/-- A home-agent slice. -/
abbrev SliceId := Fin 2
/-- An island of Table 2-1. -/
abbrev IslandId := Fin 40
/-- A memory module. -/
abbrev ModId := Fin 2048
/-- A register number of a thread (R168). -/
abbrev Gpr := Fin 32
/-- A Hjelvon channel. -/
abbrev ChanId := Fin 32
/-- A device of the stack. -/
abbrev DevId := Fin 4

/-- Who makes an access to the Device Control Space (R26, R28). -/
inductive Master
  /-- An engine thread; its privilege is the thread's own. -/
  | thread (t : ThrId)
  /-- The sideband management bridge, at P1 (R28). -/
  | bridge
  /-- Hjelvon. -/
  | hjelvon
  /-- A host through the CXL.io BAR of an instance (R28). -/
  | host (i : InstId)
  /-- The device itself. -/
  | device
deriving DecidableEq, Repr

/-- What the partner's training sets show in Configuration (R48, R49): link numbers other than PAD, PAD, or PAD from a
partner that itself has bound MODULE. -/
inductive PartnerSets
  | linkNumbers
  | pad
  | padModule
deriving DecidableEq, Repr

/-- A module access that MEM_TMO_US limits: one the home issued, or a copy write of a migration (R132, R160). -/
inductive MemAccess
  | home (id : Nat)
  | copy (k : Fin 4096)
deriving DecidableEq, Repr

/-- What every ingress request carries beside its body: the partner's tag, the IDE stream it came on, the header as received. -/
structure IngressMeta where
  tag : Nat
  stream : Option (Fin 4) := none
  ro : Bool := false
  ido : Bool := false
  header : List Byte := []
deriving DecidableEq, Repr

/-- The CXL.mem requests of a host before the home classes them (R121): three reads by what they ask, a full-line MemWr whose SnpType is No-Op
or another, and a partial write. -/
inductive MemKind
  | rdS | rdA | rdCur
  | memWr (noOp : Bool)
  | wrPtl
deriving DecidableEq, Repr

/-- A request of a port's partner: a CXL.mem request to a composed logical device, which the HDM decoders of the port's vPPBs decode (R67, R436); a
CXL.mem or CXL.cache request to a module bound in passthrough; a CXL.io request to such a module (`posted`, memory read, or other); an access to the
BAR of an instance; a host's programming of an HDM decoder of the logical device at a vPPB, or its withdrawal (`ways` 0), with `pos` the device's place
among the ways; an error message of a module (1 ERR_FATAL, 0 ERR_NONFATAL), and a host's switching of the containment of the downstream port at a vPPB on
or off, or its release; lane margining by the partner (Table 3-4); a host's question for what the logical device at a vPPB reports (R67). The instance that passthrough traffic is counted in is the operand's. -/
inductive IngressReq
  | mem (hpa : Nat) (kind : MemKind) (data : List Byte) (mask : Nat) (poison keepS : Bool)
  | pt (vppb : Fin 64) (inst : InstId) (write : Bool) (hpa len : Nat) (data : List Byte)
  | io (vppb : Fin 64) (inst : InstId) (posted read : Bool) (addr len : Nat) (data : List Byte)
  | bar (inst : InstId) (write : Bool) (offset : Nat) (width : Nat) (data : Nat)
  | decoder (vppb : Fin 64) (k : Fin 4) (base size ways gran pos : Nat)
  | errMsg (fatal : Bool)
  | dpc (vppb : Fin 64) (enable release : Bool)
  | margin (lane : Fin 16) (timing : Bool) (offset : Nat)
  | report (vppb : Fin 64)
deriving DecidableEq, Repr

/-- What departs: the request a port's round robin serves, or the oldest request that waits for a home slice. -/
inductive Departure
  | port (c : PortId)
  | slice (sl : SliceId)
deriving DecidableEq, Repr

/-- A response, snoop or completion at a port: the answer to a request sent to that port, or a unit of an instance carried to another port, with its
Relaxed Ordering attribute. -/
inductive RspUnit
  | answer (id : Nat) (data : List Byte) (poison : Bool)
  | carry (dest : PortId) (inst : InstId) (cls : Fin 6) (ro : Bool) (data : List Byte)
deriving DecidableEq, Repr

/-- What a PBR flit carries: a request, or the response to the request of a tag. -/
inductive PbrUnit
  | request (inst : InstId) (read : Bool) (tag : Nat) (data : List Byte)
  | response (tag : Nat) (data : List Byte)
deriving DecidableEq, Repr

/-- Where an ECC error is met (R91): a spilled cell, corrected or not; the header store; an on-die cell. -/
inductive BufferError
  | spillCe | spillUe | header | cell
deriving DecidableEq, Repr

/-- The set the stack master takes: the first queued on this device, one that another member submits (its number there, expected epoch,
whether it is a control commit, and its entries: a placement-map entry or a register, its key and value), or, on a member, the
master's refusal of one of this device's sets. -/
inductive CommitSource
  | own
  | remote (d : DevId) (id : Nat) (expect : Option (Fin 4294967296)) (control : Bool) (entries : List (Bool × Nat × Nat)) (told : List (Nat × Nat))
  | refused (id : Nat) (status : Fin 256)
deriving DecidableEq, Repr

/-- What an application of a commit names: on a member, its own set's number when the commit is its own; and the pages whose switch the home member left
out because they were written since (R154). -/
structure AppliedSet where
  own : Option Nat
  stays : List Nat := []
deriving DecidableEq, Repr

/-- What the partner of a link that comes up asks for in negotiation: latency-optimised flits, L0p, and Unordered I/O, which is declined
(Table 3-4). -/
structure LinkUses where
  lopt : Bool
  l0p : Bool
  uio : Bool := false
deriving DecidableEq, Repr

/-- What a module shows in its authentication (R51): its certificate chain, and whether its proof is one of the chain's key. -/
structure ModuleProof where
  chain : List Byte
  proof : Bool
deriving DecidableEq, Repr

/-- An IDE stream whose keys are installed: its number, and for a link stream whether it runs in skid mode (R55, Table 3-4). -/
structure IdeStream where
  number : Fin 4
  link : Option Bool
deriving DecidableEq, Repr

/-- A migration whose old location is to be released, with the oldest epochs of requests in flight that other members tell (R158). -/
structure MigrationEnd where
  k : Fin 4096
  peers : List (DevId × Fin 4294967296)
deriving DecidableEq, Repr

/-- A slot whose zero fill is done, with the oldest epochs of requests in flight that other members tell (R144, R158). -/
structure ZeroedSlot where
  slot : Nat
  peers : List (DevId × Fin 4294967296)
deriving DecidableEq, Repr

/-- What a member acknowledges: the entries of its shadow tables, and the oldest epoch of its requests in flight where it tells it (R158, R222). -/
structure ShadowAck where
  entries : List (Bool × Nat × Nat)
  oldest : Option (Fin 4294967296)
deriving DecidableEq, Repr

/-- What the check of local or shared memory meets at a load (R208): nothing, an uncorrected error of the data, or of the
instruction fetched. -/
inductive LocalErr
  | none | data | fetch
deriving DecidableEq, Repr

/-- What the fabric line cache meets at an access (R208): nothing, a corrected error, or an uncorrected error of the line. -/
inductive FlcErr
  | none | ce | ue
deriving DecidableEq, Repr

/-- How a self-test stage ends (Table 20-2): the rail voltages of stage 0x01; the two boot slots as they stand in flash for stage 0x02; the first KAT that
failed, or the start-up attempts of the entropy source and whether it passed, for stage 0x03; a pass with the rows repaired; or a failure with its
detail (Table 20-3). -/
inductive StageResult
  | rails (mv : List (Fin 65536))
  | kindling (a b : List Byte)
  | hjTest (kat : Option (Fin 16)) (attempts : Fin 4) (entropy : Bool)
  | pass (repairs : Nat)
  | fail (detail : Fin 65536)
deriving DecidableEq, Repr

/-- An MCTP packet over SMBus as the binding delivers it (R383, R384): endpoints, start and end of message, sequence, tag with its owner bit, payload,
and whether its PEC is good. -/
structure MctpPacket where
  src : Fin 256
  dst : Fin 256
  som : Bool
  eom : Bool
  seq : Fin 4
  owner : Bool
  tag : Fin 8
  payload : List Byte
  pecOk : Bool
deriving DecidableEq, Repr

/-- What a DOE requester asks of this device (R368, Table 3-4): the chain of a certificate slot, a proof of its key over a nonce, a measurement, a key
exchange that opens a session, the DOE protocol of an index (discovery), or the CDAT. -/
inductive SpdmRequest
  | certificate (slot : Fin 8)
  | challenge (slot : Fin 8) (nonce : List Byte)
  | measurement (index : Fin 256)
  | keyExchange (slot : Fin 8) (opaque_ : List Byte)
  | discovery (index : Fin 256)
  | cdat (handle : Fin 65536)
deriving DecidableEq, Repr


/-- The master's configuration copy as it reaches a joiner (Table 16-7, step 5): whether it is skipped (R332), the committed RWE fields
by the key of the register file, the placement map's segments and page overrides by number as entry images, and the master's newest epoch, generation and stack identity. -/
structure JoinImage where
  skip : Bool
  regs : List (Nat × Nat)
  segs : List (Nat × Nat)
  pages : List (Nat × Nat)
  epoch : Nat
  generation : Nat
  stackId : Nat
deriving DecidableEq, Repr

/-- The commands of the KQ5120: one constructor for each row of the table of operations and events. -/
inductive Instr
  /-- REGISTER_WRITE (R26). A write to a register that has no row of its own is accepted or refused as a whole and changes its fields. -/
  | registerWrite (m : Master) (addr : Fin 67108864) (width : Nat) (v : Word)
  /-- RESERVED_ACCESS (R25). An access to a reserved range or unnamed offset reads 0, changes nothing, returns NO_MATCH and is recorded as a CE fault. -/
  | reservedAccess (m : Master) (addr : Fin 67108864) (width : Nat) (write : Bool)
  /-- REGISTER_READ_CLEAR (R12). A read of a register holding RC fields returns the value and clears those fields, with a racing event kept either in the value read or in the field. -/
  | registerReadClear (m : Master) (addr : Fin 67108864) (width : Nat)
  /-- PACE_WINDOW_END (R34). At the end of each 1,000 ns window a pace monitor reports its count, and a count below PACE_FLOOR sets PACE_LOW and records a CE fault. -/
  | paceWindowEnd (mon : Fin 64) (pace : Fin 65536) (tj : Fin 256)
  /-- AUTO_RAISE (R34). Every 10 µs while pace is low and AUTO_RAISE is 1, the commanded voltage rises by STEP_MV, up to 850 mV. -/
  | autoRaise
  /-- AVS_TARGET_WRITE (R33). A write of AVS_CTRL.VTARGET_MV is range-checked and sent to the core regulator over AVSBus. -/
  | avsTargetWrite (m : Master) (mv : Fin 1024) (autoRaise : Bool) (step : Fin 256)
  /-- AVS_NAK (R33). The regulator refuses a command; AVS_NAK is set, the last accepted value stays in force and a CE fault is recorded. -/
  | avsNak
  /-- ISLAND_CLOCK_LOSS (R36). An island loses its clock; CLK_LOST latches, the loss is recorded and only traffic bound for the island stalls. -/
  | islandClockLoss (i : IslandId)
  /-- ISLAND_CLOCK_RETURN (R62). An island clock returns; CLK_PRESENT reads 1 and the group's ports may train again. -/
  | islandClockReturn (i : IslandId)
  /-- SYNC_ERR (R35). A crossing-FIFO checker finds an overflow or underflow; SYNC_ERR is set and a PF fault is recorded for the island. -/
  | syncErr (i : IslandId)
  /-- HOLDOVER (R39). The reference clock of the time base fails and the internal oscillator takes over, with HOLDOVER set and a CE fault recorded. -/
  | holdover
  /-- TB_STEP (R37). A non-zero write of TB_STEP moves TB_NOW forward once and advances STEP_COUNT. -/
  | tbStep (m : Master) (ns : Fin 4294967296)
  /-- PPS_EDGE (R37). A PPS_IN edge disciplines TB_NOW on a device with PPS_EN at 1 and ends any absence. -/
  | ppsEdge
  /-- PPS_ABSENCE (R433). A span of 1.5 s with no PPS edge ends; PPS_LOST is set and one CE fault is recorded. -/
  | ppsAbsence
  /-- PARTNER_PRESENCE (R52). A link partner appears on a port and training starts from Detect. -/
  | partnerPresence (c : PortId) (present : Bool)
  /-- TRAINING_SETS_RECEIVED (R48). The partner's training sets reach Configuration and the controller binds its role from the link numbers or PAD. -/
  | trainingSetsReceived (c : PortId) (sets : PartnerSets) (flit256 : Bool) (rate : Fin 7)
  /-- EQUALISATION_FAIL (R52). Equalisation fails twice at a rate; EQ_FAIL is set and training tries the next lower rate. -/
  | equalisationFail (c : PortId)
  /-- LINK_UP (R52). A port's link reaches UP or UP_IO and the port becomes ACTIVE. -/
  | linkUp (c : PortId) (lanes : Fin 17) (uses : LinkUses) (identity : Nat) (caps : List Nat)
  /-- TRAIN_TIMEOUT (R52). A link with a partner present has not reached UP within 120 ms; TRAIN_FAIL is set and a CE fault recorded. -/
  | trainTimeout (c : PortId)
  /-- ROLE_CONFLICT_RETRY (R49). Every 100 ms after a role conflict the controller retries training. -/
  | roleConflictRetry (c : PortId)
  /-- MODULE_AUTHENTICATION (R51). SPDM authentication of a module concludes; on success CXL.mem binding proceeds, on failure the link stays UP_IO with AUTH_FAIL. -/
  | moduleAuthentication (c : PortId) (shown : ModuleProof)
  /-- AUTH_TIMEOUT (R51). Module authentication exceeds 50 ms; the link stays UP_IO, AUTH_FAIL is set and a PF fault recorded. -/
  | authTimeout (c : PortId)
  /-- REPLAY_WINDOW_END (R53). A 1 ms replay window ends and its count is compared with REPLAY_THR. -/
  | replayWindowEnd (c : PortId) (replays : Nat)
  /-- RECOVERY_COMPLETE (R53). A Recovery completes at the new rate without losing any request. -/
  | recoveryComplete (c : PortId)
  /-- PORT_RETRAIN (R59). RETRAIN starts Recovery in ACTIVE or training from Detect in QUIESCED or DOWN, with its status. -/
  | portRetrain (m : Master) (c : PortId)
  /-- QUIESCE (R59). QUIESCE moves an ACTIVE port to DRAINING, stops credit returns and holds new requests in the switch core. -/
  | quiesce (m : Master) (c : PortId)
  /-- PORT_RELEASE (R59). RELEASE returns a DRAINING or QUIESCED port to ACTIVE. -/
  | portRelease (m : Master) (c : PortId)
  /-- PORT_RESET (R61). PORT_RESET takes the link down and concludes requests sent to the partner with LINK_DOWN. -/
  | portReset (m : Master) (c : PortId)
  /-- PORT_RESET_COMPLETE (R61). Within 10 µs of a port reset every outstanding request is concluded and the controller's link state is reinitialised in DOWN. -/
  | portResetComplete (c : PortId)
  /-- DRAIN_DONE (R60). The partner answers the last outstanding request of a drain; STATE becomes QUIESCED and LAST_DRAIN_NS is written. -/
  | drainDone (c : PortId)
  /-- DRAIN_TIMEOUT (R60). QUIESCE_TMO_US expires; unanswered requests conclude with TIMEOUT, DRAIN_TIMEOUT is set and STATE becomes QUIESCED. -/
  | drainTimeout (c : PortId)
  /-- LINK_LOSS (R61). A port loses its link without a command; a port reset follows, SURPRISE_DOWN is set and a PF fault recorded. -/
  | linkLoss (c : PortId)
  /-- WIDTH_CHANGE (R57). An accepted PC_WIDTH_CFG write re-forms ports and takes down every touched link by a commanded port reset. -/
  | widthChange (m : Master) (c : PortId) (w : Fin 4)
  /-- LOOP_ENABLE (R63). LOOP_EN written 1 joins two quiesced controllers into one internal link, which reads LOOP. -/
  | loopEnable (m : Master) (c : PortId) (partner : PortId)
  /-- LOOP_DISABLE (R63). LOOP_EN written 0 ends a loop with a port reset of both controllers. -/
  | loopDisable (m : Master) (c : PortId)
  /-- IDE_CHECK_FAIL (R55). An IDE integrity check fails; the stream goes Insecure, its outstanding requests conclude with ACCESS_DENIED and a PF fault is recorded. -/
  | ideCheckFail (c : PortId) (stream : Fin 4)
  /-- IDE_KEY_INSTALL (R55). IDE_KM in an SPDM session installs Hjelvon-generated stream keys into the port's key store. -/
  | ideKeyInstall (c : PortId) (stream : IdeStream)
  /-- SPDM_MESSAGE (R368). An SPDM request over DOE is answered from the certificate slots and the measurements of the device. -/
  | spdmMessage (c : PortId) (r : SpdmRequest)
  /-- INGRESS_REQUEST (R93). A request is taken at ingress, gated, metered, decoded and queued, or held back at a bound. -/
  | ingressRequest (c : PortId) (im : IngressMeta) (req : IngressReq)
  /-- SPILL_READBACK (R89). Spilled payload cells are read back on die before their unit reaches the head of its queue. -/
  | spillReadback (id : Nat)
  /-- AGE_EXPIRY (R95). A unit's age limit expires before departure; it is removed, answered AGED and recorded as an NC fault. -/
  | ageExpiry (id : Nat)
  /-- EGRESS_DEPARTURE (R96). A queued unit departs to its destination port or home slice, stopping its age timer. -/
  | egressDeparture (d : Departure)
  /-- SHAPER_TICK (R108). On each tick every egress queue's credit is updated and its eligibility decided. -/
  | shaperTick
  /-- PENALTY_RELEASE (R106). The head of a penalty list is re-metered and leaves the list when it colours green or yellow. -/
  | penaltyRelease (inst : Fin 16384) (core : Fin 4096)
  /-- PATH_FENCE_LIFT (R87). Once every earlier unit of a flow on its old path has concluded, held units are sent on the new path. -/
  | pathFenceLift (id : Nat)
  /-- RESPONSE_INGRESS (R83). A response, snoop or completion unit arrives and is carried to its destination within its class reserve. -/
  | responseIngress (c : PortId) (u : RspUnit)
  /-- PBR_FLIT_ARRIVAL (R77). A flit with a fabric destination port ID is delivered to an edge port or routed by PBR_ROUTE. -/
  | pbrFlitArrival (c : PortId) (dest : Fin 4096) (u : PbrUnit)
  /-- BUFFER_ECC_ERROR (R91). An ECC error in overflow, header store or an on-die cell is corrected or poisons the unit, with its status bit and fault. -/
  | bufferEccError (id : Nat) (e : BufferError)
  /-- DC_ADD (R438). DC_ADD checks that the range is backed and raises a Dynamic Capacity Add event to the host. -/
  | dcAdd (m : Master) (tag : Fin 65536)
  /-- DC_RELEASE (R80). DC_RELEASE raises a Dynamic Capacity Release event and waits for the host's response. -/
  | dcRelease (m : Master) (tag : Fin 65536)
  /-- DC_FORCE_RELEASE (R80). DC_FORCE_RELEASE unbacks the whole range without asking the host. -/
  | dcForceRelease (m : Master) (tag : Fin 65536)
  /-- PT_BIND (R73). PT_BIND joins a vPPB of a HOST port to a module not in the pool. -/
  | ptBind (m : Master) (tag : Fin 65536)
  /-- PT_UNBIND (R74). PT_UNBIND removes a passthrough binding, managed with an attention request or forced. -/
  | ptUnbind (m : Master) (tag : Fin 65536)
  /-- LD_ATTACH (R67). LD_ATTACH binds an instance's composed logical device to a vPPB. -/
  | ldAttach (m : Master) (tag : Fin 65536)
  /-- LD_DETACH (R67). LD_DETACH removes a composed logical device from its vPPB. -/
  | ldDetach (m : Master) (tag : Fin 65536)
  /-- ADD_CAPACITY_RESPONSE (R78). The host's Add Capacity Response arrives; pages not accepted are unbacked and BIND_STATUS reports OK or PARTIAL. -/
  | addCapacityResponse (i : InstId) (pages : List Nat)
  /-- RELEASE_CAPACITY_RESPONSE (R80). The host's Release Capacity Response arrives and the pages it names are unbacked by a commit. -/
  | releaseCapacityResponse (i : InstId) (pages : List Nat)
  /-- DC_TIMEOUT (R81). DC_TMO_MS expires with no host response; DC_ADD unbacks its range, DC_RELEASE keeps it, and TIMEOUT is reported. -/
  | dcTimeout
  /-- VSLOT_POWER_OFF (R74). The host powers off a virtual slot under a managed unbind and the binding is removed. -/
  | vslotPowerOff (p : PortId) (v : Fin 64)
  /-- UNBIND_TIMEOUT (R74). UNBIND_TMO_MS expires in a managed unbind; TIMEOUT is returned and the binding is kept. -/
  | unbindTimeout
  /-- HOME_REQUEST_ARRIVAL (R122). A composed request arrives at its home slice and becomes active or waits in its line list. -/
  | homeRequestArrival (id : Nat)
  /-- HOME_REQUEST_ACTIVATE (R123). The next request of a line becomes active and the home acts on it by request kind and filter state. -/
  | homeRequestActivate (line : Nat)
  /-- SNOOP_ANSWER (R124). A holder's snoop answer reaches the home, with or without data, and the request progresses. -/
  | snoopAnswer (holder : Fin 16384) (line : Nat) (kept : Bool)
  /-- SNOOP_TIMEOUT (R129). A snoop expires; an owned line is poisoned or a sharer removed, and an NC fault is recorded. -/
  | snoopTimeout (holder : Fin 16384) (line : Nat)
  /-- MODULE_ACCESS_COMPLETE (R123). A home read or write to a module completes and the active request proceeds. -/
  | moduleAccessComplete (id : Nat) (data : List Byte) (poison : Bool)
  /-- MEM_TIMEOUT (R132). A home module access exceeds MEM_TMO_US; the requester receives POISON, an error or TIMEOUT and an NC fault is recorded. -/
  | memTimeout (access : MemAccess)
  /-- WB_ARRIVAL (R126). A writeback reaches the home and is written when its sender owns the line, otherwise discarded and recorded. -/
  | wbArrival (id : Nat)
  /-- CLEAN_EVICTION_NOTICE (R120). A hearth drops a clean line and the home removes it from the filter entry. -/
  | cleanEvictionNotice (h : HearthId) (line : Nat)
  /-- BICONFLICT (R127). A host's BIConflict is answered with BIConflictAck ahead of its waiting request. -/
  | biconflict (c : PortId) (tag : Nat)
  /-- FORWARDED_DATA (R125). Data forwarded from an owner reaches the requester and is used once the home's grant also arrives. -/
  | forwardedData (id : Nat)
  /-- HOME_GRANT (R125). The home's grant or poison answer reaches a requester and completes its request. -/
  | homeGrant (id : Nat)
  /-- SF_ECC_ERROR (R137). A filter entry error is corrected and refetched, or an uncorrected one degrades its set with a PF fault. -/
  | sfEccError (slice : SliceId) (set : Fin 33554432) (uncorrected : Bool)
  /-- MSC_ECC_ERROR (R138). A memory-side cache error is corrected, repaired from the module, or poisons a dirty line. -/
  | mscEccError (line : Nat) (uncorrected : Bool)
  /-- SF_PROBE (R137). SF_PROBE_CTRL.GO reads the filter entry of LINE into DATA0 and DATA1 as one snapshot. -/
  | sfProbe (m : Master)
  /-- SF_REBUILD (R137). REBUILD invalidates every holder of a degraded set's lines. -/
  | sfRebuild (m : Master)
  /-- SF_REBUILD_DONE (R137). A rebuild's invalidations conclude, the set is cleared and DEGRADED_SETS falls. -/
  | sfRebuildDone
  /-- MSC_FLUSH (R136). FLUSH starts writing to the modules every line dirty at that moment. -/
  | mscFlush (m : Master)
  /-- MSC_FLUSH_DONE (R136). The last line of a flush is written; FLUSH_BUSY clears and FLUSH_NS is recorded. -/
  | mscFlushDone
  /-- MOVE_REQUEST_TAKE (R148). The placement unit takes the next move request from the ring and admits or refuses it. -/
  | moveRequestTake
  /-- FIRST_COPY_DONE (R150). The first 2 MiB copy of a migration completes and recopy passes begin. -/
  | firstCopyDone (k : Fin 4096) (poison ue : Nat)
  /-- RECOPY_PASS_DONE (R152). A recopy pass completes; the migration enters SYNC, runs another pass, or is abandoned as TOO_HOT. -/
  | recopyPassDone (k : Fin 4096) (poison ue : Nat)
  /-- SYNC_WRITES_DRAINED (R153). Every write already issued to the old location has completed and the final pass starts. -/
  | syncWritesDrained (k : Fin 4096)
  /-- FINAL_PASS_DONE (R154). The final pass completes and, with no dirty bit and no write outstanding, the switch is taken. -/
  | finalPassDone (k : Fin 4096) (poison ue : Nat)
  /-- SYNC_DEADLINE (R155). HOLD_MAX_NS expires before the switch; held writes go to the old location and the migration returns to RECOPY or is abandoned. -/
  | syncDeadline (k : Fin 4096)
  /-- OLD_LOCATION_RELEASE (R158). OLDEST_STACK passes the switch epoch; the old slot goes to ZEROING and the migration concludes with its log record. -/
  | oldLocationRelease (r : MigrationEnd)
  /-- ZERO_FILL_DONE (R144). A zero fill of a slot completes and the slot becomes FREE. -/
  | zeroFillDone (set : Fin 1024) (slot : ZeroedSlot)
  /-- HEAT_DECAY (R146). Every DECAY_MS each heat entry's counts are halved and its SUBMAP cleared. -/
  | heatDecay
  /-- PLACEMENT_RUN_STOP (R164). RUN written 0 stops taking requests and, with STOP_ABORT, abandons unswitched migrations. -/
  | placementRunStop (m : Master)
  /-- PIN_PAGE (R162). PIN_PAGE pins a page's override, creating one if needed, and abandons its unswitched migration. -/
  | pinPage (m : Master) (tag : Fin 65536)
  /-- UNPIN_PAGE (R162). UNPIN_PAGE clears PIN in a page's override. -/
  | unpinPage (m : Master) (tag : Fin 65536)
  /-- PIN_SEG (R162). PIN_SEG pins a segment entry and abandons unswitched migrations of its pages. -/
  | pinSeg (m : Master) (tag : Fin 65536)
  /-- UNPIN_SEG (R162). UNPIN_SEG clears PIN in a segment entry. -/
  | unpinSeg (m : Master) (tag : Fin 65536)
  /-- SLOT_CLAIM (R144). SLOT_CLAIM marks a FREE slot USED for control firmware. -/
  | slotClaim (m : Master) (tag : Fin 65536)
  /-- SLOT_FREE (R144). SLOT_FREE moves a slot to ZEROING so that it becomes FREE after its fill. -/
  | slotFree (m : Master) (tag : Fin 65536)
  /-- ABORT_MIG (R165). ABORT_MIG abandons an unswitched migration of a page. -/
  | abortMig (m : Master) (tag : Fin 65536)
  /-- PLC_PROBE (R139). PLC_PROBE_CTRL.GO resolves a page's placement as one snapshot. -/
  | plcProbe (m : Master)
  /-- PLACEMENT_COMMIT (R142). The placement unit submits a commit carrying one or more switches' map changes. -/
  | placementCommit
  /-- ALU (R172). An ALU instruction computes RD from RA and RB by its function code. -/
  | alu (t : ThrId)
  /-- ADDI (R171). ADDI adds a sign-extended immediate. -/
  | addi (t : ThrId)
  /-- ANDI (R171). ANDI ands a zero-extended immediate. -/
  | andi (t : ThrId)
  /-- ORI (R171). ORI ors a zero-extended immediate. -/
  | ori (t : ThrId)
  /-- XORI (R171). XORI exclusive-ors a zero-extended immediate. -/
  | xori (t : ThrId)
  /-- SHI (R171). SHI shifts or rotates by an immediate amount. -/
  | shi (t : ThrId)
  /-- CATI (R171). CATI shifts RA left by 16 and appends a 16-bit immediate. -/
  | cati (t : ThrId)
  /-- BEQ (R173). BEQ branches when RA equals RB. -/
  | beq (t : ThrId)
  /-- BNE (R173). BNE branches when RA differs from RB. -/
  | bne (t : ThrId)
  /-- BLT (R173). BLT branches when RA is less than RB, signed. -/
  | blt (t : ThrId)
  /-- BGE (R173). BGE branches when RA is at least RB, signed. -/
  | bge (t : ThrId)
  /-- BLTU (R173). BLTU branches when RA is less than RB, unsigned. -/
  | bltu (t : ThrId)
  /-- BGEU (R173). BGEU branches when RA is at least RB, unsigned. -/
  | bgeu (t : ThrId)
  /-- JAL (R167). JAL writes the return address to g28 and jumps. -/
  | jal (t : ThrId)
  /-- JALR (R173). JALR jumps to an aligned register-relative target and writes the return address. -/
  | jalr (t : ThrId)
  /-- LDB (R174). LDB loads one byte, zero-extended. -/
  | ldb (t : ThrId) (e : LocalErr)
  /-- LDH (R174). LDH loads two aligned bytes, zero-extended. -/
  | ldh (t : ThrId) (e : LocalErr)
  /-- LDW (R174). LDW loads four aligned bytes, zero-extended. -/
  | ldw (t : ThrId) (e : LocalErr)
  /-- LDD (R174). LDD loads eight aligned bytes. -/
  | ldd (t : ThrId) (e : LocalErr)
  /-- STB (R174). STB stores one byte. -/
  | stb (t : ThrId)
  /-- STH (R174). STH stores two aligned bytes. -/
  | sth (t : ThrId)
  /-- STW (R174). STW stores four aligned bytes. -/
  | stw (t : ThrId)
  /-- STD (R174). STD stores eight aligned bytes. -/
  | std (t : ThrId)
  /-- FLD (R177). FLD loads 8 B of fabric memory through the hearth fabric line cache, fetching as RD_S on a miss. -/
  | fld (t : ThrId) (e : FlcErr)
  /-- FLDU (R177). FLDU loads 8 B of fabric memory uncached as RD_CUR. -/
  | fldu (t : ThrId)
  /-- FST (R181). FST stores 8 B to fabric memory through the line cache as a posted store. -/
  | fst (t : ThrId) (e : FlcErr)
  /-- FSTU (R181). FSTU posts an uncached 8 B WR_PTL to fabric memory. -/
  | fstu (t : ThrId)
  /-- FLINE_LD (R177). FLINE load cached moves 64 B from fabric to local memory through the line cache. -/
  | flineLd (t : ThrId) (e : FlcErr)
  /-- FLINE_LDU (R177). FLINE load uncached moves 64 B from fabric to local memory as RD_CUR. -/
  | flineLdu (t : ThrId)
  /-- FLINE_ST (R177). FLINE store cached moves 64 B to fabric through the line cache, posted. -/
  | flineSt (t : ThrId) (e : FlcErr)
  /-- FLINE_STU (R177). FLINE store uncached writes 64 B to fabric as WR, posted. -/
  | flineStu (t : ThrId)
  /-- AMO_LOCAL (R184). A local AMO performs an atomic operation on 8 B of local or shared memory. -/
  | amoLocal (t : ThrId)
  /-- AMO_FABRIC (R184). A fabric AMO waits as FENCE F, owns the line and performs the atomic operation in the line cache. -/
  | amoFabric (t : ThrId) (e : FlcErr)
  /-- FENCE_L (R175). FENCE L waits until earlier local, shared and HBM stores are visible. -/
  | fenceL (t : ThrId)
  /-- FENCE_F (R175). FENCE F waits until earlier fabric accesses have concluded and reports a failed posted store. -/
  | fenceF (t : ThrId)
  /-- FENCE_A (R175). FENCE A does both fences and waits for earlier CST. -/
  | fenceA (t : ThrId)
  /-- FENCE_I (R175). FENCE I does FENCE A and discards fetched instructions. -/
  | fenceI (t : ThrId)
  /-- CRC (R185). CRC updates a CRC register with 1 to 8 bytes under the selected polynomial. -/
  | crc (t : ThrId)
  /-- MIX (R186). MIX computes the 64-bit mix of RA and RB. -/
  | mix (t : ThrId)
  /-- FHASH (R186). FHASH computes the switch-core flow hash under the committed seed. -/
  | fhash (t : ThrId)
  /-- CLD (R179). CLD reads a 64-bit Device Control Space register. -/
  | cld (t : ThrId)
  /-- CST (R179). CST writes a Device Control Space register and waits for its status. -/
  | cst (t : ThrId)
  /-- STGR (R188). STGR stages a value for an RWE register in the thread's staging set. -/
  | stgr (t : ThrId)
  /-- STGM (R189). STGM stages a segment entry, an override, or removal of an override. -/
  | stgm (t : ThrId)
  /-- ECMT (R190). ECMT submits the staging set for commit and waits for its outcome. -/
  | ecmt (t : ThrId)
  /-- EABORT (R190). EABORT empties the staging set. -/
  | eabort (t : ThrId)
  /-- EVTWAIT (R192). EVTWAIT takes pending selected events or waits for one. -/
  | evtwait (t : ThrId)
  /-- EVTSIG (R193). EVTSIG sets a software event in a thread of the stack. -/
  | evtsig (t : ThrId)
  /-- MBSEND (R194). MBSEND sends a message to a thread's receive queue or an instance mailbox. -/
  | mbsend (t : ThrId)
  /-- MBRECV (R195). MBRECV copies the oldest message of the receive queue and frees its slot. -/
  | mbrecv (t : ThrId)
  /-- DMAL (R196). DMAL starts a flue at a descriptor, as its start doorbell. -/
  | dmal (t : ThrId)
  /-- BMOVE (R197). BMOVE moves a block in beats, keeping its progress in RD, RA and RB. -/
  | bmove (t : ThrId)
  /-- BFILL (R198). BFILL fills a block with an 8-byte pattern in beats. -/
  | bfill (t : ThrId)
  /-- BCMP (R198). BCMP compares two blocks in beats and stops at the first difference. -/
  | bcmp (t : ThrId)
  /-- BLOCK_BEAT_CONCLUDE (R199). A beat of a block instruction concludes and the progress registers advance over leading completed beats, or the instruction stops. -/
  | blockBeatConclude (t : ThrId) (k : Fin 8) (e : LocalErr)
  /-- MFS (R169). MFS reads a special register, clearing SERR registers on read. -/
  | mfs (t : ThrId)
  /-- MTS (R169). MTS writes a special register. -/
  | mts (t : ThrId)
  /-- SYSCALL (R212). SYSCALL raises the SYSCALL trap with its code. -/
  | syscall (t : ThrId)
  /-- BRK (R212). BRK raises the BREAK trap with its code. -/
  | brk (t : ThrId)
  /-- TRET (R213). TRET returns from a trap to TRAP_PC at the base level, swapping gate sets. -/
  | tret (t : ThrId)
  /-- YIELD (R168). YIELD gives up the thread's issue slot once. -/
  | yield (t : ThrId)
  /-- HALT (R204). HALT stops the thread until its hearth restarts it. -/
  | halt (t : ThrId)
  /-- FABRIC_ANSWER (R178). The answer to a fabric load, AMO or CST arrives and the instruction concludes with its status. -/
  | fabricAnswer (t : ThrId)
  /-- POSTED_STORE_CONCLUDE (R182). A posted fabric store concludes and a failure is recorded in SERR_ADDR and SERR_STAT. -/
  | postedStoreConclude (t : ThrId) (k : Fin 16)
  /-- RETRY_REISSUE (R180). An engine back-off wait ends and a refused request is reissued. -/
  | retryReissue (t : ThrId)
  /-- EVTWAIT_TIMEOUT (R192). An EVTWAIT timeout expires and the wait returns TIMEOUT with nothing taken. -/
  | evtwaitTimeout (t : ThrId)
  /-- THREAD_TIMER_EXPIRY (R191). TIMER_NS expires and sets event 0. -/
  | threadTimerExpiry (t : ThrId)
  /-- INTERRUPT_TAKE (R215). The lowest pending unmasked event is taken as an interrupt at a boundary. -/
  | interruptTake (t : ThrId)
  /-- HEARTH_SNOOP (R207). A home snoop reaches a hearth line cache and is answered, or held until a forwarded request completes. -/
  | hearthSnoop (h : HearthId) (line : Nat)
  /-- THREAD_START (R203). START makes a HALTED thread with an image RUN from TH_PC. -/
  | threadStart (m : Master) (t : ThrId)
  /-- THREAD_STOP (R204). STOP halts a thread at its next boundary. -/
  | threadStop (m : Master) (t : ThrId)
  /-- THREAD_CLEAR (R205). CLEAR stops a thread, empties its state and removes its image. -/
  | threadClear (m : Master) (t : ThrId)
  /-- CLEAR_ALL (R205). CLEAR_ALL clears every thread of a hearth and writes back and invalidates its line cache. -/
  | clearAll (m : Master) (h : HearthId)
  /-- IMAGE_LOAD (R219). HTH_LOAD_CMD GO checks the target thread and header and starts writing the image's sections. -/
  | imageLoad (m : Master) (h : HearthId) (k : Fin 128) (tag : Fin 65536) (inst : Fin 16384)
  /-- IMAGE_LOAD_COMPLETE (R219). The load's hash and signature checks conclude and the thread is set up, or every byte written is zero-filled. -/
  | imageLoadComplete (h : HearthId)
  /-- IMAGE_VERIFY_TIMEOUT (R219). Hjelvon does not answer within the bound of load step 4 and the load fails with INTERNAL. -/
  | imageVerifyTimeout (h : HearthId)
  /-- COMMIT_TAKE (R223). The stack master takes a queued staging set and checks its epoch and every entry. -/
  | commitTake (c : CommitSource)
  /-- COMMIT_SHADOW_ACK (R222). A member writes the commit's entries into its shadow tables and acknowledges. -/
  | commitShadowAck (d : DevId) (held : ShadowAck)
  /-- COMMIT_DECISION (R222). With every acknowledgement in, the master assigns epoch E + 1 and advances the generation for a control commit. -/
  | commitDecision
  /-- COMMIT_APPLY (R225). A member's shadow tables become current and its decoders tag new requests with the new epoch. -/
  | commitApply (d : DevId) (epoch : Fin 4294967296) (control : Bool) (own : AppliedSet)
  /-- COMMIT_TIMEOUT (R224). COMMIT_TMO_US expires before the decision; shadow entries are discarded and the commit returns TIMEOUT. -/
  | commitTimeout (id : Nat)
  /-- FLU_DOORBELL (R251). A doorbell starts an IDLE flue or, in ring mode, sets KICK. -/
  | fluDoorbell (m : Master) (f : FlueId) (addr : Word)
  /-- FLUE_STOP (R241). STOP stops a flue at a descriptor boundary or pauses it by STOP_MODE. -/
  | flueStop (m : Master) (f : FlueId)
  /-- FLUE_RESUME (R242). RESUME fetches the descriptor again and continues from the progress registers. -/
  | flueResume (m : Master) (f : FlueId)
  /-- FLUE_ABORT (R243). ABORT ends a flue's work with a PARTIAL record. -/
  | flueAbort (m : Master) (f : FlueId)
  /-- FLUE_RESET (R244). RESET discards a flue's work and returns it to IDLE within 10 µs. -/
  | flueReset (m : Master) (f : FlueId)
  /-- FLU_ASSIGN_WRITE (R228). A write of FLU_ASSIGN binds a flue to an instance, level, owner and ceiling under quota. -/
  | fluAssignWrite (m : Master) (f : FlueId) (v : Word)
  /-- MOVER_GRANT (R240). A free mover takes the oldest READY flue of highest priority. -/
  | moverGrant (die : Fin 2)
  /-- FLUE_PREEMPTION (R240). At a beat boundary a lower-priority flue's mover is given to a waiting higher-priority flue. -/
  | fluePreemption (die : Fin 2)
  /-- DESCRIPTOR_FETCH (R231). A fetched descriptor is checked and its work begins, or it concludes with ACCESS_DENIED. -/
  | descriptorFetch (f : FlueId)
  /-- FLUE_BEAT_READ_ANSWER (R235). A beat's read answer arrives in the flue's staging buffer and its write issues. -/
  | flueBeatReadAnswer (f : FlueId) (k : Fin 32) (ue : Bool)
  /-- FLUE_BEAT_WRITE_CONCLUDE (R235). A beat's write concludes and the progress registers advance, or the flue stops on its error. -/
  | flueBeatWriteConclude (f : FlueId) (k : Fin 32)
  /-- CQ_APPEND (R250). A completion record is appended to its queue once room exists, with events and MSI-X as configured. -/
  | cqAppend (f : FlueId)
  /-- CQ_HEAD_WRITE (R250). A consumer's write of a completion queue HEAD frees room for waiting appends. -/
  | cqHeadWrite (m : Master) (q : CqId) (head : Fin 4294967296)
  /-- FLUE_RETRY_REISSUE (R239). A flue's RETRY back-off ends and the request is reissued. -/
  | flueRetryReissue (f : FlueId)
  /-- REQUEST_LINE_ASSERT (R245). A DREQ_N pin assertion requests a unit of work from the bound flue. -/
  | requestLineAssert (n : Fin 16) (asserted : Bool)
  /-- RQL_SET (R245). A write of RQL_CFG.SET asserts an internal request line once. -/
  | rqlSet (m : Master) (n : Fin 1024)
  /-- HELPER_RETURN (R247). A write of FLU_RUN_RET concludes the waiting RUN descriptor with its status and result, or is stray. -/
  | helperReturn (m : Master) (f : FlueId) (status : Fin 256) (result : Fin 4294967296)
  /-- HELPER_TIMEOUT (R248). RUN_TMO_US expires and the RUN descriptor concludes with TIMEOUT. -/
  | helperTimeout (f : FlueId)
  /-- WQ_DOORBELL (R259). A write of WQ_DB.TAIL advances a queue's tail under the room check. -/
  | wqDoorbell (m : Master) (q : QueueId) (tail : Fin 4294967296)
  /-- WQ_INLINE_DOORBELL (R261). A write to the inline window advances the tail and keeps the leading whole entries. -/
  | wqInlineDoorbell (m : Master) (q : QueueId) (offset : Nat) (data : List Byte)
  /-- WQ_ENABLE (R267). ENABLE sets TAIL to HEAD and the queue to ENABLED. -/
  | wqEnable (m : Master) (q : QueueId)
  /-- WQ_DISABLE (R266). DISABLE moves the queue to DRAINING and discards entries not started. -/
  | wqDisable (m : Master) (q : QueueId)
  /-- WQ_CFG_WRITE (R263). A write of WQ_CFG binds or unbinds a queue to its server flue and sets its mode. -/
  | wqCfgWrite (m : Master) (q : QueueId) (v : Word)
  /-- WQ_ENTRY_START (R264). The server flue takes a whole entry from an eligible queue and starts it. -/
  | wqEntryStart (f : FlueId)
  /-- HEAD_WRITE_CONCLUDE (R265). A published-head write concludes, setting HEAD_FAIL on failure. -/
  | headWriteConclude (q : QueueId)
  /-- WQ_DRAIN_TIMEOUT (R266). DRAIN_TMO_US expires and the started entry is aborted, with DRAIN_ABORT set. -/
  | wqDrainTimeout (q : QueueId)
  /-- CREATE (R271). CREATE reserves an instance's quotas and makes it ACTIVE. -/
  | create (m : Master) (i : InstId) (tag : Fin 65536)
  /-- DESTROY (R272). DESTROY resets an unwound instance, returns its quotas and makes it FREE. -/
  | destroy (m : Master) (i : InstId) (tag : Fin 65536)
  /-- FREEZE (R283). FREEZE makes an instance FREEZING and pauses its flues and stops its threads. -/
  | freeze (m : Master) (i : InstId) (tag : Fin 65536)
  /-- FREEZE_COMPLETE (R283). The pauses and stops conclude and the instance becomes FROZEN. -/
  | freezeComplete (i : InstId)
  /-- THAW (R285). THAW resumes frozen flues and threads and makes the instance ACTIVE. -/
  | thaw (m : Master) (i : InstId) (tag : Fin 65536)
  /-- SAVE (R286). SAVE writes the frozen instance's image and flue records. -/
  | save (m : Master) (i : InstId) (tag : Fin 65536)
  /-- RESTORE (R286). RESTORE checks an image and creates the instance FROZEN from it. -/
  | restore (m : Master) (i : InstId) (tag : Fin 65536)
  /-- FLUE_PUT (R287). FLUE_PUT writes a restored flue record into an IDLE flue. -/
  | fluePut (m : Master) (i : InstId) (tag : Fin 65536)
  /-- WQ_PUT (R287). WQ_PUT writes a restored queue record into a DISABLED queue. -/
  | wqPut (m : Master) (i : InstId) (tag : Fin 65536)
  /-- THREAD_PUT (R287). THREAD_PUT writes a restored thread record into a matching HALTED P2 thread. -/
  | threadPut (m : Master) (i : InstId) (tag : Fin 65536)
  /-- INST_RESET (R281). RESET starts the instance reset of Table 13-7. -/
  | instReset (m : Master) (i : InstId) (tag : Fin 65536)
  /-- INST_RESET_COMPLETE (R281). No request of the instance remains in flight; meters and marks are cleared and the instance becomes ACTIVE or CONTAINED. -/
  | instResetComplete (i : InstId)
  /-- INST_RELEASE (R281). RELEASE moves a CONTAINED instance to ACTIVE. -/
  | instRelease (m : Master) (i : InstId) (tag : Fin 65536)
  /-- MBX_DOORBELL (R274). A write of MBX_DB copies the command to a landing record and signals the server, or replays the stored answer. -/
  | mbxDoorbell (m : Master) (i : InstId) (tag : Fin 65536) (len : Fin 32)
  /-- MBX_TIMEOUT (R278). MBX_TMO_MS expires and a TIMEOUT answer is stored with an NC fault. -/
  | mbxTimeout (i : InstId)
  /-- THREAD_GATE_LO_WRITE (R296). A write of a thread-gate LO word checks the region pair and changes the region with any held HI word. -/
  | threadGateLoWrite (m : Master) (t : ThrId) (set : Fin 2) (r : Fin 16) (v : Word)
  /-- THREAD_GATE_HI_WRITE (R296). A write of a thread-gate HI word is held until the next LO write of the region. -/
  | threadGateHiWrite (m : Master) (t : ThrId) (set : Fin 2) (r : Fin 16) (v : Word)
  /-- GATE_SWAP (R297). TG_CTRL.SWAP exchanges the active and shadow sets of a halted thread. -/
  | gateSwap (m : Master) (t : ThrId)
  /-- REPORT_TAKE (R303). The fault unit takes a checker's report, numbers it, logs it and applies its reaction. -/
  | reportTake
  /-- LOG_RING_WRITE (R310). A record's copy to the HBM ring concludes and PROD advances, or the failure latches LOG_LOST. -/
  | logRingWrite (ok : Bool)
  /-- ODL_CHECK_FAIL (R311). An on-die log entry fails its check on reading; LOG_LOST latches, the backstop fills and a DF record is taken. -/
  | odlCheckFail (n : Fin 128) (syndrome : Fin 65536)
  /-- ACK (R305). ACK clears the pending bit of a class and scope. -/
  | ack (m : Master) (tag : Fin 65536)
  /-- ACK_CLASS (R305). ACK_CLASS clears every pending bit of a class. -/
  | ackClass (m : Master) (tag : Fin 65536)
  /-- FU_RELEASE (R304). RELEASE lifts the containment of a port, flue or thread scope. -/
  | fuRelease (m : Master) (tag : Fin 65536)
  /-- FAULT_CLR (R313). FAULT_CLR deasserts FAULT_N. -/
  | faultClr (m : Master) (tag : Fin 65536)
  /-- EMBER_REARM (R312). EMBER_REARM restarts EMBER toggling when no DF source is present and LOG_LOST is 0. -/
  | emberRearm (m : Master) (tag : Fin 65536)
  /-- FAULT_INJECT (R314). A write of FU_INJ arms inverted check bits at a checker. -/
  | faultInject (m : Master) (v : Word)
  /-- EMBER_TOGGLE (R312). Every 500 µs a healthy device inverts EMBER. -/
  | emberToggle
  /-- SIRFIN_DATA_FRAME (R324). A received DATA frame is accepted in sequence, discarded as a duplicate, or discarded with NAK. -/
  | sirfinDataFrame (l : LinkId) (bytes : List Byte)
  /-- SIRFIN_CTRL_FRAME (R323). A received CTRL frame updates credit limits, time samples and membership marks. -/
  | sirfinCtrlFrame (l : LinkId) (bytes : List Byte)
  /-- SIRFIN_IDLE_FRAME (R324). A received IDLE frame carries ACK and NAK to the transmitter and keeps alignment. -/
  | sirfinIdleFrame (l : LinkId) (bytes : List Byte)
  /-- SIRFIN_TRAIN_FRAME (R325). A received TRAIN frame advances training or retraining. -/
  | sirfinTrainFrame (l : LinkId) (bytes : List Byte)
  /-- SIRFIN_FRAME_SEND (R322). Each nanosecond the transmitter sends a DATA frame by channel order and credit, or a CTRL or IDLE frame. -/
  | sirfinFrameSend (l : LinkId)
  /-- SIRFIN_EQUALISATION_DONE (R315). Equalisation and deskew at 128 Gb/s on 16 lanes finish and frame search begins. -/
  | sirfinEqualisationDone (l : LinkId)
  /-- SIRFIN_LANE_FAIL (R315). A lane fails to equalise or deskew; the link stays DOWN with LANE_FAIL. -/
  | sirfinLaneFail (l : LinkId)
  /-- REPLAY_TIMEOUT (R324). ACK has not advanced for REPLAY_TMO_NS and the transmitter resends from the oldest unacknowledged frame. -/
  | replayTimeout (l : LinkId)
  /-- SIRFIN_RETRAIN (R325). SRF_CFG.RETRAIN puts the link into RETRAIN. -/
  | sirfinRetrain (m : Master) (l : LinkId)
  /-- RETRAIN_COMPLETE (R325). A retraining link returns to UP and resends from the far end's RX_EXP. -/
  | retrainComplete (l : LinkId)
  /-- RETRAIN_TIMEOUT (R325). RETRAIN_TMO_US expires and the link goes DOWN. -/
  | retrainTimeout (l : LinkId)
  /-- SIRFIN_REFUSED_RETRY (R328). Every 100 ms a REFUSED link repeats training. -/
  | sirfinRefusedRetry (l : LinkId)
  /-- SIRFIN_LINK_DISABLE (R326). SRF_CFG.EN written 0 takes the link DOWN and holds it. -/
  | sirfinLinkDisable (m : Master) (l : LinkId)
  /-- SIRFIN_LINK_LOSS (R326). A Sirfin link goes DOWN and its units are rerouted, concluded or discarded within 10 µs. -/
  | sirfinLinkLoss (l : LinkId)
  /-- XT_TIMEOUT (R327). XT_TMO_US expires on a remote request and it is answered poisoned, with an error, or TIMEOUT. -/
  | xtTimeout (id : Nat)
  /-- JOIN_AUTH_DONE (R369). Mutual authentication of joiner and master concludes and time alignment follows. -/
  | joinAuthDone (ok : Bool) (ahead : Int)
  /-- JOIN_AUTH_TIMEOUT (R369). Authentication exceeds 20 ms and the join is refused with AUTH_FAIL. -/
  | joinAuthTimeout
  /-- JOIN_COPY_DONE (R332). The master's configuration copy reaches the joiner, which holds new requests and drains. -/
  | joinCopyDone (x : JoinImage)
  /-- JOIN_COMPLETE (R330). The joiner applies the copy and queued commits and the master adds it to MEMBERS. -/
  | joinComplete
  /-- SPLIT_TIMEOUT (R335). SPLIT_TMO_US passes with no link to the master and the member becomes ISOLATED or is marked departed. -/
  | splitTimeout (d : DevId)
  /-- TIME_MEASURE (R333). Every TS_PERIOD_US a member measures its offset from the master and slews or steps. -/
  | timeMeasure
  /-- STACK_ID_DRAW_RETRY (R329). Every 1 ms after ENTROPY_FAIL the master draws its STACK_ID again. -/
  | stackIdDrawRetry
  /-- POWER_ON (R342). POWER_ON checks the channel and starts the ramp. -/
  | powerOn (m : Master) (c : SlotId)
  /-- POWER_OFF (R354). POWER_OFF resets the mapped port and pulls the gate low. -/
  | powerOff (m : Master) (c : SlotId) (force : Bool)
  /-- DAMPER_CLEAR (R341). CLEAR returns a TRIPPED or unshorted FAULT channel to OFF. -/
  | damperClear (m : Master) (c : SlotId)
  /-- CURVE_SELECT_WRITE (R346). A write of CURVE_SEL switches the breaker curve and restarts every counter. -/
  | curveSelectWrite (m : Master) (c : SlotId) (n : Fin 8)
  /-- DAMPER_CURRENT_SAMPLE (R345). Each 1 µs current sample advances or clears the curve counters. -/
  | damperCurrentSample (c : SlotId) (ma : Fin 40001)
  /-- DAMPER_VOLTAGE_SAMPLE (R342). Each 8 µs voltage sample moves RAMP to ON, checks for a short and for low VIN. -/
  | damperVoltageSample (c : SlotId) (vin : Fin 16001) (vout : Fin 16001) (overdrive : BitVec 16)
  /-- FAST_TRIP (R347). The fast-trip comparator sees I above FAST_MA and pulls the gate low. -/
  | fastTrip (c : SlotId)
  /-- GATE_TIMEOUT (R343). GATE_TMO_MS expires in RAMP and the channel enters FAULT with GATE_FAIL or PG_FAIL. -/
  | gateTimeout (c : SlotId)
  /-- CAPTURE_WINDOW_END (R350). A WIN_MS window ends and DMP_CAP takes its peak and minima. -/
  | captureWindowEnd
  /-- PWRWARN_HOLD_END (R349). The 100 µs minimum assertion of PWRWARN_N ends and it is released if no condition holds. -/
  | pwrwarnHoldEnd (c : SlotId)
  /-- PFAIL_ASSERT (R352). PFAIL_N reads low for 100 ns and the power-fail response starts. -/
  | pfailAssert
  /-- PFAIL_RELEASE (R353). PFAIL_N is released and the response runs on unchanged. -/
  | pfailRelease
  /-- HOLDUP_TIMEOUT (R352). HOLDUP_US passes before PF_DONE; PF_LATE is set and a DF fault recorded. -/
  | holdupTimeout
  /-- KEY_GEN (R364). KEY_GEN generates a key into a slot and returns its public key. -/
  | keyGen (m : Master) (k : ChanId) (tag : Fin 65536)
  /-- KEY_IMPORT (R364). KEY_IMPORT unwraps a key into a slot. -/
  | keyImport (m : Master) (k : ChanId) (tag : Fin 65536)
  /-- KEY_ERASE (R365). KEY_ERASE makes a slot ERASING and waits for its users. -/
  | keyErase (m : Master) (k : ChanId) (tag : Fin 65536)
  /-- KEY_INFO (R363). KEY_INFO returns a slot record. -/
  | keyInfo (m : Master) (k : ChanId) (tag : Fin 65536)
  /-- ANCHOR_SET (R368). ANCHOR_SET sets or removes a trust-anchor certificate. -/
  | anchorSet (m : Master) (k : ChanId) (tag : Fin 65536)
  /-- GCM_ENC (R362). GCM_ENC encrypts with AES-256-GCM under a slot key and a DRBG IV. -/
  | gcmEnc (m : Master) (k : ChanId) (tag : Fin 65536)
  /-- GCM_DEC (R362). GCM_DEC decrypts and checks the tag, zero-filling on failure. -/
  | gcmDec (m : Master) (k : ChanId) (tag : Fin 65536)
  /-- SIGN (R362). SIGN signs a 48 B digest with a slot key. -/
  | sign (m : Master) (k : ChanId) (tag : Fin 65536)
  /-- VERIFY_DUAL (R360). VERIFY_DUAL checks both signatures of a block under a key block. -/
  | verifyDual (m : Master) (k : ChanId) (tag : Fin 65536)
  /-- HASH (R362). HASH computes a SHA-384 digest. -/
  | hash (m : Master) (k : ChanId) (tag : Fin 65536)
  /-- HMAC (R362). HMAC computes HMAC-SHA-384 under a slot key. -/
  | hmac (m : Master) (k : ChanId) (tag : Fin 65536)
  /-- RANDOM (R366). RANDOM writes DRBG output generated for the request. -/
  | random (m : Master) (k : ChanId) (tag : Fin 65536)
  /-- TALLY_WRITE (R370). TALLY_WRITE changes a tally word within its change budget. -/
  | tallyWrite (m : Master) (k : ChanId) (tag : Fin 65536)
  /-- RB_ADVANCE (R370). RB_ADVANCE raises a rollback counter. -/
  | rbAdvance (m : Master) (k : ChanId) (tag : Fin 65536)
  /-- SELFTEST (R374). SELFTEST runs the KATs and enters the error state on failure. -/
  | selftest (m : Master) (k : ChanId) (tag : Fin 65536)
  /-- ZEROISE_ALL (R375). ZEROISE_ALL overwrites every key slot from 1, every IDE key and the DRBG state. -/
  | zeroiseAll (m : Master) (k : ChanId) (tag : Fin 65536)
  /-- HJ_COMMAND_COMPLETE (R362). A running Hjelvon command finishes and stores its status, and a superseded key is zeroised when its last user ends. -/
  | hjCommandComplete (k : ChanId) (pass : Bool)
  /-- KEY_ERASE_WAIT_EXPIRY (R365). The 10 µs erase wait ends, remaining users are aborted with KEY_ZEROISED and the slot becomes EMPTY. -/
  | keyEraseWaitExpiry (k : ChanId)
  /-- PAGE_READ (R358). A boot bundle page is read into the page buffer and checked against its leaf, with rereads and PAGE_BAD. -/
  | pageRead (k : Option (Fin 32)) (page : Nat) (bytes : List Byte)
  /-- ENTROPY_HEALTH_FAIL (R367). A health test fails; the DRBG is zeroised, waiting requests get ENTROPY_FAIL and a PF fault is recorded. -/
  | entropyHealthFail
  /-- DRBG_RECOVERY_ATTEMPT (R367). A 1 ms recovery attempt restarts the source and reinstantiates the DRBG. -/
  | drbgRecoveryAttempt (pass : Bool)
  /-- DRBG_RESEED (R366). After 65,536 generates or one second the DRBG reseeds from the source. -/
  | drbgReseed
  /-- CLK_GATE_REQUEST (R372). CLK_OFF written 1 gates an idle unit's clock, or waits on a hold. -/
  | clkGateRequest (m : Master) (g : Fin 50)
  /-- PWR_GATE_REQUEST (R372). PWR_OFF written 1 gates an idle unit's power, or waits on a hold. -/
  | pwrGateRequest (m : Master) (g : Fin 50)
  /-- UNGATE (R372). Writing a gate bit 0 cancels a pending request or starts ungating. -/
  | ungate (m : Master) (g : Fin 50) (power : Bool)
  /-- HOLD_RELEASE (R372). Hjelvon releases a unit and a pending gate request is applied or dropped. -/
  | holdRelease (g : Fin 50)
  /-- UNGATE_COMPLETE (R372). Clock or power is restored and the unit comes up reset. -/
  | ungateComplete (g : Fin 50)
  /-- SPI_FRAME_END (R378). MSPI_CS_N rises and the frame is accepted or discarded by its edge count and CRC. -/
  | spiFrameEnd (edges : Nat) (bytes : List Byte)
  /-- READ64 (R379). READ64 starts or reports a tagged 64-bit register read. -/
  | read64 (tag : Fin 256) (addr : Fin 67108864)
  /-- READ32 (R379). READ32 starts or reports a tagged 32-bit register read. -/
  | read32 (tag : Fin 256) (addr : Fin 67108864)
  /-- WRITE64 (R380). WRITE64 starts or reports a tagged non-posted 64-bit write. -/
  | write64 (tag : Fin 256) (addr : Fin 67108864) (data : Fin 18446744073709551616)
  /-- WRITE32 (R380). WRITE32 starts or reports a tagged non-posted 32-bit write. -/
  | write32 (tag : Fin 256) (addr : Fin 67108864) (data : Fin 4294967296)
  /-- SPI_ISSUE (R381). An accepted SPI operation is issued on the bridge's internal path when the path is free. -/
  | spiIssue
  /-- SPI_ACCESS_CONCLUDE (R380). An issued SPI access concludes and its result is stored for DONE. -/
  | spiAccessConclude
  /-- SPI_ACCESS_TIMEOUT (R381). ACC_TMO_US expires before issue and the operation concludes with TIMEOUT. -/
  | spiAccessTimeout
  /-- SMBUS_PACKET (R384). An MCTP packet over SMBus is checked and added to its reassembly buffer. -/
  | smbusPacket (p : MctpPacket)
  /-- REASSEMBLY_TIMEOUT (R384). No end-of-message arrives within 100 ms and the partial message is discarded. -/
  | reassemblyTimeout (b : Fin 8)
  /-- MCTP_TRANSMIT (R386). SMB_TX_CMD GO sends a message from a transmit buffer. -/
  | mctpTransmit (m : Master) (v : Word)
  /-- MCTP_TRANSMIT_DONE (R386). The last packet is sent and the transmit-done notice reports OK. -/
  | mctpTransmitDone (b : Fin 4)
  /-- MCTP_TRANSMIT_TIMEOUT (R386). Arbitration or NACK persists 100 ms and the message is abandoned with TIMEOUT. -/
  | mctpTransmitTimeout (b : Fin 4) (sent : Nat)
  /-- RX_BUFFER_RELEASE (R384). SMB_RX_REL frees receive buffers. -/
  | rxBufferRelease (m : Master) (v : Fin 256)
  /-- NOTICE_RETRY (R385). Every 1 µs a notice blocked by a full queue is retried. -/
  | noticeRetry
  /-- SIDEBAND_SWEEP (R387). Every POLL_US a sweep reads the valid expanders in order. -/
  | sidebandSweep
  /-- EXPANDER_READ_DONE (R389). An expander read concludes, updating slot signals, change bits and notices, or setting NAK. -/
  | expanderReadDone (data : Option (Fin 65536)) (us : Fin 65536)
  /-- BRIDGE_COMMIT_GO (R439). BR_CMT GO submits the bridge's staging set for commit. -/
  | bridgeCommitGo (m : Master) (tag : Fin 65536) (expect : Option (Fin 4294967296))
  /-- BRIDGE_COMMIT_ABORT (R439). BR_CMT ABORT empties the bridge's staging set. -/
  | bridgeCommitAbort (m : Master) (tag : Fin 65536)
  /-- GET_ENDPOINT_ID (R399). The stage responder answers Get Endpoint ID. -/
  | getEndpointId (b : Fin 8)
  /-- SET_ENDPOINT_ID (R399). The stage responder handles Set Endpoint ID. -/
  | setEndpointId (b : Fin 8)
  /-- GET_MCTP_VERSION_SUPPORT (R399). The stage responder answers Get MCTP Version Support. -/
  | getMctpVersionSupport (b : Fin 8)
  /-- GET_MESSAGE_TYPE_SUPPORT (R399). The stage responder answers Get Message Type Support. -/
  | getMessageTypeSupport (b : Fin 8)
  /-- GET_STATE (R399). GET_STATE returns PU_STATUS, PU_DIAG and HJ_BOOT_STATUS. -/
  | getState (b : Fin 8)
  /-- READ_LOG (R399). READ_LOG returns an on-die fault record. -/
  | readLog (b : Fin 8)
  /-- READ_REG (R398). READ_REG returns a register reachable in pilot-light state. -/
  | readReg (b : Fin 8)
  /-- RESPONDER_WARM_RESET (R394). The responder's WARM_RESET starts a warm reset as PU_CMD would. -/
  | responderWarmReset (b : Fin 8)
  /-- ALWAYS_ON_RESET (R393). The always-on rails enter their windows and the always-on domain leaves reset. -/
  | alwaysOnReset
  /-- PWRGOOD_RISE (R393). PWRGOOD rises, the straps are sampled and a cold reset begins. -/
  | pwrgoodRise (dev : DevId) (master octal : Bool)
  /-- PWRGOOD_FALL (R393). PWRGOOD falls and the main domain stops within 1 µs. -/
  | pwrgoodFall
  /-- RESET_N_ASSERT (R394). RESET_N held low for 1 µs starts a warm reset. -/
  | resetNAssert
  /-- RESET_N_RELEASE (R394). RESET_N returns high and stage 0x02 begins. -/
  | resetNRelease
  /-- PU_WARM_RESET (R403). PU_CMD WARM_RESET starts a warm reset after an optional flush. -/
  | puWarmReset (m : Master) (tag : Fin 65536)
  /-- RESET_FLUSH_TIMEOUT (R401). FLUSH_TMO_US expires during warm-reset step 2 and the reset proceeds. -/
  | resetFlushTimeout
  /-- SELF_TEST_STAGE_DONE (R395). A self-test stage concludes and the next stage begins or, at 0x0A, the device is operational. -/
  | selfTestStageDone (r : StageResult) (us : Fin 4294967296)
  /-- STAGE_TIMEOUT (R395). A stage exceeds twice its bound and the device enters pilot-light state. -/
  | stageTimeout
  /-- THERMTRIP (R428). A site reaches 125 °C and THERMTRIP_N is asserted. -/
  | thermtrip
  /-- COUNTER_SWEEP (R408). SWEEP starts reading the selected banks into a snapshot. -/
  | counterSweep (m : Master)
  /-- PERIODIC_SWEEP (R409). SWEEP_PERIOD_US falls due and a sweep starts. -/
  | periodicSweep
  /-- SWEEP_COMPLETE (R409). A snapshot's writes conclude and SEQ_END is written, or SNAP_FAIL is set. -/
  | sweepComplete (ok : Bool)
  /-- COUNTER_SET_BIND (R410). A write of CSET_MAP binds or unbinds a counter to an instance's set. -/
  | counterSetBind (m : Master) (c : Fin 256) (j : Fin 8) (v : Word)
  /-- COUNTER_NOTICE_RETRY (R407). Every 1 µs a counter notice blocked by a full queue is retried. -/
  | counterNoticeRetry
  /-- CHIMNEY_WRITE_CONCLUDE (R413). A Chimney record write concludes, setting CHM_FAIL on failure. -/
  | chimneyWriteConclude (h : HearthId) (ok : Bool)
  /-- SIRFIN_FAR_END_PRESENCE (R315). A far end appears on a DOWN Sirfin link, by cabling or by its device powering up, and training begins with equalisation. -/
  | sirfinFarEndPresence (l : LinkId)
  /-- REFERENCE_CLOCK_RETURN (R39). The 100 MHz reference returns to an island running in holdover, and HOLDOVER clears as the reference takes over from the internal oscillator. -/
  | referenceClockReturn (i : IslandId)
deriving DecidableEq, Repr

end Sys2Proof
end

