-- ==== Sys2Proof/Config.lean ====
section
/-! DEFINITION. What the spec leaves open: one constant without a body for each, so that no proof can see a value of it.
A statement about a free value holds for every value. The counter `free` of State numbers the fresh ones. -/

namespace Sys2Proof

/-- The n-th free value: whatever the spec leaves undefined or unstated while the machine goes on (log 1). -/
opaque Config.freeValue : Nat → BitVec 64

/-- The n-th free byte: a byte the spec leaves undefined (log 1). -/
opaque Config.freeByte : Nat → BitVec 8

/-- The hash function of HASH, HMAC, image digests and log ranges: SHA-384 (log 2). The spec names the function and does not write it out. -/
opaque Config.sha384Bits : List (BitVec 8) → BitVec 384

/-- The hash as a number of 384 bits. -/
def Config.sha384 (bs : List (BitVec 8)) : Nat := (Config.sha384Bits bs).toNat

/-- HMAC-SHA-384 of a key and a message (log 2). -/
opaque Config.hmac384Bits : Nat → List (BitVec 8) → BitVec 384

/-- The HMAC as a number of 384 bits. -/
def Config.hmac384 (key : Nat) (bs : List (BitVec 8)) : Nat := (Config.hmac384Bits key bs).toNat

/-- AES-256-GCM encryption: key, initialisation vector, additional data, plain text; ciphertext with the tag after it (log 2). -/
opaque Config.gcmEncrypt : Nat → Nat → List (BitVec 8) → List (BitVec 8) → List (BitVec 8)

/-- AES-256-GCM decryption: key, initialisation vector, additional data, ciphertext with tag; none where the tag fails (log 2). -/
opaque Config.gcmDecrypt : Nat → Nat → List (BitVec 8) → List (BitVec 8) → Option (List (BitVec 8))

/-- AES-256-GCM key wrap of a key under another (log 2). -/
opaque Config.wrapKey : Nat → Nat → List (BitVec 8)

/-- AES-256-GCM unwrap of a wrapped key under another; none where the tag fails (log 2). -/
opaque Config.unwrapKey : Nat → List (BitVec 8) → Option Nat

/-- A signature over a message under a private key (log 2). -/
opaque Config.sign : Nat → Nat → List (BitVec 8) → List (BitVec 8)

/-- Whether a signature over a message verifies under a public key (log 2). -/
opaque Config.verify : Nat → List (BitVec 8) → List (BitVec 8) → Bool

/-- The n-th block of the deterministic random bit generator (log 2). -/
opaque Config.random : Nat → Nat

/-- The public key of a private key of a type (log 2). -/
opaque Config.publicKey : Nat → Nat → List (BitVec 8)

/-- Whether bytes are a DER certificate over ECDSA P-384 (log 2). -/
opaque Config.validCert : List (BitVec 8) → Bool

/-- Whether a certificate chain leads to a trust anchor (log 2). -/
opaque Config.chainTrusted : List (BitVec 8) → List (BitVec 8) → Bool

/-- The chain of a certificate slot of this device (log 2). -/
opaque Config.certChain : Nat → List (BitVec 8)

/-- A part of a boot bundle's resident part: 0 the Hjelvon firmware, 1 the P0 image with its header, 2 the leaf table. The spec gives the section table that
finds them no layout (log 23). -/
opaque Config.bundlePart : List (BitVec 8) → Nat → List (BitVec 8)

/-- The version a Hjelvon firmware states. The spec gives it no place (log 23). -/
opaque Config.firmwareVersion : List (BitVec 8) → Nat

/-- What lane margining at the receiver of a port finds: port, lane, timing or voltage, offset (log 120). -/
opaque Config.laneMargin : Nat → Nat → Bool → Nat → Nat

/-- The CDAT of the logical devices at a port, from a handle on: the latency and bandwidth it reports are the part's own (log 120). -/
opaque Config.cdat : Nat → Nat → List (BitVec 8)

/-- An entry of the event directory of a counter bank, CNT_EVTb_n. The spec leaves what each bank lists to the part (log 33). -/
opaque Config.evtEntry : Nat → Nat → BitVec 64

end Sys2Proof
end

