-- ==== Sys2Proof/Machine/Regs.lean ====
section
/-! DEFINITION. The register file of the Device Control Space: the name of every register, the place of every register
(Table 1-7 and the register tables of each chapter), and every field with its bits, access code and reset value.
A field is named REGISTER_FIELD as the spec names the two; a bit that no field names is reserved and reads 0 (R8). -/

namespace Sys2Proof.Machine

/-- Access codes of Table 0-3 (RWS and W1C together: the VALID bit of Table 15-10). -/
inductive Acc | rw | ro | wo | w1c | w1s | rc | rws | rwe | rwt | rwsW1c
deriving DecidableEq, Repr

/-- How the Reset column gives a field its value: one number, the number of the unit (LEAD), the island kind of Table 2-1,
the straps, or the event directory of the bank (R406). -/
inductive RstKind | const | unit | islKind | strapDev | strapMaster | evt
deriving DecidableEq, Repr

/-- Every register of the Device Control Space, one name for all its numbered copies. -/
inductive RegName
  | ID_PART
  | ID_REV
  | ID_CONFIG
  | ID_STACK
  | ID_SERIAL
  | TB_NOW
  | TB_CFG
  | TB_ADJ
  | TB_STEP
  | TB_STATUS
  | AVS_CTRL
  | AVS_STATUS
  | PACE_MON
  | ISL_STATUS
  | PC_ROLE_CFG
  | PC_WIDTH_CFG
  | PC_LINK_CFG
  | PC_LINK_STATUS
  | PC_QUIESCE_CTRL
  | PC_QUIESCE_STATUS
  | PC_LOOP_CFG
  | PC_TAG_STATUS
  | PC_ERR_STATUS
  | BIND_CMD
  | BIND_ARG0
  | BIND_ARG1
  | BIND_STATUS
  | BIND_CFG
  | IW_BASE
  | IW_LIMIT
  | ILS_CFG
  | ILS_TGT
  | MOD_ENTRY
  | VPPB_ENTRY
  | PBR_ROUTE
  | PBR_STATUS
  | SW_CFG
  | SW_BUF_CFG
  | SW_TRK_CFG
  | SW_OVF_CFG
  | SW_AGE_CFG
  | SW_STATUS
  | SW_OVF_STATUS
  | SW_AGE_STATUS
  | SW_ERR_STATUS
  | MIR_CFG
  | MIR_MATCH
  | MIR_DEST
  | MIR_STATUS
  | EGQ_STATUS
  | MS_CFG
  | MS_STATUS
  | MTR_CFG
  | MTR_RATE
  | MTR_BURST
  | MTR_STATUS
  | INST_MS
  | INST_LAT
  | EQ_SHP
  | EQ_WRR
  | EQ_STATUS
  | EQ_LAT
  | HOME_CFG
  | HOME_TMO_CFG
  | HOME_ERR_STATUS
  | HOME_CNT
  | SF_PROBE_CTRL
  | SF_PROBE_DATA0
  | SF_PROBE_DATA1
  | MSC_CTRL
  | HOME_SLICE_STATUS
  | SF_STATUS
  | MSC_STATUS
  | PLC_CTRL
  | PLC_CFG
  | PLC_LIMIT
  | PLC_SYNC_CFG
  | PLC_HEAT_CFG
  | PLC_STATUS
  | PLC_EPOCH_STATUS
  | PLC_ERR_STATUS
  | PLC_CMD
  | PLC_CMD_ARG
  | PLC_CMD_STATUS
  | PLC_REQ_RING
  | PLC_REQ_IDX
  | PLC_LOG_CFG
  | PLC_LOG_IDX
  | PLC_PROBE_CTRL
  | PLC_PROBE_DATA0
  | PLC_PROBE_DATA1
  | PLC_SET
  | PLC_INST
  | PLC_MIG
  | HTH_CTRL
  | HTH_STATUS
  | HTH_LOAD_CMD
  | HTH_LOAD_SRC
  | HTH_LOAD_STATUS
  | ENG_CFG
  | TH_CTRL
  | TH_VEC
  | TH_STATUS
  | TH_PC
  | CMT_CFG
  | CMT_STATUS
  | STG_STATUS
  | FLU_ASSIGN
  | FLU_CFG
  | FLU_CTRL
  | FLU_STATUS
  | FLU_DOORBELL
  | FLU_DESC
  | FLU_SRC
  | FLU_DST
  | FLU_LEFT
  | FLU_ACC
  | FLU_RING_BASE
  | FLU_RING_IDX
  | FLU_RUN_RET
  | FLU_ERR
  | RQL_CFG
  | FLU_LAST_CMPL
  | CQ_BASE
  | CQ_CFG
  | CQ_IDX
  | WQ_CFG
  | WQ_RING
  | WQ_HEAD_ADDR
  | WQ_CTRL
  | WQ_DB
  | WQ_IDX
  | WQ_STATUS
  | WQ_ERR
  | INST_CMD
  | INST_ARG0
  | INST_ARG1
  | INST_STATUS
  | INST_POOL
  | INST_OVF
  | INST_DC_CFG
  | INST_USE
  | MBX_CFG
  | INST_ERR
  | MBX_DB
  | MBX_STATUS
  | MBX_NOTE_IDX
  | MBX_HCFG
  | PG_VIOL_ADDR
  | PG_VIOL_INFO
  | PG_VIOL_CNT
  | PG_LO
  | PG_HI
  | TG_CTRL
  | TG_VIOL_ADDR
  | TG_VIOL_INFO
  | TG_VIOL_CNT
  | TG_LO
  | TG_HI
  | FU_CTRL
  | FU_STATUS
  | FU_IRQ_CFG
  | FU_CMD
  | FU_CMD_ARG
  | FU_CMD_STATUS
  | FU_LOG_CFG
  | FU_LOG_IDX
  | FU_LOG_STATUS
  | FU_INJ
  | FU_FIRST
  | FU_FIRST5
  | FU_BACKSTOP0
  | FU_BACKSTOP1
  | FU_SRC
  | FU_SRC_CNT
  | STK_CTRL
  | STK_CFG
  | STK_STATUS
  | STK_TIME
  | STK_ERR
  | STK_CNT
  | STK_PEER
  | SRF_CFG
  | SRF_STATUS
  | SRF_PEER
  | SRF_CREDIT
  | SRF_CNT
  | SRF_ERR
  | DMP_GCFG
  | DMP_PFAIL_CFG
  | DMP_GSTATUS
  | DMP_GERR
  | DMP_CURVE
  | DMP_CFG
  | DMP_LIM
  | DMP_CTRL
  | DMP_STATUS
  | DMP_MEAS
  | DMP_CAP
  | DMP_ERR
  | HJ_STATUS
  | HJ_VERSION
  | HJ_BOOT_STATUS
  | HJ_ERR
  | HJ_DRBG_STATUS
  | HJ_GATE
  | HJ_CMD
  | HJ_ARG
  | HJ_RESP
  | HJ_RES
  | BR_CFG
  | BR_STATUS
  | BR_CNT
  | BR_ERR
  | BR_ALERT
  | BR_CMT
  | BR_CMT_STATUS
  | SMB_TX_CMD
  | SMB_RX_REL
  | SB_CFG
  | SB_STATUS
  | SB_EXP
  | SB_SLOT
  | PU_STATUS
  | PU_DIAG
  | PU_CFG
  | PU_CMD
  | PU_CMD_STATUS
  | PU_RAIL
  | PU_STAGE_US
  | CNT_CFG
  | CNT_SNAP
  | CNT_CTRL
  | CNT_STATUS
  | CNT_ERR
  | CHM_CFG
  | CHM_FILTER
  | CHM_RING
  | CHM_IDX
  | CHM_STAT
  | CSET_CFG
  | CSET_MAP
  | CSET_VAL
  | CNT_SEL
  | CNT_VAL
  | CNT_EVT
  | TALLY
  | RBC
deriving DecidableEq, Repr

/-- A field of a register: its lowest bit, its width, its access code and its value at reset. -/
structure Fld where
  reg : RegName
  lsb : Nat
  width : Nat
  acc : Acc
  rk : RstKind
  rv : Nat
deriving DecidableEq, Repr

/-- ID_PART.MFR_CODE, 01_fabric_processor_at_a_glance.md Table 1-9, reset 0x0647. -/
abbrev ID_PART_MFR_CODE : Fld := ⟨.ID_PART, 0, 16, .ro, .const, 1607⟩
/-- ID_PART.PART_NUM, 01_fabric_processor_at_a_glance.md Table 1-9, reset 0x5120. -/
abbrev ID_PART_PART_NUM : Fld := ⟨.ID_PART, 16, 16, .ro, .const, 20768⟩
/-- ID_REV.MINOR, 01_fabric_processor_at_a_glance.md Table 1-10, reset 0x00 for B0. -/
abbrev ID_REV_MINOR : Fld := ⟨.ID_REV, 0, 8, .ro, .const, 0⟩
/-- ID_REV.MAJOR, 01_fabric_processor_at_a_glance.md Table 1-10, reset 0x02. -/
abbrev ID_REV_MAJOR : Fld := ⟨.ID_REV, 8, 8, .ro, .const, 2⟩
/-- ID_CONFIG.PORT_TILES, 01_fabric_processor_at_a_glance.md Table 1-11, reset 0x8. -/
abbrev ID_CONFIG_PORT_TILES : Fld := ⟨.ID_CONFIG, 0, 4, .ro, .const, 8⟩
/-- ID_CONFIG.HEARTHS, 01_fabric_processor_at_a_glance.md Table 1-11, reset 0x10. -/
abbrev ID_CONFIG_HEARTHS : Fld := ⟨.ID_CONFIG, 8, 5, .ro, .const, 16⟩
/-- ID_CONFIG.HBM_GIB, 01_fabric_processor_at_a_glance.md Table 1-11, reset 0x30. -/
abbrev ID_CONFIG_HBM_GIB : Fld := ⟨.ID_CONFIG, 16, 8, .ro, .const, 48⟩
/-- ID_STACK.DEV_IN_STACK, 01_fabric_processor_at_a_glance.md Table 1-11, reset from straps. -/
abbrev ID_STACK_DEV_IN_STACK : Fld := ⟨.ID_STACK, 0, 2, .ro, .strapDev, 0⟩
/-- ID_STACK.MASTER_STRAP, 01_fabric_processor_at_a_glance.md Table 1-11, reset from strap. -/
abbrev ID_STACK_MASTER_STRAP : Fld := ⟨.ID_STACK, 8, 1, .ro, .strapMaster, 0⟩
/-- ID_STACK.STACK_SIZE, 01_fabric_processor_at_a_glance.md Table 1-11, reset 0x1. -/
abbrev ID_STACK_STACK_SIZE : Fld := ⟨.ID_STACK, 16, 3, .ro, .const, 1⟩
/-- ID_SERIAL.UNIQUE_ID, 01_fabric_processor_at_a_glance.md Table 1-12, reset fused. -/
abbrev ID_SERIAL_UNIQUE_ID : Fld := ⟨.ID_SERIAL, 0, 64, .ro, .const, 0⟩
/-- TB_NOW.NOW_NS, 02_clockless_core_and_islands.md Table 2-4, reset 0. -/
abbrev TB_NOW_NOW_NS : Fld := ⟨.TB_NOW, 0, 64, .ro, .const, 0⟩
/-- TB_CFG.TICK_SEL, 02_clockless_core_and_islands.md Table 2-4, reset 0b10. -/
abbrev TB_CFG_TICK_SEL : Fld := ⟨.TB_CFG, 0, 2, .rw, .const, 2⟩
/-- TB_CFG.PPS_EN, 02_clockless_core_and_islands.md Table 2-4, reset 0. -/
abbrev TB_CFG_PPS_EN : Fld := ⟨.TB_CFG, 8, 1, .rw, .const, 0⟩
/-- TB_CFG.PPS_EDGE, 02_clockless_core_and_islands.md Table 2-4, reset 0. -/
abbrev TB_CFG_PPS_EDGE : Fld := ⟨.TB_CFG, 9, 1, .rw, .const, 0⟩
/-- TB_ADJ.SLEW_PPB, 02_clockless_core_and_islands.md Table 2-4, reset 0. -/
abbrev TB_ADJ_SLEW_PPB : Fld := ⟨.TB_ADJ, 0, 24, .rw, .const, 0⟩
/-- TB_STEP.STEP_NS, 02_clockless_core_and_islands.md Table 2-4, reset 0. -/
abbrev TB_STEP_STEP_NS : Fld := ⟨.TB_STEP, 0, 32, .wo, .const, 0⟩
/-- TB_STATUS.PPS_LOCKED, 02_clockless_core_and_islands.md Table 2-5, reset 0. -/
abbrev TB_STATUS_PPS_LOCKED : Fld := ⟨.TB_STATUS, 0, 1, .ro, .const, 0⟩
/-- TB_STATUS.PPS_LOST, 02_clockless_core_and_islands.md Table 2-5, reset 0. -/
abbrev TB_STATUS_PPS_LOST : Fld := ⟨.TB_STATUS, 1, 1, .w1c, .const, 0⟩
/-- TB_STATUS.HOLDOVER, 02_clockless_core_and_islands.md Table 2-5, reset 0. -/
abbrev TB_STATUS_HOLDOVER : Fld := ⟨.TB_STATUS, 2, 1, .ro, .const, 0⟩
/-- TB_STATUS.PPS_OFFSET, 02_clockless_core_and_islands.md Table 2-5, reset 0. -/
abbrev TB_STATUS_PPS_OFFSET : Fld := ⟨.TB_STATUS, 16, 32, .ro, .const, 0⟩
/-- TB_STATUS.STEP_COUNT, 02_clockless_core_and_islands.md Table 2-5, reset 0. -/
abbrev TB_STATUS_STEP_COUNT : Fld := ⟨.TB_STATUS, 48, 16, .ro, .const, 0⟩
/-- AVS_CTRL.VTARGET_MV, 02_clockless_core_and_islands.md Table 2-6, reset 0x2EE. -/
abbrev AVS_CTRL_VTARGET_MV : Fld := ⟨.AVS_CTRL, 0, 10, .rw, .const, 750⟩
/-- AVS_CTRL.AUTO_RAISE, 02_clockless_core_and_islands.md Table 2-6, reset 1. -/
abbrev AVS_CTRL_AUTO_RAISE : Fld := ⟨.AVS_CTRL, 16, 1, .rw, .const, 1⟩
/-- AVS_CTRL.STEP_MV, 02_clockless_core_and_islands.md Table 2-6, reset 0x0A. -/
abbrev AVS_CTRL_STEP_MV : Fld := ⟨.AVS_CTRL, 24, 8, .rw, .const, 10⟩
/-- AVS_STATUS.VCMD_MV, 02_clockless_core_and_islands.md Table 2-7, reset 0x2EE. -/
abbrev AVS_STATUS_VCMD_MV : Fld := ⟨.AVS_STATUS, 0, 10, .ro, .const, 750⟩
/-- AVS_STATUS.PACE_LOW, 02_clockless_core_and_islands.md Table 2-7, reset 0. -/
abbrev AVS_STATUS_PACE_LOW : Fld := ⟨.AVS_STATUS, 16, 1, .ro, .const, 0⟩
/-- AVS_STATUS.PACE_LOW_LATCHED, 02_clockless_core_and_islands.md Table 2-7, reset 0. -/
abbrev AVS_STATUS_PACE_LOW_LATCHED : Fld := ⟨.AVS_STATUS, 17, 1, .w1c, .const, 0⟩
/-- AVS_STATUS.AVS_NAK, 02_clockless_core_and_islands.md Table 2-7, reset 0. -/
abbrev AVS_STATUS_AVS_NAK : Fld := ⟨.AVS_STATUS, 18, 1, .w1c, .const, 0⟩
/-- AVS_STATUS.VMIN_FUSE_MV, 02_clockless_core_and_islands.md Table 2-7, reset fused. -/
abbrev AVS_STATUS_VMIN_FUSE_MV : Fld := ⟨.AVS_STATUS, 20, 10, .ro, .const, 600⟩
/-- AVS_STATUS.RAISE_COUNT, 02_clockless_core_and_islands.md Table 2-7, reset 0. -/
abbrev AVS_STATUS_RAISE_COUNT : Fld := ⟨.AVS_STATUS, 32, 16, .rc, .const, 0⟩
/-- AVS_STATUS.PACE_FLOOR, 02_clockless_core_and_islands.md Table 2-7, reset 0x0672. -/
abbrev AVS_STATUS_PACE_FLOOR : Fld := ⟨.AVS_STATUS, 48, 16, .ro, .const, 1650⟩
/-- PACE_MON.PACE, 02_clockless_core_and_islands.md Table 2-8, reset 0. -/
abbrev PACE_MON_PACE : Fld := ⟨.PACE_MON, 0, 16, .ro, .const, 0⟩
/-- PACE_MON.PACE_MIN, 02_clockless_core_and_islands.md Table 2-8, reset 0xFFFF. -/
abbrev PACE_MON_PACE_MIN : Fld := ⟨.PACE_MON, 16, 16, .rc, .const, 65535⟩
/-- PACE_MON.TJ_C, 02_clockless_core_and_islands.md Table 2-8, reset 0. -/
abbrev PACE_MON_TJ_C : Fld := ⟨.PACE_MON, 32, 8, .ro, .const, 0⟩
/-- ISL_STATUS.CLK_PRESENT, 02_clockless_core_and_islands.md Table 2-9, reset 0. -/
abbrev ISL_STATUS_CLK_PRESENT : Fld := ⟨.ISL_STATUS, 0, 1, .ro, .const, 0⟩
/-- ISL_STATUS.CLK_LOST, 02_clockless_core_and_islands.md Table 2-9, reset 0. -/
abbrev ISL_STATUS_CLK_LOST : Fld := ⟨.ISL_STATUS, 1, 1, .w1c, .const, 0⟩
/-- ISL_STATUS.SYNC_ERR, 02_clockless_core_and_islands.md Table 2-9, reset 0. -/
abbrev ISL_STATUS_SYNC_ERR : Fld := ⟨.ISL_STATUS, 2, 1, .w1c, .const, 0⟩
/-- ISL_STATUS.ISL_KIND, 02_clockless_core_and_islands.md Table 2-9, reset per island. -/
abbrev ISL_STATUS_ISL_KIND : Fld := ⟨.ISL_STATUS, 8, 8, .ro, .islKind, 0⟩
/-- ISL_STATUS.CROSS_STALLS, 02_clockless_core_and_islands.md Table 2-9, reset 0. -/
abbrev ISL_STATUS_CROSS_STALLS : Fld := ⟨.ISL_STATUS, 16, 32, .rc, .const, 0⟩
/-- PC_ROLE_CFG.ROLE_SEL, 03_port_controllers.md Table 3-8, reset 0b00. -/
abbrev PC_ROLE_CFG_ROLE_SEL : Fld := ⟨.PC_ROLE_CFG, 0, 2, .rw, .const, 0⟩
/-- PC_ROLE_CFG.AUTH_REQ, 03_port_controllers.md Table 3-8, reset 1. -/
abbrev PC_ROLE_CFG_AUTH_REQ : Fld := ⟨.PC_ROLE_CFG, 4, 1, .rw, .const, 1⟩
/-- PC_ROLE_CFG.PBR_ID, 03_port_controllers.md Table 3-8, reset 0xFFF. -/
abbrev PC_ROLE_CFG_PBR_ID : Fld := ⟨.PC_ROLE_CFG, 16, 12, .rwe, .const, 4095⟩
/-- PC_WIDTH_CFG.WIDTH, 03_port_controllers.md Table 3-9, reset 0b00. -/
abbrev PC_WIDTH_CFG_WIDTH : Fld := ⟨.PC_WIDTH_CFG, 0, 2, .rw, .const, 0⟩
/-- PC_WIDTH_CFG.LEAD, 03_port_controllers.md Table 3-9, reset c. -/
abbrev PC_WIDTH_CFG_LEAD : Fld := ⟨.PC_WIDTH_CFG, 8, 7, .ro, .unit, 0⟩
/-- PC_WIDTH_CFG.FOLLOWER, 03_port_controllers.md Table 3-9, reset 0. -/
abbrev PC_WIDTH_CFG_FOLLOWER : Fld := ⟨.PC_WIDTH_CFG, 16, 1, .ro, .const, 0⟩
/-- PC_LINK_CFG.RATE_MAX, 03_port_controllers.md Table 3-10, reset 0b110. -/
abbrev PC_LINK_CFG_RATE_MAX : Fld := ⟨.PC_LINK_CFG, 0, 3, .rw, .const, 6⟩
/-- PC_LINK_CFG.CLK_MODE, 03_port_controllers.md Table 3-10, reset 0b00. -/
abbrev PC_LINK_CFG_CLK_MODE : Fld := ⟨.PC_LINK_CFG, 4, 2, .rw, .const, 0⟩
/-- PC_LINK_CFG.LOPT_EN, 03_port_controllers.md Table 3-10, reset 1. -/
abbrev PC_LINK_CFG_LOPT_EN : Fld := ⟨.PC_LINK_CFG, 8, 1, .rw, .const, 1⟩
/-- PC_LINK_CFG.L0P_EN, 03_port_controllers.md Table 3-10, reset 1. -/
abbrev PC_LINK_CFG_L0P_EN : Fld := ⟨.PC_LINK_CFG, 9, 1, .rw, .const, 1⟩
/-- PC_LINK_CFG.DOWNSHIFT_EN, 03_port_controllers.md Table 3-10, reset 1. -/
abbrev PC_LINK_CFG_DOWNSHIFT_EN : Fld := ⟨.PC_LINK_CFG, 10, 1, .rw, .const, 1⟩
/-- PC_LINK_CFG.REPLAY_THR, 03_port_controllers.md Table 3-10, reset 0x100. -/
abbrev PC_LINK_CFG_REPLAY_THR : Fld := ⟨.PC_LINK_CFG, 16, 12, .rw, .const, 256⟩
/-- PC_LINK_CFG.RETRAIN, 03_port_controllers.md Table 3-10, reset 0. -/
abbrev PC_LINK_CFG_RETRAIN : Fld := ⟨.PC_LINK_CFG, 32, 1, .wo, .const, 0⟩
/-- PC_LINK_STATUS.LINK_STATE, 03_port_controllers.md Table 3-11, reset 0. -/
abbrev PC_LINK_STATUS_LINK_STATE : Fld := ⟨.PC_LINK_STATUS, 0, 3, .ro, .const, 0⟩
/-- PC_LINK_STATUS.RATE, 03_port_controllers.md Table 3-11, reset 0. -/
abbrev PC_LINK_STATUS_RATE : Fld := ⟨.PC_LINK_STATUS, 4, 3, .ro, .const, 0⟩
/-- PC_LINK_STATUS.WIDTH_TRAINED, 03_port_controllers.md Table 3-11, reset 0. -/
abbrev PC_LINK_STATUS_WIDTH_TRAINED : Fld := ⟨.PC_LINK_STATUS, 8, 5, .ro, .const, 0⟩
/-- PC_LINK_STATUS.ROLE_BOUND, 03_port_controllers.md Table 3-11, reset 0. -/
abbrev PC_LINK_STATUS_ROLE_BOUND : Fld := ⟨.PC_LINK_STATUS, 16, 2, .ro, .const, 0⟩
/-- PC_LINK_STATUS.LOPT_ACTIVE, 03_port_controllers.md Table 3-11, reset 0. -/
abbrev PC_LINK_STATUS_LOPT_ACTIVE : Fld := ⟨.PC_LINK_STATUS, 18, 1, .ro, .const, 0⟩
/-- PC_LINK_STATUS.IDE_STREAMS, 03_port_controllers.md Table 3-11, reset 0. -/
abbrev PC_LINK_STATUS_IDE_STREAMS : Fld := ⟨.PC_LINK_STATUS, 20, 4, .ro, .const, 0⟩
/-- PC_LINK_STATUS.DOWNSHIFTS, 03_port_controllers.md Table 3-11, reset 0. -/
abbrev PC_LINK_STATUS_DOWNSHIFTS : Fld := ⟨.PC_LINK_STATUS, 32, 16, .rc, .const, 0⟩
/-- PC_QUIESCE_CTRL.QUIESCE, 03_port_controllers.md Table 3-12, reset 0. -/
abbrev PC_QUIESCE_CTRL_QUIESCE : Fld := ⟨.PC_QUIESCE_CTRL, 0, 1, .wo, .const, 0⟩
/-- PC_QUIESCE_CTRL.RELEASE, 03_port_controllers.md Table 3-12, reset 0. -/
abbrev PC_QUIESCE_CTRL_RELEASE : Fld := ⟨.PC_QUIESCE_CTRL, 1, 1, .wo, .const, 0⟩
/-- PC_QUIESCE_CTRL.PORT_RESET, 03_port_controllers.md Table 3-12, reset 0. -/
abbrev PC_QUIESCE_CTRL_PORT_RESET : Fld := ⟨.PC_QUIESCE_CTRL, 2, 1, .wo, .const, 0⟩
/-- PC_QUIESCE_CTRL.QUIESCE_TMO_US, 03_port_controllers.md Table 3-12, reset 0x3E8. -/
abbrev PC_QUIESCE_CTRL_QUIESCE_TMO_US : Fld := ⟨.PC_QUIESCE_CTRL, 8, 17, .rw, .const, 1000⟩
/-- PC_QUIESCE_STATUS.STATE, 03_port_controllers.md Table 3-12, reset 3. -/
abbrev PC_QUIESCE_STATUS_STATE : Fld := ⟨.PC_QUIESCE_STATUS, 0, 3, .ro, .const, 3⟩
/-- PC_QUIESCE_STATUS.ISOLATED, 03_port_controllers.md Table 3-12, reset 0. -/
abbrev PC_QUIESCE_STATUS_ISOLATED : Fld := ⟨.PC_QUIESCE_STATUS, 3, 1, .ro, .const, 0⟩
/-- PC_QUIESCE_STATUS.LAST_STATUS, 03_port_controllers.md Table 3-12, reset 0x00. -/
abbrev PC_QUIESCE_STATUS_LAST_STATUS : Fld := ⟨.PC_QUIESCE_STATUS, 8, 8, .ro, .const, 0⟩
/-- PC_QUIESCE_STATUS.DRAIN_TIMEOUTS, 03_port_controllers.md Table 3-12, reset 0. -/
abbrev PC_QUIESCE_STATUS_DRAIN_TIMEOUTS : Fld := ⟨.PC_QUIESCE_STATUS, 16, 15, .ro, .const, 0⟩
/-- PC_QUIESCE_STATUS.LAST_DRAIN_NS, 03_port_controllers.md Table 3-12, reset 0. -/
abbrev PC_QUIESCE_STATUS_LAST_DRAIN_NS : Fld := ⟨.PC_QUIESCE_STATUS, 32, 32, .ro, .const, 0⟩
/-- PC_LOOP_CFG.LOOP_EN, 03_port_controllers.md Table 3-13, reset 0. -/
abbrev PC_LOOP_CFG_LOOP_EN : Fld := ⟨.PC_LOOP_CFG, 0, 1, .rw, .const, 0⟩
/-- PC_LOOP_CFG.PARTNER, 03_port_controllers.md Table 3-13, reset 0. -/
abbrev PC_LOOP_CFG_PARTNER : Fld := ⟨.PC_LOOP_CFG, 8, 7, .rw, .const, 0⟩
/-- PC_TAG_STATUS.IN_OUTSTANDING, 03_port_controllers.md Table 3-13, reset 0. -/
abbrev PC_TAG_STATUS_IN_OUTSTANDING : Fld := ⟨.PC_TAG_STATUS, 0, 15, .ro, .const, 0⟩
/-- PC_TAG_STATUS.IN_HWM, 03_port_controllers.md Table 3-13, reset 0. -/
abbrev PC_TAG_STATUS_IN_HWM : Fld := ⟨.PC_TAG_STATUS, 16, 15, .rc, .const, 0⟩
/-- PC_TAG_STATUS.OUT_OUTSTANDING, 03_port_controllers.md Table 3-13, reset 0. -/
abbrev PC_TAG_STATUS_OUT_OUTSTANDING : Fld := ⟨.PC_TAG_STATUS, 32, 15, .ro, .const, 0⟩
/-- PC_TAG_STATUS.OUT_HWM, 03_port_controllers.md Table 3-13, reset 0. -/
abbrev PC_TAG_STATUS_OUT_HWM : Fld := ⟨.PC_TAG_STATUS, 48, 15, .rc, .const, 0⟩
/-- PC_ERR_STATUS.ROLE_CONFLICT, 03_port_controllers.md Table 3-14, reset 0. -/
abbrev PC_ERR_STATUS_ROLE_CONFLICT : Fld := ⟨.PC_ERR_STATUS, 0, 1, .w1c, .const, 0⟩
/-- PC_ERR_STATUS.NO_FLIT256, 03_port_controllers.md Table 3-14, reset 0. -/
abbrev PC_ERR_STATUS_NO_FLIT256 : Fld := ⟨.PC_ERR_STATUS, 1, 1, .w1c, .const, 0⟩
/-- PC_ERR_STATUS.EQ_FAIL, 03_port_controllers.md Table 3-14, reset 0. -/
abbrev PC_ERR_STATUS_EQ_FAIL : Fld := ⟨.PC_ERR_STATUS, 2, 1, .w1c, .const, 0⟩
/-- PC_ERR_STATUS.REPLAY_THR_HIT, 03_port_controllers.md Table 3-14, reset 0. -/
abbrev PC_ERR_STATUS_REPLAY_THR_HIT : Fld := ⟨.PC_ERR_STATUS, 3, 1, .w1c, .const, 0⟩
/-- PC_ERR_STATUS.SURPRISE_DOWN, 03_port_controllers.md Table 3-14, reset 0. -/
abbrev PC_ERR_STATUS_SURPRISE_DOWN : Fld := ⟨.PC_ERR_STATUS, 4, 1, .w1c, .const, 0⟩
/-- PC_ERR_STATUS.IDE_CHECK_FAIL, 03_port_controllers.md Table 3-14, reset 0. -/
abbrev PC_ERR_STATUS_IDE_CHECK_FAIL : Fld := ⟨.PC_ERR_STATUS, 5, 1, .w1c, .const, 0⟩
/-- PC_ERR_STATUS.AUTH_FAIL, 03_port_controllers.md Table 3-14, reset 0. -/
abbrev PC_ERR_STATUS_AUTH_FAIL : Fld := ⟨.PC_ERR_STATUS, 6, 1, .w1c, .const, 0⟩
/-- PC_ERR_STATUS.CLK_LOSS, 03_port_controllers.md Table 3-14, reset 0. -/
abbrev PC_ERR_STATUS_CLK_LOSS : Fld := ⟨.PC_ERR_STATUS, 7, 1, .w1c, .const, 0⟩
/-- PC_ERR_STATUS.DRAIN_TIMEOUT, 03_port_controllers.md Table 3-14, reset 0. -/
abbrev PC_ERR_STATUS_DRAIN_TIMEOUT : Fld := ⟨.PC_ERR_STATUS, 8, 1, .w1c, .const, 0⟩
/-- PC_ERR_STATUS.TRAIN_FAIL, 03_port_controllers.md Table 3-14, reset 0. -/
abbrev PC_ERR_STATUS_TRAIN_FAIL : Fld := ⟨.PC_ERR_STATUS, 9, 1, .w1c, .const, 0⟩
/-- BIND_CMD.OPCODE, 04_fabric_addressing_and_binding.md Table 4-5, reset 0. -/
abbrev BIND_CMD_OPCODE : Fld := ⟨.BIND_CMD, 0, 8, .wo, .const, 0⟩
/-- BIND_CMD.TAG, 04_fabric_addressing_and_binding.md Table 4-5, reset 0. -/
abbrev BIND_CMD_TAG : Fld := ⟨.BIND_CMD, 16, 16, .wo, .const, 0⟩
/-- BIND_ARG0.ARG, 04_fabric_addressing_and_binding.md Table 4-4, reset 0. -/
abbrev BIND_ARG0_ARG : Fld := ⟨.BIND_ARG0, 0, 64, .rw, .const, 0⟩
/-- BIND_ARG1.ARG, 04_fabric_addressing_and_binding.md Table 4-4, reset 0. -/
abbrev BIND_ARG1_ARG : Fld := ⟨.BIND_ARG1, 0, 64, .rw, .const, 0⟩
/-- BIND_STATUS.STATUS, 04_fabric_addressing_and_binding.md Table 4-5, reset 0x00. -/
abbrev BIND_STATUS_STATUS : Fld := ⟨.BIND_STATUS, 0, 8, .ro, .const, 0⟩
/-- BIND_STATUS.TAG, 04_fabric_addressing_and_binding.md Table 4-5, reset 0. -/
abbrev BIND_STATUS_TAG : Fld := ⟨.BIND_STATUS, 16, 16, .ro, .const, 0⟩
/-- BIND_STATUS.BUSY, 04_fabric_addressing_and_binding.md Table 4-5, reset 0. -/
abbrev BIND_STATUS_BUSY : Fld := ⟨.BIND_STATUS, 32, 1, .ro, .const, 0⟩
/-- BIND_STATUS.ID_CHANGED, 04_fabric_addressing_and_binding.md Table 4-5, reset 0. -/
abbrev BIND_STATUS_ID_CHANGED : Fld := ⟨.BIND_STATUS, 33, 1, .w1c, .const, 0⟩
/-- BIND_CFG.DC_TMO_MS, 04_fabric_addressing_and_binding.md Table 4-5, reset 0x1388. -/
abbrev BIND_CFG_DC_TMO_MS : Fld := ⟨.BIND_CFG, 0, 16, .rw, .const, 5000⟩
/-- BIND_CFG.UNBIND_TMO_MS, 04_fabric_addressing_and_binding.md Table 4-5, reset 0x1388. -/
abbrev BIND_CFG_UNBIND_TMO_MS : Fld := ⟨.BIND_CFG, 16, 16, .rw, .const, 5000⟩
/-- IW_BASE.VALID, 04_fabric_addressing_and_binding.md Table 4-6, reset 0. -/
abbrev IW_BASE_VALID : Fld := ⟨.IW_BASE, 0, 1, .rwe, .const, 0⟩
/-- IW_BASE.FPA_BASE, 04_fabric_addressing_and_binding.md Table 4-6, reset 0. -/
abbrev IW_BASE_FPA_BASE : Fld := ⟨.IW_BASE, 30, 23, .rwe, .const, 0⟩
/-- IW_LIMIT.SIZE_GIB, 04_fabric_addressing_and_binding.md Table 4-6, reset 0. -/
abbrev IW_LIMIT_SIZE_GIB : Fld := ⟨.IW_LIMIT, 0, 24, .rwe, .const, 0⟩
/-- ILS_CFG.VALID, 04_fabric_addressing_and_binding.md Table 4-7, reset 0. -/
abbrev ILS_CFG_VALID : Fld := ⟨.ILS_CFG, 0, 1, .rwe, .const, 0⟩
/-- ILS_CFG.WAYS, 04_fabric_addressing_and_binding.md Table 4-7, reset 0. -/
abbrev ILS_CFG_WAYS : Fld := ⟨.ILS_CFG, 1, 3, .rwe, .const, 0⟩
/-- ILS_CFG.GRAN, 04_fabric_addressing_and_binding.md Table 4-7, reset 0. -/
abbrev ILS_CFG_GRAN : Fld := ⟨.ILS_CFG, 8, 3, .rwe, .const, 0⟩
/-- ILS_CFG.TGT_SIZE, 04_fabric_addressing_and_binding.md Table 4-7, reset 0. -/
abbrev ILS_CFG_TGT_SIZE : Fld := ⟨.ILS_CFG, 24, 24, .rwe, .const, 0⟩
/-- ILS_TGT.DEV, 04_fabric_addressing_and_binding.md Table 4-7, reset 0. -/
abbrev ILS_TGT_DEV : Fld := ⟨.ILS_TGT, 0, 2, .rwe, .const, 0⟩
/-- ILS_TGT.MOD, 04_fabric_addressing_and_binding.md Table 4-7, reset 0. -/
abbrev ILS_TGT_MOD : Fld := ⟨.ILS_TGT, 4, 11, .rwe, .const, 0⟩
/-- ILS_TGT.BASE, 04_fabric_addressing_and_binding.md Table 4-7, reset 0. -/
abbrev ILS_TGT_BASE : Fld := ⟨.ILS_TGT, 24, 24, .rwe, .const, 0⟩
/-- MOD_ENTRY.PRESENT, 04_fabric_addressing_and_binding.md Table 4-8, reset 0. -/
abbrev MOD_ENTRY_PRESENT : Fld := ⟨.MOD_ENTRY, 0, 1, .ro, .const, 0⟩
/-- MOD_ENTRY.POOL, 04_fabric_addressing_and_binding.md Table 4-8, reset 0. -/
abbrev MOD_ENTRY_POOL : Fld := ⟨.MOD_ENTRY, 1, 1, .rwe, .const, 0⟩
/-- MOD_ENTRY.PT_BOUND, 04_fabric_addressing_and_binding.md Table 4-8, reset 0. -/
abbrev MOD_ENTRY_PT_BOUND : Fld := ⟨.MOD_ENTRY, 2, 1, .ro, .const, 0⟩
/-- MOD_ENTRY.CAP, 04_fabric_addressing_and_binding.md Table 4-8, reset 0. -/
abbrev MOD_ENTRY_CAP : Fld := ⟨.MOD_ENTRY, 24, 24, .ro, .const, 0⟩
/-- VPPB_ENTRY.KIND, 04_fabric_addressing_and_binding.md Table 4-9, reset 0. -/
abbrev VPPB_ENTRY_KIND : Fld := ⟨.VPPB_ENTRY, 0, 2, .ro, .const, 0⟩
/-- VPPB_ENTRY.INST, 04_fabric_addressing_and_binding.md Table 4-9, reset 0. -/
abbrev VPPB_ENTRY_INST : Fld := ⟨.VPPB_ENTRY, 4, 12, .ro, .const, 0⟩
/-- VPPB_ENTRY.MOD, 04_fabric_addressing_and_binding.md Table 4-9, reset 0. -/
abbrev VPPB_ENTRY_MOD : Fld := ⟨.VPPB_ENTRY, 16, 11, .ro, .const, 0⟩
/-- VPPB_ENTRY.HOST_PRESENT, 04_fabric_addressing_and_binding.md Table 4-9, reset 0. -/
abbrev VPPB_ENTRY_HOST_PRESENT : Fld := ⟨.VPPB_ENTRY, 32, 1, .ro, .const, 0⟩
/-- PBR_ROUTE.VALID, 04_fabric_addressing_and_binding.md Table 4-10, reset 0. -/
abbrev PBR_ROUTE_VALID : Fld := ⟨.PBR_ROUTE, 0, 1, .rwe, .const, 0⟩
/-- PBR_ROUTE.DEV, 04_fabric_addressing_and_binding.md Table 4-10, reset 0. -/
abbrev PBR_ROUTE_DEV : Fld := ⟨.PBR_ROUTE, 1, 2, .rwe, .const, 0⟩
/-- PBR_ROUTE.EGRESS, 04_fabric_addressing_and_binding.md Table 4-10, reset 0. -/
abbrev PBR_ROUTE_EGRESS : Fld := ⟨.PBR_ROUTE, 8, 7, .rwe, .const, 0⟩
/-- PBR_ROUTE.ALT_EGRESS, 04_fabric_addressing_and_binding.md Table 4-10, reset 0. -/
abbrev PBR_ROUTE_ALT_EGRESS : Fld := ⟨.PBR_ROUTE, 16, 7, .rwe, .const, 0⟩
/-- PBR_ROUTE.ALT_VALID, 04_fabric_addressing_and_binding.md Table 4-10, reset 0. -/
abbrev PBR_ROUTE_ALT_VALID : Fld := ⟨.PBR_ROUTE, 24, 1, .rwe, .const, 0⟩
/-- PBR_STATUS.UNROUTED, 04_fabric_addressing_and_binding.md Table 4-10, reset 0. -/
abbrev PBR_STATUS_UNROUTED : Fld := ⟨.PBR_STATUS, 0, 32, .rc, .const, 0⟩
/-- SW_CFG.HASH_SEED, 05_switch_core_and_buffers.md Table 5-9, reset 0x000. -/
abbrev SW_CFG_HASH_SEED : Fld := ⟨.SW_CFG, 0, 12, .rwe, .const, 0⟩
/-- SW_CFG.OVF_EN, 05_switch_core_and_buffers.md Table 5-9, reset 1. -/
abbrev SW_CFG_OVF_EN : Fld := ⟨.SW_CFG, 16, 1, .rw, .const, 1⟩
/-- SW_BUF_CFG.RSP_RSV_U, 05_switch_core_and_buffers.md Table 5-9, reset 0x100. -/
abbrev SW_BUF_CFG_RSP_RSV_U : Fld := ⟨.SW_BUF_CFG, 0, 11, .rwe, .const, 256⟩
/-- SW_BUF_CFG.SNP_RSV_U, 05_switch_core_and_buffers.md Table 5-9, reset 0x040. -/
abbrev SW_BUF_CFG_SNP_RSV_U : Fld := ⟨.SW_BUF_CFG, 16, 11, .rwe, .const, 64⟩
/-- SW_BUF_CFG.IOP_RSV_U, 05_switch_core_and_buffers.md Table 5-9, reset 0x020. -/
abbrev SW_BUF_CFG_IOP_RSV_U : Fld := ⟨.SW_BUF_CFG, 32, 11, .rwe, .const, 32⟩
/-- SW_BUF_CFG.IOCPL_RSV_U, 05_switch_core_and_buffers.md Table 5-9, reset 0x020. -/
abbrev SW_BUF_CFG_IOCPL_RSV_U : Fld := ⟨.SW_BUF_CFG, 48, 11, .rwe, .const, 32⟩
/-- SW_TRK_CFG.PORT_RSV, 05_switch_core_and_buffers.md Table 5-9, reset 0x100. -/
abbrev SW_TRK_CFG_PORT_RSV : Fld := ⟨.SW_TRK_CFG, 0, 12, .rwe, .const, 256⟩
/-- SW_TRK_CFG.INT_RSV, 05_switch_core_and_buffers.md Table 5-9, reset 0x4000. -/
abbrev SW_TRK_CFG_INT_RSV : Fld := ⟨.SW_TRK_CFG, 16, 20, .rwe, .const, 16384⟩
/-- SW_OVF_CFG.SPILL_THR_U, 05_switch_core_and_buffers.md Table 5-10, reset 0x080. -/
abbrev SW_OVF_CFG_SPILL_THR_U : Fld := ⟨.SW_OVF_CFG, 0, 11, .rw, .const, 128⟩
/-- SW_OVF_CFG.OVF_CAP_GBPS, 05_switch_core_and_buffers.md Table 5-10, reset 0x640. -/
abbrev SW_OVF_CFG_OVF_CAP_GBPS : Fld := ⟨.SW_OVF_CFG, 16, 11, .rw, .const, 1600⟩
/-- SW_AGE_CFG.AGE_MREQ_US, 05_switch_core_and_buffers.md Table 5-10, reset 0x1F4. -/
abbrev SW_AGE_CFG_AGE_MREQ_US : Fld := ⟨.SW_AGE_CFG, 0, 20, .rw, .const, 500⟩
/-- SW_AGE_CFG.AGE_IO_US, 05_switch_core_and_buffers.md Table 5-10, reset 0x3E8. -/
abbrev SW_AGE_CFG_AGE_IO_US : Fld := ⟨.SW_AGE_CFG, 32, 20, .rw, .const, 1000⟩
/-- SW_STATUS.TRK_USED, 05_switch_core_and_buffers.md Table 5-11, reset 0. -/
abbrev SW_STATUS_TRK_USED : Fld := ⟨.SW_STATUS, 0, 19, .ro, .const, 0⟩
/-- SW_STATUS.TRK_HWM, 05_switch_core_and_buffers.md Table 5-11, reset 0. -/
abbrev SW_STATUS_TRK_HWM : Fld := ⟨.SW_STATUS, 20, 19, .rc, .const, 0⟩
/-- SW_STATUS.CELLS_USED, 05_switch_core_and_buffers.md Table 5-11, reset 0. -/
abbrev SW_STATUS_CELLS_USED : Fld := ⟨.SW_STATUS, 40, 19, .ro, .const, 0⟩
/-- SW_STATUS.AT_TRK_BOUND, 05_switch_core_and_buffers.md Table 5-11, reset 0. -/
abbrev SW_STATUS_AT_TRK_BOUND : Fld := ⟨.SW_STATUS, 60, 1, .ro, .const, 0⟩
/-- SW_STATUS.AT_CELL_BOUND, 05_switch_core_and_buffers.md Table 5-11, reset 0. -/
abbrev SW_STATUS_AT_CELL_BOUND : Fld := ⟨.SW_STATUS, 61, 1, .ro, .const, 0⟩
/-- SW_OVF_STATUS.OVF_CELLS, 05_switch_core_and_buffers.md Table 5-11, reset 0. -/
abbrev SW_OVF_STATUS_OVF_CELLS : Fld := ⟨.SW_OVF_STATUS, 0, 27, .ro, .const, 0⟩
/-- SW_OVF_STATUS.OVF_GBPS, 05_switch_core_and_buffers.md Table 5-11, reset 0. -/
abbrev SW_OVF_STATUS_OVF_GBPS : Fld := ⟨.SW_OVF_STATUS, 32, 11, .ro, .const, 0⟩
/-- SW_OVF_STATUS.CAP_HITS, 05_switch_core_and_buffers.md Table 5-11, reset 0. -/
abbrev SW_OVF_STATUS_CAP_HITS : Fld := ⟨.SW_OVF_STATUS, 48, 16, .rc, .const, 0⟩
/-- SW_AGE_STATUS.AGED_MREQ, 05_switch_core_and_buffers.md Table 5-11, reset 0. -/
abbrev SW_AGE_STATUS_AGED_MREQ : Fld := ⟨.SW_AGE_STATUS, 0, 32, .rc, .const, 0⟩
/-- SW_AGE_STATUS.AGED_IO, 05_switch_core_and_buffers.md Table 5-11, reset 0. -/
abbrev SW_AGE_STATUS_AGED_IO : Fld := ⟨.SW_AGE_STATUS, 32, 32, .rc, .const, 0⟩
/-- SW_ERR_STATUS.OVF_CE, 05_switch_core_and_buffers.md Table 5-12, reset 0. -/
abbrev SW_ERR_STATUS_OVF_CE : Fld := ⟨.SW_ERR_STATUS, 0, 1, .w1c, .const, 0⟩
/-- SW_ERR_STATUS.OVF_UE, 05_switch_core_and_buffers.md Table 5-12, reset 0. -/
abbrev SW_ERR_STATUS_OVF_UE : Fld := ⟨.SW_ERR_STATUS, 1, 1, .w1c, .const, 0⟩
/-- SW_ERR_STATUS.HDR_UE, 05_switch_core_and_buffers.md Table 5-12, reset 0. -/
abbrev SW_ERR_STATUS_HDR_UE : Fld := ⟨.SW_ERR_STATUS, 2, 1, .w1c, .const, 0⟩
/-- SW_ERR_STATUS.CELL_UE, 05_switch_core_and_buffers.md Table 5-12, reset 0. -/
abbrev SW_ERR_STATUS_CELL_UE : Fld := ⟨.SW_ERR_STATUS, 3, 1, .w1c, .const, 0⟩
/-- MIR_CFG.EN, 05_switch_core_and_buffers.md Table 5-13, reset 0. -/
abbrev MIR_CFG_EN : Fld := ⟨.MIR_CFG, 0, 1, .rw, .const, 0⟩
/-- MIR_CFG.JITTER, 05_switch_core_and_buffers.md Table 5-13, reset 0. -/
abbrev MIR_CFG_JITTER : Fld := ⟨.MIR_CFG, 1, 1, .rw, .const, 0⟩
/-- MIR_CFG.N, 05_switch_core_and_buffers.md Table 5-13, reset 0x400. -/
abbrev MIR_CFG_N : Fld := ⟨.MIR_CFG, 4, 21, .rw, .const, 1024⟩
/-- MIR_MATCH.SRC, 05_switch_core_and_buffers.md Table 5-13, reset 0. -/
abbrev MIR_MATCH_SRC : Fld := ⟨.MIR_MATCH, 0, 12, .rw, .const, 0⟩
/-- MIR_MATCH.SRC_ANY, 05_switch_core_and_buffers.md Table 5-13, reset 1. -/
abbrev MIR_MATCH_SRC_ANY : Fld := ⟨.MIR_MATCH, 12, 1, .rw, .const, 1⟩
/-- MIR_MATCH.INST, 05_switch_core_and_buffers.md Table 5-13, reset 0. -/
abbrev MIR_MATCH_INST : Fld := ⟨.MIR_MATCH, 16, 14, .rw, .const, 0⟩
/-- MIR_MATCH.INST_ANY, 05_switch_core_and_buffers.md Table 5-13, reset 1. -/
abbrev MIR_MATCH_INST_ANY : Fld := ⟨.MIR_MATCH, 30, 1, .rw, .const, 1⟩
/-- MIR_MATCH.CLASS, 05_switch_core_and_buffers.md Table 5-13, reset 0. -/
abbrev MIR_MATCH_CLASS : Fld := ⟨.MIR_MATCH, 32, 3, .rw, .const, 0⟩
/-- MIR_MATCH.CLASS_ANY, 05_switch_core_and_buffers.md Table 5-13, reset 0. -/
abbrev MIR_MATCH_CLASS_ANY : Fld := ⟨.MIR_MATCH, 35, 1, .rw, .const, 0⟩
/-- MIR_DEST.HEARTH, 05_switch_core_and_buffers.md Table 5-13, reset 0. -/
abbrev MIR_DEST_HEARTH : Fld := ⟨.MIR_DEST, 0, 4, .rw, .const, 0⟩
/-- MIR_DEST.ENGINE, 05_switch_core_and_buffers.md Table 5-13, reset 0. -/
abbrev MIR_DEST_ENGINE : Fld := ⟨.MIR_DEST, 4, 5, .rw, .const, 0⟩
/-- MIR_DEST.THREAD, 05_switch_core_and_buffers.md Table 5-13, reset 0. -/
abbrev MIR_DEST_THREAD : Fld := ⟨.MIR_DEST, 9, 2, .rw, .const, 0⟩
/-- MIR_DEST.RING_BASE, 05_switch_core_and_buffers.md Table 5-13, reset 0. -/
abbrev MIR_DEST_RING_BASE : Fld := ⟨.MIR_DEST, 22, 17, .rw, .const, 0⟩
/-- MIR_DEST.RING_LOG2, 05_switch_core_and_buffers.md Table 5-13, reset 0x4. -/
abbrev MIR_DEST_RING_LOG2 : Fld := ⟨.MIR_DEST, 40, 5, .rw, .const, 4⟩
/-- MIR_STATUS.PROD, 05_switch_core_and_buffers.md Table 5-13, reset 0. -/
abbrev MIR_STATUS_PROD : Fld := ⟨.MIR_STATUS, 0, 16, .ro, .const, 0⟩
/-- MIR_STATUS.CONS, 05_switch_core_and_buffers.md Table 5-13, reset 0. -/
abbrev MIR_STATUS_CONS : Fld := ⟨.MIR_STATUS, 16, 16, .rw, .const, 0⟩
/-- MIR_STATUS.DROPPED, 05_switch_core_and_buffers.md Table 5-13, reset 0. -/
abbrev MIR_STATUS_DROPPED : Fld := ⟨.MIR_STATUS, 32, 32, .rc, .const, 0⟩
/-- EGQ_STATUS.DEPTH, 05_switch_core_and_buffers.md Table 5-14, reset 0. -/
abbrev EGQ_STATUS_DEPTH : Fld := ⟨.EGQ_STATUS, 0, 20, .ro, .const, 0⟩
/-- EGQ_STATUS.DEPTH_HWM, 05_switch_core_and_buffers.md Table 5-14, reset 0. -/
abbrev EGQ_STATUS_DEPTH_HWM : Fld := ⟨.EGQ_STATUS, 20, 20, .rc, .const, 0⟩
/-- EGQ_STATUS.OLDEST_US, 05_switch_core_and_buffers.md Table 5-14, reset 0. -/
abbrev EGQ_STATUS_OLDEST_US : Fld := ⟨.EGQ_STATUS, 40, 24, .ro, .const, 0⟩
/-- MS_CFG.YEL_FLOOR_U, 06_meters_shapers_and_latency_marks.md Table 6-4, reset 0x020. -/
abbrev MS_CFG_YEL_FLOOR_U : Fld := ⟨.MS_CFG, 0, 10, .rw, .const, 32⟩
/-- MS_CFG.MTR_GLOBAL_EN, 06_meters_shapers_and_latency_marks.md Table 6-4, reset 1. -/
abbrev MS_CFG_MTR_GLOBAL_EN : Fld := ⟨.MS_CFG, 16, 1, .rw, .const, 1⟩
/-- MS_CFG.LAT_THR_NS, 06_meters_shapers_and_latency_marks.md Table 6-4, reset 0x258. -/
abbrev MS_CFG_LAT_THR_NS : Fld := ⟨.MS_CFG, 32, 32, .rw, .const, 600⟩
/-- MS_STATUS.PEN_FULL_ANY, 06_meters_shapers_and_latency_marks.md Table 6-4, reset 0. -/
abbrev MS_STATUS_PEN_FULL_ANY : Fld := ⟨.MS_STATUS, 0, 1, .ro, .const, 0⟩
/-- MS_STATUS.PEN_FULL_EVENTS, 06_meters_shapers_and_latency_marks.md Table 6-4, reset 0. -/
abbrev MS_STATUS_PEN_FULL_EVENTS : Fld := ⟨.MS_STATUS, 16, 32, .rc, .const, 0⟩
/-- MTR_CFG.EN, 06_meters_shapers_and_latency_marks.md Table 6-5, reset 0. -/
abbrev MTR_CFG_EN : Fld := ⟨.MTR_CFG, 0, 1, .rw, .const, 0⟩
/-- MTR_CFG.MODE, 06_meters_shapers_and_latency_marks.md Table 6-5, reset 0. -/
abbrev MTR_CFG_MODE : Fld := ⟨.MTR_CFG, 1, 1, .rwe, .const, 0⟩
/-- MTR_CFG.RED_ACTION, 06_meters_shapers_and_latency_marks.md Table 6-5, reset 0. -/
abbrev MTR_CFG_RED_ACTION : Fld := ⟨.MTR_CFG, 2, 1, .rwe, .const, 0⟩
/-- MTR_CFG.YEL_HOLD, 06_meters_shapers_and_latency_marks.md Table 6-5, reset 1. -/
abbrev MTR_CFG_YEL_HOLD : Fld := ⟨.MTR_CFG, 3, 1, .rw, .const, 1⟩
/-- MTR_RATE.CIR_MBPS, 06_meters_shapers_and_latency_marks.md Table 6-5, reset 0x2710. -/
abbrev MTR_RATE_CIR_MBPS : Fld := ⟨.MTR_RATE, 0, 24, .rw, .const, 10000⟩
/-- MTR_RATE.PIR_MBPS, 06_meters_shapers_and_latency_marks.md Table 6-5, reset 0x4E20. -/
abbrev MTR_RATE_PIR_MBPS : Fld := ⟨.MTR_RATE, 32, 24, .rw, .const, 20000⟩
/-- MTR_BURST.CBS_U, 06_meters_shapers_and_latency_marks.md Table 6-5, reset 0x100. -/
abbrev MTR_BURST_CBS_U : Fld := ⟨.MTR_BURST, 0, 20, .rw, .const, 256⟩
/-- MTR_BURST.PEBS_U, 06_meters_shapers_and_latency_marks.md Table 6-5, reset 0x200. -/
abbrev MTR_BURST_PEBS_U : Fld := ⟨.MTR_BURST, 32, 20, .rw, .const, 512⟩
/-- MTR_STATUS.HOLDING, 06_meters_shapers_and_latency_marks.md Table 6-5, reset 0. -/
abbrev MTR_STATUS_HOLDING : Fld := ⟨.MTR_STATUS, 0, 1, .ro, .const, 0⟩
/-- MTR_STATUS.RED_CNT, 06_meters_shapers_and_latency_marks.md Table 6-5, reset 0. -/
abbrev MTR_STATUS_RED_CNT : Fld := ⟨.MTR_STATUS, 16, 32, .rc, .const, 0⟩
/-- INST_MS.SG, 06_meters_shapers_and_latency_marks.md Table 6-6, reset 0. -/
abbrev INST_MS_SG : Fld := ⟨.INST_MS, 0, 4, .rwe, .const, 0⟩
/-- INST_MS.PEN_DEPTH, 06_meters_shapers_and_latency_marks.md Table 6-6, reset 0. -/
abbrev INST_MS_PEN_DEPTH : Fld := ⟨.INST_MS, 16, 13, .ro, .const, 0⟩
/-- INST_MS.PEN_MAX, 06_meters_shapers_and_latency_marks.md Table 6-6, reset 0x400. -/
abbrev INST_MS_PEN_MAX : Fld := ⟨.INST_MS, 32, 13, .rw, .const, 1024⟩
/-- INST_MS.PEN_FULL, 06_meters_shapers_and_latency_marks.md Table 6-6, reset 0. -/
abbrev INST_MS_PEN_FULL : Fld := ⟨.INST_MS, 63, 1, .ro, .const, 0⟩
/-- INST_LAT.HWM_NS, 06_meters_shapers_and_latency_marks.md Table 6-6, reset 0. -/
abbrev INST_LAT_HWM_NS : Fld := ⟨.INST_LAT, 0, 32, .rc, .const, 0⟩
/-- INST_LAT.OVER_THR, 06_meters_shapers_and_latency_marks.md Table 6-6, reset 0. -/
abbrev INST_LAT_OVER_THR : Fld := ⟨.INST_LAT, 32, 32, .rc, .const, 0⟩
/-- EQ_SHP.RATE_MBPS, 06_meters_shapers_and_latency_marks.md Table 6-7, reset 0. -/
abbrev EQ_SHP_RATE_MBPS : Fld := ⟨.EQ_SHP, 0, 24, .rw, .const, 0⟩
/-- EQ_SHP.MAX_CREDIT_U, 06_meters_shapers_and_latency_marks.md Table 6-7, reset 0x40. -/
abbrev EQ_SHP_MAX_CREDIT_U : Fld := ⟨.EQ_SHP, 32, 16, .rw, .const, 64⟩
/-- EQ_WRR.WEIGHT, 06_meters_shapers_and_latency_marks.md Table 6-7, reset 0x10. -/
abbrev EQ_WRR_WEIGHT : Fld := ⟨.EQ_WRR, 0, 8, .rw, .const, 16⟩
/-- EQ_WRR.BURST, 06_meters_shapers_and_latency_marks.md Table 6-7, reset 0x08. -/
abbrev EQ_WRR_BURST : Fld := ⟨.EQ_WRR, 16, 7, .rw, .const, 8⟩
/-- EQ_STATUS.DEPTH, 06_meters_shapers_and_latency_marks.md Table 6-7, reset 0. -/
abbrev EQ_STATUS_DEPTH : Fld := ⟨.EQ_STATUS, 0, 20, .ro, .const, 0⟩
/-- EQ_STATUS.ELIGIBLE, 06_meters_shapers_and_latency_marks.md Table 6-7, reset 0. -/
abbrev EQ_STATUS_ELIGIBLE : Fld := ⟨.EQ_STATUS, 20, 1, .ro, .const, 0⟩
/-- EQ_STATUS.CREDIT_B, 06_meters_shapers_and_latency_marks.md Table 6-7, reset 0. -/
abbrev EQ_STATUS_CREDIT_B : Fld := ⟨.EQ_STATUS, 32, 32, .ro, .const, 0⟩
/-- EQ_LAT.HWM_NS, 06_meters_shapers_and_latency_marks.md Table 6-7, reset 0. -/
abbrev EQ_LAT_HWM_NS : Fld := ⟨.EQ_LAT, 0, 32, .rc, .const, 0⟩
/-- EQ_LAT.OVER_THR, 06_meters_shapers_and_latency_marks.md Table 6-7, reset 0. -/
abbrev EQ_LAT_OVER_THR : Fld := ⟨.EQ_LAT, 32, 32, .rc, .const, 0⟩
/-- HOME_CFG.MSC_EN, 07_home_agent_and_coherence.md Table 7-7, reset 1. -/
abbrev HOME_CFG_MSC_EN : Fld := ⟨.HOME_CFG, 0, 1, .rw, .const, 1⟩
/-- HOME_CFG.WB_RSV, 07_home_agent_and_coherence.md Table 7-7, reset 0x1000. -/
abbrev HOME_CFG_WB_RSV : Fld := ⟨.HOME_CFG, 16, 14, .rwe, .const, 4096⟩
/-- HOME_TMO_CFG.SNOOP_TMO_US, 07_home_agent_and_coherence.md Table 7-7, reset 0xC8. -/
abbrev HOME_TMO_CFG_SNOOP_TMO_US : Fld := ⟨.HOME_TMO_CFG, 0, 20, .rw, .const, 200⟩
/-- HOME_TMO_CFG.MEM_TMO_US, 07_home_agent_and_coherence.md Table 7-7, reset 0x64. -/
abbrev HOME_TMO_CFG_MEM_TMO_US : Fld := ⟨.HOME_TMO_CFG, 32, 20, .rw, .const, 100⟩
/-- HOME_ERR_STATUS.OWNER_TMO, 07_home_agent_and_coherence.md Table 7-8, reset 0. -/
abbrev HOME_ERR_STATUS_OWNER_TMO : Fld := ⟨.HOME_ERR_STATUS, 0, 1, .w1c, .const, 0⟩
/-- HOME_ERR_STATUS.SHARER_TMO, 07_home_agent_and_coherence.md Table 7-8, reset 0. -/
abbrev HOME_ERR_STATUS_SHARER_TMO : Fld := ⟨.HOME_ERR_STATUS, 1, 1, .w1c, .const, 0⟩
/-- HOME_ERR_STATUS.MEM_TMO, 07_home_agent_and_coherence.md Table 7-8, reset 0. -/
abbrev HOME_ERR_STATUS_MEM_TMO : Fld := ⟨.HOME_ERR_STATUS, 2, 1, .w1c, .const, 0⟩
/-- HOME_ERR_STATUS.RMW_POISON, 07_home_agent_and_coherence.md Table 7-8, reset 0. -/
abbrev HOME_ERR_STATUS_RMW_POISON : Fld := ⟨.HOME_ERR_STATUS, 3, 1, .w1c, .const, 0⟩
/-- HOME_ERR_STATUS.SF_CE, 07_home_agent_and_coherence.md Table 7-8, reset 0. -/
abbrev HOME_ERR_STATUS_SF_CE : Fld := ⟨.HOME_ERR_STATUS, 4, 1, .w1c, .const, 0⟩
/-- HOME_ERR_STATUS.SF_UE, 07_home_agent_and_coherence.md Table 7-8, reset 0. -/
abbrev HOME_ERR_STATUS_SF_UE : Fld := ⟨.HOME_ERR_STATUS, 5, 1, .w1c, .const, 0⟩
/-- HOME_ERR_STATUS.SF_DEGRADED_ALL, 07_home_agent_and_coherence.md Table 7-8, reset 0. -/
abbrev HOME_ERR_STATUS_SF_DEGRADED_ALL : Fld := ⟨.HOME_ERR_STATUS, 6, 1, .w1c, .const, 0⟩
/-- HOME_ERR_STATUS.MSC_CE, 07_home_agent_and_coherence.md Table 7-8, reset 0. -/
abbrev HOME_ERR_STATUS_MSC_CE : Fld := ⟨.HOME_ERR_STATUS, 7, 1, .w1c, .const, 0⟩
/-- HOME_ERR_STATUS.MSC_UE, 07_home_agent_and_coherence.md Table 7-8, reset 0. -/
abbrev HOME_ERR_STATUS_MSC_UE : Fld := ⟨.HOME_ERR_STATUS, 8, 1, .w1c, .const, 0⟩
/-- HOME_ERR_STATUS.WB_NOT_OWNER, 07_home_agent_and_coherence.md Table 7-8, reset 0. -/
abbrev HOME_ERR_STATUS_WB_NOT_OWNER : Fld := ⟨.HOME_ERR_STATUS, 9, 1, .w1c, .const, 0⟩
/-- HOME_CNT.WB_DISCARDS, 07_home_agent_and_coherence.md Table 7-9, reset 0. -/
abbrev HOME_CNT_WB_DISCARDS : Fld := ⟨.HOME_CNT, 0, 32, .rc, .const, 0⟩
/-- HOME_CNT.LATE_SNP_RSP, 07_home_agent_and_coherence.md Table 7-9, reset 0. -/
abbrev HOME_CNT_LATE_SNP_RSP : Fld := ⟨.HOME_CNT, 32, 32, .rc, .const, 0⟩
/-- SF_PROBE_CTRL.GO, 07_home_agent_and_coherence.md Table 7-10, reset 0. -/
abbrev SF_PROBE_CTRL_GO : Fld := ⟨.SF_PROBE_CTRL, 0, 1, .wo, .const, 0⟩
/-- SF_PROBE_CTRL.REBUILD, 07_home_agent_and_coherence.md Table 7-10, reset 0. -/
abbrev SF_PROBE_CTRL_REBUILD : Fld := ⟨.SF_PROBE_CTRL, 1, 1, .wo, .const, 0⟩
/-- SF_PROBE_CTRL.DONE, 07_home_agent_and_coherence.md Table 7-10, reset 0. -/
abbrev SF_PROBE_CTRL_DONE : Fld := ⟨.SF_PROBE_CTRL, 2, 1, .ro, .const, 0⟩
/-- SF_PROBE_CTRL.HIT, 07_home_agent_and_coherence.md Table 7-10, reset 0. -/
abbrev SF_PROBE_CTRL_HIT : Fld := ⟨.SF_PROBE_CTRL, 3, 1, .ro, .const, 0⟩
/-- SF_PROBE_CTRL.DEGRADED, 07_home_agent_and_coherence.md Table 7-10, reset 0. -/
abbrev SF_PROBE_CTRL_DEGRADED : Fld := ⟨.SF_PROBE_CTRL, 4, 1, .ro, .const, 0⟩
/-- SF_PROBE_CTRL.LINE, 07_home_agent_and_coherence.md Table 7-10, reset 0. -/
abbrev SF_PROBE_CTRL_LINE : Fld := ⟨.SF_PROBE_CTRL, 6, 47, .rw, .const, 0⟩
/-- SF_PROBE_DATA0.ENTRY_LO, 07_home_agent_and_coherence.md Table 7-10, reset 0. -/
abbrev SF_PROBE_DATA0_ENTRY_LO : Fld := ⟨.SF_PROBE_DATA0, 0, 64, .ro, .const, 0⟩
/-- SF_PROBE_DATA1.ENTRY_HI, 07_home_agent_and_coherence.md Table 7-10, reset 0. -/
abbrev SF_PROBE_DATA1_ENTRY_HI : Fld := ⟨.SF_PROBE_DATA1, 0, 64, .ro, .const, 0⟩
/-- MSC_CTRL.FLUSH, 07_home_agent_and_coherence.md Table 7-11, reset 0. -/
abbrev MSC_CTRL_FLUSH : Fld := ⟨.MSC_CTRL, 0, 1, .wo, .const, 0⟩
/-- MSC_CTRL.FLUSH_BUSY, 07_home_agent_and_coherence.md Table 7-11, reset 0. -/
abbrev MSC_CTRL_FLUSH_BUSY : Fld := ⟨.MSC_CTRL, 1, 1, .ro, .const, 0⟩
/-- MSC_CTRL.FLUSH_NS, 07_home_agent_and_coherence.md Table 7-11, reset 0. -/
abbrev MSC_CTRL_FLUSH_NS : Fld := ⟨.MSC_CTRL, 32, 32, .ro, .const, 0⟩
/-- HOME_SLICE_STATUS.TRK_USED, 07_home_agent_and_coherence.md Table 7-12, reset 0. -/
abbrev HOME_SLICE_STATUS_TRK_USED : Fld := ⟨.HOME_SLICE_STATUS, 0, 18, .ro, .const, 0⟩
/-- HOME_SLICE_STATUS.TRK_HWM, 07_home_agent_and_coherence.md Table 7-12, reset 0. -/
abbrev HOME_SLICE_STATUS_TRK_HWM : Fld := ⟨.HOME_SLICE_STATUS, 20, 18, .rc, .const, 0⟩
/-- HOME_SLICE_STATUS.LIST_MAX, 07_home_agent_and_coherence.md Table 7-12, reset 0. -/
abbrev HOME_SLICE_STATUS_LIST_MAX : Fld := ⟨.HOME_SLICE_STATUS, 40, 14, .rc, .const, 0⟩
/-- HOME_SLICE_STATUS.DEGRADED_SETS, 07_home_agent_and_coherence.md Table 7-12, reset 0. -/
abbrev HOME_SLICE_STATUS_DEGRADED_SETS : Fld := ⟨.HOME_SLICE_STATUS, 56, 7, .ro, .const, 0⟩
/-- HOME_SLICE_STATUS.DEGRADED_ALL, 07_home_agent_and_coherence.md Table 7-12, reset 0. -/
abbrev HOME_SLICE_STATUS_DEGRADED_ALL : Fld := ⟨.HOME_SLICE_STATUS, 63, 1, .ro, .const, 0⟩
/-- SF_STATUS.SF_VALID, 07_home_agent_and_coherence.md Table 7-12, reset 0. -/
abbrev SF_STATUS_SF_VALID : Fld := ⟨.SF_STATUS, 0, 30, .ro, .const, 0⟩
/-- SF_STATUS.SF_EVICTIONS, 07_home_agent_and_coherence.md Table 7-12, reset 0. -/
abbrev SF_STATUS_SF_EVICTIONS : Fld := ⟨.SF_STATUS, 32, 32, .rc, .const, 0⟩
/-- MSC_STATUS.DIRTY_LINES, 07_home_agent_and_coherence.md Table 7-12, reset 0. -/
abbrev MSC_STATUS_DIRTY_LINES : Fld := ⟨.MSC_STATUS, 0, 21, .ro, .const, 0⟩
/-- MSC_STATUS.MSC_HITS, 07_home_agent_and_coherence.md Table 7-12, reset 0. -/
abbrev MSC_STATUS_MSC_HITS : Fld := ⟨.MSC_STATUS, 32, 32, .rc, .const, 0⟩
/-- PLC_CTRL.RUN, 08_autonomous_placement.md Table 8-13, reset 0. -/
abbrev PLC_CTRL_RUN : Fld := ⟨.PLC_CTRL, 0, 1, .rw, .const, 0⟩
/-- PLC_CTRL.STOP_ABORT, 08_autonomous_placement.md Table 8-13, reset 0. -/
abbrev PLC_CTRL_STOP_ABORT : Fld := ⟨.PLC_CTRL, 1, 1, .rw, .const, 0⟩
/-- PLC_CTRL.IDLE, 08_autonomous_placement.md Table 8-13, reset 1. -/
abbrev PLC_CTRL_IDLE : Fld := ⟨.PLC_CTRL, 2, 1, .ro, .const, 1⟩
/-- PLC_CFG.FLUE_FIRST, 08_autonomous_placement.md Table 8-13, reset 0x7F0. -/
abbrev PLC_CFG_FLUE_FIRST : Fld := ⟨.PLC_CFG, 0, 11, .rw, .const, 2032⟩
/-- PLC_CFG.FLUE_COUNT, 08_autonomous_placement.md Table 8-13, reset 0x10. -/
abbrev PLC_CFG_FLUE_COUNT : Fld := ⟨.PLC_CFG, 16, 8, .rw, .const, 16⟩
/-- PLC_CFG.TIER_FORBID, 08_autonomous_placement.md Table 8-13, reset 0. -/
abbrev PLC_CFG_TIER_FORBID : Fld := ⟨.PLC_CFG, 32, 8, .rw, .const, 0⟩
/-- PLC_CFG.POLICY_HEARTH, 08_autonomous_placement.md Table 8-13, reset 0. -/
abbrev PLC_CFG_POLICY_HEARTH : Fld := ⟨.PLC_CFG, 40, 4, .rw, .const, 0⟩
/-- PLC_CFG.POLICY_ENGINE, 08_autonomous_placement.md Table 8-13, reset 0. -/
abbrev PLC_CFG_POLICY_ENGINE : Fld := ⟨.PLC_CFG, 48, 5, .rw, .const, 0⟩
/-- PLC_CFG.POLICY_THREAD, 08_autonomous_placement.md Table 8-13, reset 0. -/
abbrev PLC_CFG_POLICY_THREAD : Fld := ⟨.PLC_CFG, 53, 2, .rw, .const, 0⟩
/-- PLC_LIMIT.MAX_ACTIVE, 08_autonomous_placement.md Table 8-13, reset 0x1000. -/
abbrev PLC_LIMIT_MAX_ACTIVE : Fld := ⟨.PLC_LIMIT, 0, 13, .rw, .const, 4096⟩
/-- PLC_LIMIT.BW_CAP_GBPS, 08_autonomous_placement.md Table 8-13, reset 0x100. -/
abbrev PLC_LIMIT_BW_CAP_GBPS : Fld := ⟨.PLC_LIMIT, 16, 10, .rw, .const, 256⟩
/-- PLC_LIMIT.MIN_RESIDENCY_MS, 08_autonomous_placement.md Table 8-13, reset 0x3E8. -/
abbrev PLC_LIMIT_MIN_RESIDENCY_MS : Fld := ⟨.PLC_LIMIT, 32, 32, .rw, .const, 1000⟩
/-- PLC_SYNC_CFG.HOLD_MAX_NS, 08_autonomous_placement.md Table 8-14, reset 0x640. -/
abbrev PLC_SYNC_CFG_HOLD_MAX_NS : Fld := ⟨.PLC_SYNC_CFG, 0, 11, .rw, .const, 1600⟩
/-- PLC_SYNC_CFG.SYNC_SG, 08_autonomous_placement.md Table 8-14, reset 0x1. -/
abbrev PLC_SYNC_CFG_SYNC_SG : Fld := ⟨.PLC_SYNC_CFG, 16, 3, .rw, .const, 1⟩
/-- PLC_SYNC_CFG.MAX_PASSES, 08_autonomous_placement.md Table 8-14, reset 0x8. -/
abbrev PLC_SYNC_CFG_MAX_PASSES : Fld := ⟨.PLC_SYNC_CFG, 24, 4, .rw, .const, 8⟩
/-- PLC_SYNC_CFG.SYNC_TRIES, 08_autonomous_placement.md Table 8-14, reset 0x3. -/
abbrev PLC_SYNC_CFG_SYNC_TRIES : Fld := ⟨.PLC_SYNC_CFG, 32, 4, .rw, .const, 3⟩
/-- PLC_SYNC_CFG.SYNC_MAX, 08_autonomous_placement.md Table 8-14, reset 0x10. -/
abbrev PLC_SYNC_CFG_SYNC_MAX : Fld := ⟨.PLC_SYNC_CFG, 40, 7, .rw, .const, 16⟩
/-- PLC_HEAT_CFG.HEAT_N, 08_autonomous_placement.md Table 8-14, reset 0x40. -/
abbrev PLC_HEAT_CFG_HEAT_N : Fld := ⟨.PLC_HEAT_CFG, 0, 16, .rw, .const, 64⟩
/-- PLC_HEAT_CFG.DECAY_MS, 08_autonomous_placement.md Table 8-14, reset 0x64. -/
abbrev PLC_HEAT_CFG_DECAY_MS : Fld := ⟨.PLC_HEAT_CFG, 16, 32, .rw, .const, 100⟩
/-- PLC_HEAT_CFG.HEAT_EN, 08_autonomous_placement.md Table 8-14, reset 1. -/
abbrev PLC_HEAT_CFG_HEAT_EN : Fld := ⟨.PLC_HEAT_CFG, 48, 1, .rw, .const, 1⟩
/-- PLC_STATUS.ACTIVE, 08_autonomous_placement.md Table 8-15, reset 0. -/
abbrev PLC_STATUS_ACTIVE : Fld := ⟨.PLC_STATUS, 0, 13, .ro, .const, 0⟩
/-- PLC_STATUS.SYNCING, 08_autonomous_placement.md Table 8-15, reset 0. -/
abbrev PLC_STATUS_SYNCING : Fld := ⟨.PLC_STATUS, 16, 7, .ro, .const, 0⟩
/-- PLC_STATUS.HEAT_EVICT, 08_autonomous_placement.md Table 8-15, reset 0. -/
abbrev PLC_STATUS_HEAT_EVICT : Fld := ⟨.PLC_STATUS, 32, 32, .rc, .const, 0⟩
/-- PLC_EPOCH_STATUS.CUR_EPOCH, 08_autonomous_placement.md Table 8-15, reset 0. -/
abbrev PLC_EPOCH_STATUS_CUR_EPOCH : Fld := ⟨.PLC_EPOCH_STATUS, 0, 32, .ro, .const, 0⟩
/-- PLC_EPOCH_STATUS.OLDEST_STACK, 08_autonomous_placement.md Table 8-15, reset 0. -/
abbrev PLC_EPOCH_STATUS_OLDEST_STACK : Fld := ⟨.PLC_EPOCH_STATUS, 32, 32, .ro, .const, 0⟩
/-- PLC_ERR_STATUS.COPY_POISON, 08_autonomous_placement.md Table 8-15, reset 0. -/
abbrev PLC_ERR_STATUS_COPY_POISON : Fld := ⟨.PLC_ERR_STATUS, 0, 1, .w1c, .const, 0⟩
/-- PLC_ERR_STATUS.COPY_UE, 08_autonomous_placement.md Table 8-15, reset 0. -/
abbrev PLC_ERR_STATUS_COPY_UE : Fld := ⟨.PLC_ERR_STATUS, 1, 1, .w1c, .const, 0⟩
/-- PLC_ERR_STATUS.LOG_BACKPRESSURE, 08_autonomous_placement.md Table 8-15, reset 0. -/
abbrev PLC_ERR_STATUS_LOG_BACKPRESSURE : Fld := ⟨.PLC_ERR_STATUS, 2, 1, .w1c, .const, 0⟩
/-- PLC_ERR_STATUS.SYNC_ABANDON, 08_autonomous_placement.md Table 8-15, reset 0. -/
abbrev PLC_ERR_STATUS_SYNC_ABANDON : Fld := ⟨.PLC_ERR_STATUS, 3, 1, .w1c, .const, 0⟩
/-- PLC_ERR_STATUS.OVR_FULL, 08_autonomous_placement.md Table 8-15, reset 0. -/
abbrev PLC_ERR_STATUS_OVR_FULL : Fld := ⟨.PLC_ERR_STATUS, 4, 1, .w1c, .const, 0⟩
/-- PLC_CMD.OPCODE, 08_autonomous_placement.md Table 8-16, reset 0. -/
abbrev PLC_CMD_OPCODE : Fld := ⟨.PLC_CMD, 0, 8, .wo, .const, 0⟩
/-- PLC_CMD.TAG, 08_autonomous_placement.md Table 8-16, reset 0. -/
abbrev PLC_CMD_TAG : Fld := ⟨.PLC_CMD, 16, 16, .wo, .const, 0⟩
/-- PLC_CMD_ARG.INDEX, 08_autonomous_placement.md Table 8-16, reset 0. -/
abbrev PLC_CMD_ARG_INDEX : Fld := ⟨.PLC_CMD_ARG, 0, 35, .rw, .const, 0⟩
/-- PLC_CMD_ARG.SET, 08_autonomous_placement.md Table 8-16, reset 0. -/
abbrev PLC_CMD_ARG_SET : Fld := ⟨.PLC_CMD_ARG, 40, 10, .rw, .const, 0⟩
/-- PLC_CMD_STATUS.STATUS, 08_autonomous_placement.md Table 8-16, reset 0x00. -/
abbrev PLC_CMD_STATUS_STATUS : Fld := ⟨.PLC_CMD_STATUS, 0, 8, .ro, .const, 0⟩
/-- PLC_CMD_STATUS.TAG, 08_autonomous_placement.md Table 8-16, reset 0. -/
abbrev PLC_CMD_STATUS_TAG : Fld := ⟨.PLC_CMD_STATUS, 16, 16, .ro, .const, 0⟩
/-- PLC_CMD_STATUS.BUSY, 08_autonomous_placement.md Table 8-16, reset 0. -/
abbrev PLC_CMD_STATUS_BUSY : Fld := ⟨.PLC_CMD_STATUS, 32, 1, .ro, .const, 0⟩
/-- PLC_REQ_RING.REQ_BASE, 08_autonomous_placement.md Table 8-17, reset 0. -/
abbrev PLC_REQ_RING_REQ_BASE : Fld := ⟨.PLC_REQ_RING, 5, 18, .rw, .const, 0⟩
/-- PLC_REQ_RING.REQ_LOG2, 08_autonomous_placement.md Table 8-17, reset 0x8. -/
abbrev PLC_REQ_RING_REQ_LOG2 : Fld := ⟨.PLC_REQ_RING, 40, 5, .rw, .const, 8⟩
/-- PLC_REQ_IDX.PROD, 08_autonomous_placement.md Table 8-17, reset 0. -/
abbrev PLC_REQ_IDX_PROD : Fld := ⟨.PLC_REQ_IDX, 0, 32, .rw, .const, 0⟩
/-- PLC_REQ_IDX.CONS, 08_autonomous_placement.md Table 8-17, reset 0. -/
abbrev PLC_REQ_IDX_CONS : Fld := ⟨.PLC_REQ_IDX, 32, 32, .ro, .const, 0⟩
/-- PLC_LOG_CFG.LOG_BASE, 08_autonomous_placement.md Table 8-17, reset 0. -/
abbrev PLC_LOG_CFG_LOG_BASE : Fld := ⟨.PLC_LOG_CFG, 6, 27, .rw, .const, 0⟩
/-- PLC_LOG_CFG.LOG_LOG2, 08_autonomous_placement.md Table 8-17, reset 0xE. -/
abbrev PLC_LOG_CFG_LOG_LOG2 : Fld := ⟨.PLC_LOG_CFG, 48, 5, .rw, .const, 14⟩
/-- PLC_LOG_IDX.PROD, 08_autonomous_placement.md Table 8-17, reset 0. -/
abbrev PLC_LOG_IDX_PROD : Fld := ⟨.PLC_LOG_IDX, 0, 32, .ro, .const, 0⟩
/-- PLC_LOG_IDX.CONS, 08_autonomous_placement.md Table 8-17, reset 0. -/
abbrev PLC_LOG_IDX_CONS : Fld := ⟨.PLC_LOG_IDX, 32, 32, .rw, .const, 0⟩
/-- PLC_PROBE_CTRL.GO, 08_autonomous_placement.md Table 8-18, reset 0. -/
abbrev PLC_PROBE_CTRL_GO : Fld := ⟨.PLC_PROBE_CTRL, 0, 1, .wo, .const, 0⟩
/-- PLC_PROBE_CTRL.DONE, 08_autonomous_placement.md Table 8-18, reset 0. -/
abbrev PLC_PROBE_CTRL_DONE : Fld := ⟨.PLC_PROBE_CTRL, 1, 1, .ro, .const, 0⟩
/-- PLC_PROBE_CTRL.PAGE, 08_autonomous_placement.md Table 8-18, reset 0. -/
abbrev PLC_PROBE_CTRL_PAGE : Fld := ⟨.PLC_PROBE_CTRL, 32, 32, .rw, .const, 0⟩
/-- PLC_PROBE_DATA0.SOURCE, 08_autonomous_placement.md Table 8-18, reset 0. -/
abbrev PLC_PROBE_DATA0_SOURCE : Fld := ⟨.PLC_PROBE_DATA0, 0, 2, .ro, .const, 0⟩
/-- PLC_PROBE_DATA0.PINNED, 08_autonomous_placement.md Table 8-18, reset 0. -/
abbrev PLC_PROBE_DATA0_PINNED : Fld := ⟨.PLC_PROBE_DATA0, 2, 1, .ro, .const, 0⟩
/-- PLC_PROBE_DATA0.DEV, 08_autonomous_placement.md Table 8-18, reset 0. -/
abbrev PLC_PROBE_DATA0_DEV : Fld := ⟨.PLC_PROBE_DATA0, 4, 2, .ro, .const, 0⟩
/-- PLC_PROBE_DATA0.SET, 08_autonomous_placement.md Table 8-18, reset 0. -/
abbrev PLC_PROBE_DATA0_SET : Fld := ⟨.PLC_PROBE_DATA0, 6, 10, .ro, .const, 0⟩
/-- PLC_PROBE_DATA0.SO_2M, 08_autonomous_placement.md Table 8-18, reset 0. -/
abbrev PLC_PROBE_DATA0_SO_2M : Fld := ⟨.PLC_PROBE_DATA0, 16, 35, .ro, .const, 0⟩
/-- PLC_PROBE_DATA1.ENT_EPOCH, 08_autonomous_placement.md Table 8-18, reset 0. -/
abbrev PLC_PROBE_DATA1_ENT_EPOCH : Fld := ⟨.PLC_PROBE_DATA1, 0, 32, .ro, .const, 0⟩
/-- PLC_PROBE_DATA1.MIG_STATE, 08_autonomous_placement.md Table 8-18, reset 0. -/
abbrev PLC_PROBE_DATA1_MIG_STATE : Fld := ⟨.PLC_PROBE_DATA1, 32, 3, .ro, .const, 0⟩
/-- PLC_PROBE_DATA1.MIG_SLOT, 08_autonomous_placement.md Table 8-18, reset 0. -/
abbrev PLC_PROBE_DATA1_MIG_SLOT : Fld := ⟨.PLC_PROBE_DATA1, 36, 12, .ro, .const, 0⟩
/-- PLC_SET.PLACE_EN, 08_autonomous_placement.md Table 8-19, reset 0. -/
abbrev PLC_SET_PLACE_EN : Fld := ⟨.PLC_SET, 0, 1, .rwe, .const, 0⟩
/-- PLC_SET.TIER, 08_autonomous_placement.md Table 8-19, reset 0. -/
abbrev PLC_SET_TIER : Fld := ⟨.PLC_SET, 1, 3, .rwe, .const, 0⟩
/-- PLC_SET.SLOT_BASE, 08_autonomous_placement.md Table 8-19, reset 0. -/
abbrev PLC_SET_SLOT_BASE : Fld := ⟨.PLC_SET, 32, 30, .rwe, .const, 0⟩
/-- PLC_INST.MOVE_EN, 08_autonomous_placement.md Table 8-19, reset 1. -/
abbrev PLC_INST_MOVE_EN : Fld := ⟨.PLC_INST, 0, 1, .rw, .const, 1⟩
/-- PLC_INST.FORBID, 08_autonomous_placement.md Table 8-19, reset 0. -/
abbrev PLC_INST_FORBID : Fld := ⟨.PLC_INST, 8, 8, .rw, .const, 0⟩
/-- PLC_INST.MAX_ACTIVE_I, 08_autonomous_placement.md Table 8-19, reset 0x1000. -/
abbrev PLC_INST_MAX_ACTIVE_I : Fld := ⟨.PLC_INST, 16, 13, .rw, .const, 4096⟩
/-- PLC_INST.MOVES, 08_autonomous_placement.md Table 8-19, reset 0. -/
abbrev PLC_INST_MOVES : Fld := ⟨.PLC_INST, 32, 32, .rc, .const, 0⟩
/-- PLC_MIG.STATE, 08_autonomous_placement.md Table 8-19, reset 0. -/
abbrev PLC_MIG_STATE : Fld := ⟨.PLC_MIG, 0, 3, .ro, .const, 0⟩
/-- PLC_MIG.PAGE, 08_autonomous_placement.md Table 8-19, reset 0. -/
abbrev PLC_MIG_PAGE : Fld := ⟨.PLC_MIG, 8, 32, .ro, .const, 0⟩
/-- PLC_MIG.DIRTY, 08_autonomous_placement.md Table 8-19, reset 0. -/
abbrev PLC_MIG_DIRTY : Fld := ⟨.PLC_MIG, 40, 6, .ro, .const, 0⟩
/-- PLC_MIG.PASS, 08_autonomous_placement.md Table 8-19, reset 0. -/
abbrev PLC_MIG_PASS : Fld := ⟨.PLC_MIG, 48, 4, .ro, .const, 0⟩
/-- PLC_MIG.SYNCS, 08_autonomous_placement.md Table 8-19, reset 0. -/
abbrev PLC_MIG_SYNCS : Fld := ⟨.PLC_MIG, 52, 4, .ro, .const, 0⟩
/-- HTH_CTRL.CLEAR_ALL, 10_running_programs_on_the_hearths.md Table 10-9, reset 0. -/
abbrev HTH_CTRL_CLEAR_ALL : Fld := ⟨.HTH_CTRL, 0, 1, .wo, .const, 0⟩
/-- HTH_STATUS.THREADS_RUN, 10_running_programs_on_the_hearths.md Table 10-9, reset 0. -/
abbrev HTH_STATUS_THREADS_RUN : Fld := ⟨.HTH_STATUS, 0, 8, .ro, .const, 0⟩
/-- HTH_STATUS.CLEAR_BUSY, 10_running_programs_on_the_hearths.md Table 10-9, reset 0. -/
abbrev HTH_STATUS_CLEAR_BUSY : Fld := ⟨.HTH_STATUS, 8, 1, .ro, .const, 0⟩
/-- HTH_STATUS.FLC_EVICTS, 10_running_programs_on_the_hearths.md Table 10-9, reset 0. -/
abbrev HTH_STATUS_FLC_EVICTS : Fld := ⟨.HTH_STATUS, 16, 32, .rc, .const, 0⟩
/-- HTH_LOAD_CMD.GO, 10_running_programs_on_the_hearths.md Table 10-10, reset 0. -/
abbrev HTH_LOAD_CMD_GO : Fld := ⟨.HTH_LOAD_CMD, 0, 1, .wo, .const, 0⟩
/-- HTH_LOAD_CMD.THREAD, 10_running_programs_on_the_hearths.md Table 10-10, reset 0. -/
abbrev HTH_LOAD_CMD_THREAD : Fld := ⟨.HTH_LOAD_CMD, 8, 7, .wo, .const, 0⟩
/-- HTH_LOAD_CMD.TAG, 10_running_programs_on_the_hearths.md Table 10-10, reset 0. -/
abbrev HTH_LOAD_CMD_TAG : Fld := ⟨.HTH_LOAD_CMD, 16, 16, .wo, .const, 0⟩
/-- HTH_LOAD_CMD.INST, 10_running_programs_on_the_hearths.md Table 10-10, reset 0. -/
abbrev HTH_LOAD_CMD_INST : Fld := ⟨.HTH_LOAD_CMD, 32, 14, .wo, .const, 0⟩
/-- HTH_LOAD_SRC.OFFSET, 10_running_programs_on_the_hearths.md Table 10-10, reset 0. -/
abbrev HTH_LOAD_SRC_OFFSET : Fld := ⟨.HTH_LOAD_SRC, 6, 27, .rw, .const, 0⟩
/-- HTH_LOAD_STATUS.STATUS, 10_running_programs_on_the_hearths.md Table 10-10, reset 0x00. -/
abbrev HTH_LOAD_STATUS_STATUS : Fld := ⟨.HTH_LOAD_STATUS, 0, 8, .ro, .const, 0⟩
/-- HTH_LOAD_STATUS.TAG, 10_running_programs_on_the_hearths.md Table 10-10, reset 0. -/
abbrev HTH_LOAD_STATUS_TAG : Fld := ⟨.HTH_LOAD_STATUS, 16, 16, .ro, .const, 0⟩
/-- HTH_LOAD_STATUS.BUSY, 10_running_programs_on_the_hearths.md Table 10-10, reset 0. -/
abbrev HTH_LOAD_STATUS_BUSY : Fld := ⟨.HTH_LOAD_STATUS, 32, 1, .ro, .const, 0⟩
/-- HTH_LOAD_STATUS.FAIL_STEP, 10_running_programs_on_the_hearths.md Table 10-10, reset 0. -/
abbrev HTH_LOAD_STATUS_FAIL_STEP : Fld := ⟨.HTH_LOAD_STATUS, 40, 4, .ro, .const, 0⟩
/-- ENG_CFG.P2_INST, 10_running_programs_on_the_hearths.md Table 10-11, reset 0. -/
abbrev ENG_CFG_P2_INST : Fld := ⟨.ENG_CFG, 0, 14, .ro, .const, 0⟩
/-- ENG_CFG.P2_ENGINE, 10_running_programs_on_the_hearths.md Table 10-11, reset 0. -/
abbrev ENG_CFG_P2_ENGINE : Fld := ⟨.ENG_CFG, 16, 1, .ro, .const, 0⟩
/-- TH_CTRL.START, 10_running_programs_on_the_hearths.md Table 10-12, reset 0. -/
abbrev TH_CTRL_START : Fld := ⟨.TH_CTRL, 0, 1, .wo, .const, 0⟩
/-- TH_CTRL.STOP, 10_running_programs_on_the_hearths.md Table 10-12, reset 0. -/
abbrev TH_CTRL_STOP : Fld := ⟨.TH_CTRL, 1, 1, .wo, .const, 0⟩
/-- TH_CTRL.CLEAR, 10_running_programs_on_the_hearths.md Table 10-12, reset 0. -/
abbrev TH_CTRL_CLEAR : Fld := ⟨.TH_CTRL, 2, 1, .wo, .const, 0⟩
/-- TH_VEC.HANDLER, 10_running_programs_on_the_hearths.md Table 10-12, reset 0. -/
abbrev TH_VEC_HANDLER : Fld := ⟨.TH_VEC, 0, 64, .rw, .const, 0⟩
/-- TH_STATUS.STATE, 10_running_programs_on_the_hearths.md Table 10-12, reset 0. -/
abbrev TH_STATUS_STATE : Fld := ⟨.TH_STATUS, 0, 2, .ro, .const, 0⟩
/-- TH_STATUS.IN_TRAP, 10_running_programs_on_the_hearths.md Table 10-12, reset 0. -/
abbrev TH_STATUS_IN_TRAP : Fld := ⟨.TH_STATUS, 2, 1, .ro, .const, 0⟩
/-- TH_STATUS.LOADED, 10_running_programs_on_the_hearths.md Table 10-12, reset 0. -/
abbrev TH_STATUS_LOADED : Fld := ⟨.TH_STATUS, 3, 1, .ro, .const, 0⟩
/-- TH_STATUS.BASE_PRIV, 10_running_programs_on_the_hearths.md Table 10-12, reset 0. -/
abbrev TH_STATUS_BASE_PRIV : Fld := ⟨.TH_STATUS, 4, 2, .ro, .const, 0⟩
/-- TH_STATUS.PRIV, 10_running_programs_on_the_hearths.md Table 10-12, reset 0. -/
abbrev TH_STATUS_PRIV : Fld := ⟨.TH_STATUS, 6, 2, .ro, .const, 0⟩
/-- TH_STATUS.LAST_TRAP, 10_running_programs_on_the_hearths.md Table 10-12, reset 0. -/
abbrev TH_STATUS_LAST_TRAP : Fld := ⟨.TH_STATUS, 8, 8, .ro, .const, 0⟩
/-- TH_STATUS.HALT_REASON, 10_running_programs_on_the_hearths.md Table 10-12, reset 0. -/
abbrev TH_STATUS_HALT_REASON : Fld := ⟨.TH_STATUS, 16, 3, .ro, .const, 0⟩
/-- TH_STATUS.STG_ENTRIES, 10_running_programs_on_the_hearths.md Table 10-12, reset 0. -/
abbrev TH_STATUS_STG_ENTRIES : Fld := ⟨.TH_STATUS, 32, 15, .ro, .const, 0⟩
/-- TH_STATUS.CMD_STATUS, 10_running_programs_on_the_hearths.md Table 10-12, reset 0x00. -/
abbrev TH_STATUS_CMD_STATUS : Fld := ⟨.TH_STATUS, 56, 8, .ro, .const, 0⟩
/-- TH_PC.PC, 10_running_programs_on_the_hearths.md Table 10-12, reset 0. -/
abbrev TH_PC_PC : Fld := ⟨.TH_PC, 0, 64, .ro, .const, 0⟩
/-- CMT_CFG.COMMIT_TMO_US, 10_running_programs_on_the_hearths.md Table 10-13, reset 0x3E8. -/
abbrev CMT_CFG_COMMIT_TMO_US : Fld := ⟨.CMT_CFG, 0, 20, .rw, .const, 1000⟩
/-- CMT_CFG.STG_MAX, 10_running_programs_on_the_hearths.md Table 10-13, reset 0x4000. -/
abbrev CMT_CFG_STG_MAX : Fld := ⟨.CMT_CFG, 32, 15, .rw, .const, 16384⟩
/-- CMT_STATUS.GENERATION, 10_running_programs_on_the_hearths.md Table 10-13, reset 0. -/
abbrev CMT_STATUS_GENERATION : Fld := ⟨.CMT_STATUS, 0, 32, .ro, .const, 0⟩
/-- CMT_STATUS.BUSY, 10_running_programs_on_the_hearths.md Table 10-13, reset 0. -/
abbrev CMT_STATUS_BUSY : Fld := ⟨.CMT_STATUS, 32, 1, .ro, .const, 0⟩
/-- CMT_STATUS.QUEUED, 10_running_programs_on_the_hearths.md Table 10-13, reset 0. -/
abbrev CMT_STATUS_QUEUED : Fld := ⟨.CMT_STATUS, 40, 8, .ro, .const, 0⟩
/-- STG_STATUS.STORE_USED, 10_running_programs_on_the_hearths.md Table 10-13, reset 0. -/
abbrev STG_STATUS_STORE_USED : Fld := ⟨.STG_STATUS, 0, 19, .ro, .const, 0⟩
/-- STG_STATUS.STORE_HWM, 10_running_programs_on_the_hearths.md Table 10-13, reset 0. -/
abbrev STG_STATUS_STORE_HWM : Fld := ⟨.STG_STATUS, 32, 19, .rc, .const, 0⟩
/-- FLU_ASSIGN.VALID, 11_flues_dma.md Table 11-10, reset 0. -/
abbrev FLU_ASSIGN_VALID : Fld := ⟨.FLU_ASSIGN, 0, 1, .rw, .const, 0⟩
/-- FLU_ASSIGN.PRIV, 11_flues_dma.md Table 11-10, reset 0b10. -/
abbrev FLU_ASSIGN_PRIV : Fld := ⟨.FLU_ASSIGN, 1, 2, .rw, .const, 2⟩
/-- FLU_ASSIGN.PRIO_MAX, 11_flues_dma.md Table 11-10, reset 0x3. -/
abbrev FLU_ASSIGN_PRIO_MAX : Fld := ⟨.FLU_ASSIGN, 4, 3, .rw, .const, 3⟩
/-- FLU_ASSIGN.PLACEMENT, 11_flues_dma.md Table 11-10, reset 0. -/
abbrev FLU_ASSIGN_PLACEMENT : Fld := ⟨.FLU_ASSIGN, 7, 1, .ro, .const, 0⟩
/-- FLU_ASSIGN.INST, 11_flues_dma.md Table 11-10, reset 0. -/
abbrev FLU_ASSIGN_INST : Fld := ⟨.FLU_ASSIGN, 8, 12, .rw, .const, 0⟩
/-- FLU_ASSIGN.OWNER_KIND, 11_flues_dma.md Table 11-10, reset 0. -/
abbrev FLU_ASSIGN_OWNER_KIND : Fld := ⟨.FLU_ASSIGN, 20, 1, .rw, .const, 0⟩
/-- FLU_ASSIGN.OWNER, 11_flues_dma.md Table 11-10, reset 0. -/
abbrev FLU_ASSIGN_OWNER : Fld := ⟨.FLU_ASSIGN, 21, 13, .rw, .const, 0⟩
/-- FLU_ASSIGN.CALL_CQ, 11_flues_dma.md Table 11-10, reset 0. -/
abbrev FLU_ASSIGN_CALL_CQ : Fld := ⟨.FLU_ASSIGN, 34, 12, .rw, .const, 0⟩
/-- FLU_ASSIGN.RUN_TMO_US, 11_flues_dma.md Table 11-10, reset 0x3E8. -/
abbrev FLU_ASSIGN_RUN_TMO_US : Fld := ⟨.FLU_ASSIGN, 48, 16, .rw, .const, 1000⟩
/-- FLU_CFG.MODE, 11_flues_dma.md Table 11-11, reset 0. -/
abbrev FLU_CFG_MODE : Fld := ⟨.FLU_CFG, 0, 2, .rw, .const, 0⟩
/-- FLU_CFG.STOP_MODE, 11_flues_dma.md Table 11-11, reset 0. -/
abbrev FLU_CFG_STOP_MODE : Fld := ⟨.FLU_CFG, 2, 1, .rw, .const, 0⟩
/-- FLU_CFG.PRIO, 11_flues_dma.md Table 11-11, reset 0. -/
abbrev FLU_CFG_PRIO : Fld := ⟨.FLU_CFG, 4, 3, .rw, .const, 0⟩
/-- FLU_CFG.TRIG_LINE, 11_flues_dma.md Table 11-11, reset 0. -/
abbrev FLU_CFG_TRIG_LINE : Fld := ⟨.FLU_CFG, 7, 1, .rw, .const, 0⟩
/-- FLU_CFG.LINE, 11_flues_dma.md Table 11-11, reset 0. -/
abbrev FLU_CFG_LINE : Fld := ⟨.FLU_CFG, 8, 10, .rw, .const, 0⟩
/-- FLU_CFG.CQ, 11_flues_dma.md Table 11-11, reset 0. -/
abbrev FLU_CFG_CQ : Fld := ⟨.FLU_CFG, 20, 12, .rw, .const, 0⟩
/-- FLU_CFG.CQ_EN, 11_flues_dma.md Table 11-11, reset 0. -/
abbrev FLU_CFG_CQ_EN : Fld := ⟨.FLU_CFG, 32, 1, .rw, .const, 0⟩
/-- FLU_CTRL.STOP, 11_flues_dma.md Table 11-11, reset 0. -/
abbrev FLU_CTRL_STOP : Fld := ⟨.FLU_CTRL, 0, 1, .wo, .const, 0⟩
/-- FLU_CTRL.RESUME, 11_flues_dma.md Table 11-11, reset 0. -/
abbrev FLU_CTRL_RESUME : Fld := ⟨.FLU_CTRL, 1, 1, .wo, .const, 0⟩
/-- FLU_CTRL.ABORT, 11_flues_dma.md Table 11-11, reset 0. -/
abbrev FLU_CTRL_ABORT : Fld := ⟨.FLU_CTRL, 2, 1, .wo, .const, 0⟩
/-- FLU_CTRL.RESET, 11_flues_dma.md Table 11-11, reset 0. -/
abbrev FLU_CTRL_RESET : Fld := ⟨.FLU_CTRL, 3, 1, .wo, .const, 0⟩
/-- FLU_STATUS.STATE, 11_flues_dma.md Table 11-12, reset 0. -/
abbrev FLU_STATUS_STATE : Fld := ⟨.FLU_STATUS, 0, 3, .ro, .const, 0⟩
/-- FLU_STATUS.WAIT_REASON, 11_flues_dma.md Table 11-12, reset 0. -/
abbrev FLU_STATUS_WAIT_REASON : Fld := ⟨.FLU_STATUS, 4, 3, .ro, .const, 0⟩
/-- FLU_STATUS.PREEMPTED, 11_flues_dma.md Table 11-12, reset 0. -/
abbrev FLU_STATUS_PREEMPTED : Fld := ⟨.FLU_STATUS, 7, 1, .ro, .const, 0⟩
/-- FLU_STATUS.KICK, 11_flues_dma.md Table 11-12, reset 0. -/
abbrev FLU_STATUS_KICK : Fld := ⟨.FLU_STATUS, 8, 1, .ro, .const, 0⟩
/-- FLU_STATUS.STOP_ERR, 11_flues_dma.md Table 11-12, reset 0. -/
abbrev FLU_STATUS_STOP_ERR : Fld := ⟨.FLU_STATUS, 9, 1, .ro, .const, 0⟩
/-- FLU_STATUS.CMD_STATUS, 11_flues_dma.md Table 11-12, reset 0x00. -/
abbrev FLU_STATUS_CMD_STATUS : Fld := ⟨.FLU_STATUS, 16, 8, .ro, .const, 0⟩
/-- FLU_STATUS.LAST_STATUS, 11_flues_dma.md Table 11-12, reset 0x00. -/
abbrev FLU_STATUS_LAST_STATUS : Fld := ⟨.FLU_STATUS, 24, 8, .ro, .const, 0⟩
/-- FLU_STATUS.DESC_DONE, 11_flues_dma.md Table 11-12, reset 0. -/
abbrev FLU_STATUS_DESC_DONE : Fld := ⟨.FLU_STATUS, 32, 32, .rc, .const, 0⟩
/-- FLU_DOORBELL.START_ADDR, 11_flues_dma.md Table 11-12, reset 0. -/
abbrev FLU_DOORBELL_START_ADDR : Fld := ⟨.FLU_DOORBELL, 0, 64, .wo, .const, 0⟩
/-- FLU_DESC.DESC, 11_flues_dma.md Table 11-12, reset 0. -/
abbrev FLU_DESC_DESC : Fld := ⟨.FLU_DESC, 0, 64, .rw, .const, 0⟩
/-- FLU_SRC.SRC, 11_flues_dma.md Table 11-12, reset 0. -/
abbrev FLU_SRC_SRC : Fld := ⟨.FLU_SRC, 0, 64, .rw, .const, 0⟩
/-- FLU_DST.DST, 11_flues_dma.md Table 11-12, reset 0. -/
abbrev FLU_DST_DST : Fld := ⟨.FLU_DST, 0, 64, .rw, .const, 0⟩
/-- FLU_LEFT.LEFT, 11_flues_dma.md Table 11-12, reset 0. -/
abbrev FLU_LEFT_LEFT : Fld := ⟨.FLU_LEFT, 0, 41, .rw, .const, 0⟩
/-- FLU_LEFT.ELEM, 11_flues_dma.md Table 11-12, reset 0. -/
abbrev FLU_LEFT_ELEM : Fld := ⟨.FLU_LEFT, 48, 16, .rw, .const, 0⟩
/-- FLU_ACC.ACC, 11_flues_dma.md Table 11-12, reset 0. -/
abbrev FLU_ACC_ACC : Fld := ⟨.FLU_ACC, 0, 64, .rw, .const, 0⟩
/-- FLU_RING_BASE.BASE, 11_flues_dma.md Table 11-13, reset 0. -/
abbrev FLU_RING_BASE_BASE : Fld := ⟨.FLU_RING_BASE, 0, 59, .rw, .const, 0⟩
/-- FLU_RING_BASE.RING_LOG2, 11_flues_dma.md Table 11-13, reset 0x4. -/
abbrev FLU_RING_BASE_RING_LOG2 : Fld := ⟨.FLU_RING_BASE, 59, 5, .rw, .const, 4⟩
/-- FLU_RING_IDX.HEAD, 11_flues_dma.md Table 11-13, reset 0. -/
abbrev FLU_RING_IDX_HEAD : Fld := ⟨.FLU_RING_IDX, 0, 16, .rw, .const, 0⟩
/-- FLU_RUN_RET.STATUS, 11_flues_dma.md Table 11-13, reset 0. -/
abbrev FLU_RUN_RET_STATUS : Fld := ⟨.FLU_RUN_RET, 0, 8, .wo, .const, 0⟩
/-- FLU_RUN_RET.RESULT, 11_flues_dma.md Table 11-13, reset 0. -/
abbrev FLU_RUN_RET_RESULT : Fld := ⟨.FLU_RUN_RET, 32, 32, .wo, .const, 0⟩
/-- FLU_ERR.RUN_TMO, 11_flues_dma.md Table 11-13, reset 0. -/
abbrev FLU_ERR_RUN_TMO : Fld := ⟨.FLU_ERR, 0, 1, .w1c, .const, 0⟩
/-- FLU_ERR.RUN_STRAY, 11_flues_dma.md Table 11-13, reset 0. -/
abbrev FLU_ERR_RUN_STRAY : Fld := ⟨.FLU_ERR, 1, 1, .w1c, .const, 0⟩
/-- FLU_ERR.CMPL_LOST, 11_flues_dma.md Table 11-13, reset 0. -/
abbrev FLU_ERR_CMPL_LOST : Fld := ⟨.FLU_ERR, 2, 1, .w1c, .const, 0⟩
/-- FLU_ERR.STAGE_UE, 11_flues_dma.md Table 11-13, reset 0. -/
abbrev FLU_ERR_STAGE_UE : Fld := ⟨.FLU_ERR, 3, 1, .w1c, .const, 0⟩
/-- FLU_ERR.DESC_BAD, 11_flues_dma.md Table 11-13, reset 0. -/
abbrev FLU_ERR_DESC_BAD : Fld := ⟨.FLU_ERR, 4, 1, .w1c, .const, 0⟩
/-- RQL_CFG.EN, 11_flues_dma.md Table 11-14, reset 0. -/
abbrev RQL_CFG_EN : Fld := ⟨.RQL_CFG, 0, 1, .rw, .const, 0⟩
/-- RQL_CFG.SENSE, 11_flues_dma.md Table 11-14, reset 0. -/
abbrev RQL_CFG_SENSE : Fld := ⟨.RQL_CFG, 1, 1, .rw, .const, 0⟩
/-- RQL_CFG.BURST_MODE, 11_flues_dma.md Table 11-14, reset 0. -/
abbrev RQL_CFG_BURST_MODE : Fld := ⟨.RQL_CFG, 2, 1, .rw, .const, 0⟩
/-- RQL_CFG.BURST, 11_flues_dma.md Table 11-14, reset 0x10. -/
abbrev RQL_CFG_BURST : Fld := ⟨.RQL_CFG, 4, 12, .rw, .const, 16⟩
/-- RQL_CFG.BOUND_FLUE, 11_flues_dma.md Table 11-14, reset 0. -/
abbrev RQL_CFG_BOUND_FLUE : Fld := ⟨.RQL_CFG, 16, 11, .ro, .const, 0⟩
/-- RQL_CFG.BOUND, 11_flues_dma.md Table 11-14, reset 0. -/
abbrev RQL_CFG_BOUND : Fld := ⟨.RQL_CFG, 27, 1, .ro, .const, 0⟩
/-- RQL_CFG.SET, 11_flues_dma.md Table 11-14, reset 0. -/
abbrev RQL_CFG_SET : Fld := ⟨.RQL_CFG, 32, 1, .w1s, .const, 0⟩
/-- RQL_CFG.PEND, 11_flues_dma.md Table 11-14, reset 0. -/
abbrev RQL_CFG_PEND : Fld := ⟨.RQL_CFG, 40, 8, .ro, .const, 0⟩
/-- RQL_CFG.DREQ, 11_flues_dma.md Table 11-14, reset 0. -/
abbrev RQL_CFG_DREQ : Fld := ⟨.RQL_CFG, 48, 1, .ro, .const, 0⟩
/-- FLU_LAST_CMPL.WORD, 11_flues_dma.md Table 11-9, reset 0. -/
abbrev FLU_LAST_CMPL_WORD : Fld := ⟨.FLU_LAST_CMPL, 0, 64, .ro, .const, 0⟩
/-- CQ_BASE.BASE, 11_flues_dma.md Table 11-15, reset 0. -/
abbrev CQ_BASE_BASE : Fld := ⟨.CQ_BASE, 0, 64, .rw, .const, 0⟩
/-- CQ_CFG.EN, 11_flues_dma.md Table 11-15, reset 0. -/
abbrev CQ_CFG_EN : Fld := ⟨.CQ_CFG, 0, 1, .rw, .const, 0⟩
/-- CQ_CFG.LOG2, 11_flues_dma.md Table 11-15, reset 0x4. -/
abbrev CQ_CFG_LOG2 : Fld := ⟨.CQ_CFG, 1, 5, .rw, .const, 4⟩
/-- CQ_CFG.INST, 11_flues_dma.md Table 11-15, reset 0. -/
abbrev CQ_CFG_INST : Fld := ⟨.CQ_CFG, 8, 12, .rw, .const, 0⟩
/-- CQ_CFG.EVT_EN, 11_flues_dma.md Table 11-15, reset 0. -/
abbrev CQ_CFG_EVT_EN : Fld := ⟨.CQ_CFG, 20, 1, .rw, .const, 0⟩
/-- CQ_CFG.EVT_TID, 11_flues_dma.md Table 11-15, reset 0. -/
abbrev CQ_CFG_EVT_TID : Fld := ⟨.CQ_CFG, 21, 13, .rw, .const, 0⟩
/-- CQ_CFG.MSIX_EN, 11_flues_dma.md Table 11-15, reset 0. -/
abbrev CQ_CFG_MSIX_EN : Fld := ⟨.CQ_CFG, 34, 1, .rw, .const, 0⟩
/-- CQ_CFG.MSIX_VEC, 11_flues_dma.md Table 11-15, reset 0. -/
abbrev CQ_CFG_MSIX_VEC : Fld := ⟨.CQ_CFG, 35, 11, .rw, .const, 0⟩
/-- CQ_IDX.TAIL, 11_flues_dma.md Table 11-15, reset 0. -/
abbrev CQ_IDX_TAIL : Fld := ⟨.CQ_IDX, 0, 32, .ro, .const, 0⟩
/-- CQ_IDX.HEAD, 11_flues_dma.md Table 11-15, reset 0. -/
abbrev CQ_IDX_HEAD : Fld := ⟨.CQ_IDX, 32, 32, .rw, .const, 0⟩
/-- WQ_CFG.VALID, 12_work_queues_and_doorbells.md Table 12-6, reset 0. -/
abbrev WQ_CFG_VALID : Fld := ⟨.WQ_CFG, 0, 1, .rw, .const, 0⟩
/-- WQ_CFG.EVT_EN, 12_work_queues_and_doorbells.md Table 12-6, reset 0. -/
abbrev WQ_CFG_EVT_EN : Fld := ⟨.WQ_CFG, 1, 1, .rw, .const, 0⟩
/-- WQ_CFG.EVT_TID, 12_work_queues_and_doorbells.md Table 12-6, reset 0. -/
abbrev WQ_CFG_EVT_TID : Fld := ⟨.WQ_CFG, 2, 13, .rw, .const, 0⟩
/-- WQ_CFG.INST, 12_work_queues_and_doorbells.md Table 12-6, reset 0. -/
abbrev WQ_CFG_INST : Fld := ⟨.WQ_CFG, 16, 12, .rw, .const, 0⟩
/-- WQ_CFG.FLUE, 12_work_queues_and_doorbells.md Table 12-6, reset 0. -/
abbrev WQ_CFG_FLUE : Fld := ⟨.WQ_CFG, 32, 11, .rw, .const, 0⟩
/-- WQ_CFG.CQ, 12_work_queues_and_doorbells.md Table 12-6, reset 0. -/
abbrev WQ_CFG_CQ : Fld := ⟨.WQ_CFG, 44, 12, .rw, .const, 0⟩
/-- WQ_RING.BASE, 12_work_queues_and_doorbells.md Table 12-7, reset 0. -/
abbrev WQ_RING_BASE : Fld := ⟨.WQ_RING, 0, 59, .rw, .const, 0⟩
/-- WQ_RING.RING_LOG2, 12_work_queues_and_doorbells.md Table 12-7, reset 0x4. -/
abbrev WQ_RING_RING_LOG2 : Fld := ⟨.WQ_RING, 59, 5, .rw, .const, 4⟩
/-- WQ_HEAD_ADDR.ADDR, 12_work_queues_and_doorbells.md Table 12-7, reset 0. -/
abbrev WQ_HEAD_ADDR_ADDR : Fld := ⟨.WQ_HEAD_ADDR, 0, 64, .rw, .const, 0⟩
/-- WQ_CTRL.ENABLE, 12_work_queues_and_doorbells.md Table 12-7, reset 0. -/
abbrev WQ_CTRL_ENABLE : Fld := ⟨.WQ_CTRL, 0, 1, .wo, .const, 0⟩
/-- WQ_CTRL.DISABLE, 12_work_queues_and_doorbells.md Table 12-7, reset 0. -/
abbrev WQ_CTRL_DISABLE : Fld := ⟨.WQ_CTRL, 1, 1, .wo, .const, 0⟩
/-- WQ_CTRL.DRAIN_TMO_US, 12_work_queues_and_doorbells.md Table 12-7, reset 0x3E8. -/
abbrev WQ_CTRL_DRAIN_TMO_US : Fld := ⟨.WQ_CTRL, 16, 16, .rw, .const, 1000⟩
/-- WQ_CTRL.WEIGHT, 12_work_queues_and_doorbells.md Table 12-7, reset 0x10. -/
abbrev WQ_CTRL_WEIGHT : Fld := ⟨.WQ_CTRL, 32, 8, .rw, .const, 16⟩
/-- WQ_CTRL.BURST, 12_work_queues_and_doorbells.md Table 12-7, reset 0x08. -/
abbrev WQ_CTRL_BURST : Fld := ⟨.WQ_CTRL, 40, 6, .rw, .const, 8⟩
/-- WQ_DB.TAIL, 12_work_queues_and_doorbells.md Table 12-8, reset 0. -/
abbrev WQ_DB_TAIL : Fld := ⟨.WQ_DB, 0, 32, .wo, .const, 0⟩
/-- WQ_IDX.TAIL, 12_work_queues_and_doorbells.md Table 12-8, reset 0. -/
abbrev WQ_IDX_TAIL : Fld := ⟨.WQ_IDX, 0, 32, .ro, .const, 0⟩
/-- WQ_IDX.HEAD, 12_work_queues_and_doorbells.md Table 12-8, reset 0. -/
abbrev WQ_IDX_HEAD : Fld := ⟨.WQ_IDX, 32, 32, .rw, .const, 0⟩
/-- WQ_STATUS.STATE, 12_work_queues_and_doorbells.md Table 12-8, reset 0. -/
abbrev WQ_STATUS_STATE : Fld := ⟨.WQ_STATUS, 0, 2, .ro, .const, 0⟩
/-- WQ_STATUS.ERR_STOP, 12_work_queues_and_doorbells.md Table 12-8, reset 0. -/
abbrev WQ_STATUS_ERR_STOP : Fld := ⟨.WQ_STATUS, 2, 1, .ro, .const, 0⟩
/-- WQ_STATUS.CMD_STATUS, 12_work_queues_and_doorbells.md Table 12-8, reset 0x00. -/
abbrev WQ_STATUS_CMD_STATUS : Fld := ⟨.WQ_STATUS, 8, 8, .ro, .const, 0⟩
/-- WQ_STATUS.DB_STATUS, 12_work_queues_and_doorbells.md Table 12-8, reset 0x00. -/
abbrev WQ_STATUS_DB_STATUS : Fld := ⟨.WQ_STATUS, 16, 8, .ro, .const, 0⟩
/-- WQ_STATUS.ENTRIES_DONE, 12_work_queues_and_doorbells.md Table 12-8, reset 0. -/
abbrev WQ_STATUS_ENTRIES_DONE : Fld := ⟨.WQ_STATUS, 32, 32, .rc, .const, 0⟩
/-- WQ_ERR.DB_OVERRUN, 12_work_queues_and_doorbells.md Table 12-8, reset 0. -/
abbrev WQ_ERR_DB_OVERRUN : Fld := ⟨.WQ_ERR, 0, 1, .w1c, .const, 0⟩
/-- WQ_ERR.DB_BAD, 12_work_queues_and_doorbells.md Table 12-8, reset 0. -/
abbrev WQ_ERR_DB_BAD : Fld := ⟨.WQ_ERR, 1, 1, .w1c, .const, 0⟩
/-- WQ_ERR.ENTRY_BAD, 12_work_queues_and_doorbells.md Table 12-8, reset 0. -/
abbrev WQ_ERR_ENTRY_BAD : Fld := ⟨.WQ_ERR, 2, 1, .w1c, .const, 0⟩
/-- WQ_ERR.DRAIN_ABORT, 12_work_queues_and_doorbells.md Table 12-8, reset 0. -/
abbrev WQ_ERR_DRAIN_ABORT : Fld := ⟨.WQ_ERR, 3, 1, .w1c, .const, 0⟩
/-- WQ_ERR.HEAD_FAIL, 12_work_queues_and_doorbells.md Table 12-8, reset 0. -/
abbrev WQ_ERR_HEAD_FAIL : Fld := ⟨.WQ_ERR, 4, 1, .w1c, .const, 0⟩
/-- WQ_ERR.INLINE_DISCARDS, 12_work_queues_and_doorbells.md Table 12-8, reset 0. -/
abbrev WQ_ERR_INLINE_DISCARDS : Fld := ⟨.WQ_ERR, 32, 16, .rc, .const, 0⟩
/-- INST_CMD.OPCODE, 13_tenant_instances.md Table 13-11, reset 0. -/
abbrev INST_CMD_OPCODE : Fld := ⟨.INST_CMD, 0, 8, .wo, .const, 0⟩
/-- INST_CMD.TAG, 13_tenant_instances.md Table 13-11, reset 0. -/
abbrev INST_CMD_TAG : Fld := ⟨.INST_CMD, 16, 16, .wo, .const, 0⟩
/-- INST_ARG0.ARG0, 13_tenant_instances.md Table 13-11, reset 0. -/
abbrev INST_ARG0_ARG0 : Fld := ⟨.INST_ARG0, 0, 64, .rw, .const, 0⟩
/-- INST_ARG1.ARG1, 13_tenant_instances.md Table 13-11, reset 0. -/
abbrev INST_ARG1_ARG1 : Fld := ⟨.INST_ARG1, 0, 32, .rw, .const, 0⟩
/-- INST_ARG1.FLUE_REC_LEN, 13_tenant_instances.md Table 13-11, reset 0. -/
abbrev INST_ARG1_FLUE_REC_LEN : Fld := ⟨.INST_ARG1, 32, 16, .ro, .const, 0⟩
/-- INST_STATUS.STATUS, 13_tenant_instances.md Table 13-11, reset 0x00. -/
abbrev INST_STATUS_STATUS : Fld := ⟨.INST_STATUS, 0, 8, .ro, .const, 0⟩
/-- INST_STATUS.TAG, 13_tenant_instances.md Table 13-11, reset 0. -/
abbrev INST_STATUS_TAG : Fld := ⟨.INST_STATUS, 16, 16, .ro, .const, 0⟩
/-- INST_STATUS.BUSY, 13_tenant_instances.md Table 13-11, reset 0. -/
abbrev INST_STATUS_BUSY : Fld := ⟨.INST_STATUS, 32, 1, .ro, .const, 0⟩
/-- INST_STATUS.STATE, 13_tenant_instances.md Table 13-11, reset 0. -/
abbrev INST_STATUS_STATE : Fld := ⟨.INST_STATUS, 36, 3, .ro, .const, 0⟩
/-- INST_STATUS.PUT_PENDING, 13_tenant_instances.md Table 13-11, reset 0. -/
abbrev INST_STATUS_PUT_PENDING : Fld := ⟨.INST_STATUS, 39, 1, .ro, .const, 0⟩
/-- INST_POOL.THREAD_QUOTA, 13_tenant_instances.md Table 13-12, reset 0. -/
abbrev INST_POOL_THREAD_QUOTA : Fld := ⟨.INST_POOL, 0, 7, .rw, .const, 0⟩
/-- INST_POOL.FLUE_QUOTA, 13_tenant_instances.md Table 13-12, reset 0. -/
abbrev INST_POOL_FLUE_QUOTA : Fld := ⟨.INST_POOL, 8, 7, .rw, .const, 0⟩
/-- INST_POOL.WQ_QUOTA, 13_tenant_instances.md Table 13-12, reset 0. -/
abbrev INST_POOL_WQ_QUOTA : Fld := ⟨.INST_POOL, 16, 8, .rw, .const, 0⟩
/-- INST_POOL.CSET_QUOTA, 13_tenant_instances.md Table 13-12, reset 0. -/
abbrev INST_POOL_CSET_QUOTA : Fld := ⟨.INST_POOL, 24, 5, .rw, .const, 0⟩
/-- INST_OVF.OVF_QUOTA, 13_tenant_instances.md Table 13-12, reset 0. -/
abbrev INST_OVF_OVF_QUOTA : Fld := ⟨.INST_OVF, 0, 27, .rw, .const, 0⟩
/-- INST_DC_CFG.REGIONS, 13_tenant_instances.md Table 13-12, reset 0x1. -/
abbrev INST_DC_CFG_REGIONS : Fld := ⟨.INST_DC_CFG, 0, 4, .rw, .const, 1⟩
/-- INST_DC_CFG.REGION_DB, 13_tenant_instances.md Table 13-12, reset 0xFF. -/
abbrev INST_DC_CFG_REGION_DB : Fld := ⟨.INST_DC_CFG, 8, 8, .rw, .const, 255⟩
/-- INST_USE.THREADS, 13_tenant_instances.md Table 13-12, reset 0. -/
abbrev INST_USE_THREADS : Fld := ⟨.INST_USE, 0, 7, .ro, .const, 0⟩
/-- INST_USE.FLUES, 13_tenant_instances.md Table 13-12, reset 0. -/
abbrev INST_USE_FLUES : Fld := ⟨.INST_USE, 8, 7, .ro, .const, 0⟩
/-- INST_USE.WQS, 13_tenant_instances.md Table 13-12, reset 0. -/
abbrev INST_USE_WQS : Fld := ⟨.INST_USE, 16, 8, .ro, .const, 0⟩
/-- INST_USE.CSETS, 13_tenant_instances.md Table 13-12, reset 0. -/
abbrev INST_USE_CSETS : Fld := ⟨.INST_USE, 24, 5, .ro, .const, 0⟩
/-- INST_USE.OVF_CELLS, 13_tenant_instances.md Table 13-12, reset 0. -/
abbrev INST_USE_OVF_CELLS : Fld := ⟨.INST_USE, 32, 27, .ro, .const, 0⟩
/-- MBX_CFG.SERVER_TID, 13_tenant_instances.md Table 13-13, reset 0. -/
abbrev MBX_CFG_SERVER_TID : Fld := ⟨.MBX_CFG, 0, 13, .rw, .const, 0⟩
/-- MBX_CFG.SERVER_VALID, 13_tenant_instances.md Table 13-13, reset 0. -/
abbrev MBX_CFG_SERVER_VALID : Fld := ⟨.MBX_CFG, 13, 1, .rw, .const, 0⟩
/-- MBX_CFG.LAND, 13_tenant_instances.md Table 13-13, reset 0. -/
abbrev MBX_CFG_LAND : Fld := ⟨.MBX_CFG, 16, 17, .rw, .const, 0⟩
/-- MBX_CFG.MBX_TMO_MS, 13_tenant_instances.md Table 13-13, reset 0x3E8. -/
abbrev MBX_CFG_MBX_TMO_MS : Fld := ⟨.MBX_CFG, 48, 16, .rw, .const, 1000⟩
/-- INST_ERR.MBX_TMO, 13_tenant_instances.md Table 13-13, reset 0. -/
abbrev INST_ERR_MBX_TMO : Fld := ⟨.INST_ERR, 0, 1, .w1c, .const, 0⟩
/-- INST_ERR.MBX_STRAY, 13_tenant_instances.md Table 13-13, reset 0. -/
abbrev INST_ERR_MBX_STRAY : Fld := ⟨.INST_ERR, 1, 1, .w1c, .const, 0⟩
/-- INST_ERR.CONTAINED_ENTRY, 13_tenant_instances.md Table 13-13, reset 0. -/
abbrev INST_ERR_CONTAINED_ENTRY : Fld := ⟨.INST_ERR, 2, 1, .w1c, .const, 0⟩
/-- MBX_DB.TAG, 13_tenant_instances.md Table 13-14, reset 0. -/
abbrev MBX_DB_TAG : Fld := ⟨.MBX_DB, 0, 16, .wo, .const, 0⟩
/-- MBX_DB.LEN_DW, 13_tenant_instances.md Table 13-14, reset 0. -/
abbrev MBX_DB_LEN_DW : Fld := ⟨.MBX_DB, 16, 5, .wo, .const, 0⟩
/-- MBX_STATUS.BUSY, 13_tenant_instances.md Table 13-14, reset 0. -/
abbrev MBX_STATUS_BUSY : Fld := ⟨.MBX_STATUS, 0, 1, .ro, .const, 0⟩
/-- MBX_STATUS.RESP_VALID, 13_tenant_instances.md Table 13-14, reset 0. -/
abbrev MBX_STATUS_RESP_VALID : Fld := ⟨.MBX_STATUS, 1, 1, .rc, .const, 0⟩
/-- MBX_STATUS.DB_STATUS, 13_tenant_instances.md Table 13-14, reset 0x00. -/
abbrev MBX_STATUS_DB_STATUS : Fld := ⟨.MBX_STATUS, 8, 8, .ro, .const, 0⟩
/-- MBX_STATUS.LAST_TAG, 13_tenant_instances.md Table 13-14, reset 0. -/
abbrev MBX_STATUS_LAST_TAG : Fld := ⟨.MBX_STATUS, 16, 16, .ro, .const, 0⟩
/-- MBX_STATUS.DUP_COUNT, 13_tenant_instances.md Table 13-14, reset 0. -/
abbrev MBX_STATUS_DUP_COUNT : Fld := ⟨.MBX_STATUS, 32, 16, .rc, .const, 0⟩
/-- MBX_NOTE_IDX.PROD, 13_tenant_instances.md Table 13-14, reset 0. -/
abbrev MBX_NOTE_IDX_PROD : Fld := ⟨.MBX_NOTE_IDX, 0, 32, .ro, .const, 0⟩
/-- MBX_NOTE_IDX.CONS, 13_tenant_instances.md Table 13-14, reset 0. -/
abbrev MBX_NOTE_IDX_CONS : Fld := ⟨.MBX_NOTE_IDX, 32, 32, .rw, .const, 0⟩
/-- MBX_HCFG.RESP_MSIX_EN, 13_tenant_instances.md Table 13-14, reset 0. -/
abbrev MBX_HCFG_RESP_MSIX_EN : Fld := ⟨.MBX_HCFG, 0, 1, .rw, .const, 0⟩
/-- MBX_HCFG.RESP_VEC, 13_tenant_instances.md Table 13-14, reset 0. -/
abbrev MBX_HCFG_RESP_VEC : Fld := ⟨.MBX_HCFG, 1, 11, .rw, .const, 0⟩
/-- MBX_HCFG.NOTE_MSIX_EN, 13_tenant_instances.md Table 13-14, reset 0. -/
abbrev MBX_HCFG_NOTE_MSIX_EN : Fld := ⟨.MBX_HCFG, 12, 1, .rw, .const, 0⟩
/-- MBX_HCFG.NOTE_VEC, 13_tenant_instances.md Table 13-14, reset 0. -/
abbrev MBX_HCFG_NOTE_VEC : Fld := ⟨.MBX_HCFG, 13, 11, .rw, .const, 0⟩
/-- PG_VIOL_ADDR.ADDR, 14_access_gates.md Table 14-8, reset 0. -/
abbrev PG_VIOL_ADDR_ADDR : Fld := ⟨.PG_VIOL_ADDR, 0, 53, .ro, .const, 0⟩
/-- PG_VIOL_ADDR.SPACE, 14_access_gates.md Table 14-8, reset 0. -/
abbrev PG_VIOL_ADDR_SPACE : Fld := ⟨.PG_VIOL_ADDR, 53, 2, .ro, .const, 0⟩
/-- PG_VIOL_ADDR.HEARTH, 14_access_gates.md Table 14-8, reset 0. -/
abbrev PG_VIOL_ADDR_HEARTH : Fld := ⟨.PG_VIOL_ADDR, 55, 4, .ro, .const, 0⟩
/-- PG_VIOL_INFO.VALID, 14_access_gates.md Table 14-8, reset 0. -/
abbrev PG_VIOL_INFO_VALID : Fld := ⟨.PG_VIOL_INFO, 0, 1, .w1c, .const, 0⟩
/-- PG_VIOL_INFO.KIND, 14_access_gates.md Table 14-8, reset 0. -/
abbrev PG_VIOL_INFO_KIND : Fld := ⟨.PG_VIOL_INFO, 1, 2, .ro, .const, 0⟩
/-- PG_VIOL_INFO.PRIV, 14_access_gates.md Table 14-8, reset 0. -/
abbrev PG_VIOL_INFO_PRIV : Fld := ⟨.PG_VIOL_INFO, 3, 2, .ro, .const, 0⟩
/-- PG_VIOL_INFO.INST, 14_access_gates.md Table 14-8, reset 0. -/
abbrev PG_VIOL_INFO_INST : Fld := ⟨.PG_VIOL_INFO, 5, 14, .ro, .const, 0⟩
/-- PG_VIOL_INFO.REGION, 14_access_gates.md Table 14-8, reset 0. -/
abbrev PG_VIOL_INFO_REGION : Fld := ⟨.PG_VIOL_INFO, 19, 8, .ro, .const, 0⟩
/-- PG_VIOL_INFO.SET, 14_access_gates.md Table 14-8, reset 0. -/
abbrev PG_VIOL_INFO_SET : Fld := ⟨.PG_VIOL_INFO, 27, 1, .ro, .const, 0⟩
/-- PG_VIOL_INFO.CORE_ID, 14_access_gates.md Table 14-8, reset 0. -/
abbrev PG_VIOL_INFO_CORE_ID : Fld := ⟨.PG_VIOL_INFO, 28, 12, .ro, .const, 0⟩
/-- PG_VIOL_INFO.TID, 14_access_gates.md Table 14-8, reset 0. -/
abbrev PG_VIOL_INFO_TID : Fld := ⟨.PG_VIOL_INFO, 40, 13, .ro, .const, 0⟩
/-- PG_VIOL_CNT.COUNT, 14_access_gates.md Table 14-8, reset 0. -/
abbrev PG_VIOL_CNT_COUNT : Fld := ⟨.PG_VIOL_CNT, 0, 32, .rc, .const, 0⟩
/-- PG_LO.VALID, 14_access_gates.md Table 14-7, reset 0. -/
abbrev PG_LO_VALID : Fld := ⟨.PG_LO, 0, 1, .rwe, .const, 0⟩
/-- PG_LO.SPACE, 14_access_gates.md Table 14-7, reset 0. -/
abbrev PG_LO_SPACE : Fld := ⟨.PG_LO, 1, 2, .rwe, .const, 0⟩
/-- PG_LO.P0_RWX, 14_access_gates.md Table 14-7, reset 0. -/
abbrev PG_LO_P0_RWX : Fld := ⟨.PG_LO, 3, 3, .rwe, .const, 0⟩
/-- PG_LO.P1_RWX, 14_access_gates.md Table 14-7, reset 0. -/
abbrev PG_LO_P1_RWX : Fld := ⟨.PG_LO, 6, 3, .rwe, .const, 0⟩
/-- PG_LO.P2_RWX, 14_access_gates.md Table 14-7, reset 0. -/
abbrev PG_LO_P2_RWX : Fld := ⟨.PG_LO, 9, 3, .rwe, .const, 0⟩
/-- PG_LO.BASE, 14_access_gates.md Table 14-7, reset 0. -/
abbrev PG_LO_BASE : Fld := ⟨.PG_LO, 12, 41, .rwe, .const, 0⟩
/-- PG_LO.HEARTH, 14_access_gates.md Table 14-7, reset 0. -/
abbrev PG_LO_HEARTH : Fld := ⟨.PG_LO, 53, 4, .rwe, .const, 0⟩
/-- PG_HI.INST, 14_access_gates.md Table 14-7, reset 0. -/
abbrev PG_HI_INST : Fld := ⟨.PG_HI, 0, 12, .rwe, .const, 0⟩
/-- PG_HI.LIMIT, 14_access_gates.md Table 14-7, reset 0. -/
abbrev PG_HI_LIMIT : Fld := ⟨.PG_HI, 12, 41, .rwe, .const, 0⟩
/-- PG_HI.INST_DEV, 14_access_gates.md Table 14-7, reset 0. -/
abbrev PG_HI_INST_DEV : Fld := ⟨.PG_HI, 56, 2, .rwe, .const, 0⟩
/-- PG_HI.INST_ANY, 14_access_gates.md Table 14-7, reset 0. -/
abbrev PG_HI_INST_ANY : Fld := ⟨.PG_HI, 63, 1, .rwe, .const, 0⟩
/-- TG_CTRL.ACTIVE, 14_access_gates.md Table 14-8, reset 0. -/
abbrev TG_CTRL_ACTIVE : Fld := ⟨.TG_CTRL, 0, 1, .ro, .const, 0⟩
/-- TG_CTRL.SWAP, 14_access_gates.md Table 14-8, reset 0. -/
abbrev TG_CTRL_SWAP : Fld := ⟨.TG_CTRL, 1, 1, .wo, .const, 0⟩
/-- TG_VIOL_ADDR.ADDR, 14_access_gates.md Table 14-8, reset 0. -/
abbrev TG_VIOL_ADDR_ADDR : Fld := ⟨.TG_VIOL_ADDR, 0, 53, .ro, .const, 0⟩
/-- TG_VIOL_ADDR.SPACE, 14_access_gates.md Table 14-8, reset 0. -/
abbrev TG_VIOL_ADDR_SPACE : Fld := ⟨.TG_VIOL_ADDR, 53, 2, .ro, .const, 0⟩
/-- TG_VIOL_ADDR.HEARTH, 14_access_gates.md Table 14-8, reset 0. -/
abbrev TG_VIOL_ADDR_HEARTH : Fld := ⟨.TG_VIOL_ADDR, 55, 4, .ro, .const, 0⟩
/-- TG_VIOL_INFO.VALID, 14_access_gates.md Table 14-8, reset 0. -/
abbrev TG_VIOL_INFO_VALID : Fld := ⟨.TG_VIOL_INFO, 0, 1, .w1c, .const, 0⟩
/-- TG_VIOL_INFO.KIND, 14_access_gates.md Table 14-8, reset 0. -/
abbrev TG_VIOL_INFO_KIND : Fld := ⟨.TG_VIOL_INFO, 1, 2, .ro, .const, 0⟩
/-- TG_VIOL_INFO.PRIV, 14_access_gates.md Table 14-8, reset 0. -/
abbrev TG_VIOL_INFO_PRIV : Fld := ⟨.TG_VIOL_INFO, 3, 2, .ro, .const, 0⟩
/-- TG_VIOL_INFO.INST, 14_access_gates.md Table 14-8, reset 0. -/
abbrev TG_VIOL_INFO_INST : Fld := ⟨.TG_VIOL_INFO, 5, 14, .ro, .const, 0⟩
/-- TG_VIOL_INFO.REGION, 14_access_gates.md Table 14-8, reset 0. -/
abbrev TG_VIOL_INFO_REGION : Fld := ⟨.TG_VIOL_INFO, 19, 8, .ro, .const, 0⟩
/-- TG_VIOL_INFO.SET, 14_access_gates.md Table 14-8, reset 0. -/
abbrev TG_VIOL_INFO_SET : Fld := ⟨.TG_VIOL_INFO, 27, 1, .ro, .const, 0⟩
/-- TG_VIOL_INFO.CORE_ID, 14_access_gates.md Table 14-8, reset 0. -/
abbrev TG_VIOL_INFO_CORE_ID : Fld := ⟨.TG_VIOL_INFO, 28, 12, .ro, .const, 0⟩
/-- TG_VIOL_INFO.TID, 14_access_gates.md Table 14-8, reset 0. -/
abbrev TG_VIOL_INFO_TID : Fld := ⟨.TG_VIOL_INFO, 40, 13, .ro, .const, 0⟩
/-- TG_VIOL_CNT.COUNT, 14_access_gates.md Table 14-8, reset 0. -/
abbrev TG_VIOL_CNT_COUNT : Fld := ⟨.TG_VIOL_CNT, 0, 32, .rc, .const, 0⟩
/-- TG_LO.VALID, 14_access_gates.md Table 14-7, reset 0. -/
abbrev TG_LO_VALID : Fld := ⟨.TG_LO, 0, 1, .rw, .const, 0⟩
/-- TG_LO.SPACE, 14_access_gates.md Table 14-7, reset 0. -/
abbrev TG_LO_SPACE : Fld := ⟨.TG_LO, 1, 2, .rw, .const, 0⟩
/-- TG_LO.P0_RWX, 14_access_gates.md Table 14-7, reset 0. -/
abbrev TG_LO_P0_RWX : Fld := ⟨.TG_LO, 3, 3, .rw, .const, 0⟩
/-- TG_LO.P1_RWX, 14_access_gates.md Table 14-7, reset 0. -/
abbrev TG_LO_P1_RWX : Fld := ⟨.TG_LO, 6, 3, .rw, .const, 0⟩
/-- TG_LO.P2_RWX, 14_access_gates.md Table 14-7, reset 0. -/
abbrev TG_LO_P2_RWX : Fld := ⟨.TG_LO, 9, 3, .rw, .const, 0⟩
/-- TG_LO.BASE, 14_access_gates.md Table 14-7, reset 0. -/
abbrev TG_LO_BASE : Fld := ⟨.TG_LO, 12, 41, .rw, .const, 0⟩
/-- TG_LO.HEARTH, 14_access_gates.md Table 14-7, reset 0. -/
abbrev TG_LO_HEARTH : Fld := ⟨.TG_LO, 53, 4, .rw, .const, 0⟩
/-- TG_HI.INST, 14_access_gates.md Table 14-7, reset 0. -/
abbrev TG_HI_INST : Fld := ⟨.TG_HI, 0, 12, .rw, .const, 0⟩
/-- TG_HI.LIMIT, 14_access_gates.md Table 14-7, reset 0. -/
abbrev TG_HI_LIMIT : Fld := ⟨.TG_HI, 12, 41, .rw, .const, 0⟩
/-- TG_HI.INST_DEV, 14_access_gates.md Table 14-7, reset 0. -/
abbrev TG_HI_INST_DEV : Fld := ⟨.TG_HI, 56, 2, .rw, .const, 0⟩
/-- TG_HI.INST_ANY, 14_access_gates.md Table 14-7, reset 0. -/
abbrev TG_HI_INST_ANY : Fld := ⟨.TG_HI, 63, 1, .rw, .const, 0⟩
/-- FU_CTRL.ESC_CAP, 15_fault_collection_and_reaction.md Table 15-7, reset 0x1. -/
abbrev FU_CTRL_ESC_CAP : Fld := ⟨.FU_CTRL, 0, 2, .rw, .const, 1⟩
/-- FU_STATUS.EMBER_RUN, 15_fault_collection_and_reaction.md Table 15-7, reset 0. -/
abbrev FU_STATUS_EMBER_RUN : Fld := ⟨.FU_STATUS, 0, 1, .ro, .const, 0⟩
/-- FU_STATUS.FAULT_ASSERTED, 15_fault_collection_and_reaction.md Table 15-7, reset 0. -/
abbrev FU_STATUS_FAULT_ASSERTED : Fld := ⟨.FU_STATUS, 1, 1, .ro, .const, 0⟩
/-- FU_STATUS.CONSEQ_CNT, 15_fault_collection_and_reaction.md Table 15-7, reset 0. -/
abbrev FU_STATUS_CONSEQ_CNT : Fld := ⟨.FU_STATUS, 16, 16, .rc, .const, 0⟩
/-- FU_STATUS.IRQ_MISS, 15_fault_collection_and_reaction.md Table 15-7, reset 0. -/
abbrev FU_STATUS_IRQ_MISS : Fld := ⟨.FU_STATUS, 32, 16, .rc, .const, 0⟩
/-- FU_IRQ_CFG.EN, 15_fault_collection_and_reaction.md Table 15-7, reset 0. -/
abbrev FU_IRQ_CFG_EN : Fld := ⟨.FU_IRQ_CFG, 0, 1, .rw, .const, 0⟩
/-- FU_IRQ_CFG.CLASS_MASK, 15_fault_collection_and_reaction.md Table 15-7, reset 0. -/
abbrev FU_IRQ_CFG_CLASS_MASK : Fld := ⟨.FU_IRQ_CFG, 1, 4, .rw, .const, 0⟩
/-- FU_IRQ_CFG.TID, 15_fault_collection_and_reaction.md Table 15-7, reset 0. -/
abbrev FU_IRQ_CFG_TID : Fld := ⟨.FU_IRQ_CFG, 12, 13, .rw, .const, 0⟩
/-- FU_CMD.OPCODE, 15_fault_collection_and_reaction.md Table 15-8, reset 0. -/
abbrev FU_CMD_OPCODE : Fld := ⟨.FU_CMD, 0, 8, .wo, .const, 0⟩
/-- FU_CMD.TAG, 15_fault_collection_and_reaction.md Table 15-8, reset 0. -/
abbrev FU_CMD_TAG : Fld := ⟨.FU_CMD, 16, 16, .wo, .const, 0⟩
/-- FU_CMD_ARG.CLASS, 15_fault_collection_and_reaction.md Table 15-8, reset 0. -/
abbrev FU_CMD_ARG_CLASS : Fld := ⟨.FU_CMD_ARG, 0, 2, .rw, .const, 0⟩
/-- FU_CMD_ARG.SCOPE, 15_fault_collection_and_reaction.md Table 15-8, reset 0. -/
abbrev FU_CMD_ARG_SCOPE : Fld := ⟨.FU_CMD_ARG, 16, 16, .rw, .const, 0⟩
/-- FU_CMD_STATUS.STATUS, 15_fault_collection_and_reaction.md Table 15-8, reset 0x00. -/
abbrev FU_CMD_STATUS_STATUS : Fld := ⟨.FU_CMD_STATUS, 0, 8, .ro, .const, 0⟩
/-- FU_CMD_STATUS.TAG, 15_fault_collection_and_reaction.md Table 15-8, reset 0. -/
abbrev FU_CMD_STATUS_TAG : Fld := ⟨.FU_CMD_STATUS, 16, 16, .ro, .const, 0⟩
/-- FU_CMD_STATUS.BUSY, 15_fault_collection_and_reaction.md Table 15-8, reset 0. -/
abbrev FU_CMD_STATUS_BUSY : Fld := ⟨.FU_CMD_STATUS, 32, 1, .ro, .const, 0⟩
/-- FU_LOG_CFG.WRAP, 15_fault_collection_and_reaction.md Table 15-9, reset 1. -/
abbrev FU_LOG_CFG_WRAP : Fld := ⟨.FU_LOG_CFG, 0, 1, .rw, .const, 1⟩
/-- FU_LOG_IDX.PROD, 15_fault_collection_and_reaction.md Table 15-9, reset 0. -/
abbrev FU_LOG_IDX_PROD : Fld := ⟨.FU_LOG_IDX, 0, 32, .ro, .const, 0⟩
/-- FU_LOG_IDX.CONS, 15_fault_collection_and_reaction.md Table 15-9, reset 0. -/
abbrev FU_LOG_IDX_CONS : Fld := ⟨.FU_LOG_IDX, 32, 32, .rws, .const, 0⟩
/-- FU_LOG_STATUS.LOG_LOST, 15_fault_collection_and_reaction.md Table 15-9, reset 0. -/
abbrev FU_LOG_STATUS_LOG_LOST : Fld := ⟨.FU_LOG_STATUS, 0, 1, .w1c, .const, 0⟩
/-- FU_LOG_STATUS.HBM_FAIL, 15_fault_collection_and_reaction.md Table 15-9, reset 0. -/
abbrev FU_LOG_STATUS_HBM_FAIL : Fld := ⟨.FU_LOG_STATUS, 1, 1, .w1c, .const, 0⟩
/-- FU_LOG_STATUS.ODL_FAIL, 15_fault_collection_and_reaction.md Table 15-9, reset 0. -/
abbrev FU_LOG_STATUS_ODL_FAIL : Fld := ⟨.FU_LOG_STATUS, 2, 1, .w1c, .const, 0⟩
/-- FU_LOG_STATUS.RING_FULL, 15_fault_collection_and_reaction.md Table 15-9, reset 0. -/
abbrev FU_LOG_STATUS_RING_FULL : Fld := ⟨.FU_LOG_STATUS, 3, 1, .w1c, .const, 0⟩
/-- FU_LOG_STATUS.LOST_CNT, 15_fault_collection_and_reaction.md Table 15-9, reset 0. -/
abbrev FU_LOG_STATUS_LOST_CNT : Fld := ⟨.FU_LOG_STATUS, 16, 16, .ro, .const, 0⟩
/-- FU_LOG_STATUS.DROPPED, 15_fault_collection_and_reaction.md Table 15-9, reset 0. -/
abbrev FU_LOG_STATUS_DROPPED : Fld := ⟨.FU_LOG_STATUS, 32, 16, .rc, .const, 0⟩
/-- FU_LOG_STATUS.OVERWRITTEN, 15_fault_collection_and_reaction.md Table 15-9, reset 0. -/
abbrev FU_LOG_STATUS_OVERWRITTEN : Fld := ⟨.FU_LOG_STATUS, 48, 16, .rc, .const, 0⟩
/-- FU_INJ.SOURCE, 15_fault_collection_and_reaction.md Table 15-11, reset 0. -/
abbrev FU_INJ_SOURCE : Fld := ⟨.FU_INJ, 0, 12, .rw, .const, 0⟩
/-- FU_INJ.SCOPE, 15_fault_collection_and_reaction.md Table 15-11, reset 0. -/
abbrev FU_INJ_SCOPE : Fld := ⟨.FU_INJ, 12, 16, .rw, .const, 0⟩
/-- FU_INJ.INV_MASK, 15_fault_collection_and_reaction.md Table 15-11, reset 0. -/
abbrev FU_INJ_INV_MASK : Fld := ⟨.FU_INJ, 28, 8, .rw, .const, 0⟩
/-- FU_INJ.MODE, 15_fault_collection_and_reaction.md Table 15-11, reset 0. -/
abbrev FU_INJ_MODE : Fld := ⟨.FU_INJ, 36, 1, .rw, .const, 0⟩
/-- FU_INJ.ARMED, 15_fault_collection_and_reaction.md Table 15-11, reset 0. -/
abbrev FU_INJ_ARMED : Fld := ⟨.FU_INJ, 37, 1, .rw, .const, 0⟩
/-- FU_FIRST.RECORD, 15_fault_collection_and_reaction.md Table 15-10, reset 0. -/
abbrev FU_FIRST_RECORD : Fld := ⟨.FU_FIRST, 0, 64, .rws, .const, 0⟩
/-- FU_FIRST5.VALID, 15_fault_collection_and_reaction.md Table 15-10, reset 0. -/
abbrev FU_FIRST5_VALID : Fld := ⟨.FU_FIRST5, 0, 1, .rwsW1c, .const, 0⟩
/-- FU_FIRST5.MORE, 15_fault_collection_and_reaction.md Table 15-10, reset 0. -/
abbrev FU_FIRST5_MORE : Fld := ⟨.FU_FIRST5, 16, 32, .rws, .const, 0⟩
/-- FU_BACKSTOP0.TIME_NS, 15_fault_collection_and_reaction.md Table 15-10, reset 0. -/
abbrev FU_BACKSTOP0_TIME_NS : Fld := ⟨.FU_BACKSTOP0, 0, 64, .ro, .const, 0⟩
/-- FU_BACKSTOP1.VALID, 15_fault_collection_and_reaction.md Table 15-10, reset 0. -/
abbrev FU_BACKSTOP1_VALID : Fld := ⟨.FU_BACKSTOP1, 0, 1, .ro, .const, 0⟩
/-- FU_BACKSTOP1.PART, 15_fault_collection_and_reaction.md Table 15-10, reset 0. -/
abbrev FU_BACKSTOP1_PART : Fld := ⟨.FU_BACKSTOP1, 1, 1, .ro, .const, 0⟩
/-- FU_BACKSTOP1.SOURCE, 15_fault_collection_and_reaction.md Table 15-10, reset 0. -/
abbrev FU_BACKSTOP1_SOURCE : Fld := ⟨.FU_BACKSTOP1, 2, 12, .ro, .const, 0⟩
/-- FU_BACKSTOP1.SYNDROME, 15_fault_collection_and_reaction.md Table 15-10, reset 0. -/
abbrev FU_BACKSTOP1_SYNDROME : Fld := ⟨.FU_BACKSTOP1, 16, 16, .ro, .const, 0⟩
/-- FU_BACKSTOP1.SEQ, 15_fault_collection_and_reaction.md Table 15-10, reset 0. -/
abbrev FU_BACKSTOP1_SEQ : Fld := ⟨.FU_BACKSTOP1, 32, 32, .ro, .const, 0⟩
/-- FU_SRC.LEVEL_CE, 15_fault_collection_and_reaction.md Table 15-11, reset 0x0. -/
abbrev FU_SRC_LEVEL_CE : Fld := ⟨.FU_SRC, 0, 2, .rw, .const, 0⟩
/-- FU_SRC.LEVEL_NC, 15_fault_collection_and_reaction.md Table 15-11, reset 0x1. -/
abbrev FU_SRC_LEVEL_NC : Fld := ⟨.FU_SRC, 2, 2, .rw, .const, 1⟩
/-- FU_SRC.LEVEL_PF, 15_fault_collection_and_reaction.md Table 15-11, reset 0x1. -/
abbrev FU_SRC_LEVEL_PF : Fld := ⟨.FU_SRC, 4, 2, .rw, .const, 1⟩
/-- FU_SRC.LEVEL_DF, 15_fault_collection_and_reaction.md Table 15-11, reset 0x1. -/
abbrev FU_SRC_LEVEL_DF : Fld := ⟨.FU_SRC, 6, 2, .rw, .const, 1⟩
/-- FU_SRC.PRESENT, 15_fault_collection_and_reaction.md Table 15-11, reset 0. -/
abbrev FU_SRC_PRESENT : Fld := ⟨.FU_SRC, 8, 1, .ro, .const, 0⟩
/-- FU_SRC.LATCHED, 15_fault_collection_and_reaction.md Table 15-11, reset 0. -/
abbrev FU_SRC_LATCHED : Fld := ⟨.FU_SRC, 9, 1, .w1c, .const, 0⟩
/-- FU_SRC_CNT.COUNT, 15_fault_collection_and_reaction.md Table 15-11, reset 0. -/
abbrev FU_SRC_CNT_COUNT : Fld := ⟨.FU_SRC_CNT, 0, 32, .rc, .const, 0⟩
/-- STK_CTRL.JOIN_EN, 16_sirfin_links_and_stacks.md Table 16-10, reset 1. -/
abbrev STK_CTRL_JOIN_EN : Fld := ⟨.STK_CTRL, 0, 1, .rw, .const, 1⟩
/-- STK_CTRL.TIME_FWD_EN, 16_sirfin_links_and_stacks.md Table 16-10, reset 1. -/
abbrev STK_CTRL_TIME_FWD_EN : Fld := ⟨.STK_CTRL, 1, 1, .rw, .const, 1⟩
/-- STK_CFG.SPLIT_TMO_US, 16_sirfin_links_and_stacks.md Table 16-10, reset 0x64. -/
abbrev STK_CFG_SPLIT_TMO_US : Fld := ⟨.STK_CFG, 0, 16, .rw, .const, 100⟩
/-- STK_CFG.XT_TMO_US, 16_sirfin_links_and_stacks.md Table 16-10, reset 0x7D0. -/
abbrev STK_CFG_XT_TMO_US : Fld := ⟨.STK_CFG, 16, 20, .rw, .const, 2000⟩
/-- STK_CFG.TS_PERIOD_US, 16_sirfin_links_and_stacks.md Table 16-10, reset 0x3E8. -/
abbrev STK_CFG_TS_PERIOD_US : Fld := ⟨.STK_CFG, 40, 12, .rw, .const, 1000⟩
/-- STK_STATUS.STATE, 16_sirfin_links_and_stacks.md Table 16-10, reset 0. -/
abbrev STK_STATUS_STATE : Fld := ⟨.STK_STATUS, 0, 3, .ro, .const, 0⟩
/-- STK_STATUS.MEMBERS, 16_sirfin_links_and_stacks.md Table 16-10, reset 0. -/
abbrev STK_STATUS_MEMBERS : Fld := ⟨.STK_STATUS, 4, 4, .ro, .const, 0⟩
/-- STK_STATUS.DEPARTED, 16_sirfin_links_and_stacks.md Table 16-10, reset 0. -/
abbrev STK_STATUS_DEPARTED : Fld := ⟨.STK_STATUS, 8, 4, .ro, .const, 0⟩
/-- STK_STATUS.MASTER_DEV, 16_sirfin_links_and_stacks.md Table 16-10, reset 0. -/
abbrev STK_STATUS_MASTER_DEV : Fld := ⟨.STK_STATUS, 12, 2, .ro, .const, 0⟩
/-- STK_STATUS.STACK_ID, 16_sirfin_links_and_stacks.md Table 16-10, reset 0. -/
abbrev STK_STATUS_STACK_ID : Fld := ⟨.STK_STATUS, 16, 32, .ro, .const, 0⟩
/-- STK_TIME.OFFSET_NS, 16_sirfin_links_and_stacks.md Table 16-10, reset 0. -/
abbrev STK_TIME_OFFSET_NS : Fld := ⟨.STK_TIME, 0, 32, .ro, .const, 0⟩
/-- STK_TIME.LOCKED, 16_sirfin_links_and_stacks.md Table 16-10, reset 0. -/
abbrev STK_TIME_LOCKED : Fld := ⟨.STK_TIME, 32, 1, .ro, .const, 0⟩
/-- STK_ERR.SPLIT, 16_sirfin_links_and_stacks.md Table 16-11, reset 0. -/
abbrev STK_ERR_SPLIT : Fld := ⟨.STK_ERR, 0, 1, .w1c, .const, 0⟩
/-- STK_ERR.MASTER_CONFLICT, 16_sirfin_links_and_stacks.md Table 16-11, reset 0. -/
abbrev STK_ERR_MASTER_CONFLICT : Fld := ⟨.STK_ERR, 1, 1, .w1c, .const, 0⟩
/-- STK_ERR.VERSION_MISMATCH, 16_sirfin_links_and_stacks.md Table 16-11, reset 0. -/
abbrev STK_ERR_VERSION_MISMATCH : Fld := ⟨.STK_ERR, 2, 1, .w1c, .const, 0⟩
/-- STK_ERR.DEV_ID_DUP, 16_sirfin_links_and_stacks.md Table 16-11, reset 0. -/
abbrev STK_ERR_DEV_ID_DUP : Fld := ⟨.STK_ERR, 3, 1, .w1c, .const, 0⟩
/-- STK_ERR.AUTH_FAIL, 16_sirfin_links_and_stacks.md Table 16-11, reset 0. -/
abbrev STK_ERR_AUTH_FAIL : Fld := ⟨.STK_ERR, 4, 1, .w1c, .const, 0⟩
/-- STK_ERR.TIME_UNLOCK, 16_sirfin_links_and_stacks.md Table 16-11, reset 0. -/
abbrev STK_ERR_TIME_UNLOCK : Fld := ⟨.STK_ERR, 5, 1, .w1c, .const, 0⟩
/-- STK_ERR.TIME_AHEAD, 16_sirfin_links_and_stacks.md Table 16-11, reset 0. -/
abbrev STK_ERR_TIME_AHEAD : Fld := ⟨.STK_ERR, 6, 1, .w1c, .const, 0⟩
/-- STK_ERR.XT_TMO, 16_sirfin_links_and_stacks.md Table 16-11, reset 0. -/
abbrev STK_ERR_XT_TMO : Fld := ⟨.STK_ERR, 7, 1, .w1c, .const, 0⟩
/-- STK_ERR.JOIN_ABORT, 16_sirfin_links_and_stacks.md Table 16-11, reset 0. -/
abbrev STK_ERR_JOIN_ABORT : Fld := ⟨.STK_ERR, 8, 1, .w1c, .const, 0⟩
/-- STK_CNT.XT_TIMEOUTS, 16_sirfin_links_and_stacks.md Table 16-11, reset 0. -/
abbrev STK_CNT_XT_TIMEOUTS : Fld := ⟨.STK_CNT, 0, 32, .rc, .const, 0⟩
/-- STK_CNT.JOINS, 16_sirfin_links_and_stacks.md Table 16-11, reset 0. -/
abbrev STK_CNT_JOINS : Fld := ⟨.STK_CNT, 32, 16, .rc, .const, 0⟩
/-- STK_PEER.MEMBER, 16_sirfin_links_and_stacks.md Table 16-12, reset 0. -/
abbrev STK_PEER_MEMBER : Fld := ⟨.STK_PEER, 0, 1, .ro, .const, 0⟩
/-- STK_PEER.DEPARTED, 16_sirfin_links_and_stacks.md Table 16-12, reset 0. -/
abbrev STK_PEER_DEPARTED : Fld := ⟨.STK_PEER, 1, 1, .ro, .const, 0⟩
/-- STK_PEER.LINKS, 16_sirfin_links_and_stacks.md Table 16-12, reset 0. -/
abbrev STK_PEER_LINKS : Fld := ⟨.STK_PEER, 4, 4, .ro, .const, 0⟩
/-- STK_PEER.RELAY, 16_sirfin_links_and_stacks.md Table 16-12, reset 0. -/
abbrev STK_PEER_RELAY : Fld := ⟨.STK_PEER, 8, 1, .ro, .const, 0⟩
/-- STK_PEER.FW_VERSION, 16_sirfin_links_and_stacks.md Table 16-12, reset 0. -/
abbrev STK_PEER_FW_VERSION : Fld := ⟨.STK_PEER, 32, 32, .ro, .const, 0⟩
/-- SRF_CFG.EN, 16_sirfin_links_and_stacks.md Table 16-13, reset 1. -/
abbrev SRF_CFG_EN : Fld := ⟨.SRF_CFG, 0, 1, .rw, .const, 1⟩
/-- SRF_CFG.RETRAIN, 16_sirfin_links_and_stacks.md Table 16-13, reset 0. -/
abbrev SRF_CFG_RETRAIN : Fld := ⟨.SRF_CFG, 1, 1, .wo, .const, 0⟩
/-- SRF_CFG.REPLAY_TMO_NS, 16_sirfin_links_and_stacks.md Table 16-13, reset 0x1F4. -/
abbrev SRF_CFG_REPLAY_TMO_NS : Fld := ⟨.SRF_CFG, 4, 12, .rw, .const, 500⟩
/-- SRF_CFG.REPLAY_RETRAIN, 16_sirfin_links_and_stacks.md Table 16-13, reset 0x8. -/
abbrev SRF_CFG_REPLAY_RETRAIN : Fld := ⟨.SRF_CFG, 16, 4, .rw, .const, 8⟩
/-- SRF_CFG.CTRL_PERIOD, 16_sirfin_links_and_stacks.md Table 16-13, reset 0x40. -/
abbrev SRF_CFG_CTRL_PERIOD : Fld := ⟨.SRF_CFG, 24, 8, .rw, .const, 64⟩
/-- SRF_CFG.ASYM_PS, 16_sirfin_links_and_stacks.md Table 16-13, reset 0. -/
abbrev SRF_CFG_ASYM_PS : Fld := ⟨.SRF_CFG, 32, 16, .rw, .const, 0⟩
/-- SRF_CFG.RETRAIN_TMO_US, 16_sirfin_links_and_stacks.md Table 16-13, reset 0xC8. -/
abbrev SRF_CFG_RETRAIN_TMO_US : Fld := ⟨.SRF_CFG, 48, 12, .rw, .const, 200⟩
/-- SRF_STATUS.STATE, 16_sirfin_links_and_stacks.md Table 16-13, reset 0. -/
abbrev SRF_STATUS_STATE : Fld := ⟨.SRF_STATUS, 0, 3, .ro, .const, 0⟩
/-- SRF_STATUS.LOCKED, 16_sirfin_links_and_stacks.md Table 16-13, reset 0. -/
abbrev SRF_STATUS_LOCKED : Fld := ⟨.SRF_STATUS, 3, 1, .ro, .const, 0⟩
/-- SRF_STATUS.IN_SERVICE, 16_sirfin_links_and_stacks.md Table 16-13, reset 0. -/
abbrev SRF_STATUS_IN_SERVICE : Fld := ⟨.SRF_STATUS, 4, 1, .ro, .const, 0⟩
/-- SRF_STATUS.CAUSE, 16_sirfin_links_and_stacks.md Table 16-13, reset 0. -/
abbrev SRF_STATUS_CAUSE : Fld := ⟨.SRF_STATUS, 8, 4, .ro, .const, 0⟩
/-- SRF_STATUS.TX_SEQ, 16_sirfin_links_and_stacks.md Table 16-13, reset 0. -/
abbrev SRF_STATUS_TX_SEQ : Fld := ⟨.SRF_STATUS, 16, 12, .ro, .const, 0⟩
/-- SRF_STATUS.RX_EXP, 16_sirfin_links_and_stacks.md Table 16-13, reset 0. -/
abbrev SRF_STATUS_RX_EXP : Fld := ⟨.SRF_STATUS, 28, 12, .ro, .const, 0⟩
/-- SRF_STATUS.UNACKED, 16_sirfin_links_and_stacks.md Table 16-13, reset 0. -/
abbrev SRF_STATUS_UNACKED : Fld := ⟨.SRF_STATUS, 40, 9, .ro, .const, 0⟩
/-- SRF_PEER.DEV, 16_sirfin_links_and_stacks.md Table 16-14, reset 0. -/
abbrev SRF_PEER_DEV : Fld := ⟨.SRF_PEER, 0, 2, .ro, .const, 0⟩
/-- SRF_PEER.MASTER_STRAP, 16_sirfin_links_and_stacks.md Table 16-14, reset 0. -/
abbrev SRF_PEER_MASTER_STRAP : Fld := ⟨.SRF_PEER, 2, 1, .ro, .const, 0⟩
/-- SRF_PEER.IN_STACK, 16_sirfin_links_and_stacks.md Table 16-14, reset 0. -/
abbrev SRF_PEER_IN_STACK : Fld := ⟨.SRF_PEER, 3, 1, .ro, .const, 0⟩
/-- SRF_PEER.LINK, 16_sirfin_links_and_stacks.md Table 16-14, reset 0. -/
abbrev SRF_PEER_LINK : Fld := ⟨.SRF_PEER, 4, 2, .ro, .const, 0⟩
/-- SRF_PEER.SI_REV, 16_sirfin_links_and_stacks.md Table 16-14, reset 0. -/
abbrev SRF_PEER_SI_REV : Fld := ⟨.SRF_PEER, 8, 16, .ro, .const, 0⟩
/-- SRF_PEER.FW_VERSION, 16_sirfin_links_and_stacks.md Table 16-14, reset 0. -/
abbrev SRF_PEER_FW_VERSION : Fld := ⟨.SRF_PEER, 32, 32, .ro, .const, 0⟩
/-- SRF_CREDIT.REQ_AVAIL, 16_sirfin_links_and_stacks.md Table 16-14, reset 0. -/
abbrev SRF_CREDIT_REQ_AVAIL : Fld := ⟨.SRF_CREDIT, 0, 10, .ro, .const, 0⟩
/-- SRF_CREDIT.SNP_AVAIL, 16_sirfin_links_and_stacks.md Table 16-14, reset 0. -/
abbrev SRF_CREDIT_SNP_AVAIL : Fld := ⟨.SRF_CREDIT, 16, 10, .ro, .const, 0⟩
/-- SRF_CREDIT.RSP_AVAIL, 16_sirfin_links_and_stacks.md Table 16-14, reset 0. -/
abbrev SRF_CREDIT_RSP_AVAIL : Fld := ⟨.SRF_CREDIT, 32, 10, .ro, .const, 0⟩
/-- SRF_CNT.CORR_SYM, 16_sirfin_links_and_stacks.md Table 16-14, reset 0. -/
abbrev SRF_CNT_CORR_SYM : Fld := ⟨.SRF_CNT, 0, 24, .rc, .const, 0⟩
/-- SRF_CNT.UNCORR, 16_sirfin_links_and_stacks.md Table 16-14, reset 0. -/
abbrev SRF_CNT_UNCORR : Fld := ⟨.SRF_CNT, 24, 16, .rc, .const, 0⟩
/-- SRF_CNT.CRC_FAIL, 16_sirfin_links_and_stacks.md Table 16-14, reset 0. -/
abbrev SRF_CNT_CRC_FAIL : Fld := ⟨.SRF_CNT, 40, 12, .rc, .const, 0⟩
/-- SRF_CNT.REPLAYS, 16_sirfin_links_and_stacks.md Table 16-14, reset 0. -/
abbrev SRF_CNT_REPLAYS : Fld := ⟨.SRF_CNT, 52, 12, .rc, .const, 0⟩
/-- SRF_ERR.UNCORR, 16_sirfin_links_and_stacks.md Table 16-15, reset 0. -/
abbrev SRF_ERR_UNCORR : Fld := ⟨.SRF_ERR, 0, 1, .w1c, .const, 0⟩
/-- SRF_ERR.CRC_FAIL, 16_sirfin_links_and_stacks.md Table 16-15, reset 0. -/
abbrev SRF_ERR_CRC_FAIL : Fld := ⟨.SRF_ERR, 1, 1, .w1c, .const, 0⟩
/-- SRF_ERR.REPLAY, 16_sirfin_links_and_stacks.md Table 16-15, reset 0. -/
abbrev SRF_ERR_REPLAY : Fld := ⟨.SRF_ERR, 2, 1, .w1c, .const, 0⟩
/-- SRF_ERR.RETRAIN, 16_sirfin_links_and_stacks.md Table 16-15, reset 0. -/
abbrev SRF_ERR_RETRAIN : Fld := ⟨.SRF_ERR, 3, 1, .w1c, .const, 0⟩
/-- SRF_ERR.LINK_DOWN, 16_sirfin_links_and_stacks.md Table 16-15, reset 0. -/
abbrev SRF_ERR_LINK_DOWN : Fld := ⟨.SRF_ERR, 4, 1, .w1c, .const, 0⟩
/-- SRF_ERR.LOCK_LOST, 16_sirfin_links_and_stacks.md Table 16-15, reset 0. -/
abbrev SRF_ERR_LOCK_LOST : Fld := ⟨.SRF_ERR, 5, 1, .w1c, .const, 0⟩
/-- SRF_ERR.PEER_BAD, 16_sirfin_links_and_stacks.md Table 16-15, reset 0. -/
abbrev SRF_ERR_PEER_BAD : Fld := ⟨.SRF_ERR, 6, 1, .w1c, .const, 0⟩
/-- SRF_ERR.CREDIT_ERR, 16_sirfin_links_and_stacks.md Table 16-15, reset 0. -/
abbrev SRF_ERR_CREDIT_ERR : Fld := ⟨.SRF_ERR, 7, 1, .w1c, .const, 0⟩
/-- SRF_ERR.LANE_FAIL, 16_sirfin_links_and_stacks.md Table 16-15, reset 0. -/
abbrev SRF_ERR_LANE_FAIL : Fld := ⟨.SRF_ERR, 8, 1, .w1c, .const, 0⟩
/-- DMP_GCFG.TOTAL_W, 17_damper_slot_power.md Table 17-8, reset 0x960. -/
abbrev DMP_GCFG_TOTAL_W : Fld := ⟨.DMP_GCFG, 0, 12, .rw, .const, 2400⟩
/-- DMP_GCFG.WIN_MS, 17_damper_slot_power.md Table 17-8, reset 0x64. -/
abbrev DMP_GCFG_WIN_MS : Fld := ⟨.DMP_GCFG, 16, 16, .rw, .const, 100⟩
/-- DMP_GCFG.WARN_VIN_MV, 17_damper_slot_power.md Table 17-8, reset 0x2AF8. -/
abbrev DMP_GCFG_WARN_VIN_MV : Fld := ⟨.DMP_GCFG, 32, 16, .rw, .const, 11000⟩
/-- DMP_PFAIL_CFG.PF_EN, 17_damper_slot_power.md Table 17-8, reset 1. -/
abbrev DMP_PFAIL_CFG_PF_EN : Fld := ⟨.DMP_PFAIL_CFG, 0, 1, .rw, .const, 1⟩
/-- DMP_PFAIL_CFG.PF_MSC_OFF, 17_damper_slot_power.md Table 17-8, reset 1. -/
abbrev DMP_PFAIL_CFG_PF_MSC_OFF : Fld := ⟨.DMP_PFAIL_CFG, 1, 1, .rw, .const, 1⟩
/-- DMP_PFAIL_CFG.PF_FLUSH, 17_damper_slot_power.md Table 17-8, reset 1. -/
abbrev DMP_PFAIL_CFG_PF_FLUSH : Fld := ⟨.DMP_PFAIL_CFG, 2, 1, .rw, .const, 1⟩
/-- DMP_PFAIL_CFG.PF_REFLUSH, 17_damper_slot_power.md Table 17-8, reset 1. -/
abbrev DMP_PFAIL_CFG_PF_REFLUSH : Fld := ⟨.DMP_PFAIL_CFG, 3, 1, .rw, .const, 1⟩
/-- DMP_PFAIL_CFG.PF_WARN, 17_damper_slot_power.md Table 17-8, reset 1. -/
abbrev DMP_PFAIL_CFG_PF_WARN : Fld := ⟨.DMP_PFAIL_CFG, 4, 1, .rw, .const, 1⟩
/-- DMP_PFAIL_CFG.HOLDUP_US, 17_damper_slot_power.md Table 17-8, reset 0x2710. -/
abbrev DMP_PFAIL_CFG_HOLDUP_US : Fld := ⟨.DMP_PFAIL_CFG, 16, 16, .rw, .const, 10000⟩
/-- DMP_GSTATUS.PFAIL_NOW, 17_damper_slot_power.md Table 17-8, reset 0. -/
abbrev DMP_GSTATUS_PFAIL_NOW : Fld := ⟨.DMP_GSTATUS, 0, 1, .ro, .const, 0⟩
/-- DMP_GSTATUS.PF_ACTIVE, 17_damper_slot_power.md Table 17-8, reset 0. -/
abbrev DMP_GSTATUS_PF_ACTIVE : Fld := ⟨.DMP_GSTATUS, 1, 1, .ro, .const, 0⟩
/-- DMP_GSTATUS.PF_DONE, 17_damper_slot_power.md Table 17-8, reset 0. -/
abbrev DMP_GSTATUS_PF_DONE : Fld := ⟨.DMP_GSTATUS, 2, 1, .ro, .const, 0⟩
/-- DMP_GSTATUS.BUDGET_USED_W, 17_damper_slot_power.md Table 17-8, reset 0. -/
abbrev DMP_GSTATUS_BUDGET_USED_W : Fld := ⟨.DMP_GSTATUS, 16, 12, .ro, .const, 0⟩
/-- DMP_GSTATUS.PF_FLUSH_NS, 17_damper_slot_power.md Table 17-8, reset 0. -/
abbrev DMP_GSTATUS_PF_FLUSH_NS : Fld := ⟨.DMP_GSTATUS, 32, 32, .ro, .const, 0⟩
/-- DMP_GERR.PFAIL, 17_damper_slot_power.md Table 17-8, reset 0. -/
abbrev DMP_GERR_PFAIL : Fld := ⟨.DMP_GERR, 0, 1, .w1c, .const, 0⟩
/-- DMP_GERR.PF_LATE, 17_damper_slot_power.md Table 17-8, reset 0. -/
abbrev DMP_GERR_PF_LATE : Fld := ⟨.DMP_GERR, 1, 1, .w1c, .const, 0⟩
/-- DMP_CURVE.I_MA, 17_damper_slot_power.md Table 17-9, reset 0. -/
abbrev DMP_CURVE_I_MA : Fld := ⟨.DMP_CURVE, 0, 16, .rw, .const, 0⟩
/-- DMP_CURVE.EN, 17_damper_slot_power.md Table 17-9, reset 0. -/
abbrev DMP_CURVE_EN : Fld := ⟨.DMP_CURVE, 16, 1, .rw, .const, 0⟩
/-- DMP_CURVE.T_US, 17_damper_slot_power.md Table 17-9, reset 0. -/
abbrev DMP_CURVE_T_US : Fld := ⟨.DMP_CURVE, 24, 24, .rw, .const, 0⟩
/-- DMP_CFG.PORT, 17_damper_slot_power.md Table 17-10, reset 0. -/
abbrev DMP_CFG_PORT : Fld := ⟨.DMP_CFG, 0, 7, .rw, .const, 0⟩
/-- DMP_CFG.PORT_VALID, 17_damper_slot_power.md Table 17-10, reset 0. -/
abbrev DMP_CFG_PORT_VALID : Fld := ⟨.DMP_CFG, 7, 1, .rw, .const, 0⟩
/-- DMP_CFG.CURVE_SEL, 17_damper_slot_power.md Table 17-10, reset 0. -/
abbrev DMP_CFG_CURVE_SEL : Fld := ⟨.DMP_CFG, 8, 3, .rw, .const, 0⟩
/-- DMP_CFG.AUTO_ON, 17_damper_slot_power.md Table 17-10, reset 0. -/
abbrev DMP_CFG_AUTO_ON : Fld := ⟨.DMP_CFG, 11, 1, .rw, .const, 0⟩
/-- DMP_CFG.AUTO_OFF, 17_damper_slot_power.md Table 17-10, reset 0. -/
abbrev DMP_CFG_AUTO_OFF : Fld := ⟨.DMP_CFG, 12, 1, .rw, .const, 0⟩
/-- DMP_CFG.RAMP_VMS, 17_damper_slot_power.md Table 17-10, reset 0x04. -/
abbrev DMP_CFG_RAMP_VMS : Fld := ⟨.DMP_CFG, 16, 5, .rw, .const, 4⟩
/-- DMP_CFG.GATE_TMO_MS, 17_damper_slot_power.md Table 17-10, reset 0x14. -/
abbrev DMP_CFG_GATE_TMO_MS : Fld := ⟨.DMP_CFG, 24, 8, .rw, .const, 20⟩
/-- DMP_CFG.BUDGET_W, 17_damper_slot_power.md Table 17-10, reset 0x60. -/
abbrev DMP_CFG_BUDGET_W : Fld := ⟨.DMP_CFG, 32, 16, .rw, .const, 96⟩
/-- DMP_LIM.FAST_MA, 17_damper_slot_power.md Table 17-10, reset 0. -/
abbrev DMP_LIM_FAST_MA : Fld := ⟨.DMP_LIM, 0, 16, .rw, .const, 0⟩
/-- DMP_LIM.PG_MV, 17_damper_slot_power.md Table 17-10, reset 0x2A30. -/
abbrev DMP_LIM_PG_MV : Fld := ⟨.DMP_LIM, 16, 16, .rw, .const, 10800⟩
/-- DMP_LIM.SHORT_MV, 17_damper_slot_power.md Table 17-10, reset 0x07D0. -/
abbrev DMP_LIM_SHORT_MV : Fld := ⟨.DMP_LIM, 32, 16, .rw, .const, 2000⟩
/-- DMP_LIM.SHORT_DLY_MS, 17_damper_slot_power.md Table 17-10, reset 0x64. -/
abbrev DMP_LIM_SHORT_DLY_MS : Fld := ⟨.DMP_LIM, 48, 8, .rw, .const, 100⟩
/-- DMP_LIM.WARN_PCT, 17_damper_slot_power.md Table 17-10, reset 0x50. -/
abbrev DMP_LIM_WARN_PCT : Fld := ⟨.DMP_LIM, 56, 7, .rw, .const, 80⟩
/-- DMP_CTRL.POWER_ON, 17_damper_slot_power.md Table 17-11, reset 0. -/
abbrev DMP_CTRL_POWER_ON : Fld := ⟨.DMP_CTRL, 0, 1, .wo, .const, 0⟩
/-- DMP_CTRL.POWER_OFF, 17_damper_slot_power.md Table 17-11, reset 0. -/
abbrev DMP_CTRL_POWER_OFF : Fld := ⟨.DMP_CTRL, 1, 1, .wo, .const, 0⟩
/-- DMP_CTRL.FORCE, 17_damper_slot_power.md Table 17-11, reset 0. -/
abbrev DMP_CTRL_FORCE : Fld := ⟨.DMP_CTRL, 2, 1, .wo, .const, 0⟩
/-- DMP_CTRL.CLEAR, 17_damper_slot_power.md Table 17-11, reset 0. -/
abbrev DMP_CTRL_CLEAR : Fld := ⟨.DMP_CTRL, 3, 1, .wo, .const, 0⟩
/-- DMP_CTRL.FORCE_WARN, 17_damper_slot_power.md Table 17-11, reset 0. -/
abbrev DMP_CTRL_FORCE_WARN : Fld := ⟨.DMP_CTRL, 8, 1, .rw, .const, 0⟩
/-- DMP_STATUS.STATE, 17_damper_slot_power.md Table 17-11, reset 0. -/
abbrev DMP_STATUS_STATE : Fld := ⟨.DMP_STATUS, 0, 3, .ro, .const, 0⟩
/-- DMP_STATUS.PRESENT, 17_damper_slot_power.md Table 17-11, reset 0. -/
abbrev DMP_STATUS_PRESENT : Fld := ⟨.DMP_STATUS, 3, 1, .ro, .const, 0⟩
/-- DMP_STATUS.PWRWARN, 17_damper_slot_power.md Table 17-11, reset 0. -/
abbrev DMP_STATUS_PWRWARN : Fld := ⟨.DMP_STATUS, 4, 1, .ro, .const, 0⟩
/-- DMP_STATUS.SHORT_NOW, 17_damper_slot_power.md Table 17-11, reset 0. -/
abbrev DMP_STATUS_SHORT_NOW : Fld := ⟨.DMP_STATUS, 5, 1, .ro, .const, 0⟩
/-- DMP_STATUS.TRIP_CAUSE, 17_damper_slot_power.md Table 17-11, reset 0. -/
abbrev DMP_STATUS_TRIP_CAUSE : Fld := ⟨.DMP_STATUS, 8, 4, .ro, .const, 0⟩
/-- DMP_STATUS.TRIP_POINT, 17_damper_slot_power.md Table 17-11, reset 0. -/
abbrev DMP_STATUS_TRIP_POINT : Fld := ⟨.DMP_STATUS, 12, 3, .ro, .const, 0⟩
/-- DMP_STATUS.CMD_STATUS, 17_damper_slot_power.md Table 17-11, reset 0x00. -/
abbrev DMP_STATUS_CMD_STATUS : Fld := ⟨.DMP_STATUS, 16, 8, .ro, .const, 0⟩
/-- DMP_STATUS.TRIPS, 17_damper_slot_power.md Table 17-11, reset 0. -/
abbrev DMP_STATUS_TRIPS : Fld := ⟨.DMP_STATUS, 32, 16, .rc, .const, 0⟩
/-- DMP_MEAS.I_MA, 17_damper_slot_power.md Table 17-11, reset 0. -/
abbrev DMP_MEAS_I_MA : Fld := ⟨.DMP_MEAS, 0, 16, .ro, .const, 0⟩
/-- DMP_MEAS.VIN_MV, 17_damper_slot_power.md Table 17-11, reset 0. -/
abbrev DMP_MEAS_VIN_MV : Fld := ⟨.DMP_MEAS, 16, 16, .ro, .const, 0⟩
/-- DMP_MEAS.VOUT_MV, 17_damper_slot_power.md Table 17-11, reset 0. -/
abbrev DMP_MEAS_VOUT_MV : Fld := ⟨.DMP_MEAS, 32, 16, .ro, .const, 0⟩
/-- DMP_MEAS.GATE_OV_MV, 17_damper_slot_power.md Table 17-11, reset 0. -/
abbrev DMP_MEAS_GATE_OV_MV : Fld := ⟨.DMP_MEAS, 48, 16, .ro, .const, 0⟩
/-- DMP_CAP.PEAK_MA, 17_damper_slot_power.md Table 17-11, reset 0. -/
abbrev DMP_CAP_PEAK_MA : Fld := ⟨.DMP_CAP, 0, 16, .ro, .const, 0⟩
/-- DMP_CAP.MIN_VOUT_MV, 17_damper_slot_power.md Table 17-11, reset 0. -/
abbrev DMP_CAP_MIN_VOUT_MV : Fld := ⟨.DMP_CAP, 16, 16, .ro, .const, 0⟩
/-- DMP_CAP.MIN_VIN_MV, 17_damper_slot_power.md Table 17-11, reset 0. -/
abbrev DMP_CAP_MIN_VIN_MV : Fld := ⟨.DMP_CAP, 32, 16, .ro, .const, 0⟩
/-- DMP_CAP.PEAK_HOLD_MA, 17_damper_slot_power.md Table 17-11, reset 0. -/
abbrev DMP_CAP_PEAK_HOLD_MA : Fld := ⟨.DMP_CAP, 48, 16, .rc, .const, 0⟩
/-- DMP_ERR.TRIP_CURVE, 17_damper_slot_power.md Table 17-11, reset 0. -/
abbrev DMP_ERR_TRIP_CURVE : Fld := ⟨.DMP_ERR, 0, 1, .w1c, .const, 0⟩
/-- DMP_ERR.TRIP_FAST, 17_damper_slot_power.md Table 17-11, reset 0. -/
abbrev DMP_ERR_TRIP_FAST : Fld := ⟨.DMP_ERR, 1, 1, .w1c, .const, 0⟩
/-- DMP_ERR.GATE_FAIL, 17_damper_slot_power.md Table 17-11, reset 0. -/
abbrev DMP_ERR_GATE_FAIL : Fld := ⟨.DMP_ERR, 2, 1, .w1c, .const, 0⟩
/-- DMP_ERR.PG_FAIL, 17_damper_slot_power.md Table 17-11, reset 0. -/
abbrev DMP_ERR_PG_FAIL : Fld := ⟨.DMP_ERR, 3, 1, .w1c, .const, 0⟩
/-- DMP_ERR.FET_SHORT, 17_damper_slot_power.md Table 17-11, reset 0. -/
abbrev DMP_ERR_FET_SHORT : Fld := ⟨.DMP_ERR, 4, 1, .w1c, .const, 0⟩
/-- DMP_ERR.PRESENCE_LOST, 17_damper_slot_power.md Table 17-11, reset 0. -/
abbrev DMP_ERR_PRESENCE_LOST : Fld := ⟨.DMP_ERR, 5, 1, .w1c, .const, 0⟩
/-- DMP_ERR.WARN_VIN, 17_damper_slot_power.md Table 17-11, reset 0. -/
abbrev DMP_ERR_WARN_VIN : Fld := ⟨.DMP_ERR, 6, 1, .w1c, .const, 0⟩
/-- HJ_STATUS.LIFECYCLE, 18_hjelvon_security.md Table 18-9, reset fused. -/
abbrev HJ_STATUS_LIFECYCLE : Fld := ⟨.HJ_STATUS, 0, 2, .ro, .const, 0⟩
/-- HJ_STATUS.APPROVED, 18_hjelvon_security.md Table 18-9, reset 0. -/
abbrev HJ_STATUS_APPROVED : Fld := ⟨.HJ_STATUS, 2, 1, .ro, .const, 0⟩
/-- HJ_STATUS.ERROR_STATE, 18_hjelvon_security.md Table 18-9, reset 0. -/
abbrev HJ_STATUS_ERROR_STATE : Fld := ⟨.HJ_STATUS, 3, 1, .ro, .const, 0⟩
/-- HJ_STATUS.SELFTEST_OK, 18_hjelvon_security.md Table 18-9, reset 0. -/
abbrev HJ_STATUS_SELFTEST_OK : Fld := ⟨.HJ_STATUS, 4, 1, .ro, .const, 0⟩
/-- HJ_STATUS.DEBUG_LEVEL, 18_hjelvon_security.md Table 18-9, reset fused. -/
abbrev HJ_STATUS_DEBUG_LEVEL : Fld := ⟨.HJ_STATUS, 8, 2, .ro, .const, 0⟩
/-- HJ_STATUS.ROOT_IDX, 18_hjelvon_security.md Table 18-9, reset 0. -/
abbrev HJ_STATUS_ROOT_IDX : Fld := ⟨.HJ_STATUS, 12, 2, .ro, .const, 0⟩
/-- HJ_STATUS.BOOT_SLOT, 18_hjelvon_security.md Table 18-9, reset 0. -/
abbrev HJ_STATUS_BOOT_SLOT : Fld := ⟨.HJ_STATUS, 16, 1, .ro, .const, 0⟩
/-- HJ_VERSION.KINDLING_REV, 18_hjelvon_security.md Table 18-9, reset 0x0002. -/
abbrev HJ_VERSION_KINDLING_REV : Fld := ⟨.HJ_VERSION, 0, 16, .ro, .const, 2⟩
/-- HJ_VERSION.FW_VERSION, 18_hjelvon_security.md Table 18-9, reset 0. -/
abbrev HJ_VERSION_FW_VERSION : Fld := ⟨.HJ_VERSION, 32, 32, .ro, .const, 0⟩
/-- HJ_BOOT_STATUS.FAIL_A, 18_hjelvon_security.md Table 18-9, reset 0. -/
abbrev HJ_BOOT_STATUS_FAIL_A : Fld := ⟨.HJ_BOOT_STATUS, 0, 8, .ro, .const, 0⟩
/-- HJ_BOOT_STATUS.FAIL_B, 18_hjelvon_security.md Table 18-9, reset 0. -/
abbrev HJ_BOOT_STATUS_FAIL_B : Fld := ⟨.HJ_BOOT_STATUS, 8, 8, .ro, .const, 0⟩
/-- HJ_BOOT_STATUS.PAGES_REREAD, 18_hjelvon_security.md Table 18-9, reset 0. -/
abbrev HJ_BOOT_STATUS_PAGES_REREAD : Fld := ⟨.HJ_BOOT_STATUS, 16, 16, .rc, .const, 0⟩
/-- HJ_BOOT_STATUS.BOOT_US, 18_hjelvon_security.md Table 18-9, reset 0. -/
abbrev HJ_BOOT_STATUS_BOOT_US : Fld := ⟨.HJ_BOOT_STATUS, 32, 32, .ro, .const, 0⟩
/-- HJ_ERR.ENT_FAIL, 18_hjelvon_security.md Table 18-10, reset 0. -/
abbrev HJ_ERR_ENT_FAIL : Fld := ⟨.HJ_ERR, 0, 1, .w1c, .const, 0⟩
/-- HJ_ERR.KAT_FAIL, 18_hjelvon_security.md Table 18-10, reset 0. -/
abbrev HJ_ERR_KAT_FAIL : Fld := ⟨.HJ_ERR, 1, 1, .w1c, .const, 0⟩
/-- HJ_ERR.PAGE_BAD, 18_hjelvon_security.md Table 18-10, reset 0. -/
abbrev HJ_ERR_PAGE_BAD : Fld := ⟨.HJ_ERR, 2, 1, .w1c, .const, 0⟩
/-- HJ_ERR.HOLD_PENDING, 18_hjelvon_security.md Table 18-10, reset 0. -/
abbrev HJ_ERR_HOLD_PENDING : Fld := ⟨.HJ_ERR, 3, 1, .w1c, .const, 0⟩
/-- HJ_ERR.KEY_ABORT, 18_hjelvon_security.md Table 18-10, reset 0. -/
abbrev HJ_ERR_KEY_ABORT : Fld := ⟨.HJ_ERR, 4, 1, .w1c, .const, 0⟩
/-- HJ_ERR.BOOT_FALLBACK, 18_hjelvon_security.md Table 18-10, reset 0. -/
abbrev HJ_ERR_BOOT_FALLBACK : Fld := ⟨.HJ_ERR, 5, 1, .w1c, .const, 0⟩
/-- HJ_ERR.TALLY_REFUSED, 18_hjelvon_security.md Table 18-10, reset 0. -/
abbrev HJ_ERR_TALLY_REFUSED : Fld := ⟨.HJ_ERR, 6, 1, .w1c, .const, 0⟩
/-- HJ_ERR.STACK_PIN, 18_hjelvon_security.md Table 18-10, reset 0. -/
abbrev HJ_ERR_STACK_PIN : Fld := ⟨.HJ_ERR, 7, 1, .w1c, .const, 0⟩
/-- HJ_DRBG_STATUS.HEALTHY, 18_hjelvon_security.md Table 18-10, reset 0. -/
abbrev HJ_DRBG_STATUS_HEALTHY : Fld := ⟨.HJ_DRBG_STATUS, 0, 1, .ro, .const, 0⟩
/-- HJ_DRBG_STATUS.INSTANTIATED, 18_hjelvon_security.md Table 18-10, reset 0. -/
abbrev HJ_DRBG_STATUS_INSTANTIATED : Fld := ⟨.HJ_DRBG_STATUS, 1, 1, .ro, .const, 0⟩
/-- HJ_DRBG_STATUS.RECOVERY_TRIES, 18_hjelvon_security.md Table 18-10, reset 0. -/
abbrev HJ_DRBG_STATUS_RECOVERY_TRIES : Fld := ⟨.HJ_DRBG_STATUS, 8, 2, .ro, .const, 0⟩
/-- HJ_DRBG_STATUS.RESEEDS, 18_hjelvon_security.md Table 18-10, reset 0. -/
abbrev HJ_DRBG_STATUS_RESEEDS : Fld := ⟨.HJ_DRBG_STATUS, 32, 32, .rc, .const, 0⟩
/-- HJ_GATE.CLK_OFF, 18_hjelvon_security.md Table 18-11, reset 0. -/
abbrev HJ_GATE_CLK_OFF : Fld := ⟨.HJ_GATE, 0, 1, .rw, .const, 0⟩
/-- HJ_GATE.PWR_OFF, 18_hjelvon_security.md Table 18-11, reset 0. -/
abbrev HJ_GATE_PWR_OFF : Fld := ⟨.HJ_GATE, 1, 1, .rw, .const, 0⟩
/-- HJ_GATE.PENDING, 18_hjelvon_security.md Table 18-11, reset 0. -/
abbrev HJ_GATE_PENDING : Fld := ⟨.HJ_GATE, 8, 1, .ro, .const, 0⟩
/-- HJ_GATE.HELD, 18_hjelvon_security.md Table 18-11, reset 0. -/
abbrev HJ_GATE_HELD : Fld := ⟨.HJ_GATE, 9, 1, .ro, .const, 0⟩
/-- HJ_GATE.CLK_GATED, 18_hjelvon_security.md Table 18-11, reset 0. -/
abbrev HJ_GATE_CLK_GATED : Fld := ⟨.HJ_GATE, 10, 1, .ro, .const, 0⟩
/-- HJ_GATE.PWR_GATED, 18_hjelvon_security.md Table 18-11, reset 0. -/
abbrev HJ_GATE_PWR_GATED : Fld := ⟨.HJ_GATE, 11, 1, .ro, .const, 0⟩
/-- HJ_GATE.LAST_STATUS, 18_hjelvon_security.md Table 18-11, reset 0x00. -/
abbrev HJ_GATE_LAST_STATUS : Fld := ⟨.HJ_GATE, 16, 8, .ro, .const, 0⟩
/-- HJ_CMD.OPCODE, 18_hjelvon_security.md Table 18-12, reset 0. -/
abbrev HJ_CMD_OPCODE : Fld := ⟨.HJ_CMD, 0, 8, .wo, .const, 0⟩
/-- HJ_CMD.TAG, 18_hjelvon_security.md Table 18-12, reset 0. -/
abbrev HJ_CMD_TAG : Fld := ⟨.HJ_CMD, 16, 16, .wo, .const, 0⟩
/-- HJ_ARG.ARG, 18_hjelvon_security.md Table 18-12, reset 0. -/
abbrev HJ_ARG_ARG : Fld := ⟨.HJ_ARG, 0, 64, .rw, .const, 0⟩
/-- HJ_RESP.STATUS, 18_hjelvon_security.md Table 18-12, reset 0x00. -/
abbrev HJ_RESP_STATUS : Fld := ⟨.HJ_RESP, 0, 8, .ro, .const, 0⟩
/-- HJ_RESP.TAG, 18_hjelvon_security.md Table 18-12, reset 0. -/
abbrev HJ_RESP_TAG : Fld := ⟨.HJ_RESP, 16, 16, .ro, .const, 0⟩
/-- HJ_RESP.BUSY, 18_hjelvon_security.md Table 18-12, reset 0. -/
abbrev HJ_RESP_BUSY : Fld := ⟨.HJ_RESP, 32, 1, .ro, .const, 0⟩
/-- HJ_RESP.TAG_FAIL, 18_hjelvon_security.md Table 18-12, reset 0. -/
abbrev HJ_RESP_TAG_FAIL : Fld := ⟨.HJ_RESP, 33, 1, .ro, .const, 0⟩
/-- HJ_RES.RES, 18_hjelvon_security.md Table 18-12, reset 0. -/
abbrev HJ_RES_RES : Fld := ⟨.HJ_RES, 0, 64, .ro, .const, 0⟩
/-- BR_CFG.ACC_TMO_US, 19_sideband_management_bridge.md Table 19-5, reset 0x64. -/
abbrev BR_CFG_ACC_TMO_US : Fld := ⟨.BR_CFG, 0, 16, .rw, .const, 100⟩
/-- BR_CFG.SMB_ADDR, 19_sideband_management_bridge.md Table 19-5, reset 0x4D. -/
abbrev BR_CFG_SMB_ADDR : Fld := ⟨.BR_CFG, 16, 7, .rw, .const, 77⟩
/-- BR_CFG.SMB_SPEED, 19_sideband_management_bridge.md Table 19-5, reset 0x1. -/
abbrev BR_CFG_SMB_SPEED : Fld := ⟨.BR_CFG, 24, 2, .rw, .const, 1⟩
/-- BR_CFG.SMB_EN, 19_sideband_management_bridge.md Table 19-5, reset 1. -/
abbrev BR_CFG_SMB_EN : Fld := ⟨.BR_CFG, 28, 1, .rw, .const, 1⟩
/-- BR_CFG.NOTICE_TID, 19_sideband_management_bridge.md Table 19-5, reset 0. -/
abbrev BR_CFG_NOTICE_TID : Fld := ⟨.BR_CFG, 32, 13, .rw, .const, 0⟩
/-- BR_CFG.NOTICE_EN, 19_sideband_management_bridge.md Table 19-5, reset 0. -/
abbrev BR_CFG_NOTICE_EN : Fld := ⟨.BR_CFG, 45, 1, .rw, .const, 0⟩
/-- BR_STATUS.LAST_TAG, 19_sideband_management_bridge.md Table 19-5, reset 0. -/
abbrev BR_STATUS_LAST_TAG : Fld := ⟨.BR_STATUS, 0, 8, .ro, .const, 0⟩
/-- BR_STATUS.LAST_STATUS, 19_sideband_management_bridge.md Table 19-5, reset 0x00. -/
abbrev BR_STATUS_LAST_STATUS : Fld := ⟨.BR_STATUS, 8, 8, .ro, .const, 0⟩
/-- BR_STATUS.SPI_BUSY, 19_sideband_management_bridge.md Table 19-5, reset 0. -/
abbrev BR_STATUS_SPI_BUSY : Fld := ⟨.BR_STATUS, 16, 1, .ro, .const, 0⟩
/-- BR_STATUS.RX_HELD, 19_sideband_management_bridge.md Table 19-5, reset 0. -/
abbrev BR_STATUS_RX_HELD : Fld := ⟨.BR_STATUS, 24, 8, .ro, .const, 0⟩
/-- BR_STATUS.TX_BUSY, 19_sideband_management_bridge.md Table 19-5, reset 0. -/
abbrev BR_STATUS_TX_BUSY : Fld := ⟨.BR_STATUS, 32, 4, .ro, .const, 0⟩
/-- BR_STATUS.BACKOFFS, 19_sideband_management_bridge.md Table 19-5, reset 0. -/
abbrev BR_STATUS_BACKOFFS : Fld := ⟨.BR_STATUS, 48, 16, .rc, .const, 0⟩
/-- BR_CNT.FRAME_DISCARDS, 19_sideband_management_bridge.md Table 19-5, reset 0. -/
abbrev BR_CNT_FRAME_DISCARDS : Fld := ⟨.BR_CNT, 0, 16, .rc, .const, 0⟩
/-- BR_CNT.CRC_BAD, 19_sideband_management_bridge.md Table 19-5, reset 0. -/
abbrev BR_CNT_CRC_BAD : Fld := ⟨.BR_CNT, 16, 16, .rc, .const, 0⟩
/-- BR_CNT.PEC_BAD, 19_sideband_management_bridge.md Table 19-5, reset 0. -/
abbrev BR_CNT_PEC_BAD : Fld := ⟨.BR_CNT, 32, 16, .rc, .const, 0⟩
/-- BR_CNT.REASM_DROP, 19_sideband_management_bridge.md Table 19-5, reset 0. -/
abbrev BR_CNT_REASM_DROP : Fld := ⟨.BR_CNT, 48, 16, .rc, .const, 0⟩
/-- BR_ERR.SPI_FRAME, 19_sideband_management_bridge.md Table 19-6, reset 0. -/
abbrev BR_ERR_SPI_FRAME : Fld := ⟨.BR_ERR, 0, 1, .w1c, .const, 0⟩
/-- BR_ERR.SPI_CRC, 19_sideband_management_bridge.md Table 19-6, reset 0. -/
abbrev BR_ERR_SPI_CRC : Fld := ⟨.BR_ERR, 1, 1, .w1c, .const, 0⟩
/-- BR_ERR.SMB_PEC, 19_sideband_management_bridge.md Table 19-6, reset 0. -/
abbrev BR_ERR_SMB_PEC : Fld := ⟨.BR_ERR, 2, 1, .w1c, .const, 0⟩
/-- BR_ERR.MCTP_REASM, 19_sideband_management_bridge.md Table 19-6, reset 0. -/
abbrev BR_ERR_MCTP_REASM : Fld := ⟨.BR_ERR, 3, 1, .w1c, .const, 0⟩
/-- BR_ERR.EXP_NAK, 19_sideband_management_bridge.md Table 19-6, reset 0. -/
abbrev BR_ERR_EXP_NAK : Fld := ⟨.BR_ERR, 4, 1, .w1c, .const, 0⟩
/-- BR_ERR.SWEEP_OVERRUN, 19_sideband_management_bridge.md Table 19-6, reset 0. -/
abbrev BR_ERR_SWEEP_OVERRUN : Fld := ⟨.BR_ERR, 5, 1, .w1c, .const, 0⟩
/-- BR_ERR.ACC_TMO, 19_sideband_management_bridge.md Table 19-6, reset 0. -/
abbrev BR_ERR_ACC_TMO : Fld := ⟨.BR_ERR, 6, 1, .w1c, .const, 0⟩
/-- BR_ALERT.PEND, 19_sideband_management_bridge.md Table 19-6, reset 0. -/
abbrev BR_ALERT_PEND : Fld := ⟨.BR_ALERT, 0, 1, .w1c, .const, 0⟩
/-- BR_ALERT.ALERT_MASK, 19_sideband_management_bridge.md Table 19-6, reset 0xE. -/
abbrev BR_ALERT_ALERT_MASK : Fld := ⟨.BR_ALERT, 1, 4, .rw, .const, 14⟩
/-- BR_CMT.GO, 19_sideband_management_bridge.md Table 19-8, reset 0. -/
abbrev BR_CMT_GO : Fld := ⟨.BR_CMT, 0, 1, .wo, .const, 0⟩
/-- BR_CMT.ABORT, 19_sideband_management_bridge.md Table 19-8, reset 0. -/
abbrev BR_CMT_ABORT : Fld := ⟨.BR_CMT, 1, 1, .wo, .const, 0⟩
/-- BR_CMT.EXPECT_EN, 19_sideband_management_bridge.md Table 19-8, reset 0. -/
abbrev BR_CMT_EXPECT_EN : Fld := ⟨.BR_CMT, 2, 1, .wo, .const, 0⟩
/-- BR_CMT.TAG, 19_sideband_management_bridge.md Table 19-8, reset 0. -/
abbrev BR_CMT_TAG : Fld := ⟨.BR_CMT, 16, 16, .wo, .const, 0⟩
/-- BR_CMT.EXPECT_EPOCH, 19_sideband_management_bridge.md Table 19-8, reset 0. -/
abbrev BR_CMT_EXPECT_EPOCH : Fld := ⟨.BR_CMT, 32, 32, .wo, .const, 0⟩
/-- BR_CMT_STATUS.STATUS, 19_sideband_management_bridge.md Table 19-8, reset 0x00. -/
abbrev BR_CMT_STATUS_STATUS : Fld := ⟨.BR_CMT_STATUS, 0, 8, .ro, .const, 0⟩
/-- BR_CMT_STATUS.BUSY, 19_sideband_management_bridge.md Table 19-8, reset 0. -/
abbrev BR_CMT_STATUS_BUSY : Fld := ⟨.BR_CMT_STATUS, 8, 1, .ro, .const, 0⟩
/-- BR_CMT_STATUS.TAG, 19_sideband_management_bridge.md Table 19-8, reset 0. -/
abbrev BR_CMT_STATUS_TAG : Fld := ⟨.BR_CMT_STATUS, 16, 16, .ro, .const, 0⟩
/-- BR_CMT_STATUS.EPOCH, 19_sideband_management_bridge.md Table 19-8, reset 0. -/
abbrev BR_CMT_STATUS_EPOCH : Fld := ⟨.BR_CMT_STATUS, 32, 32, .ro, .const, 0⟩
/-- SMB_TX_CMD.BUF, 19_sideband_management_bridge.md Table 19-6, reset 0. -/
abbrev SMB_TX_CMD_BUF : Fld := ⟨.SMB_TX_CMD, 0, 2, .wo, .const, 0⟩
/-- SMB_TX_CMD.TO, 19_sideband_management_bridge.md Table 19-6, reset 0. -/
abbrev SMB_TX_CMD_TO : Fld := ⟨.SMB_TX_CMD, 2, 1, .wo, .const, 0⟩
/-- SMB_TX_CMD.MSG_TAG, 19_sideband_management_bridge.md Table 19-6, reset 0. -/
abbrev SMB_TX_CMD_MSG_TAG : Fld := ⟨.SMB_TX_CMD, 3, 3, .wo, .const, 0⟩
/-- SMB_TX_CMD.LEN, 19_sideband_management_bridge.md Table 19-6, reset 0. -/
abbrev SMB_TX_CMD_LEN : Fld := ⟨.SMB_TX_CMD, 8, 13, .wo, .const, 0⟩
/-- SMB_TX_CMD.DEST_ADDR, 19_sideband_management_bridge.md Table 19-6, reset 0. -/
abbrev SMB_TX_CMD_DEST_ADDR : Fld := ⟨.SMB_TX_CMD, 21, 7, .wo, .const, 0⟩
/-- SMB_TX_CMD.DEST_EID, 19_sideband_management_bridge.md Table 19-6, reset 0. -/
abbrev SMB_TX_CMD_DEST_EID : Fld := ⟨.SMB_TX_CMD, 32, 8, .wo, .const, 0⟩
/-- SMB_TX_CMD.SRC_EID, 19_sideband_management_bridge.md Table 19-6, reset 0. -/
abbrev SMB_TX_CMD_SRC_EID : Fld := ⟨.SMB_TX_CMD, 40, 8, .wo, .const, 0⟩
/-- SMB_TX_CMD.GO, 19_sideband_management_bridge.md Table 19-6, reset 0. -/
abbrev SMB_TX_CMD_GO : Fld := ⟨.SMB_TX_CMD, 63, 1, .wo, .const, 0⟩
/-- SMB_RX_REL.RELEASE, 19_sideband_management_bridge.md Table 19-6, reset 0. -/
abbrev SMB_RX_REL_RELEASE : Fld := ⟨.SMB_RX_REL, 0, 8, .wo, .const, 0⟩
/-- SB_CFG.POLL_US, 19_sideband_management_bridge.md Table 19-7, reset 0x3E8. -/
abbrev SB_CFG_POLL_US : Fld := ⟨.SB_CFG, 0, 17, .rw, .const, 1000⟩
/-- SB_CFG.DEBOUNCE, 19_sideband_management_bridge.md Table 19-7, reset 0x2. -/
abbrev SB_CFG_DEBOUNCE : Fld := ⟨.SB_CFG, 20, 4, .rw, .const, 2⟩
/-- SB_CFG.SB_EN, 19_sideband_management_bridge.md Table 19-7, reset 1. -/
abbrev SB_CFG_SB_EN : Fld := ⟨.SB_CFG, 24, 1, .rw, .const, 1⟩
/-- SB_CFG.SB_SPEED, 19_sideband_management_bridge.md Table 19-7, reset 0x2. -/
abbrev SB_CFG_SB_SPEED : Fld := ⟨.SB_CFG, 25, 2, .rw, .const, 2⟩
/-- SB_STATUS.SWEEP_US, 19_sideband_management_bridge.md Table 19-7, reset 0. -/
abbrev SB_STATUS_SWEEP_US : Fld := ⟨.SB_STATUS, 0, 16, .ro, .const, 0⟩
/-- SB_STATUS.SWEEP_MAX_US, 19_sideband_management_bridge.md Table 19-7, reset 0. -/
abbrev SB_STATUS_SWEEP_MAX_US : Fld := ⟨.SB_STATUS, 16, 16, .rc, .const, 0⟩
/-- SB_STATUS.OVERRUNS, 19_sideband_management_bridge.md Table 19-7, reset 0. -/
abbrev SB_STATUS_OVERRUNS : Fld := ⟨.SB_STATUS, 32, 16, .rc, .const, 0⟩
/-- SB_EXP.ADDR, 19_sideband_management_bridge.md Table 19-7, reset 0. -/
abbrev SB_EXP_ADDR : Fld := ⟨.SB_EXP, 0, 7, .rw, .const, 0⟩
/-- SB_EXP.VALID, 19_sideband_management_bridge.md Table 19-7, reset 0. -/
abbrev SB_EXP_VALID : Fld := ⟨.SB_EXP, 7, 1, .rw, .const, 0⟩
/-- SB_EXP.NAK, 19_sideband_management_bridge.md Table 19-7, reset 0. -/
abbrev SB_EXP_NAK : Fld := ⟨.SB_EXP, 8, 1, .ro, .const, 0⟩
/-- SB_SLOT.PRESENT, 19_sideband_management_bridge.md Table 19-7, reset 0. -/
abbrev SB_SLOT_PRESENT : Fld := ⟨.SB_SLOT, 0, 1, .ro, .const, 0⟩
/-- SB_SLOT.ATTN, 19_sideband_management_bridge.md Table 19-7, reset 0. -/
abbrev SB_SLOT_ATTN : Fld := ⟨.SB_SLOT, 1, 1, .ro, .const, 0⟩
/-- SB_SLOT.ALERT, 19_sideband_management_bridge.md Table 19-7, reset 0. -/
abbrev SB_SLOT_ALERT : Fld := ⟨.SB_SLOT, 2, 1, .ro, .const, 0⟩
/-- SB_SLOT.PWRGD, 19_sideband_management_bridge.md Table 19-7, reset 0. -/
abbrev SB_SLOT_PWRGD : Fld := ⟨.SB_SLOT, 3, 1, .ro, .const, 0⟩
/-- SB_SLOT.PRESENT_CHG, 19_sideband_management_bridge.md Table 19-7, reset 0. -/
abbrev SB_SLOT_PRESENT_CHG : Fld := ⟨.SB_SLOT, 8, 1, .w1c, .const, 0⟩
/-- SB_SLOT.ATTN_CHG, 19_sideband_management_bridge.md Table 19-7, reset 0. -/
abbrev SB_SLOT_ATTN_CHG : Fld := ⟨.SB_SLOT, 9, 1, .w1c, .const, 0⟩
/-- SB_SLOT.ALERT_CHG, 19_sideband_management_bridge.md Table 19-7, reset 0. -/
abbrev SB_SLOT_ALERT_CHG : Fld := ⟨.SB_SLOT, 10, 1, .w1c, .const, 0⟩
/-- SB_SLOT.PWRGD_CHG, 19_sideband_management_bridge.md Table 19-7, reset 0. -/
abbrev SB_SLOT_PWRGD_CHG : Fld := ⟨.SB_SLOT, 11, 1, .w1c, .const, 0⟩
/-- PU_STATUS.STAGE, 20_power_up_self_test_and_pilot_light.md Table 20-10, reset 0x00. -/
abbrev PU_STATUS_STAGE : Fld := ⟨.PU_STATUS, 0, 8, .ro, .const, 0⟩
/-- PU_STATUS.CAUSE, 20_power_up_self_test_and_pilot_light.md Table 20-10, reset 0x00. -/
abbrev PU_STATUS_CAUSE : Fld := ⟨.PU_STATUS, 8, 8, .ro, .const, 0⟩
/-- PU_STATUS.DETAIL, 20_power_up_self_test_and_pilot_light.md Table 20-10, reset 0. -/
abbrev PU_STATUS_DETAIL : Fld := ⟨.PU_STATUS, 16, 16, .ro, .const, 0⟩
/-- PU_STATUS.PILOT, 20_power_up_self_test_and_pilot_light.md Table 20-10, reset 0. -/
abbrev PU_STATUS_PILOT : Fld := ⟨.PU_STATUS, 32, 1, .ro, .const, 0⟩
/-- PU_STATUS.LAST_RESET, 20_power_up_self_test_and_pilot_light.md Table 20-10, reset 0. -/
abbrev PU_STATUS_LAST_RESET : Fld := ⟨.PU_STATUS, 33, 2, .ro, .const, 0⟩
/-- PU_STATUS.PILOT_ENTRIES, 20_power_up_self_test_and_pilot_light.md Table 20-10, reset 0. -/
abbrev PU_STATUS_PILOT_ENTRIES : Fld := ⟨.PU_STATUS, 40, 8, .ro, .const, 0⟩
/-- PU_DIAG.SRAM_REPAIRS, 20_power_up_self_test_and_pilot_light.md Table 20-10, reset 0. -/
abbrev PU_DIAG_SRAM_REPAIRS : Fld := ⟨.PU_DIAG, 0, 16, .ro, .const, 0⟩
/-- PU_DIAG.HBM_REPAIRS, 20_power_up_self_test_and_pilot_light.md Table 20-10, reset 0. -/
abbrev PU_DIAG_HBM_REPAIRS : Fld := ⟨.PU_DIAG, 16, 16, .ro, .const, 0⟩
/-- PU_DIAG.LOST_DIRTY, 20_power_up_self_test_and_pilot_light.md Table 20-10, reset 0. -/
abbrev PU_DIAG_LOST_DIRTY : Fld := ⟨.PU_DIAG, 32, 22, .rc, .const, 0⟩
/-- PU_DIAG.TOTAL_MS, 20_power_up_self_test_and_pilot_light.md Table 20-10, reset 0. -/
abbrev PU_DIAG_TOTAL_MS : Fld := ⟨.PU_DIAG, 54, 10, .ro, .const, 0⟩
/-- PU_CFG.FLUSH_ON_RESET, 20_power_up_self_test_and_pilot_light.md Table 20-10, reset 1. -/
abbrev PU_CFG_FLUSH_ON_RESET : Fld := ⟨.PU_CFG, 0, 1, .rw, .const, 1⟩
/-- PU_CFG.FLUSH_TMO_US, 20_power_up_self_test_and_pilot_light.md Table 20-10, reset 0x2710. -/
abbrev PU_CFG_FLUSH_TMO_US : Fld := ⟨.PU_CFG, 16, 16, .rw, .const, 10000⟩
/-- PU_CMD.OPCODE, 20_power_up_self_test_and_pilot_light.md Table 20-11, reset 0. -/
abbrev PU_CMD_OPCODE : Fld := ⟨.PU_CMD, 0, 8, .wo, .const, 0⟩
/-- PU_CMD.TAG, 20_power_up_self_test_and_pilot_light.md Table 20-11, reset 0. -/
abbrev PU_CMD_TAG : Fld := ⟨.PU_CMD, 16, 16, .wo, .const, 0⟩
/-- PU_CMD_STATUS.STATUS, 20_power_up_self_test_and_pilot_light.md Table 20-11, reset 0x00. -/
abbrev PU_CMD_STATUS_STATUS : Fld := ⟨.PU_CMD_STATUS, 0, 8, .ro, .const, 0⟩
/-- PU_CMD_STATUS.TAG, 20_power_up_self_test_and_pilot_light.md Table 20-11, reset 0. -/
abbrev PU_CMD_STATUS_TAG : Fld := ⟨.PU_CMD_STATUS, 16, 16, .ro, .const, 0⟩
/-- PU_CMD_STATUS.BUSY, 20_power_up_self_test_and_pilot_light.md Table 20-11, reset 0. -/
abbrev PU_CMD_STATUS_BUSY : Fld := ⟨.PU_CMD_STATUS, 32, 1, .ro, .const, 0⟩
/-- PU_RAIL.MV, 20_power_up_self_test_and_pilot_light.md Table 20-11, reset 0. -/
abbrev PU_RAIL_MV : Fld := ⟨.PU_RAIL, 0, 16, .ro, .const, 0⟩
/-- PU_RAIL.LOW, 20_power_up_self_test_and_pilot_light.md Table 20-11, reset 0. -/
abbrev PU_RAIL_LOW : Fld := ⟨.PU_RAIL, 16, 1, .ro, .const, 0⟩
/-- PU_RAIL.HIGH, 20_power_up_self_test_and_pilot_light.md Table 20-11, reset 0. -/
abbrev PU_RAIL_HIGH : Fld := ⟨.PU_RAIL, 17, 1, .ro, .const, 0⟩
/-- PU_STAGE_US.US, 20_power_up_self_test_and_pilot_light.md Table 20-11, reset 0. -/
abbrev PU_STAGE_US_US : Fld := ⟨.PU_STAGE_US, 0, 32, .ro, .const, 0⟩
/-- CNT_CFG.SWEEP_PERIOD_US, 21_counters_and_chimney_sampling.md Table 21-6, reset 0. -/
abbrev CNT_CFG_SWEEP_PERIOD_US : Fld := ⟨.CNT_CFG, 0, 20, .rw, .const, 0⟩
/-- CNT_CFG.BANK_FIRST, 21_counters_and_chimney_sampling.md Table 21-6, reset 0. -/
abbrev CNT_CFG_BANK_FIRST : Fld := ⟨.CNT_CFG, 20, 8, .rw, .const, 0⟩
/-- CNT_CFG.BANK_LAST, 21_counters_and_chimney_sampling.md Table 21-6, reset 0xA1. -/
abbrev CNT_CFG_BANK_LAST : Fld := ⟨.CNT_CFG, 28, 8, .rw, .const, 161⟩
/-- CNT_CFG.NOTE_TID, 21_counters_and_chimney_sampling.md Table 21-6, reset 0. -/
abbrev CNT_CFG_NOTE_TID : Fld := ⟨.CNT_CFG, 36, 13, .rw, .const, 0⟩
/-- CNT_CFG.NOTE_EN, 21_counters_and_chimney_sampling.md Table 21-6, reset 0. -/
abbrev CNT_CFG_NOTE_EN : Fld := ⟨.CNT_CFG, 49, 1, .rw, .const, 0⟩
/-- CNT_SNAP.SNAP_BASE, 21_counters_and_chimney_sampling.md Table 21-6, reset 0. -/
abbrev CNT_SNAP_SNAP_BASE : Fld := ⟨.CNT_SNAP, 6, 27, .rw, .const, 0⟩
/-- CNT_CTRL.SWEEP, 21_counters_and_chimney_sampling.md Table 21-6, reset 0. -/
abbrev CNT_CTRL_SWEEP : Fld := ⟨.CNT_CTRL, 0, 1, .wo, .const, 0⟩
/-- CNT_STATUS.SWEEP_SEQ, 21_counters_and_chimney_sampling.md Table 21-6, reset 0. -/
abbrev CNT_STATUS_SWEEP_SEQ : Fld := ⟨.CNT_STATUS, 0, 32, .ro, .const, 0⟩
/-- CNT_STATUS.SWEEPING, 21_counters_and_chimney_sampling.md Table 21-6, reset 0. -/
abbrev CNT_STATUS_SWEEPING : Fld := ⟨.CNT_STATUS, 32, 1, .ro, .const, 0⟩
/-- CNT_STATUS.CMD_STATUS, 21_counters_and_chimney_sampling.md Table 21-6, reset 0x00. -/
abbrev CNT_STATUS_CMD_STATUS : Fld := ⟨.CNT_STATUS, 40, 8, .ro, .const, 0⟩
/-- CNT_STATUS.OVERRUNS, 21_counters_and_chimney_sampling.md Table 21-6, reset 0. -/
abbrev CNT_STATUS_OVERRUNS : Fld := ⟨.CNT_STATUS, 48, 16, .rc, .const, 0⟩
/-- CNT_ERR.SNAP_FAIL, 21_counters_and_chimney_sampling.md Table 21-6, reset 0. -/
abbrev CNT_ERR_SNAP_FAIL : Fld := ⟨.CNT_ERR, 0, 1, .w1c, .const, 0⟩
/-- CNT_ERR.CHM_FAIL, 21_counters_and_chimney_sampling.md Table 21-6, reset 0. -/
abbrev CNT_ERR_CHM_FAIL : Fld := ⟨.CNT_ERR, 1, 1, .w1c, .const, 0⟩
/-- CNT_ERR.NOTICE_WAITS, 21_counters_and_chimney_sampling.md Table 21-6, reset 0. -/
abbrev CNT_ERR_NOTICE_WAITS : Fld := ⟨.CNT_ERR, 32, 16, .rc, .const, 0⟩
/-- CHM_CFG.EN, 21_counters_and_chimney_sampling.md Table 21-9, reset 0. -/
abbrev CHM_CFG_EN : Fld := ⟨.CHM_CFG, 0, 1, .rw, .const, 0⟩
/-- CHM_CFG.JITTER, 21_counters_and_chimney_sampling.md Table 21-9, reset 0. -/
abbrev CHM_CFG_JITTER : Fld := ⟨.CHM_CFG, 1, 1, .rw, .const, 0⟩
/-- CHM_CFG.N, 21_counters_and_chimney_sampling.md Table 21-9, reset 0x3E8. -/
abbrev CHM_CFG_N : Fld := ⟨.CHM_CFG, 2, 20, .rw, .const, 1000⟩
/-- CHM_CFG.WMARK, 21_counters_and_chimney_sampling.md Table 21-9, reset 0x40. -/
abbrev CHM_CFG_WMARK : Fld := ⟨.CHM_CFG, 32, 21, .rw, .const, 64⟩
/-- CHM_FILTER.TID, 21_counters_and_chimney_sampling.md Table 21-9, reset 0. -/
abbrev CHM_FILTER_TID : Fld := ⟨.CHM_FILTER, 0, 13, .rw, .const, 0⟩
/-- CHM_FILTER.TID_ANY, 21_counters_and_chimney_sampling.md Table 21-9, reset 1. -/
abbrev CHM_FILTER_TID_ANY : Fld := ⟨.CHM_FILTER, 13, 1, .rw, .const, 1⟩
/-- CHM_FILTER.INST, 21_counters_and_chimney_sampling.md Table 21-9, reset 0. -/
abbrev CHM_FILTER_INST : Fld := ⟨.CHM_FILTER, 14, 14, .rw, .const, 0⟩
/-- CHM_FILTER.INST_ANY, 21_counters_and_chimney_sampling.md Table 21-9, reset 1. -/
abbrev CHM_FILTER_INST_ANY : Fld := ⟨.CHM_FILTER, 28, 1, .rw, .const, 1⟩
/-- CHM_FILTER.CLASS, 21_counters_and_chimney_sampling.md Table 21-9, reset 0. -/
abbrev CHM_FILTER_CLASS : Fld := ⟨.CHM_FILTER, 29, 2, .rw, .const, 0⟩
/-- CHM_RING.BASE, 21_counters_and_chimney_sampling.md Table 21-9, reset 0. -/
abbrev CHM_RING_BASE : Fld := ⟨.CHM_RING, 6, 27, .rw, .const, 0⟩
/-- CHM_RING.LOG2, 21_counters_and_chimney_sampling.md Table 21-9, reset 0xA. -/
abbrev CHM_RING_LOG2 : Fld := ⟨.CHM_RING, 48, 5, .rw, .const, 10⟩
/-- CHM_IDX.PROD, 21_counters_and_chimney_sampling.md Table 21-9, reset 0. -/
abbrev CHM_IDX_PROD : Fld := ⟨.CHM_IDX, 0, 32, .ro, .const, 0⟩
/-- CHM_IDX.CONS, 21_counters_and_chimney_sampling.md Table 21-9, reset 0. -/
abbrev CHM_IDX_CONS : Fld := ⟨.CHM_IDX, 32, 32, .rw, .const, 0⟩
/-- CHM_STAT.DROPPED, 21_counters_and_chimney_sampling.md Table 21-9, reset 0. -/
abbrev CHM_STAT_DROPPED : Fld := ⟨.CHM_STAT, 0, 16, .rc, .const, 0⟩
/-- CSET_CFG.VALID, 21_counters_and_chimney_sampling.md Table 21-8, reset 0. -/
abbrev CSET_CFG_VALID : Fld := ⟨.CSET_CFG, 0, 1, .rw, .const, 0⟩
/-- CSET_CFG.INST, 21_counters_and_chimney_sampling.md Table 21-8, reset 0. -/
abbrev CSET_CFG_INST : Fld := ⟨.CSET_CFG, 1, 12, .rw, .const, 0⟩
/-- CSET_CFG.MSIX_EN, 21_counters_and_chimney_sampling.md Table 21-8, reset 0. -/
abbrev CSET_CFG_MSIX_EN : Fld := ⟨.CSET_CFG, 13, 1, .rw, .const, 0⟩
/-- CSET_CFG.MSIX_VEC, 21_counters_and_chimney_sampling.md Table 21-8, reset 0. -/
abbrev CSET_CFG_MSIX_VEC : Fld := ⟨.CSET_CFG, 14, 11, .rw, .const, 0⟩
/-- CSET_MAP.BANK, 21_counters_and_chimney_sampling.md Table 21-8, reset 0. -/
abbrev CSET_MAP_BANK : Fld := ⟨.CSET_MAP, 0, 8, .rw, .const, 0⟩
/-- CSET_MAP.COUNTER, 21_counters_and_chimney_sampling.md Table 21-8, reset 0. -/
abbrev CSET_MAP_COUNTER : Fld := ⟨.CSET_MAP, 8, 8, .rw, .const, 0⟩
/-- CSET_MAP.USED, 21_counters_and_chimney_sampling.md Table 21-8, reset 0. -/
abbrev CSET_MAP_USED : Fld := ⟨.CSET_MAP, 16, 1, .rw, .const, 0⟩
/-- CSET_VAL.VALUE, 21_counters_and_chimney_sampling.md Table 21-8, reset 0. -/
abbrev CSET_VAL_VALUE : Fld := ⟨.CSET_VAL, 0, 48, .rw, .const, 0⟩
/-- CSET_VAL.OVF, 21_counters_and_chimney_sampling.md Table 21-8, reset 0. -/
abbrev CSET_VAL_OVF : Fld := ⟨.CSET_VAL, 48, 1, .w1c, .const, 0⟩
/-- CNT_SEL.EVENT, 21_counters_and_chimney_sampling.md Table 21-7, reset 0. -/
abbrev CNT_SEL_EVENT : Fld := ⟨.CNT_SEL, 0, 12, .rw, .const, 0⟩
/-- CNT_SEL.MODE, 21_counters_and_chimney_sampling.md Table 21-7, reset 0. -/
abbrev CNT_SEL_MODE : Fld := ⟨.CNT_SEL, 12, 1, .rw, .const, 0⟩
/-- CNT_SEL.EN, 21_counters_and_chimney_sampling.md Table 21-7, reset 0. -/
abbrev CNT_SEL_EN : Fld := ⟨.CNT_SEL, 13, 1, .rw, .const, 0⟩
/-- CNT_SEL.INST_EN, 21_counters_and_chimney_sampling.md Table 21-7, reset 0. -/
abbrev CNT_SEL_INST_EN : Fld := ⟨.CNT_SEL, 16, 1, .rw, .const, 0⟩
/-- CNT_SEL.INST, 21_counters_and_chimney_sampling.md Table 21-7, reset 0. -/
abbrev CNT_SEL_INST : Fld := ⟨.CNT_SEL, 17, 14, .rw, .const, 0⟩
/-- CNT_SEL.BOUND, 21_counters_and_chimney_sampling.md Table 21-7, reset 0. -/
abbrev CNT_SEL_BOUND : Fld := ⟨.CNT_SEL, 31, 1, .ro, .const, 0⟩
/-- CNT_SEL.OVF_MULTI, 21_counters_and_chimney_sampling.md Table 21-7, reset 0. -/
abbrev CNT_SEL_OVF_MULTI : Fld := ⟨.CNT_SEL, 32, 8, .rc, .const, 0⟩
/-- CNT_VAL.VALUE, 21_counters_and_chimney_sampling.md Table 21-7, reset 0. -/
abbrev CNT_VAL_VALUE : Fld := ⟨.CNT_VAL, 0, 48, .rw, .const, 0⟩
/-- CNT_VAL.OVF, 21_counters_and_chimney_sampling.md Table 21-7, reset 0. -/
abbrev CNT_VAL_OVF : Fld := ⟨.CNT_VAL, 48, 1, .w1c, .const, 0⟩
/-- CNT_VAL.OVF_NOTE, 21_counters_and_chimney_sampling.md Table 21-7, reset 0. -/
abbrev CNT_VAL_OVF_NOTE : Fld := ⟨.CNT_VAL, 49, 1, .rw, .const, 0⟩
/-- CNT_EVT.CODE, 21_counters_and_chimney_sampling.md Table 21-7, reset per bank. -/
abbrev CNT_EVT_CODE : Fld := ⟨.CNT_EVT, 0, 12, .ro, .evt, 0⟩
/-- CNT_EVT.EDGE_OK, 21_counters_and_chimney_sampling.md Table 21-7, reset per bank. -/
abbrev CNT_EVT_EDGE_OK : Fld := ⟨.CNT_EVT, 12, 1, .ro, .evt, 0⟩
/-- CNT_EVT.LEVEL_OK, 21_counters_and_chimney_sampling.md Table 21-7, reset per bank. -/
abbrev CNT_EVT_LEVEL_OK : Fld := ⟨.CNT_EVT, 13, 1, .ro, .evt, 0⟩
/-- CNT_EVT.INST_OK, 21_counters_and_chimney_sampling.md Table 21-7, reset per bank. -/
abbrev CNT_EVT_INST_OK : Fld := ⟨.CNT_EVT, 14, 1, .ro, .evt, 0⟩
/-- CNT_EVT.VALID, 21_counters_and_chimney_sampling.md Table 21-7, reset per bank. -/
abbrev CNT_EVT_VALID : Fld := ⟨.CNT_EVT, 15, 1, .ro, .evt, 0⟩
/-- CNT_EVT.NAME, 21_counters_and_chimney_sampling.md Table 21-7, reset per bank. -/
abbrev CNT_EVT_NAME : Fld := ⟨.CNT_EVT, 16, 48, .ro, .evt, 0⟩
/-- TALLY.VALUE, 18_hjelvon_security.md Table 18-13, reset fused. -/
abbrev TALLY_VALUE : Fld := ⟨.TALLY, 0, 32, .rwt, .const, 0⟩
/-- TALLY.REMAIN, 18_hjelvon_security.md Table 18-13, reset fused. -/
abbrev TALLY_REMAIN : Fld := ⟨.TALLY, 32, 4, .ro, .const, 8⟩
/-- RBC.COUNT, 18_hjelvon_security.md Table 18-13, reset fused. -/
abbrev RBC_COUNT : Fld := ⟨.RBC, 0, 8, .ro, .const, 0⟩

/-- The fields of each register. -/
def RegName.fields : RegName → List Fld
  | .ID_PART => [ ID_PART_MFR_CODE, ID_PART_PART_NUM ]
  | .ID_REV => [ ID_REV_MINOR, ID_REV_MAJOR ]
  | .ID_CONFIG => [ ID_CONFIG_PORT_TILES, ID_CONFIG_HEARTHS, ID_CONFIG_HBM_GIB ]
  | .ID_STACK => [ ID_STACK_DEV_IN_STACK, ID_STACK_MASTER_STRAP, ID_STACK_STACK_SIZE ]
  | .ID_SERIAL => [ ID_SERIAL_UNIQUE_ID ]
  | .TB_NOW => [ TB_NOW_NOW_NS ]
  | .TB_CFG => [ TB_CFG_TICK_SEL, TB_CFG_PPS_EN, TB_CFG_PPS_EDGE ]
  | .TB_ADJ => [ TB_ADJ_SLEW_PPB ]
  | .TB_STEP => [ TB_STEP_STEP_NS ]
  | .TB_STATUS => [ TB_STATUS_PPS_LOCKED, TB_STATUS_PPS_LOST, TB_STATUS_HOLDOVER, TB_STATUS_PPS_OFFSET, TB_STATUS_STEP_COUNT ]
  | .AVS_CTRL => [ AVS_CTRL_VTARGET_MV, AVS_CTRL_AUTO_RAISE, AVS_CTRL_STEP_MV ]
  | .AVS_STATUS => [ AVS_STATUS_VCMD_MV, AVS_STATUS_PACE_LOW, AVS_STATUS_PACE_LOW_LATCHED, AVS_STATUS_AVS_NAK, AVS_STATUS_VMIN_FUSE_MV, AVS_STATUS_RAISE_COUNT, AVS_STATUS_PACE_FLOOR ]
  | .PACE_MON => [ PACE_MON_PACE, PACE_MON_PACE_MIN, PACE_MON_TJ_C ]
  | .ISL_STATUS => [ ISL_STATUS_CLK_PRESENT, ISL_STATUS_CLK_LOST, ISL_STATUS_SYNC_ERR, ISL_STATUS_ISL_KIND, ISL_STATUS_CROSS_STALLS ]
  | .PC_ROLE_CFG => [ PC_ROLE_CFG_ROLE_SEL, PC_ROLE_CFG_AUTH_REQ, PC_ROLE_CFG_PBR_ID ]
  | .PC_WIDTH_CFG => [ PC_WIDTH_CFG_WIDTH, PC_WIDTH_CFG_LEAD, PC_WIDTH_CFG_FOLLOWER ]
  | .PC_LINK_CFG => [ PC_LINK_CFG_RATE_MAX, PC_LINK_CFG_CLK_MODE, PC_LINK_CFG_LOPT_EN, PC_LINK_CFG_L0P_EN, PC_LINK_CFG_DOWNSHIFT_EN, PC_LINK_CFG_REPLAY_THR, PC_LINK_CFG_RETRAIN ]
  | .PC_LINK_STATUS => [ PC_LINK_STATUS_LINK_STATE, PC_LINK_STATUS_RATE, PC_LINK_STATUS_WIDTH_TRAINED, PC_LINK_STATUS_ROLE_BOUND, PC_LINK_STATUS_LOPT_ACTIVE, PC_LINK_STATUS_IDE_STREAMS, PC_LINK_STATUS_DOWNSHIFTS ]
  | .PC_QUIESCE_CTRL => [ PC_QUIESCE_CTRL_QUIESCE, PC_QUIESCE_CTRL_RELEASE, PC_QUIESCE_CTRL_PORT_RESET, PC_QUIESCE_CTRL_QUIESCE_TMO_US ]
  | .PC_QUIESCE_STATUS => [ PC_QUIESCE_STATUS_STATE, PC_QUIESCE_STATUS_ISOLATED, PC_QUIESCE_STATUS_LAST_STATUS, PC_QUIESCE_STATUS_DRAIN_TIMEOUTS, PC_QUIESCE_STATUS_LAST_DRAIN_NS ]
  | .PC_LOOP_CFG => [ PC_LOOP_CFG_LOOP_EN, PC_LOOP_CFG_PARTNER ]
  | .PC_TAG_STATUS => [ PC_TAG_STATUS_IN_OUTSTANDING, PC_TAG_STATUS_IN_HWM, PC_TAG_STATUS_OUT_OUTSTANDING, PC_TAG_STATUS_OUT_HWM ]
  | .PC_ERR_STATUS => [ PC_ERR_STATUS_ROLE_CONFLICT, PC_ERR_STATUS_NO_FLIT256, PC_ERR_STATUS_EQ_FAIL, PC_ERR_STATUS_REPLAY_THR_HIT, PC_ERR_STATUS_SURPRISE_DOWN, PC_ERR_STATUS_IDE_CHECK_FAIL, PC_ERR_STATUS_AUTH_FAIL, PC_ERR_STATUS_CLK_LOSS, PC_ERR_STATUS_DRAIN_TIMEOUT, PC_ERR_STATUS_TRAIN_FAIL ]
  | .BIND_CMD => [ BIND_CMD_OPCODE, BIND_CMD_TAG ]
  | .BIND_ARG0 => [ BIND_ARG0_ARG ]
  | .BIND_ARG1 => [ BIND_ARG1_ARG ]
  | .BIND_STATUS => [ BIND_STATUS_STATUS, BIND_STATUS_TAG, BIND_STATUS_BUSY, BIND_STATUS_ID_CHANGED ]
  | .BIND_CFG => [ BIND_CFG_DC_TMO_MS, BIND_CFG_UNBIND_TMO_MS ]
  | .IW_BASE => [ IW_BASE_VALID, IW_BASE_FPA_BASE ]
  | .IW_LIMIT => [ IW_LIMIT_SIZE_GIB ]
  | .ILS_CFG => [ ILS_CFG_VALID, ILS_CFG_WAYS, ILS_CFG_GRAN, ILS_CFG_TGT_SIZE ]
  | .ILS_TGT => [ ILS_TGT_DEV, ILS_TGT_MOD, ILS_TGT_BASE ]
  | .MOD_ENTRY => [ MOD_ENTRY_PRESENT, MOD_ENTRY_POOL, MOD_ENTRY_PT_BOUND, MOD_ENTRY_CAP ]
  | .VPPB_ENTRY => [ VPPB_ENTRY_KIND, VPPB_ENTRY_INST, VPPB_ENTRY_MOD, VPPB_ENTRY_HOST_PRESENT ]
  | .PBR_ROUTE => [ PBR_ROUTE_VALID, PBR_ROUTE_DEV, PBR_ROUTE_EGRESS, PBR_ROUTE_ALT_EGRESS, PBR_ROUTE_ALT_VALID ]
  | .PBR_STATUS => [ PBR_STATUS_UNROUTED ]
  | .SW_CFG => [ SW_CFG_HASH_SEED, SW_CFG_OVF_EN ]
  | .SW_BUF_CFG => [ SW_BUF_CFG_RSP_RSV_U, SW_BUF_CFG_SNP_RSV_U, SW_BUF_CFG_IOP_RSV_U, SW_BUF_CFG_IOCPL_RSV_U ]
  | .SW_TRK_CFG => [ SW_TRK_CFG_PORT_RSV, SW_TRK_CFG_INT_RSV ]
  | .SW_OVF_CFG => [ SW_OVF_CFG_SPILL_THR_U, SW_OVF_CFG_OVF_CAP_GBPS ]
  | .SW_AGE_CFG => [ SW_AGE_CFG_AGE_MREQ_US, SW_AGE_CFG_AGE_IO_US ]
  | .SW_STATUS => [ SW_STATUS_TRK_USED, SW_STATUS_TRK_HWM, SW_STATUS_CELLS_USED, SW_STATUS_AT_TRK_BOUND, SW_STATUS_AT_CELL_BOUND ]
  | .SW_OVF_STATUS => [ SW_OVF_STATUS_OVF_CELLS, SW_OVF_STATUS_OVF_GBPS, SW_OVF_STATUS_CAP_HITS ]
  | .SW_AGE_STATUS => [ SW_AGE_STATUS_AGED_MREQ, SW_AGE_STATUS_AGED_IO ]
  | .SW_ERR_STATUS => [ SW_ERR_STATUS_OVF_CE, SW_ERR_STATUS_OVF_UE, SW_ERR_STATUS_HDR_UE, SW_ERR_STATUS_CELL_UE ]
  | .MIR_CFG => [ MIR_CFG_EN, MIR_CFG_JITTER, MIR_CFG_N ]
  | .MIR_MATCH => [ MIR_MATCH_SRC, MIR_MATCH_SRC_ANY, MIR_MATCH_INST, MIR_MATCH_INST_ANY, MIR_MATCH_CLASS, MIR_MATCH_CLASS_ANY ]
  | .MIR_DEST => [ MIR_DEST_HEARTH, MIR_DEST_ENGINE, MIR_DEST_THREAD, MIR_DEST_RING_BASE, MIR_DEST_RING_LOG2 ]
  | .MIR_STATUS => [ MIR_STATUS_PROD, MIR_STATUS_CONS, MIR_STATUS_DROPPED ]
  | .EGQ_STATUS => [ EGQ_STATUS_DEPTH, EGQ_STATUS_DEPTH_HWM, EGQ_STATUS_OLDEST_US ]
  | .MS_CFG => [ MS_CFG_YEL_FLOOR_U, MS_CFG_MTR_GLOBAL_EN, MS_CFG_LAT_THR_NS ]
  | .MS_STATUS => [ MS_STATUS_PEN_FULL_ANY, MS_STATUS_PEN_FULL_EVENTS ]
  | .MTR_CFG => [ MTR_CFG_EN, MTR_CFG_MODE, MTR_CFG_RED_ACTION, MTR_CFG_YEL_HOLD ]
  | .MTR_RATE => [ MTR_RATE_CIR_MBPS, MTR_RATE_PIR_MBPS ]
  | .MTR_BURST => [ MTR_BURST_CBS_U, MTR_BURST_PEBS_U ]
  | .MTR_STATUS => [ MTR_STATUS_HOLDING, MTR_STATUS_RED_CNT ]
  | .INST_MS => [ INST_MS_SG, INST_MS_PEN_DEPTH, INST_MS_PEN_MAX, INST_MS_PEN_FULL ]
  | .INST_LAT => [ INST_LAT_HWM_NS, INST_LAT_OVER_THR ]
  | .EQ_SHP => [ EQ_SHP_RATE_MBPS, EQ_SHP_MAX_CREDIT_U ]
  | .EQ_WRR => [ EQ_WRR_WEIGHT, EQ_WRR_BURST ]
  | .EQ_STATUS => [ EQ_STATUS_DEPTH, EQ_STATUS_ELIGIBLE, EQ_STATUS_CREDIT_B ]
  | .EQ_LAT => [ EQ_LAT_HWM_NS, EQ_LAT_OVER_THR ]
  | .HOME_CFG => [ HOME_CFG_MSC_EN, HOME_CFG_WB_RSV ]
  | .HOME_TMO_CFG => [ HOME_TMO_CFG_SNOOP_TMO_US, HOME_TMO_CFG_MEM_TMO_US ]
  | .HOME_ERR_STATUS => [ HOME_ERR_STATUS_OWNER_TMO, HOME_ERR_STATUS_SHARER_TMO, HOME_ERR_STATUS_MEM_TMO, HOME_ERR_STATUS_RMW_POISON, HOME_ERR_STATUS_SF_CE, HOME_ERR_STATUS_SF_UE, HOME_ERR_STATUS_SF_DEGRADED_ALL, HOME_ERR_STATUS_MSC_CE, HOME_ERR_STATUS_MSC_UE, HOME_ERR_STATUS_WB_NOT_OWNER ]
  | .HOME_CNT => [ HOME_CNT_WB_DISCARDS, HOME_CNT_LATE_SNP_RSP ]
  | .SF_PROBE_CTRL => [ SF_PROBE_CTRL_GO, SF_PROBE_CTRL_REBUILD, SF_PROBE_CTRL_DONE, SF_PROBE_CTRL_HIT, SF_PROBE_CTRL_DEGRADED, SF_PROBE_CTRL_LINE ]
  | .SF_PROBE_DATA0 => [ SF_PROBE_DATA0_ENTRY_LO ]
  | .SF_PROBE_DATA1 => [ SF_PROBE_DATA1_ENTRY_HI ]
  | .MSC_CTRL => [ MSC_CTRL_FLUSH, MSC_CTRL_FLUSH_BUSY, MSC_CTRL_FLUSH_NS ]
  | .HOME_SLICE_STATUS => [ HOME_SLICE_STATUS_TRK_USED, HOME_SLICE_STATUS_TRK_HWM, HOME_SLICE_STATUS_LIST_MAX, HOME_SLICE_STATUS_DEGRADED_SETS, HOME_SLICE_STATUS_DEGRADED_ALL ]
  | .SF_STATUS => [ SF_STATUS_SF_VALID, SF_STATUS_SF_EVICTIONS ]
  | .MSC_STATUS => [ MSC_STATUS_DIRTY_LINES, MSC_STATUS_MSC_HITS ]
  | .PLC_CTRL => [ PLC_CTRL_RUN, PLC_CTRL_STOP_ABORT, PLC_CTRL_IDLE ]
  | .PLC_CFG => [ PLC_CFG_FLUE_FIRST, PLC_CFG_FLUE_COUNT, PLC_CFG_TIER_FORBID, PLC_CFG_POLICY_HEARTH, PLC_CFG_POLICY_ENGINE, PLC_CFG_POLICY_THREAD ]
  | .PLC_LIMIT => [ PLC_LIMIT_MAX_ACTIVE, PLC_LIMIT_BW_CAP_GBPS, PLC_LIMIT_MIN_RESIDENCY_MS ]
  | .PLC_SYNC_CFG => [ PLC_SYNC_CFG_HOLD_MAX_NS, PLC_SYNC_CFG_SYNC_SG, PLC_SYNC_CFG_MAX_PASSES, PLC_SYNC_CFG_SYNC_TRIES, PLC_SYNC_CFG_SYNC_MAX ]
  | .PLC_HEAT_CFG => [ PLC_HEAT_CFG_HEAT_N, PLC_HEAT_CFG_DECAY_MS, PLC_HEAT_CFG_HEAT_EN ]
  | .PLC_STATUS => [ PLC_STATUS_ACTIVE, PLC_STATUS_SYNCING, PLC_STATUS_HEAT_EVICT ]
  | .PLC_EPOCH_STATUS => [ PLC_EPOCH_STATUS_CUR_EPOCH, PLC_EPOCH_STATUS_OLDEST_STACK ]
  | .PLC_ERR_STATUS => [ PLC_ERR_STATUS_COPY_POISON, PLC_ERR_STATUS_COPY_UE, PLC_ERR_STATUS_LOG_BACKPRESSURE, PLC_ERR_STATUS_SYNC_ABANDON, PLC_ERR_STATUS_OVR_FULL ]
  | .PLC_CMD => [ PLC_CMD_OPCODE, PLC_CMD_TAG ]
  | .PLC_CMD_ARG => [ PLC_CMD_ARG_INDEX, PLC_CMD_ARG_SET ]
  | .PLC_CMD_STATUS => [ PLC_CMD_STATUS_STATUS, PLC_CMD_STATUS_TAG, PLC_CMD_STATUS_BUSY ]
  | .PLC_REQ_RING => [ PLC_REQ_RING_REQ_BASE, PLC_REQ_RING_REQ_LOG2 ]
  | .PLC_REQ_IDX => [ PLC_REQ_IDX_PROD, PLC_REQ_IDX_CONS ]
  | .PLC_LOG_CFG => [ PLC_LOG_CFG_LOG_BASE, PLC_LOG_CFG_LOG_LOG2 ]
  | .PLC_LOG_IDX => [ PLC_LOG_IDX_PROD, PLC_LOG_IDX_CONS ]
  | .PLC_PROBE_CTRL => [ PLC_PROBE_CTRL_GO, PLC_PROBE_CTRL_DONE, PLC_PROBE_CTRL_PAGE ]
  | .PLC_PROBE_DATA0 => [ PLC_PROBE_DATA0_SOURCE, PLC_PROBE_DATA0_PINNED, PLC_PROBE_DATA0_DEV, PLC_PROBE_DATA0_SET, PLC_PROBE_DATA0_SO_2M ]
  | .PLC_PROBE_DATA1 => [ PLC_PROBE_DATA1_ENT_EPOCH, PLC_PROBE_DATA1_MIG_STATE, PLC_PROBE_DATA1_MIG_SLOT ]
  | .PLC_SET => [ PLC_SET_PLACE_EN, PLC_SET_TIER, PLC_SET_SLOT_BASE ]
  | .PLC_INST => [ PLC_INST_MOVE_EN, PLC_INST_FORBID, PLC_INST_MAX_ACTIVE_I, PLC_INST_MOVES ]
  | .PLC_MIG => [ PLC_MIG_STATE, PLC_MIG_PAGE, PLC_MIG_DIRTY, PLC_MIG_PASS, PLC_MIG_SYNCS ]
  | .HTH_CTRL => [ HTH_CTRL_CLEAR_ALL ]
  | .HTH_STATUS => [ HTH_STATUS_THREADS_RUN, HTH_STATUS_CLEAR_BUSY, HTH_STATUS_FLC_EVICTS ]
  | .HTH_LOAD_CMD => [ HTH_LOAD_CMD_GO, HTH_LOAD_CMD_THREAD, HTH_LOAD_CMD_TAG, HTH_LOAD_CMD_INST ]
  | .HTH_LOAD_SRC => [ HTH_LOAD_SRC_OFFSET ]
  | .HTH_LOAD_STATUS => [ HTH_LOAD_STATUS_STATUS, HTH_LOAD_STATUS_TAG, HTH_LOAD_STATUS_BUSY, HTH_LOAD_STATUS_FAIL_STEP ]
  | .ENG_CFG => [ ENG_CFG_P2_INST, ENG_CFG_P2_ENGINE ]
  | .TH_CTRL => [ TH_CTRL_START, TH_CTRL_STOP, TH_CTRL_CLEAR ]
  | .TH_VEC => [ TH_VEC_HANDLER ]
  | .TH_STATUS => [ TH_STATUS_STATE, TH_STATUS_IN_TRAP, TH_STATUS_LOADED, TH_STATUS_BASE_PRIV, TH_STATUS_PRIV, TH_STATUS_LAST_TRAP, TH_STATUS_HALT_REASON, TH_STATUS_STG_ENTRIES, TH_STATUS_CMD_STATUS ]
  | .TH_PC => [ TH_PC_PC ]
  | .CMT_CFG => [ CMT_CFG_COMMIT_TMO_US, CMT_CFG_STG_MAX ]
  | .CMT_STATUS => [ CMT_STATUS_GENERATION, CMT_STATUS_BUSY, CMT_STATUS_QUEUED ]
  | .STG_STATUS => [ STG_STATUS_STORE_USED, STG_STATUS_STORE_HWM ]
  | .FLU_ASSIGN => [ FLU_ASSIGN_VALID, FLU_ASSIGN_PRIV, FLU_ASSIGN_PRIO_MAX, FLU_ASSIGN_PLACEMENT, FLU_ASSIGN_INST, FLU_ASSIGN_OWNER_KIND, FLU_ASSIGN_OWNER, FLU_ASSIGN_CALL_CQ, FLU_ASSIGN_RUN_TMO_US ]
  | .FLU_CFG => [ FLU_CFG_MODE, FLU_CFG_STOP_MODE, FLU_CFG_PRIO, FLU_CFG_TRIG_LINE, FLU_CFG_LINE, FLU_CFG_CQ, FLU_CFG_CQ_EN ]
  | .FLU_CTRL => [ FLU_CTRL_STOP, FLU_CTRL_RESUME, FLU_CTRL_ABORT, FLU_CTRL_RESET ]
  | .FLU_STATUS => [ FLU_STATUS_STATE, FLU_STATUS_WAIT_REASON, FLU_STATUS_PREEMPTED, FLU_STATUS_KICK, FLU_STATUS_STOP_ERR, FLU_STATUS_CMD_STATUS, FLU_STATUS_LAST_STATUS, FLU_STATUS_DESC_DONE ]
  | .FLU_DOORBELL => [ FLU_DOORBELL_START_ADDR ]
  | .FLU_DESC => [ FLU_DESC_DESC ]
  | .FLU_SRC => [ FLU_SRC_SRC ]
  | .FLU_DST => [ FLU_DST_DST ]
  | .FLU_LEFT => [ FLU_LEFT_LEFT, FLU_LEFT_ELEM ]
  | .FLU_ACC => [ FLU_ACC_ACC ]
  | .FLU_RING_BASE => [ FLU_RING_BASE_BASE, FLU_RING_BASE_RING_LOG2 ]
  | .FLU_RING_IDX => [ FLU_RING_IDX_HEAD ]
  | .FLU_RUN_RET => [ FLU_RUN_RET_STATUS, FLU_RUN_RET_RESULT ]
  | .FLU_ERR => [ FLU_ERR_RUN_TMO, FLU_ERR_RUN_STRAY, FLU_ERR_CMPL_LOST, FLU_ERR_STAGE_UE, FLU_ERR_DESC_BAD ]
  | .RQL_CFG => [ RQL_CFG_EN, RQL_CFG_SENSE, RQL_CFG_BURST_MODE, RQL_CFG_BURST, RQL_CFG_BOUND_FLUE, RQL_CFG_BOUND, RQL_CFG_SET, RQL_CFG_PEND, RQL_CFG_DREQ ]
  | .FLU_LAST_CMPL => [ FLU_LAST_CMPL_WORD ]
  | .CQ_BASE => [ CQ_BASE_BASE ]
  | .CQ_CFG => [ CQ_CFG_EN, CQ_CFG_LOG2, CQ_CFG_INST, CQ_CFG_EVT_EN, CQ_CFG_EVT_TID, CQ_CFG_MSIX_EN, CQ_CFG_MSIX_VEC ]
  | .CQ_IDX => [ CQ_IDX_TAIL, CQ_IDX_HEAD ]
  | .WQ_CFG => [ WQ_CFG_VALID, WQ_CFG_EVT_EN, WQ_CFG_EVT_TID, WQ_CFG_INST, WQ_CFG_FLUE, WQ_CFG_CQ ]
  | .WQ_RING => [ WQ_RING_BASE, WQ_RING_RING_LOG2 ]
  | .WQ_HEAD_ADDR => [ WQ_HEAD_ADDR_ADDR ]
  | .WQ_CTRL => [ WQ_CTRL_ENABLE, WQ_CTRL_DISABLE, WQ_CTRL_DRAIN_TMO_US, WQ_CTRL_WEIGHT, WQ_CTRL_BURST ]
  | .WQ_DB => [ WQ_DB_TAIL ]
  | .WQ_IDX => [ WQ_IDX_TAIL, WQ_IDX_HEAD ]
  | .WQ_STATUS => [ WQ_STATUS_STATE, WQ_STATUS_ERR_STOP, WQ_STATUS_CMD_STATUS, WQ_STATUS_DB_STATUS, WQ_STATUS_ENTRIES_DONE ]
  | .WQ_ERR => [ WQ_ERR_DB_OVERRUN, WQ_ERR_DB_BAD, WQ_ERR_ENTRY_BAD, WQ_ERR_DRAIN_ABORT, WQ_ERR_HEAD_FAIL, WQ_ERR_INLINE_DISCARDS ]
  | .INST_CMD => [ INST_CMD_OPCODE, INST_CMD_TAG ]
  | .INST_ARG0 => [ INST_ARG0_ARG0 ]
  | .INST_ARG1 => [ INST_ARG1_ARG1, INST_ARG1_FLUE_REC_LEN ]
  | .INST_STATUS => [ INST_STATUS_STATUS, INST_STATUS_TAG, INST_STATUS_BUSY, INST_STATUS_STATE, INST_STATUS_PUT_PENDING ]
  | .INST_POOL => [ INST_POOL_THREAD_QUOTA, INST_POOL_FLUE_QUOTA, INST_POOL_WQ_QUOTA, INST_POOL_CSET_QUOTA ]
  | .INST_OVF => [ INST_OVF_OVF_QUOTA ]
  | .INST_DC_CFG => [ INST_DC_CFG_REGIONS, INST_DC_CFG_REGION_DB ]
  | .INST_USE => [ INST_USE_THREADS, INST_USE_FLUES, INST_USE_WQS, INST_USE_CSETS, INST_USE_OVF_CELLS ]
  | .MBX_CFG => [ MBX_CFG_SERVER_TID, MBX_CFG_SERVER_VALID, MBX_CFG_LAND, MBX_CFG_MBX_TMO_MS ]
  | .INST_ERR => [ INST_ERR_MBX_TMO, INST_ERR_MBX_STRAY, INST_ERR_CONTAINED_ENTRY ]
  | .MBX_DB => [ MBX_DB_TAG, MBX_DB_LEN_DW ]
  | .MBX_STATUS => [ MBX_STATUS_BUSY, MBX_STATUS_RESP_VALID, MBX_STATUS_DB_STATUS, MBX_STATUS_LAST_TAG, MBX_STATUS_DUP_COUNT ]
  | .MBX_NOTE_IDX => [ MBX_NOTE_IDX_PROD, MBX_NOTE_IDX_CONS ]
  | .MBX_HCFG => [ MBX_HCFG_RESP_MSIX_EN, MBX_HCFG_RESP_VEC, MBX_HCFG_NOTE_MSIX_EN, MBX_HCFG_NOTE_VEC ]
  | .PG_VIOL_ADDR => [ PG_VIOL_ADDR_ADDR, PG_VIOL_ADDR_SPACE, PG_VIOL_ADDR_HEARTH ]
  | .PG_VIOL_INFO => [ PG_VIOL_INFO_VALID, PG_VIOL_INFO_KIND, PG_VIOL_INFO_PRIV, PG_VIOL_INFO_INST, PG_VIOL_INFO_REGION, PG_VIOL_INFO_SET, PG_VIOL_INFO_CORE_ID, PG_VIOL_INFO_TID ]
  | .PG_VIOL_CNT => [ PG_VIOL_CNT_COUNT ]
  | .PG_LO => [ PG_LO_VALID, PG_LO_SPACE, PG_LO_P0_RWX, PG_LO_P1_RWX, PG_LO_P2_RWX, PG_LO_BASE, PG_LO_HEARTH ]
  | .PG_HI => [ PG_HI_INST, PG_HI_LIMIT, PG_HI_INST_DEV, PG_HI_INST_ANY ]
  | .TG_CTRL => [ TG_CTRL_ACTIVE, TG_CTRL_SWAP ]
  | .TG_VIOL_ADDR => [ TG_VIOL_ADDR_ADDR, TG_VIOL_ADDR_SPACE, TG_VIOL_ADDR_HEARTH ]
  | .TG_VIOL_INFO => [ TG_VIOL_INFO_VALID, TG_VIOL_INFO_KIND, TG_VIOL_INFO_PRIV, TG_VIOL_INFO_INST, TG_VIOL_INFO_REGION, TG_VIOL_INFO_SET, TG_VIOL_INFO_CORE_ID, TG_VIOL_INFO_TID ]
  | .TG_VIOL_CNT => [ TG_VIOL_CNT_COUNT ]
  | .TG_LO => [ TG_LO_VALID, TG_LO_SPACE, TG_LO_P0_RWX, TG_LO_P1_RWX, TG_LO_P2_RWX, TG_LO_BASE, TG_LO_HEARTH ]
  | .TG_HI => [ TG_HI_INST, TG_HI_LIMIT, TG_HI_INST_DEV, TG_HI_INST_ANY ]
  | .FU_CTRL => [ FU_CTRL_ESC_CAP ]
  | .FU_STATUS => [ FU_STATUS_EMBER_RUN, FU_STATUS_FAULT_ASSERTED, FU_STATUS_CONSEQ_CNT, FU_STATUS_IRQ_MISS ]
  | .FU_IRQ_CFG => [ FU_IRQ_CFG_EN, FU_IRQ_CFG_CLASS_MASK, FU_IRQ_CFG_TID ]
  | .FU_CMD => [ FU_CMD_OPCODE, FU_CMD_TAG ]
  | .FU_CMD_ARG => [ FU_CMD_ARG_CLASS, FU_CMD_ARG_SCOPE ]
  | .FU_CMD_STATUS => [ FU_CMD_STATUS_STATUS, FU_CMD_STATUS_TAG, FU_CMD_STATUS_BUSY ]
  | .FU_LOG_CFG => [ FU_LOG_CFG_WRAP ]
  | .FU_LOG_IDX => [ FU_LOG_IDX_PROD, FU_LOG_IDX_CONS ]
  | .FU_LOG_STATUS => [ FU_LOG_STATUS_LOG_LOST, FU_LOG_STATUS_HBM_FAIL, FU_LOG_STATUS_ODL_FAIL, FU_LOG_STATUS_RING_FULL, FU_LOG_STATUS_LOST_CNT, FU_LOG_STATUS_DROPPED, FU_LOG_STATUS_OVERWRITTEN ]
  | .FU_INJ => [ FU_INJ_SOURCE, FU_INJ_SCOPE, FU_INJ_INV_MASK, FU_INJ_MODE, FU_INJ_ARMED ]
  | .FU_FIRST => [ FU_FIRST_RECORD ]
  | .FU_FIRST5 => [ FU_FIRST5_VALID, FU_FIRST5_MORE ]
  | .FU_BACKSTOP0 => [ FU_BACKSTOP0_TIME_NS ]
  | .FU_BACKSTOP1 => [ FU_BACKSTOP1_VALID, FU_BACKSTOP1_PART, FU_BACKSTOP1_SOURCE, FU_BACKSTOP1_SYNDROME, FU_BACKSTOP1_SEQ ]
  | .FU_SRC => [ FU_SRC_LEVEL_CE, FU_SRC_LEVEL_NC, FU_SRC_LEVEL_PF, FU_SRC_LEVEL_DF, FU_SRC_PRESENT, FU_SRC_LATCHED ]
  | .FU_SRC_CNT => [ FU_SRC_CNT_COUNT ]
  | .STK_CTRL => [ STK_CTRL_JOIN_EN, STK_CTRL_TIME_FWD_EN ]
  | .STK_CFG => [ STK_CFG_SPLIT_TMO_US, STK_CFG_XT_TMO_US, STK_CFG_TS_PERIOD_US ]
  | .STK_STATUS => [ STK_STATUS_STATE, STK_STATUS_MEMBERS, STK_STATUS_DEPARTED, STK_STATUS_MASTER_DEV, STK_STATUS_STACK_ID ]
  | .STK_TIME => [ STK_TIME_OFFSET_NS, STK_TIME_LOCKED ]
  | .STK_ERR => [ STK_ERR_SPLIT, STK_ERR_MASTER_CONFLICT, STK_ERR_VERSION_MISMATCH, STK_ERR_DEV_ID_DUP, STK_ERR_AUTH_FAIL, STK_ERR_TIME_UNLOCK, STK_ERR_TIME_AHEAD, STK_ERR_XT_TMO, STK_ERR_JOIN_ABORT ]
  | .STK_CNT => [ STK_CNT_XT_TIMEOUTS, STK_CNT_JOINS ]
  | .STK_PEER => [ STK_PEER_MEMBER, STK_PEER_DEPARTED, STK_PEER_LINKS, STK_PEER_RELAY, STK_PEER_FW_VERSION ]
  | .SRF_CFG => [ SRF_CFG_EN, SRF_CFG_RETRAIN, SRF_CFG_REPLAY_TMO_NS, SRF_CFG_REPLAY_RETRAIN, SRF_CFG_CTRL_PERIOD, SRF_CFG_ASYM_PS, SRF_CFG_RETRAIN_TMO_US ]
  | .SRF_STATUS => [ SRF_STATUS_STATE, SRF_STATUS_LOCKED, SRF_STATUS_IN_SERVICE, SRF_STATUS_CAUSE, SRF_STATUS_TX_SEQ, SRF_STATUS_RX_EXP, SRF_STATUS_UNACKED ]
  | .SRF_PEER => [ SRF_PEER_DEV, SRF_PEER_MASTER_STRAP, SRF_PEER_IN_STACK, SRF_PEER_LINK, SRF_PEER_SI_REV, SRF_PEER_FW_VERSION ]
  | .SRF_CREDIT => [ SRF_CREDIT_REQ_AVAIL, SRF_CREDIT_SNP_AVAIL, SRF_CREDIT_RSP_AVAIL ]
  | .SRF_CNT => [ SRF_CNT_CORR_SYM, SRF_CNT_UNCORR, SRF_CNT_CRC_FAIL, SRF_CNT_REPLAYS ]
  | .SRF_ERR => [ SRF_ERR_UNCORR, SRF_ERR_CRC_FAIL, SRF_ERR_REPLAY, SRF_ERR_RETRAIN, SRF_ERR_LINK_DOWN, SRF_ERR_LOCK_LOST, SRF_ERR_PEER_BAD, SRF_ERR_CREDIT_ERR, SRF_ERR_LANE_FAIL ]
  | .DMP_GCFG => [ DMP_GCFG_TOTAL_W, DMP_GCFG_WIN_MS, DMP_GCFG_WARN_VIN_MV ]
  | .DMP_PFAIL_CFG => [ DMP_PFAIL_CFG_PF_EN, DMP_PFAIL_CFG_PF_MSC_OFF, DMP_PFAIL_CFG_PF_FLUSH, DMP_PFAIL_CFG_PF_REFLUSH, DMP_PFAIL_CFG_PF_WARN, DMP_PFAIL_CFG_HOLDUP_US ]
  | .DMP_GSTATUS => [ DMP_GSTATUS_PFAIL_NOW, DMP_GSTATUS_PF_ACTIVE, DMP_GSTATUS_PF_DONE, DMP_GSTATUS_BUDGET_USED_W, DMP_GSTATUS_PF_FLUSH_NS ]
  | .DMP_GERR => [ DMP_GERR_PFAIL, DMP_GERR_PF_LATE ]
  | .DMP_CURVE => [ DMP_CURVE_I_MA, DMP_CURVE_EN, DMP_CURVE_T_US ]
  | .DMP_CFG => [ DMP_CFG_PORT, DMP_CFG_PORT_VALID, DMP_CFG_CURVE_SEL, DMP_CFG_AUTO_ON, DMP_CFG_AUTO_OFF, DMP_CFG_RAMP_VMS, DMP_CFG_GATE_TMO_MS, DMP_CFG_BUDGET_W ]
  | .DMP_LIM => [ DMP_LIM_FAST_MA, DMP_LIM_PG_MV, DMP_LIM_SHORT_MV, DMP_LIM_SHORT_DLY_MS, DMP_LIM_WARN_PCT ]
  | .DMP_CTRL => [ DMP_CTRL_POWER_ON, DMP_CTRL_POWER_OFF, DMP_CTRL_FORCE, DMP_CTRL_CLEAR, DMP_CTRL_FORCE_WARN ]
  | .DMP_STATUS => [ DMP_STATUS_STATE, DMP_STATUS_PRESENT, DMP_STATUS_PWRWARN, DMP_STATUS_SHORT_NOW, DMP_STATUS_TRIP_CAUSE, DMP_STATUS_TRIP_POINT, DMP_STATUS_CMD_STATUS, DMP_STATUS_TRIPS ]
  | .DMP_MEAS => [ DMP_MEAS_I_MA, DMP_MEAS_VIN_MV, DMP_MEAS_VOUT_MV, DMP_MEAS_GATE_OV_MV ]
  | .DMP_CAP => [ DMP_CAP_PEAK_MA, DMP_CAP_MIN_VOUT_MV, DMP_CAP_MIN_VIN_MV, DMP_CAP_PEAK_HOLD_MA ]
  | .DMP_ERR => [ DMP_ERR_TRIP_CURVE, DMP_ERR_TRIP_FAST, DMP_ERR_GATE_FAIL, DMP_ERR_PG_FAIL, DMP_ERR_FET_SHORT, DMP_ERR_PRESENCE_LOST, DMP_ERR_WARN_VIN ]
  | .HJ_STATUS => [ HJ_STATUS_LIFECYCLE, HJ_STATUS_APPROVED, HJ_STATUS_ERROR_STATE, HJ_STATUS_SELFTEST_OK, HJ_STATUS_DEBUG_LEVEL, HJ_STATUS_ROOT_IDX, HJ_STATUS_BOOT_SLOT ]
  | .HJ_VERSION => [ HJ_VERSION_KINDLING_REV, HJ_VERSION_FW_VERSION ]
  | .HJ_BOOT_STATUS => [ HJ_BOOT_STATUS_FAIL_A, HJ_BOOT_STATUS_FAIL_B, HJ_BOOT_STATUS_PAGES_REREAD, HJ_BOOT_STATUS_BOOT_US ]
  | .HJ_ERR => [ HJ_ERR_ENT_FAIL, HJ_ERR_KAT_FAIL, HJ_ERR_PAGE_BAD, HJ_ERR_HOLD_PENDING, HJ_ERR_KEY_ABORT, HJ_ERR_BOOT_FALLBACK, HJ_ERR_TALLY_REFUSED, HJ_ERR_STACK_PIN ]
  | .HJ_DRBG_STATUS => [ HJ_DRBG_STATUS_HEALTHY, HJ_DRBG_STATUS_INSTANTIATED, HJ_DRBG_STATUS_RECOVERY_TRIES, HJ_DRBG_STATUS_RESEEDS ]
  | .HJ_GATE => [ HJ_GATE_CLK_OFF, HJ_GATE_PWR_OFF, HJ_GATE_PENDING, HJ_GATE_HELD, HJ_GATE_CLK_GATED, HJ_GATE_PWR_GATED, HJ_GATE_LAST_STATUS ]
  | .HJ_CMD => [ HJ_CMD_OPCODE, HJ_CMD_TAG ]
  | .HJ_ARG => [ HJ_ARG_ARG ]
  | .HJ_RESP => [ HJ_RESP_STATUS, HJ_RESP_TAG, HJ_RESP_BUSY, HJ_RESP_TAG_FAIL ]
  | .HJ_RES => [ HJ_RES_RES ]
  | .BR_CFG => [ BR_CFG_ACC_TMO_US, BR_CFG_SMB_ADDR, BR_CFG_SMB_SPEED, BR_CFG_SMB_EN, BR_CFG_NOTICE_TID, BR_CFG_NOTICE_EN ]
  | .BR_STATUS => [ BR_STATUS_LAST_TAG, BR_STATUS_LAST_STATUS, BR_STATUS_SPI_BUSY, BR_STATUS_RX_HELD, BR_STATUS_TX_BUSY, BR_STATUS_BACKOFFS ]
  | .BR_CNT => [ BR_CNT_FRAME_DISCARDS, BR_CNT_CRC_BAD, BR_CNT_PEC_BAD, BR_CNT_REASM_DROP ]
  | .BR_ERR => [ BR_ERR_SPI_FRAME, BR_ERR_SPI_CRC, BR_ERR_SMB_PEC, BR_ERR_MCTP_REASM, BR_ERR_EXP_NAK, BR_ERR_SWEEP_OVERRUN, BR_ERR_ACC_TMO ]
  | .BR_ALERT => [ BR_ALERT_PEND, BR_ALERT_ALERT_MASK ]
  | .BR_CMT => [ BR_CMT_GO, BR_CMT_ABORT, BR_CMT_EXPECT_EN, BR_CMT_TAG, BR_CMT_EXPECT_EPOCH ]
  | .BR_CMT_STATUS => [ BR_CMT_STATUS_STATUS, BR_CMT_STATUS_BUSY, BR_CMT_STATUS_TAG, BR_CMT_STATUS_EPOCH ]
  | .SMB_TX_CMD => [ SMB_TX_CMD_BUF, SMB_TX_CMD_TO, SMB_TX_CMD_MSG_TAG, SMB_TX_CMD_LEN, SMB_TX_CMD_DEST_ADDR, SMB_TX_CMD_DEST_EID, SMB_TX_CMD_SRC_EID, SMB_TX_CMD_GO ]
  | .SMB_RX_REL => [ SMB_RX_REL_RELEASE ]
  | .SB_CFG => [ SB_CFG_POLL_US, SB_CFG_DEBOUNCE, SB_CFG_SB_EN, SB_CFG_SB_SPEED ]
  | .SB_STATUS => [ SB_STATUS_SWEEP_US, SB_STATUS_SWEEP_MAX_US, SB_STATUS_OVERRUNS ]
  | .SB_EXP => [ SB_EXP_ADDR, SB_EXP_VALID, SB_EXP_NAK ]
  | .SB_SLOT => [ SB_SLOT_PRESENT, SB_SLOT_ATTN, SB_SLOT_ALERT, SB_SLOT_PWRGD, SB_SLOT_PRESENT_CHG, SB_SLOT_ATTN_CHG, SB_SLOT_ALERT_CHG, SB_SLOT_PWRGD_CHG ]
  | .PU_STATUS => [ PU_STATUS_STAGE, PU_STATUS_CAUSE, PU_STATUS_DETAIL, PU_STATUS_PILOT, PU_STATUS_LAST_RESET, PU_STATUS_PILOT_ENTRIES ]
  | .PU_DIAG => [ PU_DIAG_SRAM_REPAIRS, PU_DIAG_HBM_REPAIRS, PU_DIAG_LOST_DIRTY, PU_DIAG_TOTAL_MS ]
  | .PU_CFG => [ PU_CFG_FLUSH_ON_RESET, PU_CFG_FLUSH_TMO_US ]
  | .PU_CMD => [ PU_CMD_OPCODE, PU_CMD_TAG ]
  | .PU_CMD_STATUS => [ PU_CMD_STATUS_STATUS, PU_CMD_STATUS_TAG, PU_CMD_STATUS_BUSY ]
  | .PU_RAIL => [ PU_RAIL_MV, PU_RAIL_LOW, PU_RAIL_HIGH ]
  | .PU_STAGE_US => [ PU_STAGE_US_US ]
  | .CNT_CFG => [ CNT_CFG_SWEEP_PERIOD_US, CNT_CFG_BANK_FIRST, CNT_CFG_BANK_LAST, CNT_CFG_NOTE_TID, CNT_CFG_NOTE_EN ]
  | .CNT_SNAP => [ CNT_SNAP_SNAP_BASE ]
  | .CNT_CTRL => [ CNT_CTRL_SWEEP ]
  | .CNT_STATUS => [ CNT_STATUS_SWEEP_SEQ, CNT_STATUS_SWEEPING, CNT_STATUS_CMD_STATUS, CNT_STATUS_OVERRUNS ]
  | .CNT_ERR => [ CNT_ERR_SNAP_FAIL, CNT_ERR_CHM_FAIL, CNT_ERR_NOTICE_WAITS ]
  | .CHM_CFG => [ CHM_CFG_EN, CHM_CFG_JITTER, CHM_CFG_N, CHM_CFG_WMARK ]
  | .CHM_FILTER => [ CHM_FILTER_TID, CHM_FILTER_TID_ANY, CHM_FILTER_INST, CHM_FILTER_INST_ANY, CHM_FILTER_CLASS ]
  | .CHM_RING => [ CHM_RING_BASE, CHM_RING_LOG2 ]
  | .CHM_IDX => [ CHM_IDX_PROD, CHM_IDX_CONS ]
  | .CHM_STAT => [ CHM_STAT_DROPPED ]
  | .CSET_CFG => [ CSET_CFG_VALID, CSET_CFG_INST, CSET_CFG_MSIX_EN, CSET_CFG_MSIX_VEC ]
  | .CSET_MAP => [ CSET_MAP_BANK, CSET_MAP_COUNTER, CSET_MAP_USED ]
  | .CSET_VAL => [ CSET_VAL_VALUE, CSET_VAL_OVF ]
  | .CNT_SEL => [ CNT_SEL_EVENT, CNT_SEL_MODE, CNT_SEL_EN, CNT_SEL_INST_EN, CNT_SEL_INST, CNT_SEL_BOUND, CNT_SEL_OVF_MULTI ]
  | .CNT_VAL => [ CNT_VAL_VALUE, CNT_VAL_OVF, CNT_VAL_OVF_NOTE ]
  | .CNT_EVT => [ CNT_EVT_CODE, CNT_EVT_EDGE_OK, CNT_EVT_LEVEL_OK, CNT_EVT_INST_OK, CNT_EVT_VALID, CNT_EVT_NAME ]
  | .TALLY => [ TALLY_VALUE, TALLY_REMAIN ]
  | .RBC => [ RBC_COUNT ]

/-- The place of a register: offset of its first copy, and stride and count of its two indices. -/
structure RegLoc where
  reg : RegName
  base : Nat
  iStride : Nat
  iCount : Nat
  jStride : Nat
  jCount : Nat
deriving DecidableEq, Repr

/-- The register map, part 0 (Table 1-7 bases plus the chapters' offsets). -/
def regMap0 : List RegLoc := [
  ⟨.ID_PART, 0x0, 0x0, 1, 0x0, 1⟩,
  ⟨.ID_REV, 0x8, 0x0, 1, 0x0, 1⟩,
  ⟨.ID_CONFIG, 0x10, 0x0, 1, 0x0, 1⟩,
  ⟨.ID_STACK, 0x18, 0x0, 1, 0x0, 1⟩,
  ⟨.ID_SERIAL, 0x20, 0x0, 1, 0x0, 1⟩,
  ⟨.TB_NOW, 0x3E00000, 0x0, 1, 0x0, 1⟩,
  ⟨.TB_CFG, 0x3E00008, 0x0, 1, 0x0, 1⟩,
  ⟨.TB_ADJ, 0x3E00010, 0x0, 1, 0x0, 1⟩,
  ⟨.TB_STEP, 0x3E00018, 0x0, 1, 0x0, 1⟩,
  ⟨.TB_STATUS, 0x3E00020, 0x0, 1, 0x0, 1⟩,
  ⟨.AVS_CTRL, 0x3E00100, 0x0, 1, 0x0, 1⟩,
  ⟨.AVS_STATUS, 0x3E00108, 0x0, 1, 0x0, 1⟩,
  ⟨.PACE_MON, 0x3E01000, 0x8, 64, 0x0, 1⟩,
  ⟨.ISL_STATUS, 0x3E02000, 0x8, 40, 0x0, 1⟩,
  ⟨.PC_ROLE_CFG, 0x400000, 0x4000, 128, 0x0, 1⟩,
  ⟨.PC_WIDTH_CFG, 0x400008, 0x4000, 128, 0x0, 1⟩,
  ⟨.PC_LINK_CFG, 0x400010, 0x4000, 128, 0x0, 1⟩,
  ⟨.PC_LINK_STATUS, 0x400018, 0x4000, 128, 0x0, 1⟩,
  ⟨.PC_QUIESCE_CTRL, 0x400020, 0x4000, 128, 0x0, 1⟩,
  ⟨.PC_QUIESCE_STATUS, 0x400028, 0x4000, 128, 0x0, 1⟩,
  ⟨.PC_LOOP_CFG, 0x400030, 0x4000, 128, 0x0, 1⟩,
  ⟨.PC_TAG_STATUS, 0x400038, 0x4000, 128, 0x0, 1⟩,
  ⟨.PC_ERR_STATUS, 0x400040, 0x4000, 128, 0x0, 1⟩,
  ⟨.BIND_CMD, 0x900000, 0x0, 1, 0x0, 1⟩,
  ⟨.BIND_ARG0, 0x900008, 0x0, 1, 0x0, 1⟩,
  ⟨.BIND_ARG1, 0x900010, 0x0, 1, 0x0, 1⟩,
  ⟨.BIND_STATUS, 0x900018, 0x0, 1, 0x0, 1⟩,
  ⟨.BIND_CFG, 0x900020, 0x0, 1, 0x0, 1⟩,
  ⟨.IW_BASE, 0x910000, 0x10, 4096, 0x0, 1⟩,
  ⟨.IW_LIMIT, 0x910008, 0x10, 4096, 0x0, 1⟩,
  ⟨.ILS_CFG, 0x920000, 0x100, 1024, 0x0, 1⟩,
  ⟨.ILS_TGT, 0x920010, 0x100, 1024, 0x8, 16⟩,
  ⟨.MOD_ENTRY, 0x960000, 0x8, 2048, 0x0, 1⟩,
  ⟨.VPPB_ENTRY, 0x970000, 0x200, 128, 0x8, 64⟩,
  ⟨.PBR_ROUTE, 0x980000, 0x8, 4095, 0x0, 1⟩,
  ⟨.PBR_STATUS, 0x988000, 0x0, 1, 0x0, 1⟩,
  ⟨.SW_CFG, 0x800000, 0x0, 1, 0x0, 1⟩,
  ⟨.SW_BUF_CFG, 0x800008, 0x0, 1, 0x0, 1⟩,
  ⟨.SW_TRK_CFG, 0x800010, 0x0, 1, 0x0, 1⟩,
  ⟨.SW_OVF_CFG, 0x800018, 0x0, 1, 0x0, 1⟩,
  ⟨.SW_AGE_CFG, 0x800020, 0x0, 1, 0x0, 1⟩,
  ⟨.SW_STATUS, 0x800028, 0x0, 1, 0x0, 1⟩,
  ⟨.SW_OVF_STATUS, 0x800030, 0x0, 1, 0x0, 1⟩,
  ⟨.SW_AGE_STATUS, 0x800038, 0x0, 1, 0x0, 1⟩,
  ⟨.SW_ERR_STATUS, 0x800040, 0x0, 1, 0x0, 1⟩,
  ⟨.MIR_CFG, 0x801000, 0x20, 16, 0x0, 1⟩,
  ⟨.MIR_MATCH, 0x801008, 0x20, 16, 0x0, 1⟩,
  ⟨.MIR_DEST, 0x801010, 0x20, 16, 0x0, 1⟩,
  ⟨.MIR_STATUS, 0x801018, 0x20, 16, 0x0, 1⟩,
  ⟨.EGQ_STATUS, 0x802000, 0x8, 128, 0x0, 1⟩]

/-- The register map, part 1 (Table 1-7 bases plus the chapters' offsets). -/
def regMap1 : List RegLoc := [
  ⟨.MS_CFG, 0xA00000, 0x0, 1, 0x0, 1⟩,
  ⟨.MS_STATUS, 0xA00008, 0x0, 1, 0x0, 1⟩,
  ⟨.MTR_CFG, 0xA10000, 0x20, 16384, 0x0, 1⟩,
  ⟨.MTR_RATE, 0xA10008, 0x20, 16384, 0x0, 1⟩,
  ⟨.MTR_BURST, 0xA10010, 0x20, 16384, 0x0, 1⟩,
  ⟨.MTR_STATUS, 0xA10018, 0x20, 16384, 0x0, 1⟩,
  ⟨.INST_MS, 0xA90000, 0x8, 4096, 0x0, 1⟩,
  ⟨.INST_LAT, 0xAA0000, 0x8, 4096, 0x0, 1⟩,
  ⟨.EQ_SHP, 0xAB0000, 0x200, 128, 0x20, 16⟩,
  ⟨.EQ_WRR, 0xAB0008, 0x200, 128, 0x20, 16⟩,
  ⟨.EQ_STATUS, 0xAB0010, 0x200, 128, 0x20, 16⟩,
  ⟨.EQ_LAT, 0xAB0018, 0x200, 128, 0x20, 16⟩,
  ⟨.HOME_CFG, 0xC00000, 0x0, 1, 0x0, 1⟩,
  ⟨.HOME_TMO_CFG, 0xC00008, 0x0, 1, 0x0, 1⟩,
  ⟨.HOME_ERR_STATUS, 0xC00010, 0x0, 1, 0x0, 1⟩,
  ⟨.HOME_CNT, 0xC00018, 0x0, 1, 0x0, 1⟩,
  ⟨.SF_PROBE_CTRL, 0xC00100, 0x0, 1, 0x0, 1⟩,
  ⟨.SF_PROBE_DATA0, 0xC00108, 0x0, 1, 0x0, 1⟩,
  ⟨.SF_PROBE_DATA1, 0xC00110, 0x0, 1, 0x0, 1⟩,
  ⟨.MSC_CTRL, 0xC00200, 0x0, 1, 0x0, 1⟩,
  ⟨.HOME_SLICE_STATUS, 0xC01000, 0x100, 2, 0x0, 1⟩,
  ⟨.SF_STATUS, 0xC01008, 0x100, 2, 0x0, 1⟩,
  ⟨.MSC_STATUS, 0xC01010, 0x100, 2, 0x0, 1⟩,
  ⟨.PLC_CTRL, 0xE00000, 0x0, 1, 0x0, 1⟩,
  ⟨.PLC_CFG, 0xE00008, 0x0, 1, 0x0, 1⟩,
  ⟨.PLC_LIMIT, 0xE00010, 0x0, 1, 0x0, 1⟩,
  ⟨.PLC_SYNC_CFG, 0xE00018, 0x0, 1, 0x0, 1⟩,
  ⟨.PLC_HEAT_CFG, 0xE00020, 0x0, 1, 0x0, 1⟩,
  ⟨.PLC_STATUS, 0xE00028, 0x0, 1, 0x0, 1⟩,
  ⟨.PLC_EPOCH_STATUS, 0xE00030, 0x0, 1, 0x0, 1⟩,
  ⟨.PLC_ERR_STATUS, 0xE00038, 0x0, 1, 0x0, 1⟩,
  ⟨.PLC_CMD, 0xE00040, 0x0, 1, 0x0, 1⟩,
  ⟨.PLC_CMD_ARG, 0xE00048, 0x0, 1, 0x0, 1⟩,
  ⟨.PLC_CMD_STATUS, 0xE00050, 0x0, 1, 0x0, 1⟩,
  ⟨.PLC_REQ_RING, 0xE00100, 0x0, 1, 0x0, 1⟩,
  ⟨.PLC_REQ_IDX, 0xE00108, 0x0, 1, 0x0, 1⟩,
  ⟨.PLC_LOG_CFG, 0xE00110, 0x0, 1, 0x0, 1⟩,
  ⟨.PLC_LOG_IDX, 0xE00118, 0x0, 1, 0x0, 1⟩,
  ⟨.PLC_PROBE_CTRL, 0xE00200, 0x0, 1, 0x0, 1⟩,
  ⟨.PLC_PROBE_DATA0, 0xE00208, 0x0, 1, 0x0, 1⟩,
  ⟨.PLC_PROBE_DATA1, 0xE00210, 0x0, 1, 0x0, 1⟩,
  ⟨.PLC_SET, 0xE10000, 0x8, 1024, 0x0, 1⟩,
  ⟨.PLC_INST, 0xE20000, 0x8, 4096, 0x0, 1⟩,
  ⟨.PLC_MIG, 0xE40000, 0x8, 4096, 0x0, 1⟩,
  ⟨.HTH_CTRL, 0x2000000, 0x100000, 16, 0x0, 1⟩,
  ⟨.HTH_STATUS, 0x2000008, 0x100000, 16, 0x0, 1⟩,
  ⟨.HTH_LOAD_CMD, 0x2000100, 0x100000, 16, 0x0, 1⟩,
  ⟨.HTH_LOAD_SRC, 0x2000108, 0x100000, 16, 0x0, 1⟩,
  ⟨.HTH_LOAD_STATUS, 0x2000110, 0x100000, 16, 0x0, 1⟩,
  ⟨.ENG_CFG, 0x2001000, 0x100000, 16, 0x8, 32⟩]

/-- The register map, part 2 (Table 1-7 bases plus the chapters' offsets). -/
def regMap2 : List RegLoc := [
  ⟨.TH_CTRL, 0x2002000, 0x100000, 16, 0x20, 128⟩,
  ⟨.TH_VEC, 0x2002008, 0x100000, 16, 0x20, 128⟩,
  ⟨.TH_STATUS, 0x2002010, 0x100000, 16, 0x20, 128⟩,
  ⟨.TH_PC, 0x2002018, 0x100000, 16, 0x20, 128⟩,
  ⟨.CMT_CFG, 0x2F80000, 0x0, 1, 0x0, 1⟩,
  ⟨.CMT_STATUS, 0x2F80008, 0x0, 1, 0x0, 1⟩,
  ⟨.STG_STATUS, 0x2F80010, 0x0, 1, 0x0, 1⟩,
  ⟨.FLU_ASSIGN, 0x1000000, 0x100, 2048, 0x0, 1⟩,
  ⟨.FLU_CFG, 0x1000008, 0x100, 2048, 0x0, 1⟩,
  ⟨.FLU_CTRL, 0x1000010, 0x100, 2048, 0x0, 1⟩,
  ⟨.FLU_STATUS, 0x1000018, 0x100, 2048, 0x0, 1⟩,
  ⟨.FLU_DOORBELL, 0x1000020, 0x100, 2048, 0x0, 1⟩,
  ⟨.FLU_DESC, 0x1000028, 0x100, 2048, 0x0, 1⟩,
  ⟨.FLU_SRC, 0x1000030, 0x100, 2048, 0x0, 1⟩,
  ⟨.FLU_DST, 0x1000038, 0x100, 2048, 0x0, 1⟩,
  ⟨.FLU_LEFT, 0x1000040, 0x100, 2048, 0x0, 1⟩,
  ⟨.FLU_ACC, 0x1000048, 0x100, 2048, 0x0, 1⟩,
  ⟨.FLU_RING_BASE, 0x1000050, 0x100, 2048, 0x0, 1⟩,
  ⟨.FLU_RING_IDX, 0x1000058, 0x100, 2048, 0x0, 1⟩,
  ⟨.FLU_RUN_RET, 0x1000060, 0x100, 2048, 0x0, 1⟩,
  ⟨.FLU_ERR, 0x1000068, 0x100, 2048, 0x0, 1⟩,
  ⟨.RQL_CFG, 0x1000070, 0x100, 2048, 0x0, 1⟩,
  ⟨.FLU_LAST_CMPL, 0x1000080, 0x100, 2048, 0x8, 4⟩,
  ⟨.CQ_BASE, 0x10000A0, 0x100, 2048, 0x20, 2⟩,
  ⟨.CQ_CFG, 0x10000A8, 0x100, 2048, 0x20, 2⟩,
  ⟨.CQ_IDX, 0x10000B0, 0x100, 2048, 0x20, 2⟩,
  ⟨.WQ_CFG, 0x1400000, 0x40, 8192, 0x0, 1⟩,
  ⟨.WQ_RING, 0x1400008, 0x40, 8192, 0x0, 1⟩,
  ⟨.WQ_HEAD_ADDR, 0x1400010, 0x40, 8192, 0x0, 1⟩,
  ⟨.WQ_CTRL, 0x1400018, 0x40, 8192, 0x0, 1⟩,
  ⟨.WQ_DB, 0x1400020, 0x40, 8192, 0x0, 1⟩,
  ⟨.WQ_IDX, 0x1400028, 0x40, 8192, 0x0, 1⟩,
  ⟨.WQ_STATUS, 0x1400030, 0x40, 8192, 0x0, 1⟩,
  ⟨.WQ_ERR, 0x1400038, 0x40, 8192, 0x0, 1⟩,
  ⟨.INST_CMD, 0x1800000, 0x400, 4096, 0x0, 1⟩,
  ⟨.INST_ARG0, 0x1800008, 0x400, 4096, 0x0, 1⟩,
  ⟨.INST_ARG1, 0x1800010, 0x400, 4096, 0x0, 1⟩,
  ⟨.INST_STATUS, 0x1800018, 0x400, 4096, 0x0, 1⟩,
  ⟨.INST_POOL, 0x1800020, 0x400, 4096, 0x0, 1⟩,
  ⟨.INST_OVF, 0x1800028, 0x400, 4096, 0x0, 1⟩,
  ⟨.INST_DC_CFG, 0x1800030, 0x400, 4096, 0x0, 1⟩,
  ⟨.INST_USE, 0x1800038, 0x400, 4096, 0x0, 1⟩,
  ⟨.MBX_CFG, 0x1800040, 0x400, 4096, 0x0, 1⟩,
  ⟨.INST_ERR, 0x1800048, 0x400, 4096, 0x0, 1⟩,
  ⟨.MBX_DB, 0x1800100, 0x400, 4096, 0x0, 1⟩,
  ⟨.MBX_STATUS, 0x1800108, 0x400, 4096, 0x0, 1⟩,
  ⟨.MBX_NOTE_IDX, 0x1800110, 0x400, 4096, 0x0, 1⟩,
  ⟨.MBX_HCFG, 0x1800118, 0x400, 4096, 0x0, 1⟩,
  ⟨.PG_VIOL_ADDR, 0x3000000, 0x1000, 128, 0x0, 1⟩,
  ⟨.PG_VIOL_INFO, 0x3000008, 0x1000, 128, 0x0, 1⟩]

/-- The register map, part 3 (Table 1-7 bases plus the chapters' offsets). -/
def regMap3 : List RegLoc := [
  ⟨.PG_VIOL_CNT, 0x3000010, 0x1000, 128, 0x0, 1⟩,
  ⟨.PG_LO, 0x3000800, 0x1000, 128, 0x10, 128⟩,
  ⟨.PG_HI, 0x3000808, 0x1000, 128, 0x10, 128⟩,
  ⟨.TG_CTRL, 0x3100000, 0x400, 2048, 0x0, 1⟩,
  ⟨.TG_VIOL_ADDR, 0x3100008, 0x400, 2048, 0x0, 1⟩,
  ⟨.TG_VIOL_INFO, 0x3100010, 0x400, 2048, 0x0, 1⟩,
  ⟨.TG_VIOL_CNT, 0x3100018, 0x400, 2048, 0x0, 1⟩,
  ⟨.TG_LO, 0x3100100, 0x400, 2048, 0x10, 32⟩,
  ⟨.TG_HI, 0x3100108, 0x400, 2048, 0x10, 32⟩,
  ⟨.FU_CTRL, 0x100000, 0x0, 1, 0x0, 1⟩,
  ⟨.FU_STATUS, 0x100008, 0x0, 1, 0x0, 1⟩,
  ⟨.FU_IRQ_CFG, 0x100010, 0x8, 4, 0x0, 1⟩,
  ⟨.FU_CMD, 0x100030, 0x0, 1, 0x0, 1⟩,
  ⟨.FU_CMD_ARG, 0x100038, 0x0, 1, 0x0, 1⟩,
  ⟨.FU_CMD_STATUS, 0x100040, 0x0, 1, 0x0, 1⟩,
  ⟨.FU_LOG_CFG, 0x100048, 0x0, 1, 0x0, 1⟩,
  ⟨.FU_LOG_IDX, 0x100050, 0x0, 1, 0x0, 1⟩,
  ⟨.FU_LOG_STATUS, 0x100058, 0x0, 1, 0x0, 1⟩,
  ⟨.FU_INJ, 0x100060, 0x0, 1, 0x0, 1⟩,
  ⟨.FU_FIRST, 0x100100, 0x40, 4, 0x8, 5⟩,
  ⟨.FU_FIRST5, 0x100128, 0x40, 4, 0x0, 1⟩,
  ⟨.FU_BACKSTOP0, 0x100200, 0x10, 4, 0x0, 1⟩,
  ⟨.FU_BACKSTOP1, 0x100208, 0x10, 4, 0x0, 1⟩,
  ⟨.FU_SRC, 0x108000, 0x8, 4096, 0x0, 1⟩,
  ⟨.FU_SRC_CNT, 0x110000, 0x8, 4096, 0x0, 1⟩,
  ⟨.STK_CTRL, 0x3C00000, 0x0, 1, 0x0, 1⟩,
  ⟨.STK_CFG, 0x3C00008, 0x0, 1, 0x0, 1⟩,
  ⟨.STK_STATUS, 0x3C00010, 0x0, 1, 0x0, 1⟩,
  ⟨.STK_TIME, 0x3C00018, 0x0, 1, 0x0, 1⟩,
  ⟨.STK_ERR, 0x3C00020, 0x0, 1, 0x0, 1⟩,
  ⟨.STK_CNT, 0x3C00028, 0x0, 1, 0x0, 1⟩,
  ⟨.STK_PEER, 0x3C00100, 0x8, 4, 0x0, 1⟩,
  ⟨.SRF_CFG, 0x3C01000, 0x100, 4, 0x0, 1⟩,
  ⟨.SRF_STATUS, 0x3C01008, 0x100, 4, 0x0, 1⟩,
  ⟨.SRF_PEER, 0x3C01010, 0x100, 4, 0x0, 1⟩,
  ⟨.SRF_CREDIT, 0x3C01018, 0x100, 4, 0x0, 1⟩,
  ⟨.SRF_CNT, 0x3C01020, 0x100, 4, 0x0, 1⟩,
  ⟨.SRF_ERR, 0x3C01028, 0x100, 4, 0x0, 1⟩,
  ⟨.DMP_GCFG, 0x3800000, 0x0, 1, 0x0, 1⟩,
  ⟨.DMP_PFAIL_CFG, 0x3800008, 0x0, 1, 0x0, 1⟩,
  ⟨.DMP_GSTATUS, 0x3800010, 0x0, 1, 0x0, 1⟩,
  ⟨.DMP_GERR, 0x3800018, 0x0, 1, 0x0, 1⟩,
  ⟨.DMP_CURVE, 0x3801000, 0x40, 8, 0x8, 8⟩,
  ⟨.DMP_CFG, 0x3802000, 0x40, 32, 0x0, 1⟩,
  ⟨.DMP_LIM, 0x3802008, 0x40, 32, 0x0, 1⟩,
  ⟨.DMP_CTRL, 0x3802010, 0x40, 32, 0x0, 1⟩,
  ⟨.DMP_STATUS, 0x3802018, 0x40, 32, 0x0, 1⟩,
  ⟨.DMP_MEAS, 0x3802020, 0x40, 32, 0x0, 1⟩,
  ⟨.DMP_CAP, 0x3802028, 0x40, 32, 0x0, 1⟩,
  ⟨.DMP_ERR, 0x3802030, 0x40, 32, 0x0, 1⟩]

/-- The register map, part 4 (Table 1-7 bases plus the chapters' offsets). -/
def regMap4 : List RegLoc := [
  ⟨.HJ_STATUS, 0x200000, 0x0, 1, 0x0, 1⟩,
  ⟨.HJ_VERSION, 0x200008, 0x0, 1, 0x0, 1⟩,
  ⟨.HJ_BOOT_STATUS, 0x200010, 0x0, 1, 0x0, 1⟩,
  ⟨.HJ_ERR, 0x200018, 0x0, 1, 0x0, 1⟩,
  ⟨.HJ_DRBG_STATUS, 0x200020, 0x0, 1, 0x0, 1⟩,
  ⟨.HJ_GATE, 0x200100, 0x8, 50, 0x0, 1⟩,
  ⟨.HJ_CMD, 0x210000, 0x100, 32, 0x0, 1⟩,
  ⟨.HJ_ARG, 0x210008, 0x100, 32, 0x8, 4⟩,
  ⟨.HJ_RESP, 0x210028, 0x100, 32, 0x0, 1⟩,
  ⟨.HJ_RES, 0x210030, 0x100, 32, 0x8, 4⟩,
  ⟨.BR_CFG, 0x3A00000, 0x0, 1, 0x0, 1⟩,
  ⟨.BR_STATUS, 0x3A00008, 0x0, 1, 0x0, 1⟩,
  ⟨.BR_CNT, 0x3A00010, 0x0, 1, 0x0, 1⟩,
  ⟨.BR_ERR, 0x3A00018, 0x0, 1, 0x0, 1⟩,
  ⟨.BR_ALERT, 0x3A00020, 0x0, 1, 0x0, 1⟩,
  ⟨.BR_CMT, 0x3A00028, 0x0, 1, 0x0, 1⟩,
  ⟨.BR_CMT_STATUS, 0x3A00030, 0x0, 1, 0x0, 1⟩,
  ⟨.SMB_TX_CMD, 0x3A00100, 0x0, 1, 0x0, 1⟩,
  ⟨.SMB_RX_REL, 0x3A00108, 0x0, 1, 0x0, 1⟩,
  ⟨.SB_CFG, 0x3A00200, 0x0, 1, 0x0, 1⟩,
  ⟨.SB_STATUS, 0x3A00208, 0x0, 1, 0x0, 1⟩,
  ⟨.SB_EXP, 0x3A00300, 0x8, 8, 0x0, 1⟩,
  ⟨.SB_SLOT, 0x3A00400, 0x8, 32, 0x0, 1⟩,
  ⟨.PU_STATUS, 0x3E03000, 0x0, 1, 0x0, 1⟩,
  ⟨.PU_DIAG, 0x3E03008, 0x0, 1, 0x0, 1⟩,
  ⟨.PU_CFG, 0x3E03010, 0x0, 1, 0x0, 1⟩,
  ⟨.PU_CMD, 0x3E03018, 0x0, 1, 0x0, 1⟩,
  ⟨.PU_CMD_STATUS, 0x3E03020, 0x0, 1, 0x0, 1⟩,
  ⟨.PU_RAIL, 0x3E03040, 0x8, 7, 0x0, 1⟩,
  ⟨.PU_STAGE_US, 0x3E03100, 0x8, 10, 0x0, 1⟩,
  ⟨.CNT_CFG, 0x3400000, 0x0, 1, 0x0, 1⟩,
  ⟨.CNT_SNAP, 0x3400008, 0x0, 1, 0x0, 1⟩,
  ⟨.CNT_CTRL, 0x3400010, 0x0, 1, 0x0, 1⟩,
  ⟨.CNT_STATUS, 0x3400018, 0x0, 1, 0x0, 1⟩,
  ⟨.CNT_ERR, 0x3400020, 0x0, 1, 0x0, 1⟩,
  ⟨.CHM_CFG, 0x3402000, 0x100, 16, 0x0, 1⟩,
  ⟨.CHM_FILTER, 0x3402008, 0x100, 16, 0x0, 1⟩,
  ⟨.CHM_RING, 0x3402010, 0x100, 16, 0x0, 1⟩,
  ⟨.CHM_IDX, 0x3402018, 0x100, 16, 0x0, 1⟩,
  ⟨.CHM_STAT, 0x3402020, 0x100, 16, 0x0, 1⟩,
  ⟨.CSET_CFG, 0x3410000, 0x100, 256, 0x0, 1⟩,
  ⟨.CSET_MAP, 0x3410010, 0x100, 256, 0x8, 8⟩,
  ⟨.CSET_VAL, 0x3410080, 0x100, 256, 0x8, 8⟩,
  ⟨.CNT_SEL, 0x3420000, 0x1000, 162, 0x10, 128⟩,
  ⟨.CNT_VAL, 0x3420008, 0x1000, 162, 0x10, 128⟩,
  ⟨.CNT_EVT, 0x3420C00, 0x1000, 162, 0x8, 128⟩,
  ⟨.TALLY, 0x100, 0x8, 64, 0x0, 1⟩,
  ⟨.RBC, 0x300, 0x8, 4, 0x0, 1⟩]

/-- The whole register map. -/
def regMap : List RegLoc := regMap0 ++ regMap1 ++ regMap2 ++ regMap3 ++ regMap4

/-- The copy of a register that lies at offset `off`, if this place holds it. -/
def RegLoc.at? (l : RegLoc) (off : Nat) : Option (RegName × Nat × Nat) :=
  if off < l.base then none else
  let d := off - l.base
  let i := if l.iCount = 1 then 0 else d / l.iStride
  let r := if l.iCount = 1 then d else d % l.iStride
  let j := if l.jCount = 1 then 0 else r / l.jStride
  let q := if l.jCount = 1 then r else r % l.jStride
  if q = 0 ∧ i < l.iCount ∧ j < l.jCount then some (l.reg, i, j) else none

/-- The register at an 8-byte aligned offset of the Device Control Space (R24, R26); none where no chapter names one (R25). -/
def regAt (off : Nat) : Option (RegName × Nat × Nat) := regMap.findSome? (fun l => l.at? off)

end Sys2Proof.Machine
end

