-- ==== Sys2Proof/Machine/Store.lean ====
section
/-! DEFINITION. Reading and writing the sparse maps and the byte memory. Both keep one canonical form: keys strictly
rising, and no byte entry equal to what an unlisted address reads as. -/

namespace Sys2Proof.Machine

/-- The entry of key `k`, if the map lists one. -/
def nget? {α : Type} (k : Nat) : NMap α → Option α
  | [] => none
  | e :: m => if e.1 = k then some e.2 else nget? k m

/-- The entry of key `k`, or `d`. -/
def ngetD {α : Type} (m : NMap α) (k : Nat) (d : α) : α := (nget? k m).getD d

/-- The map without key `k`. -/
def nerase {α : Type} (k : Nat) (m : NMap α) : NMap α := m.filter (fun e => e.1 != k)

/-- The map with `v` at key `k`, its keys still strictly rising: below `k` nothing changes, and an entry of `k` itself gives way. -/
def nset {α : Type} (k : Nat) (v : α) : NMap α → NMap α
  | [] => [(k, v)]
  | e :: m =>
    if e.1 < k then e :: nset k v m
    else (k, v) :: (if e.1 = k then m else e :: m)

/-- The map with `v` at key `k`, listed only where it differs from `d`. -/
def nput {α : Type} [DecidableEq α] (d : α) (k : Nat) (v : α) (m : NMap α) : NMap α :=
  if v = d then nerase k m else nset k v m

/-- The map with the entry of `k`, or `d` where there is none, changed by `f`. -/
def nmod {α : Type} (d : α) (k : Nat) (f : α → α) (m : NMap α) : NMap α := nset k (f (ngetD m k d)) m

/-- Keys strictly rising. -/
def nsorted {α : Type} : NMap α → Bool
  | [] => true
  | [_] => true
  | (k, _) :: (k', v') :: m => decide (k < k') && nsorted ((k', v') :: m)

/-- What a byte of memory that nothing has written reads as (log 3). -/
def memUnlisted : Byte := 0

/-- One byte of memory. -/
def memByte (m : List Host.Cell) (a : Nat) : Byte := ngetD m a memUnlisted

/-- Memory with one byte written. -/
def memSet (m : List Host.Cell) (a : Nat) (b : Byte) : List Host.Cell := nput memUnlisted a b m

/-- `n` bytes of memory from `a`, lowest address first. -/
def memBytes (m : List Host.Cell) (a : Nat) : Nat → List Byte
  | 0 => []
  | n + 1 => memByte m a :: memBytes m (a + 1) n

/-- Memory with bytes written from `a` up. -/
def memWrite (m : List Host.Cell) (a : Nat) : List Byte → List Host.Cell
  | [] => m
  | b :: bs => memWrite (memSet m a b) (a + 1) bs

/-- The number that bytes spell, lowest address least significant (R168). -/
def leNat : List Byte → Nat
  | [] => 0
  | b :: bs => b.toNat + 256 * leNat bs

/-- The `n` bytes of a number, least significant first (R168). -/
def leBytes : Nat → Nat → List Byte
  | 0, _ => []
  | n + 1, v => BitVec.ofNat 8 v :: leBytes n (v / 256)

/-- The canonical form of memory: addresses strictly rising and no entry equal to what an unlisted address reads as. -/
def memWf (m : List Host.Cell) : Bool := nsorted m && m.all (fun c => c.2 != memUnlisted)

end Sys2Proof.Machine
end

