-- ==== Sys2Proof/Machine/State.lean ====
section
/-! DEFINITION. The state of the KQ5120 as plain data, and its value right after the always-on reset (Table 0-4). -/

namespace Sys2Proof.Machine

/-- Why the machine stops with a fault. Nothing in this model raises one: a refused or failing command of the part answers
with a status of Table 0-5, which is a next state (safe: no run is cut short by it). -/
inductive Fault
  /-- Raised by no command. Safe: it stands only so that the type is not empty. -/
  | none
deriving DecidableEq, Repr

/-- Why the model refuses a command. -/
inductive Refusal
  /-- A command of the table that has no meaning yet, by its mnemonic. Safe: the run stops. -/
  | notModelled (mnemonic : String)
deriving DecidableEq, Repr

/-- The answer the last access gave on the path that returns a status (R13): who asked, the status code and the data. -/
structure Answer where
  master : Master
  status : Nat
  data : Nat
deriving DecidableEq, Repr

/-- A report that a checker holds for the fault unit (R302, Table 15-4). `causes` are the (source, scope) pairs of the
conditions that caused it (R306): the checker's own chapter names them. -/
structure Report where
  source : Nat
  cls : Nat
  scope : Nat
  time : Nat := 0
  status : Nat := 0
  rep : Nat := 0
  addr : Option (Nat × Nat) := none
  access : Nat := 0
  inst : Option Nat := none
  core : Nat := 0
  tid : Option Nat := none
  dev : Nat := 0
  header : List Byte := []
  aux : Nat := 0
  injected : Bool := false
  causes : List (Nat × Nat) := []
  keys : List (Nat × Nat) := []
deriving DecidableEq, Repr

/-- A record of the log (Table 15-4): the report taken, its numbers, the reaction applied, and whether the HBM ring holds it. -/
structure Record where
  rpt : Report
  seq : Nat
  primarySeq : Nat
  level : Nat
  escalated : Bool
  conseq : Bool
  already : Bool
  copied : Bool := false
deriving DecidableEq, Repr

/-- The fault unit behind its registers. `conds` are the conditions present now, `lastRec` the SEQ of the last primary of a
(source, scope), `ringWait` the records waiting to be copied to the HBM ring, `pend` the pending table of R305, `contained`
the contained scopes of Table 15-3, `skipped` the on-die entries that failed their check (R311). -/
structure FaultUnit where
  waiting : List Report := []
  conds : List (Nat × Nat) := []
  lastRec : List ((Nat × Nat) × Nat) := []
  seq : Nat := 0
  odl : NMap Record := []
  skipped : List Nat := []
  ringWait : List Record := []
  pend : List (Nat × Nat) := []
  contained : List Nat := []
  cmdDone : Bool := false
deriving DecidableEq, Repr

/-- The pins a board sees or drives (Tables 20-x, 22-x). -/
structure Pins where
  pwrgood : Bool := false
  resetN : Bool := false
  strapDev : Nat := 0
  strapMaster : Bool := false
  bootSel : Nat := 0
  faultN : Bool := true
  ember : Bool := false
  mgmtAlertN : Bool := true
  pfailN : Bool := true
  thermtrip : Bool := false
  dackLow : List Nat := []
deriving DecidableEq, Repr

/-- What a unit asks: the request kinds of Table 7-3 for composed memory, reads and writes of passthrough memory, CXL.io
requests (R56, Table 5-1), and the accesses a home slice makes to a module; a CXL.io completion that waits for earlier posted requests (R86), a
request a PBR flit carries (R77). -/
inductive ReqKind
  | rdS | rdA | rdCur | wr | wrPtl | wb
  | ptRead | ptWrite | ioRead | ioNp | ioPosted
  | modRead | modWrite
  | ioCpl | pbr | far
deriving DecidableEq, Repr

/-- Where a unit is: held in a penalty list, fenced at ingress (R87), queued for its home slice, in egress queue q of port c, a completion that waits for
posted requests to port c (R83), waiting for a Sirfin link to a device, sent to it over link l, at the home, or sent to the partner of port c and not
answered. -/
inductive Place
  | penalty
  | fenced
  | toHome (slice : Nat)
  | egress (c q : Nat)
  | cpl (c : Nat)
  | stack (dev : Nat)
  | remote (l dev : Nat)
  | home
  | sent (c : Nat)
deriving DecidableEq, Repr

/-- A unit in flight, from its acceptance until its answer leaves (R92). `src` is the core ID of Table 5-2, `tag` the
partner's tag, thread or beat; `addr` the fabric address of composed traffic and the host address otherwise; `dpa` the
module address; `data` with `mask` the bytes a write carries; `set`, `so` the location decoded under `epoch` (R78);
`hdev` the device that holds its location; `qseq` its place in its queue; `spilled` its cells in HBM overflow; `parent` the home request a module access serves, `tracked` whether a request of another
device is one the home tracks; `priv` the level of the thread that made it (R176), `ro` and `ido` the attributes of CXL.io traffic as received (R86),
`width` that of a BAR access, `outStream` the IDE stream it left a port on;
`fwd` data an owner of another device forwarded to it and `grant` the home's grant, which complete it when both are here (R125);
`store` that a line is asked for to be written (R179). -/
structure Txn where
  src : Nat
  tag : Nat
  dev : Nat
  inst : Nat
  cls : Nat
  kind : ReqKind
  addr : Nat
  host : Nat := 0
  dpa : Nat := 0
  mod : Nat := 0
  len : Nat
  data : List Byte := []
  mask : Nat := 0
  poison : Bool := false
  epoch : Nat := 0
  set : Nat := 0
  so : Nat := 0
  tAcc : Nat := 0
  tQueue : Nat := 0
  qseq : Nat := 0
  ageUs : Nat := 0
  place : Place
  cells : Nat := 0
  spilled : Nat := 0
  die : Nat := 0
  slice : Option Nat := none
  path : Nat := 0
  hdev : Nat := 0
  header : List Byte := []
  meter : Option Nat := none
  stream : Option Nat := none
  parent : Option Nat := none
  keepS : Bool := false
  heldSync : Bool := false
  dropped : Bool := false
  tracked : Bool := false
  priv : Nat := 0
  ro : Bool := false
  ido : Bool := false
  width : Nat := 0
  outStream : Option Nat := none
  fwd : Option (List Byte × Bool) := none
  grant : Option Nat := none
  store : Bool := false
deriving DecidableEq, Repr

/-- The answer that waits for an internal master (Table 7-5): what it asked for, its status and data, and the line a hearth is granted with it. -/
structure IntAnswer where
  src : Nat
  tag : Nat
  status : Nat
  data : List Byte
  inst : Nat
  line : Option Nat := none
deriving DecidableEq, Repr

/-- The two token buckets of a meter in bytes, and the nanoseconds of ticks at their last update (R101). -/
structure Buckets where
  c : Nat
  p : Nat
  at_ : Nat
deriving DecidableEq, Repr

/-- An HDM decoder of a composed logical device as its host has committed it (R67): host base and size, ways and granule of the host's interleave, and
which of the ways is the device's. -/
structure HdmDec where
  base : Nat
  size : Nat
  ways : Nat
  gran : Nat
  pos : Nat := 0
deriving DecidableEq, Repr

/-- One port controller behind its registers: its partner and the highest rate it advertised, the training under way, the drain under way, its IDE
streams and the identity of the module last trained. `conflict` is a role conflict that is retried (R49), `target` the rate a training
or a Recovery aims at, `recovering` a Recovery under way, `resetting` a port reset not yet complete (R61), `roleSel` the role selected for the training
(R57), `session` an SPDM session at the port (R55), `dpc` downstream port containment switched on and `contained` in force (Table 3-4),
`streams` the state of each IDE stream (1 secure, 2 insecure), `keys` the key store (R55), `linkStream` the link stream and whether it runs in skid
mode, `l0p` that L0p is in use; `late` the requests a drain timeout concluded and `authLate` an authentication that its timeout ended, whose
replies may still come (Table 2-2), `latePbr` the tags of PBR requests a drain timeout concluded, `gone` those an unbind concluded, whose answers are discarded and counted (R74); `decs` the HDM decoders by 4 × vPPB + number; `penWait` the instances whose full penalty list holds a request
of the port back (R107). -/
structure PortX where
  partner : Bool := false
  target : Nat := 0
  conflict : Bool := false
  recovering : Bool := false
  resetting : Bool := false
  authPending : Bool := false
  authDone : Bool := false
  identity : Option Nat := none
  streams : List (Nat × Nat) := []
  drainStart : Nat := 0
  discarded : Nat := 0
  training : Bool := false
  best : Nat := 0
  late : List Nat := []
  gone : List Nat := []
  authLate : Bool := false
  keys : NMap Nat := []
  linkStream : Option (Nat × Bool) := none
  l0p : Bool := false
  decs : NMap HdmDec := []
  penWait : List Nat := []
  roleSel : Nat := 0
  session : Bool := false
  dpc : Bool := false
  contained : Bool := false
  latePbr : List Nat := []
deriving DecidableEq, Repr

/-- What leaves the device. -/
inductive Msg
  /-- An answer to a request of a port's partner: its outcome 0 data or completion, 1 poisoned data or error completion, 2 Completer Abort. -/
  | hostAnswer (c tag outcome : Nat) (data : List Byte)
  /-- A unit sent to the partner of a port: the unit's number, its kind, address and data. -/
  | unitOut (c id : Nat) (kind : ReqKind) (addr : Nat) (data : List Byte) (poison : Bool)
  /-- A PBR flit that leaves through a port of this device. -/
  | pbrOut (dev egress : Nat) (response : Bool) (data : List Byte)
  /-- What lane margining at the receiver of a port found at an offset (Table 3-4). -/
  | margin (c lane : Nat) (timing : Bool) (offset result : Nat)
  /-- A response, snoop or completion carried to a port. -/
  | carried (c cls : Nat) (data : List Byte)
  /-- An ERR_NONFATAL message to a port (Table 5-6). -/
  | errNonfatal (c : Nat) (header : List Byte)
  /-- A snoop to a holder: 0 invalidate, 1 to shared, 2 for current (R123). -/
  | snoop (holder kind line : Nat)
  /-- BIConflictAck to a host (R127). -/
  | biConflictAck (c tag : Nat)
  /-- A Dynamic Capacity event to the host of an instance: add or release, first page and count. -/
  | dcEvent (inst : Nat) (add : Bool) (first count : Nat)
  /-- An attention request on a vPPB (R74). -/
  | attention (p v : Nat)
  /-- The slot status of a vPPB changed (R73, R75). -/
  | slotChange (p v : Nat) (present : Bool)
  /-- A command on AVSBus (R33). -/
  | avs (mv : Nat)
  /-- An MSI-X message of an instance. -/
  | msix (inst vec : Nat)
  /-- A Sirfin frame sent on a link. -/
  | frame (l : Nat) (bytes : List Byte)
  /-- An MCTP packet sent on the management SMBus: its address, destination and source endpoint, start and end of message, sequence, tag with
  its owner bit, payload (R386). -/
  | smbus (addr dst src : Nat) (som eom : Bool) (seq : Nat) (owner : Bool) (tag : Nat) (payload : List Byte)
  /-- The bytes the SPI target drives in a frame (Table 19-2). -/
  | spi (bytes : List Byte)
  /-- An SPDM answer over DOE at a port (R368). -/
  | doe (c : Nat) (bytes : List Byte)
  /-- An answer of the stage responder: the endpoint, the message tag and its bytes (R399). -/
  | mctp (eid tag : Nat) (bytes : List Byte)
  /-- The outcome of a commit another member submitted: its number there, status and epoch. -/
  | commitResult (dev id status epoch : Nat)
  /-- A set submitted to the stack's master: its number, expected epoch, whether it is a control commit, and its entries (R222). -/
  | commitSubmit (dev id : Nat) (expect : Option Nat) (control : Bool) (entries : List (Bool × Nat × Nat))
  /-- The configuration copy of a join, sent to a device (Table 16-7, step 5). -/
  | joinCopy (dev : Nat) (x : JoinImage)
  /-- A read of a sideband expander. -/
  | expanderRead (x : Nat)
deriving DecidableEq, Repr

/-- The port whose internal link a flit is on (R63). -/
def Msg.port : Msg → Option Nat
  | .hostAnswer c _ _ _ | .unitOut c _ _ _ _ _ | .carried c _ _ | .errNonfatal c _ | .biConflictAck c _ | .pbrOut _ c _ _ => some c
  | .snoop h _ _ => some (h % 4096)
  | _ => none

/-- The switch core behind its registers: the units in flight, the answers waiting for internal masters, the meters'
buckets, the round robin of each port, the mirror counters and sample numbers, the credits of the
egress queues in thousandths of a byte, the thousandths of a byte each has on its link, the tick count in ns, the flits on the internal links of
ports in LOOP (R63), the cells a held request of each die waits for (R93), and the rates that hold until the next tick for queues whose shaper was
written (R111). -/
structure SwitchCore where
  txns : NMap Txn := []
  nextId : Nat := 1
  nextQ : Nat := 1
  answers : NMap IntAnswer := []
  buckets : NMap Buckets := []
  wrrLeft : NMap Nat := []
  wrrLast : NMap Nat := []
  wrrBurst : NMap Nat := []
  mirCount : NMap Nat := []
  mirSeq : NMap Nat := []
  credit : NMap Int := []
  sending : NMap Nat := []
  tickNs : Nat := 0
  loop : List Msg := []
  cellHeld : NMap Nat := []
  shpOld : NMap Nat := []
deriving DecidableEq, Repr


/-- An instruction that has issued and not concluded: its word and address, its data address and space (4 for local memory), its level and instance at
issue, when it issued, whether it is tagged for the Chimney ring, and how often it was retried. -/
structure Issued where
  word : Nat
  pc : Nat
  addr : Nat := 0
  space : Option Nat := none
  priv : Nat := 0
  inst : Nat := 0
  time : Nat := 0
  tagged : Bool := false
  retries : Nat := 0
  hit : Bool := false
  waitNs : Nat := 0
deriving DecidableEq, Repr

/-- A posted store in a thread's queue (R181): the fabric address, the bytes, whether it is cached, the transaction it went out
as, its instruction where that is tagged for the Chimney ring, the level it was issued at (R176), and whether it waits out a RETRY and how often it has
(R180). -/
structure PostedStore where
  addr : Nat
  data : List Byte
  cached : Bool
  txn : Option Nat
  line : Bool := false
  inst : Nat := 0
  sample : Option Issued := none
  priv : Nat := 0
  held : Bool := false
  retries : Nat := 0
deriving DecidableEq, Repr

/-- What a thread waits for: nothing, the answer of a fabric access, the answer of a CST with its status, a RETRY wait, an event,
a block instruction between beats, or a commit. -/
inductive Waiting
  | none
  | fabric (txn : Nat)
  | cst (status : Nat)
  | retry
  | event
  | block
  | commit
deriving DecidableEq, Repr

/-- Where a beat of a block instruction stands (R197, R199): its reads in hand or in flight, its fabric write in flight, performed,
performed with the first difference at an offset, or failed with a trap code, address and status (forced: whatever NOTRAP holds). -/
inductive BeatPhase
  | reading
  | writing (txn : Nat)
  | done
  | diff (offset : Nat)
  | failed (forced : Bool) (code arg status : Nat)
deriving DecidableEq, Repr

/-- One read of a beat: of the operand in RD (a compare) or in RA, its address and length, its unit in flight, its data, and
the status it failed with. -/
structure BeatRead where
  rd : Bool
  addr : Nat
  len : Nat
  txn : Option Nat := none
  data : Option (List Byte) := none
  status : Nat := 0
deriving DecidableEq, Repr

/-- A beat in flight: its addresses at RD and RA, its length, its phase and its fabric reads. -/
structure Beat where
  dst : Nat
  src : Nat
  len : Nat
  phase : BeatPhase := .reading
  reads : List BeatRead := []
deriving DecidableEq, Repr

/-- One staged entry of a staging set (R188, R189): a control register's new word, or a placement entry's image. -/
structure Staged where
  map : Bool
  key : Nat
  val : Nat
deriving DecidableEq, Repr

/-- One engine thread: its general registers, its special registers (Table 9-1), its receive queue, its posted stores, its
staging set and what it waits for. `oldCode` bytes of code it has stored to and not fenced (R175), `beats` the beats in flight of a block instruction, oldest first, `noIssue` that it issues no further one,
`blockLap` the end of the destination of a BMOVE whose destination lies above an overlapping source, so that the whole of it is undefined (R199), `version` and `codeHash` those of its
image, `stopAsked`, `clearAsked` a STOP or CLEAR that waits, and `frozen` the mark of R284. STATE and level are in its Hearth registers (Table 10-12). -/
structure Thread where
  pc : Nat := 0
  gpr : NMap Nat := []
  inst : Nat := 0
  lstat : Nat := 0
  tctl : Nat := 2
  evtPend : Nat := 0
  evtMask : Nat := 0
  timer : Option Nat := none
  serrAddr : Nat := 0
  serrStatus : Nat := 0
  serrValid : Bool := false
  serrMore : Nat := 0
  serrPending : Bool := false
  icount : Nat := 0
  trapCode : Nat := 0
  trapPc : Nat := 0
  trapArg : Nat := 0
  trapStat : Nat := 0
  rxq : List (List Byte) := []
  stores : List PostedStore := []
  staging : List Staged := []
  waiting : Waiting := .none
  issued : Option Issued := none
  version : Nat := 0
  codeHash : Nat := 0
  stopAsked : Bool := false
  clearAsked : Bool := false
  frozen : Bool := false
  gateHi : List (Nat × Nat) := []
  oldCode : NMap Byte := []
  beats : List Beat := []
  noIssue : Bool := false
  blockLap : Option Nat := none
deriving DecidableEq, Repr

/-- A line of a hearth's fabric line cache (R207), its place in the order of use, and the instance that held it (R208). -/
structure FlcLine where
  owned : Bool
  dirty : Bool
  poison : Bool
  rank : Nat
  inst : Nat
  data : List Byte
deriving DecidableEq, Repr

/-- The counters and Chimney rings behind their registers: the notices that wait (kind, bank, counter), the sweep under way (START_NS), a periodic sweep that fell due during a sweep, and for each
hearth the instructions left until the next sample, the record number and whether WMARK was reached. -/
structure Counters where
  notices : List (Nat × Nat × Nat) := []
  startNs : Nat := 0
  due : Bool := false
  chmLeft : NMap Nat := []
  chmSeq : NMap Nat := []
  chmOver : List Nat := []
deriving DecidableEq, Repr

/-- A snoop filter entry (Table 7-2): owned or shared, slot mode (`holders`, holder IDs) or coarse mode (`groups`, the vector).
Its AGE is its place in its set's list. -/
structure SfEntry where
  line : Nat
  owned : Bool := false
  coarse : Bool := false
  holders : List Nat := []
  groups : Nat := 0
deriving DecidableEq, Repr

/-- A snoop that waits for its answer: the holder, 0 invalidate, 1 to shared, 2 for current, whether the holder is snooped as
owner, its line, whether it recalls a victim, whether it serves a degraded set, whether the holder's data has
reached the home, the requester on another device that a hearth's data goes straight to (its device and the number it knows the request by), and the
number of the holder's own request whose data was forwarded to it, which is to complete before it answers (R125). -/
structure SnoopOut where
  holder : Nat
  kind : Nat
  owner : Bool
  line : Nat
  victim : Bool := false
  degraded : Bool := false
  got : Bool := false
  dst : Option (Nat × Nat) := none
  after : Option Nat := none
deriving DecidableEq, Repr

/-- Where an active request stands: waiting in its line's list, recalling a filter victim, waiting for snoop answers, for
module reads, for module writes, or for the requester to have grant and forwarded data. -/
inductive HomePhase
  | waiting | victim | snoops | reading | writing | granting
deriving DecidableEq, Repr

/-- A request at the home (R122, R123): its unit, line, order of arrival, phase, the requester's holder ID when it is tracked,
the snoops and module accesses it waits for, the data it has, and the status it will end with. -/
structure HomeReq where
  id : Nat
  line : Nat
  order : Nat
  phase : HomePhase := .waiting
  x : Option Nat := none
  snoops : List SnoopOut := []
  mods : List Nat := []
  data : Option (List Byte) := none
  bad : Bool := false
  written : Bool := false
  fwd : Bool := false
  ownerKept : Option Nat := none
  status : Nat := 0
  granted : Bool := false
  arrived : Bool := false
  rebuild : Bool := false
  lost : Bool := false
deriving DecidableEq, Repr

/-- A line of the memory-side cache. -/
structure MscLine where
  data : List Byte
  dirty : Bool
  poison : Bool
deriving DecidableEq, Repr

/-- A hearth's answer to a snoop on its way to the home, and what it carries. -/
structure HearthAns where
  holder : Nat
  line : Nat
  data : Option (List Byte)
  poison : Bool
  kept : Bool
  dst : Option (Nat × Nat) := none
deriving DecidableEq, Repr

/-- The home agent behind its registers: requests by unit number, the next arrival number, the memory-side cache by line, the
filter sets, the degraded sets, snoops that went to this device's hearths, their answers, expired snoops and module accesses, the devices marked
departed, the flush under way and its start, the counter of heat samples of each slice, the lines the on-die filter cache of each slice copies by set, the
holders and lines that snoop-timeout records name (R126), the clean-eviction notices on their way (hearth and line), and the grants with forwarded data
last sent to holders of other devices: line, holder and the holder's number for its request (R125). -/
structure Home where
  reqs : NMap HomeReq := []
  nextOrder : Nat := 1
  msc : NMap MscLine := []
  sf : NMap (List SfEntry) := []
  degraded : List Nat := []
  hearthSnoops : List SnoopOut := []
  answers : List HearthAns := []
  expired : List SnoopOut := []
  departed : List Nat := []
  flushIds : List Nat := []
  flushStart : Nat := 0
  heatLeft : NMap Nat := []
  lateMem : NMap Nat := []
  odc : NMap (List Nat) := []
  tmoRecs : List (Nat × Nat) := []
  notices : List (Nat × Nat) := []
  fwds : List (Nat × Nat × Nat) := []
deriving DecidableEq, Repr

/-- A segment entry (Table 8-1). -/
structure SegEntry where
  valid : Bool := false
  pin : Bool := false
  set : Nat := 0
  dev : Nat := 0
  soGib : Nat := 0
  epoch : Nat := 0
deriving DecidableEq, Repr

/-- A page override (Table 8-2). -/
structure PageEntry where
  pin : Bool := false
  unbacked : Bool := false
  set : Nat := 0
  dev : Nat := 0
  so2m : Nat := 0
  epoch : Nat := 0
deriving DecidableEq, Repr

/-- A migration (Tables 8-7, 8-8, 8-11): 1 COPY, 2 RECOPY, 3 SYNC, 4 TRAIL; `dirty` one bit for each sub-granule, `taken`
the sub-granules of the pass that runs, `ready` a final pass that found the switch to be taken and `readyNs` when it did, `mark` the number that the
first unit after the pass's start gets. -/
structure Migration where
  page : Nat
  tag : Nat
  inst : Nat
  state : Nat
  srcSet : Nat
  srcSo : Nat
  dstSet : Nat
  dstSo : Nat
  dirty : Nat := 0
  taken : Nat := 0
  pass : Nat := 0
  syncs : Nat := 0
  startNs : Nat := 0
  holdNs : Nat := 0
  copiedKib : Nat := 0
  switchEpoch : Nat := 0
  drained : Bool := false
  ready : Bool := false
  readyNs : Nat := 0
  mark : Nat := 0
deriving DecidableEq, Repr

/-- A location of a line: its set and set offset, and the module and module DPA they name (R70). -/
structure MemLoc where
  set : Nat
  so : Nat
  mod : Nat
  dpa : Nat
deriving DecidableEq, Repr

/-- A write of the device's own into HBM that waits for the clock of its stack (R36): a Chimney record of a hearth, a record of the move log, the state of
a slot of the map by its index, a heat sample of an address, and the switch of a page with the time it was made. -/
inductive HbmJob
  | chimney (h : Nat) (bytes : List Byte)
  | move (bytes : List Byte)
  | slot (k v : Nat)
  | heat (fpa : Nat) (write : Bool)
  | moved (page ms : Nat)
deriving DecidableEq, Repr

/-- Placement behind its registers: the map's segment entries and page overrides, the migrations by slot, the slots being
filled with zeros (set, slot, and the epoch before which no request may be in flight), the command last completed, and the device's own writes into HBM
that wait for a clock (R36). -/
structure Placement where
  segs : NMap SegEntry := []
  pages : NMap PageEntry := []
  migs : NMap Migration := []
  zeroing : List (Nat × Nat × Option Nat) := []
  logSeq : Nat := 0
  cmdDone : Bool := false
  backpressure : Bool := false
  waits : List HbmJob := []
deriving DecidableEq, Repr

/-- A unit of the switch core as it crosses Sirfin (R321): a request, snoop, answer or snoop answer (`kind` 0 to 3), its code (request kind,
snoop kind, or status), class, source core and device, destination device, instance, address, the number its sender knows it by,
epoch, byte mask and payload; of a request also the location decoded (set, and set offset), its acceptance and its level (R78, R110, R176). -/
structure StackUnit where
  kind : Nat
  code : Nat := 0
  cls : Nat := 0
  src : Nat := 0
  sdev : Nat := 0
  ddev : Nat := 0
  inst : Nat := 0
  poison : Bool := false
  flag : Bool := false
  tracked : Bool := false
  addr : Nat := 0
  tag : Nat := 0
  epoch : Nat := 0
  mask : Nat := 0
  loc : Nat := 0
  tAcc : Nat := 0
  priv : Nat := 0
  data : List Byte := []
deriving DecidableEq, Repr

/-- A DATA frame sent and not yet acknowledged (R324): its sequence number, channel and payload, the requests with a byte in it, this
device's and those it relays, and how many snoops and responses it carries part of. -/
structure TxFrame where
  seq : Nat
  vc : Nat
  payload : List Byte
  reqs : List Nat := []
  units : List StackUnit := []
deriving DecidableEq, Repr

/-- What is left to send of a unit: its bytes, and the request it is, this device's or one it relays. -/
structure TxPart where
  bytes : List Byte := []
  req : Option Nat := none
  unit : Option StackUnit := none
deriving DecidableEq, Repr

/-- A Sirfin link behind its registers. `present` a far end that is cabled and powered, `req` the requests it relays, `snp`, `rsp` units
waiting on those channels, `part` what is left to send of the unit each channel is sending, `replay` the
unacknowledged frames with `resend` the one a replay sends next, `sent`, `limit` the transmitter's counts of each channel,
`rcvd`, `taken`, `rx` the receiver's, `nak` asking for a replay, `lastNak` the last NAK acted on and when, `stall` replays with
no advance of ACK, `sinceCtrl` frames since the last CTRL frame and the limits it carried, `bad`, `good` consecutive frames,
`train` the last TRAIN payload and how often it came in a row, the time samples of the last CTRL frame, and when the link last
replayed or went down. -/
structure LinkX where
  present : Bool := false
  req : List StackUnit := []
  snp : List StackUnit := []
  rsp : List StackUnit := []
  part : NMap TxPart := []
  replay : List TxFrame := []
  resend : Option Nat := none
  sent : NMap Nat := []
  limit : NMap Nat := []
  rcvd : NMap Nat := []
  taken : NMap Nat := []
  rx : NMap (List Byte) := []
  nak : Bool := false
  lastNak : Option (Nat × Nat) := none
  stall : Nat := 0
  sinceCtrl : Nat := 0
  lastLimit : NMap Nat := []
  bad : Nat := 0
  good : Nat := 0
  train : List Byte := []
  trainCnt : Nat := 0
  ctrlTx : Nat := 0
  ctrlRx : Nat := 0
  echoTx : Nat := 0
  echoRx : Nat := 0
  sampled : Bool := false
  replayAt : Option Nat := none
  downAt : Option Nat := none
deriving DecidableEq, Repr

/-- The stack behind its registers: the links, remote requests whose timeout won, whether a join authentication lost to its timeout, the
join under way (device, link and step of Table 16-7), the copy a joiner holds and the commits queued after it, the master's copies
of each device's RWE registers with the generation it last acknowledged, the oldest epoch in flight that each other member last told, what other members
told of the registers of their instances and ports and what this device last told each of its own (log 133), the units held until earlier ones of their flow have left
another link (R87), and the run of time measurements. -/
structure Stack where
  links : NMap LinkX := []
  late : List Nat := []
  authLate : Bool := false
  join : Option (Nat × Nat × Nat) := none
  copy : Option JoinImage := none
  queued : List (Nat × Bool × List Staged) := []
  copies : NMap (NMap Nat) := []
  oldest : NMap Nat := []
  told : NMap (NMap Nat) := []
  telling : NMap (NMap Nat) := []
  held : List StackUnit := []
  ackGen : NMap Nat := []
  inTol : Nat := 0
  outTol : Nat := 0
  drawFailed : Bool := false
deriving DecidableEq, Repr

/-- A BIND_CMD operation under way (Table 4-1): its code and tag, the vPPB and instance or module it names, its pages, whether it
waits for the host, the first page of its instance's window, the pages its commit unbacks, the status it ends with, and the tag of a forced unbind
that lost to the host's power-off. -/
structure BindOp where
  op : Nat
  tag : Nat
  p : Nat := 0
  v : Nat := 0
  inst : Nat := 0
  mod : Nat := 0
  base : Nat := 0
  first : Nat := 0
  count : Nat := 0
  waiting : Bool := false
  unback : List Nat := []
  status : Nat := 0
  raced : Option Nat := none
deriving DecidableEq, Repr

/-- Who submitted a commit: a thread, the bridge, BIND_CMD, the placement unit with the migrations it switches, a vPPB whose module came back with another
identity (R75, R78), or another member, with its own number for it (R142, R222). -/
inductive CommitOwner
  | thread (t : Nat)
  | bridge
  | bind
  | switch (ks : List Nat)
  | identity (p v : Nat)
  | remote (d id : Nat)
deriving DecidableEq, Repr

/-- A commit (Table 10-5): its owner, its entries, its expected epoch, whether it is a control commit, the members that have
acknowledged their shadow tables, the epoch assigned at the decision point, the members that have applied it, what its member told with it, and whether
its device has left the stack it was submitted to, so that it can only expire (R224). -/
structure Commit where
  id : Nat
  owner : CommitOwner
  entries : List Staged
  expect : Option Nat := none
  control : Bool := true
  acks : List Nat := []
  need : List Nat := []
  epoch : Option Nat := none
  applied : List Nat := []
  told : List (Nat × Nat) := []
  lost : Bool := false
deriving DecidableEq, Repr

/-- Commits: those queued, the one taken, the bridge's staging set, the entries another master has had written into this device's
shadow tables, the epoch the decoders tag new requests with (R225), the BIND_CMD operation under way, the instances
whose last Dynamic Capacity event (add or release) no host answered in time, and the interleave-set registers as they stood before the commits that
changed them, each with the epoch of that commit, for the requests of earlier epochs (R78, R225). -/
structure Commits where
  queue : List Commit := []
  cur : Option Commit := none
  nextId : Nat := 1
  bridge : List Staged := []
  bridgeDone : Bool := false
  shadow : List Staged := []
  tagEpoch : Nat := 0
  bind : Option BindOp := none
  bindDone : Bool := false
  dcLate : List (Nat × Bool) := []
  past : List (Nat × NMap Nat) := []
deriving DecidableEq, Repr

/-- One part of an access that a flue, a Hjelvon command or the bridge of an instance command makes: its address in a byte space or in
fabric memory (`sp` none), its length, the data written or read, its unit in flight, and whether it has ended and how. -/
structure Part where
  sp : Option Nat
  addr : Nat
  len : Nat
  data : List Byte := []
  txn : Option Nat := none
  fin : Bool := false
  status : Nat := 0
deriving DecidableEq, Repr

/-- A read or a write in parts, in address order. -/
structure Job where
  write : Bool := false
  parts : List Part := []
deriving DecidableEq, Repr

/-- A place in a descriptor's work: the source and destination address words, the bytes left in the descriptor or the element, the
element's number, and the bytes done. -/
structure FluCursor where
  src : Nat := 0
  dst : Nat := 0
  left : Nat := 0
  elem : Nat := 0
  did : Nat := 0
deriving DecidableEq, Repr

/-- Where a beat stands: its reads, staged, its write, done, given up, or failed with a status. -/
inductive FluBeatPhase
  | reading | staged | writing | done | gone
  | failed (status : Nat)
deriving DecidableEq, Repr

/-- A beat (R235): where the work stands after it, its destination word and length, its reads (of the source, and of DST for COMPARE),
its write. -/
structure FluBeat where
  dst : Nat
  len : Nat
  nxt : FluCursor
  phase : FluBeatPhase := .reading
  src : Job := {}
  cmp : Job := {}
  out : Job := {}
deriving DecidableEq, Repr

/-- A descriptor as fetched (Table 11-3), with the elements known so far, and the first element of its list that may not be used, with the
status it gives (R233). -/
structure FluDesc where
  w0 : Nat
  next : Nat
  src : Nat
  dst : Nat
  len : Nat
  o0 : Nat
  o1 : Nat
  elems : NMap (Nat × Nat) := []
  stopAt : Option (Nat × Nat) := none
  raw : List Byte := []
deriving DecidableEq, Repr

/-- How a flue runs (Table 11-2) beside a stop that is being carried out: its waits are for a request line, queue room, a helper, a
RETRY back-off, or a bound. -/
inductive FluRun
  | idle | ready | running | stopped
  | line | cq | helper | retry | bound
deriving DecidableEq, Repr

/-- A stop under way: at the boundary, a pause, or an abort. -/
inductive FluStop
  | boundary | pause | abort
deriving DecidableEq, Repr

/-- What a flue does: nothing in progress, fetching a descriptor's base block or an entry, extension blocks, an element, moving beats, writing a
CRC, writing a ring slot back, appending a record, or waiting for a helper. -/
inductive FluStage
  | none | fetch | ext | element | work | crcOut | slotOut | record | helper
deriving DecidableEq, Repr

/-- How a descriptor ends: the status and RESULT, the bytes done, and the KIND of its record. -/
structure FluEnd where
  status : Nat
  result : Nat := 0
  did : Nat := 0
  kind : Nat := 0
  need : Bool := true
  lost : Bool := false
deriving DecidableEq, Repr

/-- The work-queue entry a flue serves: its queue, first unit, length, kind, tag, EVT, the bytes of its descriptors so far, whether it has
started, its header's ADDR, ROUTINE and ARG, whether it ended before it started, whether its header has been read, and its FENCE. -/
structure WqEntry where
  queue : Nat
  unit : Nat
  len : Nat
  kind : Nat
  tag : Nat
  evt : Bool
  sum : Nat := 0
  started : Bool := false
  addr : Nat := 0
  routine : Nat := 0
  arg : Nat := 0
  bad : Bool := false
  read : Bool := false
  fence : Bool := false
deriving DecidableEq, Repr

/-- A flue behind its registers (R227): how it runs and what it does, a stop under way, whether it holds a mover, its place among those
ready or running, whether a descriptor is in progress (R242), the descriptor, the fetch, element, record and slot jobs, its beats, the end
it comes to, the descriptor after it, the beats left of its unit of work (R245), the retries so far, the time a helper was called, a timeout lost to,
the bytes done, the mark FROZE_PAUSED, and the runs that its earlier descriptors wrote since it last fenced or came to rest (R237). -/
structure Flue where
  run : FluRun := .idle
  stage : FluStage := .none
  stop : Option FluStop := none
  mover : Bool := false
  order : Nat := 0
  mid : Bool := false
  more : Bool := false
  desc : Option FluDesc := none
  job : Job := {}
  beats : List FluBeat := []
  fin : Option FluEnd := none
  unitLeft : Option Nat := none
  called : Bool := false
  timedOut : Bool := false
  did : Nat := 0
  frozen : Bool := false
  entry : Option WqEntry := none
  wrote : List (Option Nat × Nat × Nat) := []
deriving DecidableEq, Repr

/-- A completion queue behind its registers: the flue whose record is being written to it. -/
abbrev CqBusy := NMap Nat

/-- A work queue behind its registers: the head last published, the write of it under way, whether a newer one waits, the inline units held, the
TAIL at which its first entry was found to end beyond it (R256), the units fetched ahead, the unit whose read ahead is under way (R264), and the
entry that the published head does not pass, since its record is not written (R265). -/
structure WorkQueue where
  pub : Nat := 0
  job : Option (Nat × Job) := none
  want : Bool := false
  inl : NMap (List Byte) := []
  short : Option Nat := none
  ahead : NMap (List Byte) := []
  aheadJob : Option (Nat × Job) := none
  held : Option Nat := none
deriving DecidableEq, Repr

/-- The flues of the device, movers and queues: flues by number, completion queues with a record under way, work queues, and the next place
among the flues that are ready. -/
structure Flues where
  flues : NMap Flue := []
  cqBusy : CqBusy := []
  queues : NMap WorkQueue := []
  rrLeft : NMap Nat := []
  rrLast : NMap Nat := []
  rrBurst : NMap Nat := []
  order : Nat := 1
deriving DecidableEq, Repr

/-- A tenant instance behind its registers (R268): the command under way (0 none) with its tag and master, its job and how far a RESTORE has
read, whether a command has completed since the last reset (R431), the state a reset ends in, whether it is contained, the command in progress
of its mailbox (tag, expiry, landing record, remaining time while frozen), whether an answer is stored, the tags of commands that timed out,
and the restored records with whether each has been put. -/
structure InstX where
  op : Nat := 0
  tag : Nat := 0
  master : Option Master := none
  job : Job := {}
  image : List Byte := []
  length : Nat := 0
  done : Bool := false
  ending : Nat := 1
  contain : Bool := false
  cmdTag : Nat := 0
  due : Nat := 0
  land : List Byte := []
  left : Option Nat := none
  answered : Bool := false
  timedOut : List Nat := []
  flues : List (List Byte × Bool) := []
  queues : List (List Byte × Bool) := []
  threads : List (List Byte × Bool) := []
deriving DecidableEq, Repr

/-- An image load under way in a hearth (Table 10-3): its thread, tag and instance, the header read, the hash taken as the sections were
written, the signature block, the destinations written (space, address, length), and whether its bound has ended it. -/
structure LoadOp where
  thread : Nat
  tag : Nat
  inst : Nat
  header : List Byte
  hash : Nat
  sig : List Byte
  dests : List (Nat × Nat × Nat)
  late : Bool := false
deriving DecidableEq, Repr

/-- A key slot (Table 18-4): 0 EMPTY, 1 VALID, 2 ERASING; its type, usage, owner, generation and key. -/
structure KeySlot where
  state : Nat := 0
  type : Nat := 0
  usage : Nat := 0
  owner : Nat := 0
  gen : Nat := 0
  key : Nat := 0
deriving DecidableEq, Repr

/-- A command of a Hjelvon channel: its master and arguments, whether it runs or waits, the slot it holds with the key captured at its start
(R364), what it reads, what it writes once its work is done, the status it ends with and whether its tag failed. -/
structure HjOp where
  master : Master
  opcode : Nat
  tag : Nat
  args : List Nat
  running : Bool := false
  slot : Option Nat := none
  key : Nat := 0
  reads : List Job := []
  out : Option Job := none
  status : Nat := 0
  tagFail : Bool := false
deriving DecidableEq, Repr

/-- Hjelvon behind its registers: the key slots, the channels' commands and those that have completed one, the channel started last, trust anchors, how often
the DRBG has generated, the image-signing key block of the running bundle, ROOT_HASH fuses, its SVN, RESIDENT_HASH, the digest of its firmware, its resident
length and the leaves of its pages, and the page being read with how often. -/
structure Hjelvon where
  slots : NMap KeySlot := []
  ops : NMap HjOp := []
  done : List Nat := []
  last : Nat := 31
  anchors : NMap (List Byte) := []
  draws : Nat := 0
  keyBlock : List Byte := []
  rootHash : List Nat := [0, 0, 0, 0]
  svn : Nat := 0
  residentHash : Nat := 0
  fwHash : Nat := 0
  residentLen : Nat := 0
  leaves : List Nat := []
  page : Nat := 0
  pageTries : Nat := 0
deriving DecidableEq, Repr

/-- A Damper channel behind its registers: the current samples counted by point of its curve, whether the gate overdrive has exceeded +4 V
since POWER_ON, the voltage samples since the gate went low, whether PWRWARN_N is within its 100 µs, whether VIN reads below its warning
level, and what the window under way has measured. -/
structure Damper where
  counts : NMap Nat := []
  overdrive : Bool := false
  low : Nat := 0
  hold : Bool := false
  belowVin : Bool := false
  peak : Nat := 0
  minVout : Option Nat := none
  minVin : Option Nat := none
deriving DecidableEq, Repr

/-- The power-up controller behind its registers: whether a PU_CMD has completed, the LAST_RESET code of a warm reset that waits for its flush,
whether RESET_N holds the device at step 4 of Table 20-6, and when the power-fail response started. -/
structure PowerUp where
  cmdDone : Bool := false
  flushing : Option Nat := none
  held : Bool := false
  pfStart : Nat := 0
deriving DecidableEq, Repr

/-- An SPI operation (R379): its opcode, tag, offset and data, and its status and data once it is performed. -/
structure SpiOp where
  op : Nat
  tag : Nat
  addr : Nat
  data : Nat
  result : Option (Nat × Nat) := none
deriving DecidableEq, Repr

/-- A receive buffer that is held (R384): the source and destination endpoint, the tag with its owner bit, the bytes so far, the next packet sequence, and
whether the message is complete. -/
structure RxBuf where
  src : Nat
  dst : Nat
  tag : Nat
  owner : Bool
  len : Nat
  seq : Nat
  whole : Bool
deriving DecidableEq, Repr

/-- The bridge behind its registers: the SPI operation in progress, whether one has concluded since the always-on reset and its data, receive
buffers held, the SMB_TX_CMD word of transmit buffers in use, the notices that wait with how often one has (NOTICE_WAITS of R385), the sweep under way (expanders left) with its duration and
whether another fell due, the consecutive sweeps in which a slot's presence differs, whether the stage responder answers, and its endpoint ID. -/
structure Bridge where
  spi : Option SpiOp := none
  spiDone : Bool := false
  spiData : Nat := 0
  rx : NMap RxBuf := []
  tx : NMap Nat := []
  notices : List Nat := []
  waits : Nat := 0
  sweep : Option (List Nat) := none
  sweepUs : Nat := 0
  due : Bool := false
  agree : NMap Nat := []
  responder : Bool := true
  eid : Nat := 0
deriving DecidableEq, Repr

/-- The time base, PPS and core voltage behind their registers: the billionths of a nanosecond not yet in TB_NOW, whether an absence of PPS edges is on,
the voltage in force before the last command to the regulator, and the pace monitors that read below PACE_FLOOR. -/
structure Clocks where
  frac : Nat := 0
  absent : Bool := false
  lastMv : Nat := 750
  low : List Nat := []
deriving DecidableEq, Repr

/-- The state of the part. -/
structure State where
  /-- The register file: one entry for each field that differs from its Reset value, keyed by Fld.key (R7, R24). -/
  regs : NMap Nat
  /-- Every byte memory of the part, keyed by space and address (memKey; Table 1-3, Table 9-2). -/
  mem : List Host.Cell
  /-- The commands that wait, first in, first out: the queue of the block model. -/
  pending : List Instr
  /-- The answer the last access gave on the path that returns a status (R13). -/
  ans : Option Answer
  /-- The number of the next free value: the model's own field. -/
  free : Nat
  /-- The pins. -/
  pins : Pins
  /-- The fault unit behind its registers (R302 to R313). -/
  fu : FaultUnit
  /-- The switch core, its meters and mirrors behind their registers. -/
  sw : SwitchCore
  /-- The port controllers behind their registers; one not listed has no partner. -/
  ports : NMap PortX
  /-- What has left the device, oldest first. -/
  outbox : List Msg
  /-- The engine threads, by 128 × hearth + 4 × engine + thread; one not listed is as at reset. -/
  thr : NMap Thread
  /-- The fabric line caches: by hearth and line. -/
  flc : NMap FlcLine
  /-- The counters and Chimney rings behind their registers. -/
  cnt : Counters
  /-- The home agent behind its registers. -/
  hm : Home
  /-- Placement behind its registers: the map and the migrations. -/
  plc : Placement
  /-- Sirfin links and the stack behind their registers. -/
  stk : Stack
  /-- Staging and commit behind their registers (R221 to R225). -/
  cmt : Commits
  /-- The image loads under way, by hearth. -/
  loads : NMap LoadOp
  /-- The hearths that have completed a load since their last reset (R431). -/
  loadTags : List Nat
  /-- Hjelvon behind its registers. -/
  hj : Hjelvon
  /-- Flues, completion queues and work queues behind their registers. -/
  fl : Flues
  /-- The tenant instances behind their registers, by local number. -/
  inst : NMap InstX
  /-- The Damper channels behind their registers. -/
  dmp : NMap Damper
  /-- The power-up controller behind its registers. -/
  pu : PowerUp
  /-- The sideband bridge behind its registers. -/
  br : Bridge
  /-- The time base and the core voltage behind their registers. -/
  clk : Clocks
deriving DecidableEq, Repr

/-- The part right after the always-on reset: every register field at its Reset column, the main rails down (stage 0x00),
memory with nothing listed, no command waiting (R7, R393; logs 3 to 9). -/
def State.reset : State :=
  { regs := [],
    mem := [],
    pending := [],
    ans := none,
    free := 0,
    pins := {},
    fu := {},
    sw := {},
    ports := [],
    outbox := [],
    thr := [],
    flc := [],
    cnt := {},
    hm := {},
    plc := {},
    stk := {},
    cmt := {},
    loads := [],
    loadTags := [],
    hj := {},
    fl := {},
    inst := [],
    dmp := [],
    pu := {},
    br := {},
    clk := {} }

end Sys2Proof.Machine
end

