-- ==== Sys2Proof/Machine/Ops.lean ====
section
/-! DEFINITION. The operations every block shares: register fields, statuses, free values, memory, messages out, the report
of a fault and the conditions behind consequential records. -/

namespace Sys2Proof.Machine

/-- What a command answers. -/
abbrev Out := Host.Outcome State Fault Refusal

/-! ## Status codes (Table 0-5) -/

abbrev ST_OK : Nat := 0x00
abbrev ST_RETRY : Nat := 0x01
abbrev ST_PARTIAL : Nat := 0x02
abbrev ST_ACCESS_DENIED : Nat := 0x10
abbrev ST_NO_MATCH : Nat := 0x11
abbrev ST_POISON : Nat := 0x20
abbrev ST_TIMEOUT : Nat := 0x21
abbrev ST_AGED : Nat := 0x22
abbrev ST_LATE : Nat := 0x23
abbrev ST_ENTROPY_FAIL : Nat := 0x30
abbrev ST_KEY_ZEROISED : Nat := 0x31
abbrev ST_RESOURCE_EXHAUSTED : Nat := 0x40
abbrev ST_STALE_EPOCH : Nat := 0x41
abbrev ST_LINK_DOWN : Nat := 0x50
abbrev ST_FROZEN : Nat := 0x60
abbrev ST_INTERNAL : Nat := 0xFF

/-- A status taken from outside the device: an unlisted code is treated as INTERNAL and never returned (R14, Table 0-5). -/
def listedStatus (st : Nat) : Nat :=
  if [ST_OK, ST_RETRY, ST_PARTIAL, ST_ACCESS_DENIED, ST_NO_MATCH, ST_POISON, ST_TIMEOUT, ST_AGED, ST_LATE, ST_ENTROPY_FAIL, ST_KEY_ZEROISED,
      ST_RESOURCE_EXHAUSTED, ST_STALE_EPOCH, ST_LINK_DOWN, ST_FROZEN].contains st then st else ST_INTERNAL

/-! ## Register fields -/

/-- The key of a field of copy (i, j) of its register. -/
def Fld.key (f : Fld) (i j : Nat) : Nat := Nat.pair (Nat.pair f.reg.ctorIdx f.lsb) (Nat.pair i j)

/-- The kind of an island (Table 2-9). -/
def islKind (n : Nat) : Nat :=
  if n < 32 then 0 else if n < 34 then 1 else if n < 36 then 2 else n - 33

/-- The value of a field after the widest reset whose scope holds it (R7). -/
def Fld.resetVal (f : Fld) (i : Nat) : Nat :=
  match f.rk with
  | .unit => i
  | .islKind => islKind i
  | _ => f.rv

/-- The numbers of fields in the keys of the register file. -/
def fldIds (fs : List Fld) : List Nat := fs.map (fun f => Nat.pair f.reg.ctorIdx f.lsb)

/-- The value a field holds. -/
def State.g (s : State) (f : Fld) (i : Nat := 0) (j : Nat := 0) : Nat := ngetD s.regs (f.key i j) (f.resetVal i)

/-- Whether a one-bit field is 1. -/
def State.on (s : State) (f : Fld) (i : Nat := 0) (j : Nat := 0) : Bool := s.g f i j != 0

/-- A field written: the value is cut to the field's width. -/
def State.p (s : State) (f : Fld) (v : Nat) (i : Nat := 0) (j : Nat := 0) : State :=
  { s with regs := nput (f.resetVal i) (f.key i j) (v % 2 ^ f.width) s.regs }

/-- A one-bit field set. -/
def State.setF (s : State) (f : Fld) (i : Nat := 0) (j : Nat := 0) : State := s.p f 1 i j

/-- A one-bit field written from a Boolean. -/
def State.pb (s : State) (f : Fld) (b : Bool) (i : Nat := 0) (j : Nat := 0) : State := s.p f (b2n b) i j

/-- A counter advanced by `n`; it stays at its highest value (saturates). -/
def State.add (s : State) (f : Fld) (n : Nat) (i : Nat := 0) (j : Nat := 0) : State :=
  s.p f (min (s.g f i j + n) (2 ^ f.width - 1)) i j

/-- A counter advanced by one; saturates. -/
def State.inc (s : State) (f : Fld) (i : Nat := 0) (j : Nat := 0) : State := s.add f 1 i j

/-- A high-water mark raised to `v`. -/
def State.hwm (s : State) (f : Fld) (v : Nat) (i : Nat := 0) (j : Nat := 0) : State :=
  s.p f (max (s.g f i j) (min v (2 ^ f.width - 1))) i j

/-- A field returned to its reset value. -/
def State.clr (s : State) (f : Fld) (i : Nat := 0) (j : Nat := 0) : State := s.p f (f.resetVal i) i j

/-- Every field of a register returned to its reset value. -/
def State.clrReg (s : State) (r : RegName) (i : Nat := 0) (j : Nat := 0) : State :=
  r.fields.foldl (fun s f => s.clr f i j) s

/-- The fields of register copies for which `p` holds returned to their reset values. -/
def State.clrWhere (s : State) (p : Nat → Bool) : State :=
  { s with regs := s.regs.filter (fun e => !(p e.1)) }

/-! ## Register writes and reads -/

/-- A write of a register: the 64-bit value with the halves it carries (R26). -/
structure RegW where
  v : Nat
  lo : Bool := true
  hi : Bool := true
deriving DecidableEq, Repr

/-- Whether a write carries a field: a bit of it lies in a half the write carries. The bits of a field beyond that half stand in `v` as they are
held (R26). -/
def RegW.has (w : RegW) (f : Fld) : Bool := (w.lo && decide (f.lsb < 32)) || (w.hi && decide (f.lsb + f.width > 32))

/-- The value a write gives a field. -/
def RegW.val (w : RegW) (f : Fld) : Nat := bits w.v f.lsb f.width

/-- The value a field has after a write: the written one where the write carries it. -/
def State.after (s : State) (w : RegW) (f : Fld) (i : Nat := 0) (j : Nat := 0) : Nat :=
  if w.has f then w.val f else s.g f i j

/-- A field written by a write that carries it. -/
def State.putW (s : State) (w : RegW) (f : Fld) (i : Nat := 0) (j : Nat := 0) : State :=
  if w.has f then s.p f (w.val f) i j else s

/-- A write-1-to-clear field cleared where the write carries a 1 (R11). -/
def State.w1c (s : State) (w : RegW) (f : Fld) (i : Nat := 0) (j : Nat := 0) : State :=
  if w.has f && w.val f != 0 then s.p f 0 i j else s

/-- How many command bits of a register a write sets (R432). -/
def RegW.commands (w : RegW) (fs : List Fld) : Nat := (fs.filter (fun f => w.has f && w.val f == 1)).length

/-! ## The mode of the device -/

/-- The device is operational: stage 0x0A and not in pilot-light state (R395). -/
def State.up (s : State) : Bool := s.g PU_STATUS_STAGE == 0x0A && !(s.on PU_STATUS_PILOT)

/-- An effect of the main domain: only while the device is operational. -/
def whenUp (s : State) (f : State → State) : Out := .next (if s.up then f s else s)

/-- The time base (R37). -/
def State.now (s : State) : Nat := s.g TB_NOW_NOW_NS

/-- The device in the stack: instance ID bits [13:12]. -/
def State.dev (s : State) : Nat := s.g ID_STACK_DEV_IN_STACK

/-! ## Answers, messages, free values -/

/-- The answer of an access on the path that returns a status (R13). -/
def State.reply (s : State) (m : Master) (status : Nat) (data : Nat := 0) : State :=
  { s with ans := some ⟨m, status, data⟩ }

/-- A message leaves the device. -/
def State.send (s : State) (m : Msg) : State := { s with outbox := s.outbox ++ [m] }

/-- Whether both HBM stacks have their clock: an access to the HBM region waits otherwise (R36; log 109). -/
def State.hbmUp (s : State) : Bool := s.on ISL_STATUS_CLK_PRESENT 32 && s.on ISL_STATUS_CLK_PRESENT 33

/-- The next free value, and the state with the counter advanced (log 1). -/
def State.fresh (s : State) : Word × State := (Config.freeValue s.free, { s with free := s.free + 1 })

/-- `n` free bytes, and the state with the counter advanced (log 1). -/
def State.freshBytes (s : State) (n : Nat) : List Byte × State :=
  ((List.range n).map (fun k => Config.freeByte (s.free + k)), { s with free := s.free + n })

/-! ## Byte memories -/

/-- Local memory of engine e (0 to 511), hearth shared memory, the HBM engine, fault-log and trace region, mailbox areas,
the bridge's receive and transmit buffers, and the boot SRAM, each a space of its own. -/
abbrev spLocal (e : Nat) : Nat := e
abbrev spShared (h : Nat) : Nat := 0x400 + h
abbrev spHbm : Nat := 0x500
abbrev spMbx (i : Nat) : Nat := 0x2000 + i
abbrev spRx (b : Nat) : Nat := 0x600 + b
abbrev spTx (b : Nat) : Nat := 0x610 + b
abbrev spBoot : Nat := 0x620

/-- The key of address `a` of space `sp`. -/
def memKey (sp a : Nat) : Nat := sp * 2 ^ 64 + a

/-- `n` bytes of a space. -/
def State.rd (s : State) (sp a n : Nat) : List Byte := memBytes s.mem (memKey sp a) n

/-- `n` bytes of a space as a number, little-endian. -/
def State.rdN (s : State) (sp a n : Nat) : Nat := leNat (s.rd sp a n)

/-- Bytes written to a space. -/
def State.wr (s : State) (sp a : Nat) (bs : List Byte) : State := { s with mem := memWrite s.mem (memKey sp a) bs }

/-- A number written to a space as `n` bytes, little-endian. -/
def State.wrN (s : State) (sp a n v : Nat) : State := s.wr sp a (leBytes n v)

/-! ## Faults (R302, R306, R309) -/

/-- Fault classes (Table 15-4). -/
abbrev CE : Nat := 0
abbrev NC : Nat := 1
abbrev PF : Nat := 2
abbrev DF : Nat := 3

/-- A source number: block code and index (Table 15-1). -/
def src (block index : Nat) : Nat := block * 64 + index

/-- A scope code (Table 15-2). -/
def scope (kind id : Nat) : Nat := kind * 4096 + id

/-- The source numbers Table 15-1 defines: index 63 of every block, and the named indices. -/
def sourceDefined (n : Nat) : Bool :=
  let b := n / 64
  let i := n % 64
  (1 ≤ b && b ≤ 0x12) &&
  (i == 63 ||
   (match b with
    | 0x01 => i == 0 || i == 8 || i == 9
    | 0x02 => i ≤ 5
    | 0x03 => i ≤ 9
    | 0x04 => i ≤ 3 || i == 8
    | 0x05 => i ≤ 5
    | 0x06 => i == 0
    | 0x07 => i ≤ 9
    | 0x08 => i ≤ 4
    | 0x09 => i ≤ 2
    | 0x0A => i ≤ 4
    | 0x0B => i ≤ 4
    | 0x0C => i ≤ 2
    | 0x0D => i == 0
    | 0x0E => i ≤ 8 || (32 ≤ i && i ≤ 40)
    | 0x0F => i ≤ 6 || i == 32 || i == 33
    | 0x10 => i ≤ 7
    | 0x11 => i ≤ 6
    | 0x12 => i ≤ 1
    | _ => false))

/-- A waiting report of the same source, class and scope takes the repeat (R302); otherwise the report waits on its own. -/
def coalesce (r : Report) : List Report → List Report
  | [] => [r]
  | w :: ws =>
    if w.source = r.source ∧ w.cls = r.cls ∧ w.scope = r.scope then { w with rep := min (w.rep + 1 + r.rep) 0xFFFF, keys := w.keys ++ r.keys } :: ws
    else w :: coalesce r ws

/-- Whether a fault is met at the checker that FU_INJ feeds (R314). -/
def State.injects (s : State) (r : Report) : Bool :=
  s.on FU_INJ_ARMED && s.g FU_INJ_SOURCE == r.source && s.g FU_INJ_SCOPE == r.scope && s.g FU_INJ_INV_MASK != 0

/-- A checker reports a fault: the report waits at the fault unit until it is taken (R302). One met at an armed checker carries INJECTED, and
disarms a one-shot injection (R314, log 22). -/
def State.report (s : State) (r : Report) : State :=
  let inj := s.injects r
  let s := { s with fu := { s.fu with waiting := coalesce { r with time := s.now, injected := inj } s.fu.waiting } }
  if inj && !(s.on FU_INJ_MODE) then s.p FU_INJ_ARMED 0 else s

/-- A fault of a source, class and scope with nothing more to say. -/
def State.fault (s : State) (source cls sc : Nat) : State := s.report { source := source, cls := cls, scope := sc }

/-- A condition begins: its source reads PRESENT (R309). -/
def State.condBegin (s : State) (source sc : Nat) : State :=
  { s with fu := { s.fu with conds := if s.fu.conds.contains (source, sc) then s.fu.conds else (source, sc) :: s.fu.conds } }.p FU_SRC_PRESENT 1 source

/-- A condition ends: PRESENT reads 0 once no unit holds the source's condition. -/
def State.condEnd (s : State) (source sc : Nat) : State :=
  let cs := s.fu.conds.filter (fun c => c != (source, sc))
  { s with fu := { s.fu with conds := cs } }.p FU_SRC_PRESENT (b2n (cs.any (fun c => c.1 == source))) source

/-- Whether a condition is present. -/
def State.cond (s : State) (source sc : Nat) : Bool := s.fu.conds.contains (source, sc)

/-- The causes of a report, of those given, that are conditions present now (R306). -/
def State.causesNow (s : State) (cs : List (Nat × Nat)) : List (Nat × Nat) := cs.filter (fun c => s.fu.conds.contains c)

end Sys2Proof.Machine
end

