-- ==== Sys2Proof/Machine/Gates.lean ====
section
/-! DEFINITION. Access gates (R288 to R299): the check of an access against regions and default map, and what a refusal records. -/

namespace Sys2Proof.Machine

/-- The hearth of a thread, and the thread's number in it (Table 15-2). -/
def thH (t : Nat) : Nat := t / 128
def thI (t : Nat) : Nat := t % 128

/-- The TID of a thread of this device (Table 9-1). -/
def State.tidOf (s : State) (t : Nat) : Nat := s.dev * 2048 + t

/-- The thread a TID names on this device, if it does. -/
def State.thrOf (s : State) (tid : Nat) : Option Nat := if tid / 2048 = s.dev then some (tid % 2048) else none

/-- The gate that checks an access: a port's, a set of a thread's, or none (default map only). -/
inductive Gate
  | port (c : Nat)
  | thread (t : Nat) (set : Nat)
  | none
deriving DecidableEq, Repr

/-- An access to be checked: space, hearth, address, length, kind (0 R, 1 W, 2 X, 3 R and W), level and the instance carried. -/
structure GateAcc where
  space : Nat
  hearth : Nat := 0
  addr : Nat
  len : Nat
  kind : Nat
  level : Nat
  inst : Nat
deriving DecidableEq, Repr

/-- The first address of each 4 KiB part of an access (R292). -/
def gateParts (addr len : Nat) : List Nat :=
  (List.range ((addr + max len 1 - 1) / 4096 - addr / 4096 + 1)).map
    (fun k => if k = 0 then addr else (addr / 4096 + k) * 4096)

/-- The permission a mask of R, W and X bits gives a kind of access in a space (R290). -/
def permits (rwx space kind : Nat) : Bool :=
  match kind with
  | 0 => bit rwx 0
  | 1 => bit rwx 1
  | 2 => if space = 2 then bit rwx 2 else true
  | _ => bit rwx 0 && bit rwx 1

/-- Whether region r of a gate matches a part at `a` (R290). -/
def regionMatches (lo hi : Fld → Nat) (x : GateAcc) (a : Nat) : Bool :=
  lo PG_LO_VALID == 1 && lo PG_LO_SPACE == x.space && (x.space != 2 || lo PG_LO_HEARTH == x.hearth) &&
  lo PG_LO_BASE ≤ a / 4096 && a / 4096 ≤ hi PG_HI_LIMIT &&
  (hi PG_HI_INST_ANY == 1 || hi PG_HI_INST_DEV * 4096 + hi PG_HI_INST == x.inst)

/-- The thread-gate field that corresponds to a port-gate field. -/
def tgFld (f : Fld) : Fld := { f with reg := if f.reg = .PG_LO then .TG_LO else .TG_HI, acc := .rw }

/-- A region field of a gate. -/
def State.region (s : State) (g : Gate) (r : Nat) (f : Fld) : Nat :=
  match g with
  | .port c => s.g f c r
  | .thread t set => s.g (tgFld f) t (16 * set + r)
  | .none => 0

/-- How many regions a gate holds. -/
def Gate.count : Gate → Nat
  | .port _ => 128
  | .thread _ _ => 16
  | .none => 0

/-- The lowest-numbered region that matches a part. -/
def State.decider (s : State) (g : Gate) (x : GateAcc) (a : Nat) : Option Nat :=
  (List.range g.count).find? (fun r => regionMatches (s.region g r) (s.region g r) x a)

/-- The default map (Table 14-2). -/
def defaultMap (level space a kind : Nat) : Bool :=
  let w := kind != 0 && kind != 2
  if level ≥ 2 then false
  else match space with
    | 0 => true
    | 1 => level == 0 || !(w && a < 0x38000000)
    | 2 => true
    | _ => level == 0 || !(w && a < 0x100000)

/-- Whether one part passes (R290, R291), with the deciding region. -/
def State.partOk (s : State) (g : Gate) (x : GateAcc) (a : Nat) : Bool × Option Nat :=
  match s.decider g x a with
  | some r =>
    let m := match x.level with
      | 0 => s.region g r PG_LO_P0_RWX
      | 1 => s.region g r PG_LO_P1_RWX
      | _ => s.region g r PG_LO_P2_RWX
    (permits m x.space x.kind, some r)
  | none => (defaultMap x.level x.space a x.kind, none)

/-- The address and region of the lowest part that fails; none when the access passes (R292). -/
def State.gateCheck (s : State) (g : Gate) (x : GateAcc) : Option (Nat × Option Nat) :=
  (gateParts x.addr x.len).findSome? (fun a =>
    let r := s.partOk g x a
    if r.1 then none else some (a, r.2))

/-- The VIOL capture of a gate (R294): only while VALID is 0; VIOL_CNT always advances. -/
def State.violCapture (s : State) (g : Gate) (x : GateAcc) (a : Nat) (r : Option Nat) (core : Nat) (tid : Option Nat) : State :=
  let reg := r.getD 0xFF
  match g with
  | .none => s
  | .port c =>
    let s := s.inc PG_VIOL_CNT_COUNT c
    if s.on PG_VIOL_INFO_VALID c then s else
    ((((((((((s.p PG_VIOL_ADDR_ADDR a c).p PG_VIOL_ADDR_SPACE x.space c).p PG_VIOL_ADDR_HEARTH x.hearth c).p
      PG_VIOL_INFO_VALID 1 c).p PG_VIOL_INFO_KIND x.kind c).p PG_VIOL_INFO_PRIV x.level c).p PG_VIOL_INFO_INST x.inst c).p
      PG_VIOL_INFO_REGION reg c).p PG_VIOL_INFO_SET 0 c).p PG_VIOL_INFO_CORE_ID core c).p PG_VIOL_INFO_TID (tid.getD 0) c
  | .thread t set =>
    let s := s.inc TG_VIOL_CNT_COUNT t
    if s.on TG_VIOL_INFO_VALID t then s else
    ((((((((((s.p TG_VIOL_ADDR_ADDR a t).p TG_VIOL_ADDR_SPACE x.space t).p TG_VIOL_ADDR_HEARTH x.hearth t).p
      TG_VIOL_INFO_VALID 1 t).p TG_VIOL_INFO_KIND x.kind t).p TG_VIOL_INFO_PRIV x.level t).p TG_VIOL_INFO_INST x.inst t).p
      TG_VIOL_INFO_REGION reg t).p TG_VIOL_INFO_SET set t).p TG_VIOL_INFO_CORE_ID core t).p TG_VIOL_INFO_TID (tid.getD 0) t

/-- The fault of a refusal (R294): NC naming the instance at P2, PF scoped to the master at P0 or P1, CE for the bridge. -/
def State.gateFault (s : State) (g : Gate) (x : GateAcc) (a : Nat) (r : Option Nat) (core : Nat) (tid : Option Nat) (mScope : Nat) : State :=
  let cls := if g = .none then CE else if x.level ≥ 2 then NC else PF
  let sc := if g = .none then 0 else if x.level ≥ 2 then scope 1 (x.inst % 4096) else mScope
  s.report { source := src 0x0D 0, cls := cls, scope := sc, status := ST_ACCESS_DENIED, addr := some (x.space, a),
             access := (if x.kind = 0 then 1 else if x.kind = 1 then 2 else if x.kind = 2 then 3 else 4),
             inst := some x.inst, core := core, tid := tid, dev := s.dev, aux := r.getD 0xFF }

/-- A refusal: recorded by the fault unit and captured by its gate (R293, R294). -/
def State.gateRefuse (s : State) (g : Gate) (x : GateAcc) (a : Nat) (r : Option Nat) (core : Nat) (tid : Option Nat) (mScope : Nat) : State :=
  (s.gateFault g x a r core tid mScope).violCapture g x a r core tid

/-- A thread's level now, its base level and its instance (Tables 10-12, 9-1). -/
def State.priv (s : State) (t : Nat) : Nat := s.g TH_STATUS_PRIV (thH t) (thI t)
def State.basePriv (s : State) (t : Nat) : Nat := s.g TH_STATUS_BASE_PRIV (thH t) (thI t)

/-- The set of a thread gate in force now, and the base set of R298. -/
def State.tgActive (s : State) (t : Nat) : Nat := s.g TG_CTRL_ACTIVE t
def State.tgBase (s : State) (t : Nat) : Nat :=
  if s.priv t = s.basePriv t then s.tgActive t else 1 - s.tgActive t

end Sys2Proof.Machine
end

