-- ==== Sys2Proof/Machine/Events.lean ====
section
/-! DEFINITION. Units sent over Sirfin, events delivered to threads, messages placed in receive queues, and the event counters (R85, R193, R321, R404 to
R407). -/

namespace Sys2Proof.Machine

/-! ## Units for another device (R85, R321) -/

/-- The address term of a flow: 0 for CXL.io. -/
def flowA (cls addr : Nat) : Nat := if cls = 0 || cls = 1 || cls = 2 then bits addr 12 9 else 0

/-- The 12-bit flow hash. -/
def flowHash (srcCore inst a seed : Nat) : Nat :=
  ((srcCore ^^^ (inst % 4096)) ^^^ ((bits inst 12 2) * 1024) ^^^ (a * 8) ^^^ seed) % 4096

/-- Own links that are up to a device and carry traffic, lowest first; with none, the links to the master (R85, R330). -/
def State.linksTo (s : State) (d : Nat) : List Nat :=
  let up (x : Nat) : List Nat := (List.range 4).filter (fun l =>
    s.g SRF_STATUS_STATE l == 4 && s.on SRF_STATUS_IN_SERVICE l && s.g SRF_PEER_DEV l == x)
  if up d = [] then up (s.g STK_STATUS_MASTER_DEV) else up d

/-- The link a flow with hash `h` takes to a device (R85). -/
def State.linkFor (s : State) (h d : Nat) : Option Nat :=
  let ls := s.linksTo d
  ls[(h / 16) % max ls.length 1]?

/-- The link behind its registers. -/
def State.link (s : State) (l : Nat) : LinkX := ngetD s.stk.links l {}
def State.linkMod (s : State) (l : Nat) (f : LinkX → LinkX) : State :=
  { s with stk := { s.stk with links := nput {} l (f (s.link l)) s.stk.links } }

/-- Whether two units that cross Sirfin are of one flow to one device (R85, R86). -/
def StackUnit.sameFlow (a b : StackUnit) : Bool :=
  a.src == b.src && a.sdev == b.sdev && a.ddev == b.ddev && a.inst == b.inst && flowA a.cls a.addr == flowA b.cls b.addr
/-- The units of a link's requests and snoops that it has not delivered: waiting, or in frames that the far end has not acknowledged. -/
def LinkX.underWay (x : LinkX) : List StackUnit := x.req ++ x.snp ++ x.replay.flatMap (·.units) ++ x.part.filterMap (·.2.unit)

/-- The link a unit for another device takes by the hash of its flow (R85). -/
def State.unitLink (s : State) (u : StackUnit) : Option Nat :=
  s.linkFor (flowHash u.src u.inst (flowA u.cls u.addr) (s.g SW_CFG_HASH_SEED)) u.ddev

/-- Whether a request or snoop is held: an earlier one of its flow is held, or is not delivered on another link than its own (R86, R87). -/
def State.linkFenced (s : State) (u : StackUnit) : Bool :=
  let mate (x : StackUnit) : Bool := x.kind == u.kind && x.sameFlow u
  u.kind ≤ 1 && (s.stk.held.any mate || s.stk.links.any (fun e => some e.1 != s.unitLink u && e.2.underWay.any mate))

/-- A snoop, answer or relayed request for another device joins its channel on the link of its flow (R85, R330). One for which no link is left is
discarded and recorded (R326). A request or snoop whose flow has moved to another link is held until its earlier ones are delivered (R86, R87). -/
def State.stackPush (s : State) (u : StackUnit) : State :=
  if s.linkFenced u then { s with stk := { s.stk with held := s.stk.held ++ [u] } }
  else match s.unitLink u with
    | some l => s.linkMod l (fun x =>
        if u.kind = 0 then { x with req := x.req ++ [u] } else if u.kind = 1 then { x with snp := x.snp ++ [u] } else { x with rsp := x.rsp ++ [u] })
    | none => s.fault (src 0x0E 63) CE 0

/-- The units held go on in order, as far as the earlier ones of their flows have been delivered (R87). -/
def State.stackGo (s : State) : State := s.stk.held.foldl (fun s u => s.stackPush u) { s with stk := { s.stk with held := [] } }

/-- An event for a thread of another device, which is not answered. -/
def State.eventTo (s : State) (tid n : Nat) : State :=
  s.stackPush { kind := 0, code := 6, sdev := s.dev, ddev := tid / 2048, addr := tid, mask := n }

/-- A message for a thread of another device, which is not answered. -/
def State.messageTo (s : State) (tid : Nat) (m : List Byte) : State :=
  s.stackPush { kind := 0, code := 7, sdev := s.dev, ddev := tid / 2048, addr := tid, data := m }

/-! ## Threads and counters -/

/-- A thread. -/
def State.th (s : State) (t : Nat) : Thread := ngetD s.thr t {}

/-- A thread changed. -/
def State.thSet (s : State) (t : Nat) (x : Thread) : State := { s with thr := nput {} t x s.thr }

/-- A thread changed by a function. -/
def State.thMod (s : State) (t : Nat) (f : Thread → Thread) : State := s.thSet t (f (s.th t))

/-- A thread keeps the bytes of code that a store replaces, until its next FENCE I: those at an offset of a space that begins at an engine address. -/
def Thread.keepCode (x : Thread) (m : List Host.Cell) (sp base off n : Nat) : Thread :=
  { x with oldCode := (List.range n).foldl (fun c k =>
      if (nget? (base + off + k) c).isSome then c else nset (base + off + k) (memByte m (memKey sp (off + k))) c) x.oldCode }

/-- A store to local or shared memory: the threads that run there keep what their fetch sees (R175). -/
def State.codeKeep (s : State) (sp off n : Nat) : State :=
  { s with thr := s.thr.map (fun e => if sp = spLocal (e.1 / 4) then (e.1, e.2.keepCode s.mem sp 0 off n)
                                     else if sp = spShared (thH e.1) then (e.1, e.2.keepCode s.mem sp 0x1000000 off n) else e) }

/-- Event `n` set pending in a thread (Table 9-8). -/
def State.setEvent (s : State) (t n : Nat) : State :=
  s.thMod t (fun x => { x with evtPend := x.evtPend ||| 2 ^ n })

/-- Event `n` set in the thread a TID names, when it is one of this device. -/
def State.setEventTid (s : State) (tid n : Nat) : State :=
  match s.thrOf tid with
  | some t => s.setEvent t n
  | none => s

/-- The 64 bytes of a message: the header of Table 9-9 and the payload doublewords, zero-filled. -/
def msgBytes (srcTid srcInst srcPriv : Nat) (dws : List Nat) : List Byte :=
  leBytes 8 (srcTid % 8192 + srcInst * 2 ^ 16 + srcPriv * 2 ^ 30 + dws.length * 2 ^ 32) ++
  ((dws.map (leBytes 8)).flatten ++ List.replicate 56 0).take 56

/-- A message enters a thread's receive queue of 16, and event 3 is set; nothing when the queue is full (R194, R195). -/
def State.rxPush (s : State) (t : Nat) (m : List Byte) : Option State :=
  if (s.th t).rxq.length ≥ 16 then none
  else some ((s.thMod t (fun x => { x with rxq := x.rxq ++ [m] })).setEvent t 3)

/-- How many counters a bank holds (Table 21-1). -/
def bankCount (b : Nat) : Nat :=
  if b < 128 then 16 else if b = 128 then 128 else if b = 129 then 64 else if b < 132 then 64 else if b = 132 then 32
  else if b < 149 then 72 else if b < 152 then 64 else if b < 157 then 32 else if b < 159 then 16
  else if b = 159 then 32 else if b < 162 then 128 else 0

/-- A notice of the counter block is sent to NOTE_TID as MBSEND would, or waits in order (R407). -/
def State.cntNotice (s : State) (kind bank ctr : Nat) : State :=
  if !(s.on CNT_CFG_NOTE_EN) then s else
  let m := msgBytes 0x00C2 0 0 [kind + bank * 256 + ctr * 65536]
  let wait := { s with cnt := { s.cnt with notices := s.cnt.notices ++ [(kind, bank, ctr)] } }
  if s.cnt.notices ≠ [] then wait.inc CNT_ERR_NOTICE_WAITS else
  match s.thrOf (s.g CNT_CFG_NOTE_TID) with
  | none => s.messageTo (s.g CNT_CFG_NOTE_TID) m
  | some t => match s.rxPush t m with
    | some s' => s'
    | none => wait.inc CNT_ERR_NOTICE_WAITS

/-- The counter set slot a counter is bound in, if it is bound (R410). -/
def State.csetOf (s : State) (b k : Nat) : Option Nat :=
  (List.range 256).find? (fun c => s.on CSET_CFG_VALID c &&
    (List.range 8).any (fun j => s.on CSET_MAP_USED c j && s.g CSET_MAP_BANK c j == b && s.g CSET_MAP_COUNTER c j == k))

/-- A counter advanced by `w`: it wraps from 2^48 − 1, and a wrap sets OVF and may send a notice (R406, R407, R410). -/
def State.ctrAdd (s : State) (b k w : Nat) : State :=
  let v := s.g CNT_VAL_VALUE b k + w
  let s := s.p CNT_VAL_VALUE v b k
  if v < 2 ^ 48 then s else
  let was := s.on CNT_VAL_OVF b k
  let s := s.setF CNT_VAL_OVF b k
  let s := if was then s.inc CNT_SEL_OVF_MULTI b k else s
  if s.on CNT_SEL_BOUND b k then
    match s.csetOf b k with
    | some c => if s.on CSET_CFG_MSIX_EN c then s.send (.msix (s.g CSET_CFG_INST c) (s.g CSET_CFG_MSIX_VEC c)) else s
    | none => s
  else if !was && s.on CNT_VAL_OVF_NOTE b k then s.cntNotice 1 b k else s

/-- An event occurs in a bank with a weight, carried by a unit of an instance or by none (R405). -/
def State.event (s : State) (b code w : Nat) (inst : Option Nat) : State :=
  (List.range (bankCount b)).foldl (fun s k =>
    if s.on CNT_SEL_EN b k && s.g CNT_SEL_MODE b k == 0 && s.g CNT_SEL_EVENT b k == code &&
       (!(s.on CNT_SEL_INST_EN b k) || inst == some (s.g CNT_SEL_INST b k)) then s.ctrAdd b k w else s) s

/-- The bank that counts what a master or port does (Table 21-1): ports, slices, hearths, flues. -/
def bankOf (core : Nat) : Nat :=
  if core < 128 then core else if core < 0x90 then 133 + (core - 0x80) else if core < 0xA0 then 130 + (core - 0x90)
  else if core < 0xA4 then 152 + (core - 0xA0) else if core = 0xC1 then 158
  else if 0x800 ≤ core then (if core - 0x800 < 1024 then 149 else 150) else 128

end Sys2Proof.Machine
end

