-- ==== Sys2Proof/Machine/Masters.lean ====
section
/-! DEFINITION. Who may write what: the level of a master, its gate on the Device Control Space, the masters each block accepts writes
from, and the commands that a write of a command bit starts (R28, R206, R288 to R294, R299, R361). -/

namespace Sys2Proof.Machine

/-- The thread's gate check of an access at its present level (R288, Table 14-1). -/
def State.thGate (s : State) (t space addr len kind : Nat) : Option (GateAcc × Nat × Option Nat) :=
  let x : GateAcc := { space := space, hearth := if space = 2 then thH t else 0, addr := addr, len := len, kind := kind, level := s.priv t, inst := (s.th t).inst }
  (s.gateCheck (.thread t (s.tgActive t)) x).map (fun r => (x, r.1, r.2))

/-- What a gate refused is recorded and captured (R293, R294). -/
def State.recordRefusal (s : State) (t : Nat) (g : Option (GateAcc × Nat × Option Nat)) : State :=
  match g with
  | some (x, a, r) => s.gateRefuse (.thread t (s.tgActive t)) x a r (0x80 + thH t) (some (s.tidOf t)) (scope 4 t)
  | none => s

/-- The level of a master: a thread's own, P1 for the bridge, P0 for Hjelvon and the device, P2 for a host (Table 14-1). -/
def State.mPriv (s : State) : Master → Nat
  | .thread t => s.priv t
  | .bridge => 1
  | .hjelvon | .device => 0
  | .host _ => 2

/-- The core ID of a master (Table 5-2). -/
def masterCore : Master → Nat
  | .thread t => 0x80 + thH t
  | .hjelvon => 0xC0
  | .bridge => 0xC1
  | .host _ | .device => 0

/-- Registers of completion queues: copy q lies in the block of flue q / 2 (Table 11-9). -/
def cqRegs : List RegName := [.CQ_BASE, .CQ_CFG, .CQ_IDX]

/-- The offset of a register of the Device Control Space. -/
def RegName.place (r : RegName) (i : Nat := 0) (j : Nat := 0) : Nat :=
  match regMap.find? (fun l => l.reg == r) with
  | some l => if cqRegs.contains r then l.base + i / 2 * l.iStride + i % 2 * l.jStride else l.base + i * l.iStride + j * l.jStride
  | none => 0

/-- A P0 or P1 thread. -/
def State.p01 (s : State) : Master → Bool
  | .thread t => s.priv t ≤ 1
  | _ => false

/-- A P0 thread. -/
def State.p0 (s : State) : Master → Bool
  | .thread t => s.priv t == 0
  | _ => false

/-- What may write the registers of hearth 15 (R206). -/
def State.h15 (s : State) : Master → Bool
  | .thread t => s.priv t == 0 && thH t == 15
  | .hjelvon => true
  | _ => false

/-- Registers of a hearth's block, of thread gates, of port gates, of instances' managers, of the fault unit, of Sirfin and the stack with
Damper, and of the bridge. -/
def hearthRegs : List RegName := [.HTH_CTRL, .HTH_STATUS, .HTH_LOAD_CMD, .HTH_LOAD_SRC, .HTH_LOAD_STATUS, .ENG_CFG, .TH_CTRL, .TH_VEC, .TH_STATUS,
  .TH_PC, .CHM_CFG, .CHM_FILTER, .CHM_RING, .CHM_IDX, .CHM_STAT]
def threadGateRegs : List RegName := [.TG_CTRL, .TG_VIOL_ADDR, .TG_VIOL_INFO, .TG_VIOL_CNT, .TG_LO, .TG_HI]
def managerRegs : List RegName := [.PG_VIOL_ADDR, .PG_VIOL_INFO, .PG_VIOL_CNT, .PG_LO, .PG_HI, .HJ_GATE, .FLU_ASSIGN, .FLU_RUN_RET, .RQL_CFG, .WQ_CFG, .CSET_CFG,
  .CSET_MAP, .INST_CMD, .INST_ARG0, .INST_ARG1, .INST_STATUS, .INST_POOL, .INST_OVF, .INST_DC_CFG, .INST_USE, .MBX_CFG, .INST_ERR]
def withHjelvonRegs : List RegName := [.FU_CTRL, .FU_STATUS, .FU_IRQ_CFG, .FU_CMD, .FU_CMD_ARG, .FU_CMD_STATUS, .FU_LOG_CFG, .FU_LOG_IDX,
  .FU_LOG_STATUS, .FU_FIRST, .FU_FIRST5, .FU_BACKSTOP0, .FU_BACKSTOP1, .FU_SRC_CNT,
  .STK_CFG, .STK_STATUS, .STK_TIME, .STK_ERR, .STK_CNT, .STK_PEER, .SRF_CFG, .SRF_STATUS, .SRF_PEER, .SRF_CREDIT, .SRF_CNT, .SRF_ERR,
  .DMP_GCFG, .DMP_PFAIL_CFG, .DMP_GSTATUS, .DMP_GERR, .DMP_CURVE, .DMP_CFG, .DMP_LIM, .DMP_CTRL, .DMP_STATUS, .DMP_MEAS, .DMP_CAP, .DMP_ERR,
  .BR_CFG, .BR_STATUS, .BR_CNT, .BR_ERR, .BR_ALERT, .BR_CMT_STATUS, .SMB_TX_CMD, .SMB_RX_REL, .SB_CFG, .SB_STATUS, .SB_EXP, .SB_SLOT]

/-- The masters that a block accepts writes from, for copy `c` of a register; a host's view is filtered before (R28). -/
def State.mayWrite (s : State) (m : Master) (r : RegName) (c : Nat) : Bool :=
  let br := m == .bridge
  let hj := m == .hjelvon
  let sw := s.p01 m || br
  if m = .device then true
  else if hearthRegs.contains r then (if c = 15 then s.h15 m else sw)
  else if r = .CMT_CFG || r = .CMT_STATUS || r = .STG_STATUS then s.h15 m
  else if threadGateRegs.contains r then (if thH c = 15 then s.h15 m else sw)
  else if managerRegs.contains r then sw
  else if withHjelvonRegs.contains r then sw || hj
  else if r = .HJ_CMD || r = .HJ_ARG then (if c < 16 then s.p0 m && s.h15 m else if c < 28 then s.p01 m else br)
  else if r = .TALLY || r = .RBC then hj
  else if r = .FU_INJ then s.p0 m || br
  else if r = .FU_SRC then (if c / 64 = 0x01 || c / 64 = 0x10 then s.p0 m || hj else sw || hj)
  else if r = .STK_CTRL then s.p0 m || hj
  else if r = .BR_CMT then br
  else if r = .PU_CMD then s.p0 m || hj || br
  else if r = .PU_CFG then s.p0 m || br
  else true

/-- Registers of a flue, a work queue, a completion queue and a counter set that a host view may show (R28). -/
def hostFlueRegs : List RegName := [.FLU_ASSIGN, .FLU_CFG, .FLU_CTRL, .FLU_STATUS, .FLU_DOORBELL, .FLU_DESC, .FLU_SRC, .FLU_DST, .FLU_LEFT, .FLU_ACC,
  .FLU_RING_BASE, .FLU_RING_IDX, .FLU_ERR, .FLU_LAST_CMPL]
def hostQueueRegs : List RegName := [.WQ_CFG, .WQ_RING, .WQ_HEAD_ADDR, .WQ_CTRL, .WQ_DB, .WQ_IDX, .WQ_STATUS, .WQ_ERR]

/-- Whether an instance's host view shows a register (R28, Table 1-8). A completion queue is the instance's by CQ_CFG.INST. -/
def State.hostSees (s : State) (i : Nat) (r : RegName) (c : Nat) : Bool :=
  if [RegName.ID_PART, .ID_REV, .ID_CONFIG].contains r then true
  else if [RegName.MBX_DB, .MBX_STATUS, .MBX_NOTE_IDX, .MBX_HCFG].contains r then c == i
  else if hostQueueRegs.contains r then s.on WQ_CFG_VALID c && s.g WQ_CFG_INST c == i
  else if hostFlueRegs.contains r then s.on FLU_ASSIGN_VALID c && s.g FLU_ASSIGN_INST c == i
  else if [RegName.CQ_BASE, .CQ_CFG, .CQ_IDX].contains r then s.g CQ_CFG_INST c == i
  else if [RegName.CSET_CFG, .CSET_MAP, .CSET_VAL].contains r then s.on CSET_CFG_VALID c && s.g CSET_CFG_INST c == i
  else false

/-- An access to an offset nobody holds, or that the view hides: a CE fault with the master and the offset (R25, R28). -/
def State.strayAccess (s : State) (m : Master) (off kind : Nat) : State :=
  s.report { source := src 0x01 8, cls := CE, scope := 0, status := ST_NO_MATCH, addr := some (3, off), access := kind,
             inst := (match m with | .host i => some (s.dev * 4096 + i.val) | .thread t => some (s.th t).inst | _ => none), core := (masterCore m),
             tid := (match m with | .thread t => some (s.tidOf t) | _ => none), dev := s.dev }

/-- The gate on the Device Control Space for a master: what a thread's gate, or the bridge's default map, refuses (R170, Table 14-1). -/
def State.csGate (s : State) (m : Master) (off len kind : Nat) : Option (GateAcc × Nat × Option Nat) :=
  match m with
  | .thread t => s.thGate t 3 off len kind
  | .bridge =>
    let x : GateAcc := { space := 3, addr := off, len := len, kind := kind, level := 1, inst := 0 }
    (s.gateCheck .none x).map (fun r => (x, r.1, r.2))
  | _ => none

/-- A refusal of that gate recorded. -/
def State.csRefuse (s : State) (m : Master) (g : GateAcc × Nat × Option Nat) : State :=
  match m with
  | .thread t => s.recordRefusal t (some g)
  | _ => s.gateFault .none g.1 g.2.1 g.2.2 (masterCore m) none 0

/-- A command that a master writes to a register: checked by its gate, the host view and the block's masters, then performed. -/
def State.cmdBy (s : State) (m : Master) (r : RegName) (i : Nat) (op : State → State) (j : Nat := 0) : State :=
  match s.csGate m (r.place i j) 8 1 with
  | some g => (s.csRefuse m g).reply m ST_ACCESS_DENIED
  | none =>
    match m with
    | .host k => if s.hostSees k r i then (if s.mayWrite m r i then op s else s.reply m ST_ACCESS_DENIED)
      else (s.strayAccess m (r.place i j) 2).reply m ST_NO_MATCH
    | _ => if s.mayWrite m r i then op s else s.reply m ST_ACCESS_DENIED

/-- A command of a main-domain block, by a master, that answers a status. -/
def command (m : Master) (r : RegName) (i : Nat) (op : State → State × Nat) (s : State) : Out :=
  whenUp s fun s => s.cmdBy m r i (fun s => let q := op s; q.1.reply m q.2)

end Sys2Proof.Machine
end

