-- ==== Sys2Proof/Machine/Units.lean ====
section
/-! DEFINITION. Units in flight: taking one, metering, queues and bounds, and concluding one with a status
(R56, R83 to R107, Tables 5-1 to 5-6 and 7-5). -/

namespace Sys2Proof.Machine

/-! ## The units in flight -/

/-- A unit in flight. -/
def State.txn (s : State) (id : Nat) : Option Txn := nget? id s.sw.txns

/-- A unit changed or taken in. -/
def State.txnSet (s : State) (id : Nat) (t : Txn) : State := { s with sw := { s.sw with txns := nset id t s.sw.txns } }

/-- A unit gone. -/
def State.txnDel (s : State) (id : Nat) : State := { s with sw := { s.sw with txns := nerase id s.sw.txns } }

/-- Requests that hold a tracker entry: all but posted ones and completions (R92). -/
def Txn.nonPosted (t : Txn) : Bool := t.kind != .ioPosted && t.kind != .ioCpl

/-- Whether a request is to composed memory, and whether it writes. -/
def ReqKind.composed : ReqKind → Bool
  | .rdS | .rdA | .rdCur | .wr | .wrPtl | .wb => true
  | _ => false
def ReqKind.writes : ReqKind → Bool
  | .wr | .wrPtl | .wb | .ptWrite | .ioPosted | .modWrite => true
  | _ => false

/-- Whether a unit waits at ingress or in a queue (R94). -/
def Place.waits : Place → Bool
  | .penalty | .fenced | .toHome _ | .egress _ _ | .cpl _ | .stack _ => true
  | _ => false

/-- How many units satisfy a condition. -/
def State.countTxn (s : State) (p : Txn → Bool) : Nat := (s.sw.txns.filter (fun e => p e.2)).length

/-- A port's requests accepted and not answered, and those sent to its partner and not answered (R56). -/
def State.inOut (s : State) (c : Nat) : Nat := s.countTxn (fun t => t.src == c && t.dev == s.dev && t.nonPosted && !t.dropped)
def State.outOut (s : State) (c : Nat) : Nat := s.countTxn (fun t => t.place == .sent c && t.nonPosted)

/-- The requests held for a port, and for one of its egress queues (Tables 5-14, 6-7). -/
def State.egDepthQ (s : State) (c q : Nat) : Nat := s.countTxn (fun t => t.place == .egress c q)
def State.egDepth (s : State) (c : Nat) : Nat :=
  s.countTxn (fun t => match t.place with | .egress c' _ => c' == c | _ => false)

/-- Tracker entries in use, in all and in a slice (R92). -/
def State.trkUsed (s : State) : Nat := s.countTxn (fun t => t.slice.isSome)
def State.trkSlice (s : State) (sl : Nat) : Nat := s.countTxn (fun t => t.slice == some sl)

/-- The payload cells of the answers, snoops and relayed requests that wait for a link of a die (R88). -/
def State.linkCells (s : State) (die : Nat) : Nat :=
  (s.stk.links.filter (fun e => e.1 / 2 == die)).foldl (fun n e => (e.2.rsp ++ e.2.snp ++ e.2.req).foldl (fun n u => n + (u.data.length + 255) / 256) n) 0
/-- Payload cells in use on a die, and spilled cells, in all and of an instance. -/
def State.cellsDie (s : State) (die : Nat) : Nat :=
  (s.sw.txns.filter (fun e => e.2.die == die)).foldl (fun n e => n + (e.2.cells - e.2.spilled)) (s.linkCells die)
def State.ovfCells (s : State) : Nat := s.sw.txns.foldl (fun n e => n + e.2.spilled) 0
def State.ovfInst (s : State) (inst : Nat) : Nat :=
  (s.sw.txns.filter (fun e => e.2.inst == inst)).foldl (fun n e => n + e.2.spilled) 0

/-- Controllers of a port's configured width (Table 3-9). -/
def State.widthCtl (s : State) (c : Nat) : Nat := 2 ^ s.g PC_WIDTH_CFG_WIDTH c

/-- The bound of R56. -/
def State.portBound (s : State) (c : Nat) : Nat := 4096 * s.widthCtl c

/-- The lead controller of a controller's port. -/
def State.lead (s : State) (c : Nat) : Nat := s.g PC_WIDTH_CFG_LEAD c
def State.isFollower (s : State) (c : Nat) : Bool := s.on PC_WIDTH_CFG_FOLLOWER c

/-- Shared payload cells of a die (Table 5-3). -/
def State.sharedCells (s : State) : Nat :=
  (360448 - 256 * (s.g SW_BUF_CFG_RSP_RSV_U + s.g SW_BUF_CFG_SNP_RSV_U + s.g SW_BUF_CFG_IOP_RSV_U + s.g SW_BUF_CFG_IOCPL_RSV_U)) / 2
/-- Cells on a die of the units that satisfy a condition. -/
def State.cellsOn (s : State) (die : Nat) (p : Txn → Bool) : Nat :=
  (s.sw.txns.filter (fun e => e.2.die == die && p e.2)).foldl (fun n e => n + (e.2.cells - e.2.spilled)) 0
/-- The IOP reserve of a die (Table 5-3). -/
def State.iopRsv (s : State) : Nat := s.g SW_BUF_CFG_IOP_RSV_U * 256 / 2
/-- Cells of a die taken from the shared pool: all of MREQ and IONP, and IOP beyond its reserve; IOCPL never leaves its own (Table 5-3). -/
def State.sharedUsed (s : State) (die : Nat) : Nat :=
  s.cellsOn die (fun t => t.cls != 3 && t.cls != 5) + (s.cellsOn die (fun t => t.cls == 3) - s.iopRsv)
def State.freeShared (s : State) (die : Nat) : Nat := s.sharedCells - s.sharedUsed die
/-- Cells a unit of a class can still take on a die: for IOCPL what is left of its reserve, for others the shared ones, and for IOP what is left of its
reserve too (R88). -/
def State.freeFor (s : State) (die cls : Nat) : Nat :=
  if cls = 5 then s.g SW_BUF_CFG_IOCPL_RSV_U * 256 / 2 - s.cellsOn die (fun t => t.cls == 5)
  else s.freeShared die + (if cls = 3 then s.iopRsv - s.cellsOn die (fun t => t.cls == 3) else 0)
/-- Whether the shared cells of a die hold traffic back: none is free and nothing spills, or a request waits for more than there are (Table 5-5). -/
def State.dieBound (s : State) (die : Nat) : Bool :=
  (!(s.on SW_CFG_OVF_EN) && s.freeShared die == 0) || decide (s.freeShared die < ngetD s.sw.cellHeld die 0)

/-- A port's reserve in a tracker slice: half of PORT_RSV, rounded down, for each controller of its width (R92). -/
def State.trkPortRsv (s : State) (c : Nat) : Nat := s.g SW_TRK_CFG_PORT_RSV / 2 * s.widthCtl c
/-- Tracker entries of a slice that masters hold beyond their reserves (R92). -/
def State.trkSharedUsed (s : State) (sl : Nat) : Nat :=
  let rsvI := s.g SW_TRK_CFG_INT_RSV / 2
  let ports := (List.range 128).foldl (fun n c =>
    if s.isFollower c then n else
    n + (s.countTxn (fun t => t.slice == some sl && t.src == c && t.dev == s.dev) - s.trkPortRsv c)) 0
  ports + (s.countTxn (fun t => t.slice == some sl && t.src ≥ 128 && t.dev == s.dev) - rsvI) + s.countTxn (fun t => t.slice == some sl && t.dev != s.dev)

/-- The shared tracker entries of a slice, those that the halvings leave over among them (R92, R128). -/
def State.trkShared (s : State) : Nat := 131072 - (128 * (s.g SW_TRK_CFG_PORT_RSV / 2) + s.g SW_TRK_CFG_INT_RSV / 2)

/-- Whether a shared entry of a slice is free; WB_RSV of them are kept for WB (R128). -/
def State.trkShares (s : State) (sl : Nat) (wb : Bool) : Bool := s.trkSharedUsed sl < s.trkShared - (if wb then 0 else s.g HOME_CFG_WB_RSV)

/-- Whether a master may take a tracker entry of a slice (Table 5-5). -/
def State.trkRoom (s : State) (sl core : Nat) (wb : Bool) : Bool :=
  let own := s.countTxn (fun t => t.slice == some sl && t.dev == s.dev && (if core < 128 then t.src == core else t.src ≥ 128))
  let rsv := if core < 128 then s.trkPortRsv core else s.g SW_TRK_CFG_INT_RSV / 2
  own < rsv || s.trkShares sl wb

/-- A unit is taken in: the high-water marks follow (Tables 3-13, 5-11, 7-12). -/
def State.take (s : State) (t : Txn) : State × Nat :=
  let id := s.sw.nextId
  let s := { s with sw := { s.sw with nextId := id + 1, nextQ := s.sw.nextQ + 1, txns := nset id { t with qseq := s.sw.nextQ } s.sw.txns } }
  let s := s.hwm SW_STATUS_TRK_HWM s.trkUsed
  let s := match t.slice with | some sl => s.hwm HOME_SLICE_STATUS_TRK_HWM (s.trkSlice sl) sl | none => s
  let s := if t.src < 128 && t.dev == s.dev && t.parent.isNone then s.hwm PC_TAG_STATUS_IN_HWM (s.inOut t.src) t.src else s
  let s := match t.place with | .egress c _ => s.hwm EGQ_STATUS_DEPTH_HWM (s.egDepth c) c | _ => s
  (s, id)

/-- A unit moved to a queue: it goes to the queue's tail. -/
def State.requeue (s : State) (id : Nat) (t : Txn) (pl : Place) : State :=
  let q := s.sw.nextQ
  let s := { s with sw := { s.sw with nextQ := q + 1 } }
  let s := s.txnSet id { t with place := pl, qseq := q, tQueue := s.now }
  match pl with | .egress c _ => s.hwm EGQ_STATUS_DEPTH_HWM (s.egDepth c) c | _ => s

/-- The head of a queue: the unit at a place with the lowest queue number. -/
def State.headOf (s : State) (p : Txn → Bool) : Option (Nat × Txn) :=
  (s.sw.txns.filter (fun e => p e.2)).foldl (fun b e =>
    match b with
    | none => some e
    | some x => if e.2.qseq < x.2.qseq then some e else b) none

/-! ## The flow hash (R85) -/

/-- Whether two units are of one flow: one source, instance and address term, whatever their classes (R85). -/
def sameFlow (a b : Txn) : Bool :=
  a.src == b.src && a.dev == b.dev && a.inst == b.inst && flowA a.cls a.addr == flowA b.cls b.addr

/-- The path of a unit: plane, bridge channel and Sirfin link, from its hash (R85). -/
def State.pathOf (s : State) (t : Txn) : Nat :=
  let h := flowHash t.src t.inst (flowA t.cls t.addr) (s.g SW_CFG_HASH_SEED)
  h % 16 + 16 * (if t.hdev = s.dev then 0 else match s.linkFor h t.hdev with | some l => 1 + l | none => 0)

/-! ## Meters (R100 to R104) -/

/-- Bucket sizes of a meter in thousandths of a byte. -/
def State.cbs (s : State) (m : Nat) : Nat := s.g MTR_BURST_CBS_U m * 256000
def State.pbs (s : State) (m : Nat) : Nat := s.g MTR_BURST_PEBS_U m * 256000

/-- A meter's buckets brought up to date from the elapsed ticks (R101); full before their first use. -/
def State.bucketNow (s : State) (m : Nat) : Buckets :=
  match nget? m s.sw.buckets with
  | none => ⟨s.cbs m, s.pbs m, s.sw.tickNs⟩
  | some b =>
    let dt := s.sw.tickNs - b.at_
    let inC := dt * s.g MTR_RATE_CIR_MBPS m
    if s.on MTR_CFG_MODE m then
      let c := min b.c (s.cbs m) + inC
      ⟨min c (s.cbs m), min (b.p + (c - s.cbs m)) (s.pbs m), s.sw.tickNs⟩
    else ⟨min (b.c + inC) (s.cbs m), min (b.p + dt * s.g MTR_RATE_PIR_MBPS m) (s.pbs m), s.sw.tickNs⟩

/-- The colour of a request: 0 green, 1 yellow, 2 red (RFC 2698 two-rate, RFC 2697 single-rate, colour-blind), and the buckets after. -/
def State.colour (s : State) (m len : Nat) : Nat × Buckets :=
  let b := s.bucketNow m
  let n := max len 64 * 1000
  if !(s.on MTR_CFG_EN m) || !(s.on MS_CFG_MTR_GLOBAL_EN) then (0, b)
  else if s.on MTR_CFG_MODE m then
    if n ≤ b.c then (0, { b with c := b.c - n })
    else if n ≤ b.p then (1, { b with p := b.p - n })
    else (2, b)
  else if b.p < n then (2, b)
  else if b.c < n then (1, { b with p := b.p - n })
  else (0, { b with c := b.c - n, p := b.p - n })

/-- Whether the spilled cells of an instance have reached its overflow quota (R90, R103). DEDUCED (log 101): with a quota that no cell has reached
because it is 0, only a request that would spill is held by it. -/
def State.overQuota (s : State) (inst spill : Nat) : Bool :=
  let n := s.ovfInst inst
  decide (s.g INST_OVF_OVF_QUOTA (inst % 4096) ≤ n) && (decide (0 < n) || decide (0 < spill))

/-- The colour a request is handled as, with the cells of it that would spill (R103): yellow below the floor and over-quota requests are handled as
red. -/
def State.handled (s : State) (m len inst spill die : Nat) : Nat × Buckets :=
  let r := s.colour m len
  if s.overQuota inst spill then (2, s.bucketNow m)
  else if r.1 = 1 && s.on MTR_CFG_YEL_HOLD m && s.g MS_CFG_YEL_FLOOR_U != 0 && s.freeShared die < s.g MS_CFG_YEL_FLOOR_U * 256
  then (2, s.bucketNow m) else r

/-- The buckets of a meter written back: charged, or only brought up to date. -/
def State.setBuckets (s : State) (m : Nat) (b : Buckets) : State := { s with sw := { s.sw with buckets := nset m b s.sw.buckets } }

/-- The port behind its registers. -/
def State.port (s : State) (c : Nat) : PortX := ngetD s.ports c {}
def State.portMod (s : State) (c : Nat) (f : PortX → PortX) : State := { s with ports := nput {} c (f (s.port c)) s.ports }

/-- An instance's penalty depth, and the units of one penalty list (R105, R107). -/
def State.penDepth (s : State) (inst : Nat) : Nat := s.countTxn (fun t => t.place == .penalty && t.inst == inst)
def State.penList (s : State) (inst core : Nat) : List (Nat × Txn) :=
  s.sw.txns.filter (fun e => e.2.place == .penalty && e.2.inst == inst && e.2.src == core)

/-- PEN_FULL follows the depth (R107): its rise is counted and recorded once. -/
def State.penRefresh (s : State) (inst : Nat) : State :=
  let i := inst % 4096
  let d := s.penDepth inst
  let full := d ≥ s.g INST_MS_PEN_MAX i
  let was := s.on INST_MS_PEN_FULL i
  let s := (s.p INST_MS_PEN_DEPTH d i).pb INST_MS_PEN_FULL full i
  let s := if full then s else s.ports.foldl (fun s e =>
    if e.2.penWait.contains inst then s.portMod e.1 (fun x => { x with penWait := x.penWait.filter (· != inst) }) else s) s
  if full && !was then ((s.inc MS_STATUS_PEN_FULL_EVENTS).setF MS_STATUS_PEN_FULL_ANY).fault (src 0x06 0) CE (scope 1 i)
  else if was && !full then s.pb MS_STATUS_PEN_FULL_ANY ((List.range 4096).any (fun k => s.on INST_MS_PEN_FULL k)) else s


/-! ## Units for another device (R321) -/

/-- A device's registers seen as this one's. -/
def State.asDev (s : State) (regs : NMap Nat) : State := { s with regs := regs }

/-- The registers that members of a stack tell each other: of instances their windows, states and placement limits, of ports their roles and fabric port
IDs. DESIGN CHOICE (log 133): the spec has members use them and gives no message for it. -/
def toldFields : List Fld := [IW_BASE_VALID, IW_BASE_FPA_BASE, IW_LIMIT_SIZE_GIB, INST_STATUS_STATE, PLC_INST_MOVE_EN, PLC_INST_FORBID, PLC_INST_MAX_ACTIVE_I,
  INST_DC_CFG_REGIONS, INST_DC_CFG_REGION_DB, INST_MS_SG, PC_ROLE_CFG_PBR_ID, PC_ROLE_CFG_ROLE_SEL, PC_LINK_STATUS_ROLE_BOUND, PC_WIDTH_CFG_FOLLOWER]

/-- A device as this one sees it: itself, what it told last, or the copy of its RWE registers (log 133). -/
def State.peer (s : State) (d : Nat) : State :=
  if d = s.dev then s else s.asDev ((nget? d s.stk.told).getD (ngetD s.stk.copies d []))

/-- Whether a port is an edge port: a lead that is bound HOST or MODULE, or that is not to be bound FABRIC (R76). -/
def State.edgePort (s : State) (c : Nat) : Bool :=
  !(s.isFollower c) && (s.g PC_LINK_STATUS_ROLE_BOUND c == 1 || s.g PC_LINK_STATUS_ROLE_BOUND c == 2 ||
    (s.g PC_LINK_STATUS_ROLE_BOUND c == 0 && s.g PC_ROLE_CFG_ROLE_SEL c != 3))

/-- The ports of other devices that have a fabric port ID: the ID, and 128 × device + port (R76). -/
def State.peerPorts (s : State) : List (Nat × Nat) :=
  ((List.range 4).filter (fun d => d != s.dev && ((nget? d s.stk.told).isSome || (nget? d s.stk.copies).isSome))).flatMap (fun d =>
    (List.range 128).filterMap (fun p => let id := (s.peer d).g PC_ROLE_CFG_PBR_ID p; if id = 0xFFF then none else some (id, 128 * d + p)))

/-! ## Egress queues (R83, R86, R108, R109) -/

/-- The rate of an egress queue's shaper: a written one holds from the next tick on (R111). -/
def State.shpRate (s : State) (c q : Nat) : Nat := (nget? (16 * c + q) s.sw.shpOld).getD (s.g EQ_SHP_RATE_MBPS c q)

/-- Whether an egress queue is eligible: it holds work and its credit is 0 or more (R108). -/
def State.eligible (s : State) (c q : Nat) : Bool :=
  s.egDepthQ c q > 0 && (s.shpRate c q == 0 || decide (0 ≤ ngetD s.sw.credit (16 * c + q) 0))

/-- A visit of the round robin ends when its queue has become empty or ineligible (R109). -/
def State.closeVisits (s : State) : State :=
  s.sw.wrrLast.foldl (fun s e =>
    if ngetD s.sw.wrrBurst e.1 0 != 0 && !(s.eligible e.1 e.2) then { s with sw := { s.sw with wrrBurst := nset e.1 0 s.sw.wrrBurst } } else s) s

/-- Whether a later unit of a flow may not leave before an earlier one to the same port (R83, R86, Table 5-4): memory requests stay in order, nothing of
CXL.io passes a posted request but another posted request or a completion with Relaxed Ordering, and completions stay in order. -/
def Txn.staysBehind (t u : Txn) : Bool :=
  sameFlow u t && (match t.cls, u.cls with
    | 0, 0 => true
    | 3, 3 | 5, 3 => !t.ro
    | 4, 3 => true
    | 5, 5 => true
    | _, _ => false)

/-- Whether an earlier unit that waits for the same port must leave first. -/
def State.mustFollow (s : State) (id : Nat) (t : Txn) : Bool :=
  s.sw.txns.any (fun e => e.1 < id && e.2.place.waits && !e.2.kind.composed && e.2.mod / 16 == t.mod / 16 && t.staysBehind e.2)

/-! ## Concluding a unit -/

/-- The outcome a partner sees for a status (Tables 5-6, 7-5): 0 data or completion, 1 poisoned data or error completion,
2 Completer Abort for other non-posted CXL.io. A write of composed memory that is not performed for want of a backed page completes normally (R66). -/
def hostOutcome (k : ReqKind) (status : Nat) : Nat :=
  if status = ST_OK || (status = ST_NO_MATCH && k.composed && k.writes) then 0 else if k = .ioNp then 2 else 1

/-- The state of a port: 0 ACTIVE, 1 DRAINING, 2 QUIESCED, 3 DOWN, 4 LOOP; a follower reads its lead's (R46). -/
def State.portState (s : State) (c : Nat) : Nat := s.g PC_QUIESCE_STATUS_STATE (s.lead c)
/-- The other end of a port's loop (R63). -/
def State.loopPeer (s : State) (c : Nat) : Option Nat :=
  if s.portState c != 4 then none
  else if s.on PC_LOOP_CFG_LOOP_EN c then some (s.g PC_LOOP_CFG_PARTNER c)
  else (List.range 128).find? (fun p => s.on PC_LOOP_CFG_LOOP_EN p && s.g PC_LOOP_CFG_PARTNER p == c)
/-- A message leaves at a port: to its partner, or on the internal link of a loop (R63). -/
def State.toPort (s : State) (c : Nat) (m : Msg) : State :=
  if s.portState c == 4 then { s with sw := { s.sw with loop := s.sw.loop ++ [m] } } else s.send m
/-- The answer on the internal link of a loop to a request that one end sent: its outcome and data, taken off the link; none where the other end has
not answered (R63). At a port that is not looped there is nothing to take. -/
def State.loopTake (s : State) (c id : Nat) : Option (State × Option (Nat × List Byte)) :=
  match s.loopPeer c with
  | none => some (s, none)
  | some p =>
    match s.sw.loop.find? (fun m => match m with | .hostAnswer x tag _ _ => x == p && tag == id | _ => false) with
    | some (.hostAnswer x tag o d) => some ({ s with sw := { s.sw with loop := s.sw.loop.erase (.hostAnswer x tag o d) } }, some (o, d))
    | _ => none
/-- Whether a port carries CXL.io alone: UP_IO, and an end of a loop whose module is not authenticated (Table 3-3, R51, R63). -/
def State.ioOnly (s : State) (c : Nat) : Bool :=
  s.g PC_LINK_STATUS_LINK_STATE c == 2 || (s.portState c == 4 && !(s.port c).authDone)
/-- The IDE stream a unit leaves a port on: its link stream, when it has one (R55; log 105). -/
def State.outStreamOf (s : State) (c : Nat) : Option Nat := (s.port c).linkStream.map (·.1)
/-- Whether that stream is Insecure and carries nothing (R55). -/
def State.streamShut (s : State) (c : Nat) : Bool := (s.outStreamOf c).any (fun k => (s.port c).streams.contains (k, 2))

/-- A response, snoop or completion leaves at a port (R84); one that its link does not carry is discarded and counted. -/
def State.carryTo (s : State) (c cls : Nat) (data : List Byte) : State :=
  if s.portState c == 3 || (s.portState c == 4 && (s.port c).training) || (s.ioOnly c && cls != 5) || s.streamShut c then
    s.portMod c (fun x => { x with discarded := x.discarded + 1 })
  else s.toPort c (.carried c cls data)

/-- The completions that wait for a port leave it (R83, R84): each once no earlier posted request of its flow waits there, and at once at a port that is
DRAINING or QUIESCED, where that request stays held; at a port that is DOWN they are discarded and counted (R61). -/
def State.cplGo (s : State) (c : Nat) : State :=
  (s.sw.txns.filter (fun e => e.2.place == .cpl c)).foldl (fun s e =>
    if [1, 2, 3].contains (s.portState c) || !(s.mustFollow e.1 e.2) then (s.txnDel e.1).carryTo c 5 e.2.data else s) s

/-- The answer a port's partner gets: a PBR response, an outcome with the data of a read, or ERR_NONFATAL for a posted request that failed. -/
def State.portAnswer (s : State) (t : Txn) (status : Nat) (data : List Byte) : State :=
  if t.kind = .ioPosted then (if status = ST_OK then s else s.toPort t.src (.errNonfatal t.src t.header))
  else if t.kind = .pbr && status = ST_OK then s.toPort t.src (.pbrOut s.dev t.src true data)
  else s.toPort t.src (.hostAnswer t.src t.tag (hostOutcome t.kind status) (if status = ST_OK then data else []))

/-- A unit is gone from where it was: the penalty list, the egress queue whose visit it may end (R109), and the completions that waited for it (R83). -/
def State.leftPlace (s : State) (t : Txn) : State :=
  match t.place with
  | .penalty => s.penRefresh t.inst
  | .egress c _ => s.closeVisits.cplGo c
  | _ => s

/-- A request's answer leaves: to its partner as an outcome, to an internal master as a status; a posted request answers
nothing, and one that failed sends ERR_NONFATAL; one of another device is answered over Sirfin; an answer owed across a port reset is discarded and counted (R61). Tracker
entry and cells are freed with the unit (R92). -/
def State.conclude (s : State) (id status : Nat) (data : List Byte) : State :=
  match s.txn id with
  | none => s
  | some t =>
    let s := (s.txnDel id).leftPlace t
    if t.dev ≠ s.dev then
      s.stackPush { kind := 2, code := status, cls := 2, src := t.src, sdev := s.dev, ddev := t.dev, inst := t.inst, addr := t.addr, tag := t.tag, data := data }
    else if t.dropped then (if t.src < 128 then s.portMod t.src (fun x => { x with discarded := x.discarded + 1 }) else s)
    else if t.src < 128 then (s.event t.src 0x005 1 (some t.inst)).portAnswer t status data
    else if t.kind = .wb then s
    else
      let line := if 0x80 ≤ t.src && t.src < 0x90 && (t.kind == .rdS || t.kind == .rdA) then some (t.addr / 64) else none
      { s with sw := { s.sw with answers := nset id ⟨t.src, t.tag, status, data, t.inst, line⟩ s.sw.answers } }

/-- Every unit of a list concluded with one status. -/
def State.concludeAll (s : State) (ids : List Nat) (status : Nat) : State :=
  ids.foldl (fun s id => s.conclude id status []) s

/-- The units sent to the partner of a port and not answered. -/
def State.sentTo (s : State) (c : Nat) : List Nat :=
  (s.sw.txns.filter (fun e => e.2.place == .sent c)).map (·.1)

end Sys2Proof.Machine
end

