-- ==== Sys2Proof/Machine/Operands.lean ====
section
/-! DEFINITION. The words of Plovurk: the operand fields of Table 9-3, and which row of Table 9-4 a word is (R171). -/

namespace Sys2Proof.Machine

/-! ## Fields (Table 9-3) -/

def wOp (w : Nat) : Nat := bits w 26 6
def wRd (w : Nat) : Nat := bits w 21 5
def wRa (w : Nat) : Nat := bits w 16 5
def wRb (w : Nat) : Nat := bits w 11 5
def wFn (w : Nat) : Nat := bits w 0 11
def wImm (w : Nat) : Nat := bits w 0 16

/-- IMM sign-extended, as a 64-bit number. -/
def wSimm (w : Nat) : Nat := wrap (sext (wImm w) 16) 64

/-- The registers of format B. -/
def wBa (w : Nat) : Nat := bits w 21 5
def wBb (w : Nat) : Nat := bits w 16 5

/-- A number as a 64-bit one. -/
def w64 (n : Nat) : Nat := n % 2 ^ 64

/-- The instructions of Table 9-4, FLINE, AMO, FENCE, YIELD and HALT each by its form. -/
inductive Plv
  | alu | addi | andi | ori | xori | shi | cati
  | beq | bne | blt | bge | bltu | bgeu | jal | jalr
  | ldb | ldh | ldw | ldd | stb | sth | stw | std
  | fld | fldu | fst | fstu | flineLd | flineLdu | flineSt | flineStu
  | amoLocal | amoFabric | fenceL | fenceF | fenceA | fenceI
  | crc | mix | fhash | cld | cst
  | stgr | stgm | ecmt | eabort | evtwait | evtsig | mbsend | mbrecv | dmal
  | bmove | bfill | bcmp | mfs | mts | syscall | tret | brk | yield | halt
deriving DecidableEq, Repr

/-- The special registers of Table 9-1. -/
def sprNamed (n : Nat) : Bool := n ≤ 0x00D || (0x010 ≤ n && n ≤ 0x013)

/-- The row of a word: none for a word that R171 or R169 makes ILLEGAL. Every field of a word that its row does not use is 0. -/
def plvOf (w : Nat) : Option Plv :=
  let fn := wFn w
  let when (b : Bool) (p : Plv) : Option Plv := if b then some p else none
  let noRb : Bool := wRb w == 0
  let noRa : Bool := wRa w == 0
  let noRd : Bool := wRd w == 0
  match wOp w with
  | 0x00 => when (1 ≤ fn && fn ≤ 0x1F && (fn < 0x18 || noRb)) .alu
  | 0x01 => some .addi
  | 0x02 => some .andi
  | 0x03 => some .ori
  | 0x04 => some .xori
  | 0x05 => when (bits w 8 8 == 0) .shi
  | 0x06 => some .cati
  | 0x08 => some .beq
  | 0x09 => some .bne
  | 0x0A => some .blt
  | 0x0B => some .bge
  | 0x0C => some .bltu
  | 0x0D => some .bgeu
  | 0x0E => some .jal
  | 0x0F => some .jalr
  | 0x10 => some .ldb
  | 0x11 => some .ldh
  | 0x12 => some .ldw
  | 0x13 => some .ldd
  | 0x14 => some .stb
  | 0x15 => some .sth
  | 0x16 => some .stw
  | 0x17 => some .std
  | 0x18 => some .fld
  | 0x19 => some .fldu
  | 0x1A => some .fst
  | 0x1B => some .fstu
  | 0x1C => if !noRb then none else match fn with
    | 0 => some .flineLd
    | 1 => some .flineLdu
    | 2 => some .flineSt
    | 3 => some .flineStu
    | _ => none
  | 0x1D => if fn ≥ 32 || fn % 16 ≥ 0xA then none else if fn < 16 then some .amoLocal else some .amoFabric
  | 0x1E => if !(noRd && noRa && noRb) then none else match fn with
    | 0 => some .fenceL
    | 1 => some .fenceF
    | 2 => some .fenceA
    | 3 => some .fenceI
    | _ => none
  | 0x20 => when (noRb && fn < 16 && fn % 4 != 3) .crc
  | 0x21 => when (fn == 0) .mix
  | 0x22 => when (fn == 0) .fhash
  | 0x24 => some .cld
  | 0x25 => some .cst
  | 0x28 => when (fn == 0) .stgr
  | 0x29 => when (fn == 0) .stgm
  | 0x2A => when (fn == 0) .ecmt
  | 0x2B => when (fn == 0 && noRa && noRb) .eabort
  | 0x2C => when (fn == 0) .evtwait
  | 0x2D => when (fn == 0) .evtsig
  | 0x2E => when (fn < 8) .mbsend
  | 0x2F => when (fn == 0 && noRb) .mbrecv
  | 0x30 => when (fn == 0) .dmal
  | 0x34 => when (fn < 4) .bmove
  | 0x35 => when (fn < 2) .bfill
  | 0x36 => when (fn < 4) .bcmp
  | 0x38 => when (noRa && wImm w < 2 ^ 12 && sprNamed (wImm w)) .mfs
  | 0x39 => when (noRa && wImm w < 2 ^ 12 && sprNamed (wImm w)) .mts
  | 0x3C => when (noRd && noRa) .syscall
  | 0x3D => when (noRd && noRa && noRb && fn == 0) .tret
  | 0x3E => when (noRd && noRa) .brk
  | 0x3F => if !(noRd && noRa && noRb) then none else match fn with
    | 0 => some .yield
    | 1 => some .halt
    | _ => none
  | _ => none

/-- Whether the Level column of Table 9-4 admits an instruction at a level; MFS and MTS by the columns of Table 9-1 (R169). -/
def plvAllowed (p : Plv) (w level : Nat) : Bool :=
  let n := wImm w
  match p with
  | .cld | .cst | .stgr | .stgm | .ecmt | .eabort | .tret | .halt => level < 2
  | .mfs => level < 2 || n < 0x010
  | .mts => (n == 0x003 && level < 2) || (0x004 ≤ n && n ≤ 0x008) || (0x010 ≤ n && level < 2)
  | _ => true

end Sys2Proof.Machine
end

