-- ==== Sys2Proof/Machine/Alu.lean ====
section
/-! DEFINITION. What the register instructions compute: Table 9-5, the shifts, CRC, MIX, and the functions of Table 9-6
(R172, R185, R186). All numbers are 64-bit ones, held as naturals below 2^64. -/

namespace Sys2Proof.Machine

/-- A number as a signed 64-bit one. -/
def sg (v : Nat) : Int := sext v 64

/-- Shifts by the low six bits of an amount (R172). -/
def sll64 (v n : Nat) : Nat := w64 (v * 2 ^ (n % 64))
def srl64 (v n : Nat) : Nat := v / 2 ^ (n % 64)
def sra64 (v n : Nat) : Nat := wrap (sg v / 2 ^ (n % 64)) 64
def ror64 (v n : Nat) : Nat := srl64 v n + w64 (v * 2 ^ (64 - n % 64)) % 2 ^ 64

/-- Leading zeros, trailing zeros and set bits. -/
def clz64 (v : Nat) : Nat := ((List.range 64).takeWhile (fun k => !(bit v (63 - k)))).length
def ctz64 (v : Nat) : Nat := ((List.range 64).takeWhile (fun k => !(bit v k))).length
def popc64 (v : Nat) : Nat := ((List.range 64).filter (fun k => bit v k)).length

/-- The bytes of a number reversed. -/
def bswap64 (v : Nat) : Nat := leNat (leBytes 8 v).reverse

/-- Division (R172): all ones, or RA, where the divisor is 0. -/
def divu64 (a b : Nat) : Nat := if b = 0 then 2 ^ 64 - 1 else a / b
def remu64 (a b : Nat) : Nat := if b = 0 then a else a % b
def div64 (a b : Nat) : Nat := if b = 0 then 2 ^ 64 - 1 else wrap ((sg a).tdiv (sg b)) 64
def rem64 (a b : Nat) : Nat := if b = 0 then a else wrap ((sg a).tmod (sg b)) 64

/-- ALU function `fn` of RA and RB (Table 9-5). -/
def aluFn (fn a b : Nat) : Nat :=
  match fn with
  | 0x001 => w64 (a + b)
  | 0x002 => wrap ((a : Int) - b) 64
  | 0x003 => a &&& b
  | 0x004 => a ||| b
  | 0x005 => a ^^^ b
  | 0x006 => a &&& (2 ^ 64 - 1 - b)
  | 0x007 => sll64 a b
  | 0x008 => srl64 a b
  | 0x009 => sra64 a b
  | 0x00A => ror64 a b
  | 0x00B => if sg a < sg b then 1 else 0
  | 0x00C => if a < b then 1 else 0
  | 0x00D => w64 (a * b)
  | 0x00E => a * b / 2 ^ 64
  | 0x00F => wrap (sg a * sg b / 2 ^ 64) 64
  | 0x010 => divu64 a b
  | 0x011 => remu64 a b
  | 0x012 => div64 a b
  | 0x013 => rem64 a b
  | 0x014 => if sg a < sg b then a else b
  | 0x015 => if sg a < sg b then b else a
  | 0x016 => min a b
  | 0x017 => max a b
  | 0x018 => clz64 a
  | 0x019 => ctz64 a
  | 0x01A => popc64 a
  | 0x01B => bswap64 a
  | 0x01C => wrap (sext a 8) 64
  | 0x01D => wrap (sext a 16) 64
  | 0x01E => wrap (sext a 32) 64
  | _ => a % 2 ^ 32

/-- SHI: RA shifted by IMM[5:0] under IMM[7:6]. -/
def shiFn (a imm : Nat) : Nat :=
  match bits imm 6 2 with
  | 0 => sll64 a imm
  | 1 => srl64 a imm
  | 2 => sra64 a imm
  | _ => ror64 a imm

/-- One bit of a reflected CRC. -/
def crcBit (poly c : Nat) : Nat := if c % 2 = 1 then (c / 2) ^^^ poly else c / 2

/-- A reflected CRC register over bytes, least significant bit of each first (R185). -/
def crcBytes (poly : Nat) (c : Nat) (bs : List Byte) : Nat :=
  bs.foldl (fun c b => (List.range 8).foldl (fun c _ => crcBit poly c) (c ^^^ b.toNat)) c

/-- The reflected polynomials of R185. -/
def crcPoly (k : Nat) : Nat := match k with | 0 => 0x82F63B78 | 1 => 0xEDB88320 | _ => 0xC96C5795D7870F42

/-- CRC: RD updated with the low bytes of RA under FN. -/
def crcFn (fn d a : Nat) : Nat :=
  let k := fn % 4
  crcBytes (crcPoly k) (if k = 2 then d else d % 2 ^ 32) (leBytes (2 ^ (fn / 4 % 4)) a)

/-- MIX (R186). -/
def mix64 (a b : Nat) : Nat :=
  let x := a ^^^ (w64 (b * 2 ^ 32) + b / 2 ^ 32)
  let x := w64 ((x ^^^ (x / 2 ^ 33)) * 0xff51afd7ed558ccd)
  let x := w64 ((x ^^^ (x / 2 ^ 33)) * 0xc4ceb9fe1a85ec53)
  x ^^^ (x / 2 ^ 33)

/-- What an AMO writes to memory: function, old value, RB, RD on entry (Table 9-6). -/
def amoFn (fn old b d : Nat) : Nat :=
  match fn % 16 with
  | 0x0 => w64 (old + b)
  | 0x1 => old &&& b
  | 0x2 => old ||| b
  | 0x3 => old ^^^ b
  | 0x4 => b
  | 0x5 => if sg old < sg b then old else b
  | 0x6 => if sg old < sg b then b else old
  | 0x7 => min old b
  | 0x8 => max old b
  | _ => if old = b then d else old

/-- The conditions of the branches of Table 9-4. -/
def branchTaken (p : Plv) (a b : Nat) : Bool :=
  match p with
  | .beq => a == b
  | .bne => a != b
  | .blt => decide (sg a < sg b)
  | .bge => decide (sg b ≤ sg a)
  | .bltu => decide (a < b)
  | _ => decide (b ≤ a)

end Sys2Proof.Machine
end

