-- ==== Sys2Proof/Machine/PlaceOps.lean ====
section
/-! DEFINITION. The placement map, instance windows and targets, slots, and abandoning a migration (R64 to R70, R139 to R160). -/

namespace Sys2Proof.Machine

/-! ## Resolving a fabric address (R139, R70) -/

/-- The location a fabric address is placed at: device, interleave set and set offset. -/
structure Loc where
  dev : Nat
  set : Nat
  so : Nat
deriving DecidableEq, Repr

/-- The location of a fabric address under the committed map; none when it is unbacked (R139). -/
def State.resolve (s : State) (fpa : Nat) : Option Loc :=
  match nget? (bits fpa 21 32) s.plc.pages with
  | some o => if o.unbacked then none else some ⟨o.dev, o.set, o.so2m * 2 ^ 21 + fpa % 2 ^ 21⟩
  | none =>
    match nget? (bits fpa 30 23) s.plc.segs with
    | some e => if e.valid then some ⟨e.dev, e.set, e.soGib * 2 ^ 30 + fpa % 2 ^ 30⟩ else none
    | none => none

/-- ENT_EPOCH of the entry that places a page. -/
def State.entEpoch (s : State) (page : Nat) : Nat :=
  match nget? page s.plc.pages with
  | some o => o.epoch
  | none => (ngetD s.plc.segs (page / 512) {}).epoch

/-- Whether a page or its segment is pinned. -/
def State.pinned (s : State) (page : Nat) : Bool :=
  (ngetD s.plc.pages page {}).pin || (ngetD s.plc.segs (page / 512) {}).pin

/-- Ways and granule of an interleave set (Table 4-7). -/
def State.ways (s : State) (set : Nat) : Nat := 2 ^ s.g ILS_CFG_WAYS set
def State.gran (s : State) (set : Nat) : Nat := 256 * 2 ^ s.g ILS_CFG_GRAN set

/-- The capacity of a set in bytes: WAYS × TGT_SIZE × 256 MiB (R70). -/
def State.setBytes (s : State) (set : Nat) : Nat := s.ways set * s.g ILS_CFG_TGT_SIZE set * 2 ^ 28

/-- The module and module DPA of a set offset (R70). -/
def State.target (s : State) (set so : Nat) : Nat × Nat :=
  let g := s.gran set
  let w := s.ways set
  let chunk := so / g
  let way := chunk % w
  let row := chunk / w
  let off := row * g + so % g
  (s.g ILS_TGT_MOD set way, s.g ILS_TGT_BASE set way * 2 ^ 28 + off)

/-- A location with the target that the sets name now. -/
def State.locAt (s : State) (set so : Nat) : MemLoc := let t := s.target set so; ⟨set, so, t.1, t.2⟩

/-- Whether epoch `a` is earlier than `b`, compared modulo 2^32 (Table 0-2). -/
def epochBefore (a b : Nat) : Bool := a != b && (b + 2 ^ 32 - a) % 2 ^ 32 < 2 ^ 31

/-- A location with the target that the sets of an epoch name (R78, R225). -/
def State.locUnder (s : State) (epoch set so : Nat) : MemLoc :=
  match s.cmt.past.find? (fun e => epochBefore epoch e.1) with
  | some e => State.locAt { s with regs := e.2 } set so
  | none => s.locAt set so

/-- The location a request was decoded to (R78). -/
def Txn.loc (t : Txn) : MemLoc := ⟨t.set, t.so, t.mod, t.dpa⟩

/-- A unit decoded to a location of this device, or to another device. -/
def State.txnAt (s : State) (t : Txn) (l : Loc) : Txn :=
  let m := if l.dev = s.dev then s.target l.set l.so else (t.mod, t.dpa)
  { t with set := l.set, so := l.so, hdev := l.dev, mod := m.1, dpa := m.2 }

/-- The modules a set interleaves over. -/
def State.setModules (s : State) (set : Nat) : List Nat := (List.range (s.ways set)).map (fun k => s.g ILS_TGT_MOD set k)

/-- The instance whose valid window holds a fabric address (R68). -/
def State.windowOf (s : State) (fpa : Nat) : Option Nat :=
  (List.range 4096).find? (fun i => s.on IW_BASE_VALID i &&
    s.g IW_BASE_FPA_BASE i ≤ fpa / 2 ^ 30 && fpa / 2 ^ 30 < s.g IW_BASE_FPA_BASE i + s.g IW_LIMIT_SIZE_GIB i)

/-- The device and the instance whose valid window holds a fabric address: one of this device, else one of another member as it is seen here. -/
def State.windowAt (s : State) (fpa : Nat) : Option (Nat × Nat) :=
  match s.windowOf fpa with
  | some i => some (s.dev, i)
  | none => ((List.range 4).filter (· != s.dev)).findSome? (fun d => ((s.peer d).windowOf fpa).map (fun i => (d, i)))

/-- The shaping group of an instance (Table 6-4). Of another device's it is the one that device tells (log 133). -/
def State.sgOf (s : State) (inst : Nat) : Nat := (s.peer (inst / 4096)).g INST_MS_SG (inst % 4096)

/-- The instance a page belongs to. -/
def State.instOf (s : State) (fpa : Nat) : Nat := match s.windowAt fpa with | some w => w.1 * 4096 + w.2 | none => s.dev * 4096

/-- The home slice of a fabric address: the parity of its bits 52 to 8 (R113). -/
def homeSlice (fpa : Nat) : Nat := (List.range 45).foldl (fun n k => (n + (fpa / 2 ^ (8 + k)) % 2) % 2) 0

/-- Whether a DPA of an instance lies in an HDM-DB region (R115, R273). -/
def State.hdmDb (s : State) (inst dpa : Nat) : Bool :=
  let n := max (s.g INST_DC_CFG_REGIONS inst) 1
  let size := s.g IW_LIMIT_SIZE_GIB inst * 2 ^ 30 / n
  bit (s.g INST_DC_CFG_REGION_DB inst) (if size = 0 then 0 else dpa / size)

/-- Whether a line lies in no HDM-H region of its instance, so that hosts may hold it (R115). -/
def State.lineDb (s : State) (line : Nat) : Bool :=
  match s.windowAt (line * 64) with
  | some (d, i) => (s.peer d).hdmDb i (line * 64 - (s.peer d).g IW_BASE_FPA_BASE i * 2 ^ 30)
  | none => true

/-- The epoch the decoders tag new requests with (R225), and below the oldest epoch of any request in flight (R158): that epoch
while none is. -/
def State.curEpoch (s : State) : Nat := s.cmt.tagEpoch

/-- The oldest epoch of a request in flight on this device or told by another member, or the current one (R158, Table 8-16; log 110). -/
def State.oldestStack (s : State) : Nat :=
  let own := (s.sw.txns.filter (fun e => e.2.src < 0x90 || e.2.src ≥ 0x800)).map (·.2.epoch)
  let told := (s.stk.oldest.filter (fun e => e.1 != s.dev && bit (s.g STK_STATUS_MEMBERS) e.1)).map (·.2)
  (own ++ told).foldl (fun b e => if epochBefore e b then e else b) s.curEpoch

/-- What other members tell of the oldest epoch of their requests in flight. DESIGN CHOICE (log 110): the spec gives no message for it; the events
that wait for OLDEST_STACK and a member's acknowledgement of a commit bring it. -/
def State.tellOldest (s : State) (peers : List (DevId × Fin 4294967296)) : State :=
  { s with stk := { s.stk with oldest := peers.foldl (fun m e => nset e.1.val e.2.val m) s.stk.oldest } }

/-! ## Slots (R144) -/

/-- The index of a slot in the slot-state map. -/
def State.slotIdx (s : State) (set n : Nat) : Nat := s.g PLC_SET_SLOT_BASE set + n

/-- A write of the device's own into HBM is made, or waits while a stack has no clock (R36). -/
def State.hbmDo (s : State) (j : HbmJob) (f : State → State) : State :=
  if s.hbmUp then f s else { s with plc := { s.plc with waits := s.plc.waits ++ [j] } }

/-- The state that a write which waits gives a slot of the map. -/
def State.slotWait (s : State) (k : Nat) : Option Nat :=
  s.plc.waits.reverse.findSome? (fun j => match j with | .slot i v => if i = k then some v else none | _ => none)

/-- The state of a slot: 0 FREE, 1 USED, 2 ZEROING, 3 TARGET (Table 8-3). -/
def State.slotState (s : State) (set n : Nat) : Nat :=
  let k := s.slotIdx set n
  match s.slotWait k with
  | some v => v
  | none => ((s.rd spHbm (0x20000000 + k / 4) 1).headD 0).toNat / 4 ^ (k % 4) % 4

/-- The state of a slot written in the slot-state map, by its index. -/
def State.slotPut (s : State) (k v : Nat) : State :=
  let b := ((s.rd spHbm (0x20000000 + k / 4) 1).headD 0).toNat
  let old := b / 4 ^ (k % 4) % 4
  s.wr spHbm (0x20000000 + k / 4) [BitVec.ofNat 8 (b - old * 4 ^ (k % 4) + v * 4 ^ (k % 4))]

/-- A slot's state changed. -/
def State.slotSet (s : State) (set n v : Nat) : State := s.hbmDo (.slot (s.slotIdx set n) v) (fun s => s.slotPut (s.slotIdx set n) v)

/-- The slots of a set. -/
def State.slotCount (s : State) (set : Nat) : Nat := s.setBytes set / 2 ^ 21

/-- A set that placement may use: PLACE_EN, and all its slots within the 1 G of the map (R144). -/
def State.placeable (s : State) (set : Nat) : Bool :=
  s.on PLC_SET_PLACE_EN set && s.g PLC_SET_SLOT_BASE set + s.slotCount set ≤ 2 ^ 30

/-- A slot goes to ZEROING: a placement flue fills it before it is FREE, once no request of an epoch before `after` is in flight
(R69, R78, R144). -/
def State.slotZero (s : State) (set n : Nat) (after : Option Nat := none) : State :=
  let s := s.slotSet set n 2
  { s with plc := { s.plc with zeroing := s.plc.zeroing ++ [(set, n, after)] } }

/-! ## Migrations -/

/-- The number of dirty sub-granules. -/
def popcount32 (v : Nat) : Nat := ((List.range 32).filter (fun k => bit v k)).length

/-- A migration slot written, with its register and the counts of PLC_STATUS and IDLE following. -/
def State.migStat (s : State) : State :=
  ((s.p PLC_STATUS_ACTIVE s.plc.migs.length).p PLC_STATUS_SYNCING
    ((s.plc.migs.filter (fun e => e.2.state == 3)).length)).pb PLC_CTRL_IDLE (s.plc.migs.length == 0)

def State.migSet (s : State) (k : Nat) (m : Migration) : State :=
  let s := { s with plc := { s.plc with migs := nset k m s.plc.migs } }
  (((((s.p PLC_MIG_STATE m.state k).p PLC_MIG_PAGE m.page k).p PLC_MIG_DIRTY (popcount32 m.dirty) k).p PLC_MIG_PASS m.pass k).p
    PLC_MIG_SYNCS m.syncs k).migStat

def State.migDel (s : State) (k : Nat) : State :=
  (({ s with plc := { s.plc with migs := nerase k s.plc.migs } }).clrReg .PLC_MIG k).migStat

/-- The migration of a page. -/
def State.migOf (s : State) (page : Nat) : Option (Nat × Migration) := s.plc.migs.find? (fun e => e.2.page == page)

/-- The policy thread (R147). -/
def State.policyThread (s : State) : Nat :=
  128 * s.g PLC_CFG_POLICY_HEARTH + 4 * s.g PLC_CFG_POLICY_ENGINE + s.g PLC_CFG_POLICY_THREAD

/-- A record placed in the move log: written whole, then PROD advances and the policy thread gets its event 2. -/
def State.movePut (s : State) (bs : List Byte) : State :=
  let prod := s.g PLC_LOG_IDX_PROD
  let s := s.wr spHbm (s.g PLC_LOG_CFG_LOG_BASE * 64 + prod % 2 ^ s.g PLC_LOG_CFG_LOG_LOG2 * 64) bs
  (s.p PLC_LOG_IDX_PROD ((prod + 1) % 2 ^ 32)).setEvent s.policyThread 2

/-- A record of the move log (Table 8-11). -/
def State.moveLog (s : State) (page tag status reason : Nat) (src dst : Nat × Nat × Nat) (epoch inst passes syncs hold kib start : Nat) : State :=
  let loc (x : Nat × Nat × Nat) : Nat := x.1 + x.2.1 * 2 ^ 4 + x.2.2 * 2 ^ 16
  let bs := leBytes 8 s.now ++ leBytes 8 (page % 2 ^ 32 + tag * 2 ^ 32 + status * 2 ^ 48 + reason * 2 ^ 56) ++
    leBytes 8 (loc src) ++ leBytes 8 (loc dst) ++
    leBytes 8 (epoch + inst * 2 ^ 32 + passes * 2 ^ 48 + syncs * 2 ^ 52) ++
    leBytes 8 (min hold (2 ^ 32 - 1) + min kib (2 ^ 32 - 1) * 2 ^ 32) ++ leBytes 8 start ++ leBytes 8 (s.plc.logSeq % 2 ^ 32)
  let s := { s with plc := { s.plc with logSeq := s.plc.logSeq + 1 } }
  s.hbmDo (.move bs) (fun s => s.movePut bs)

/-- The log record of a migration's end. -/
def State.migLog (s : State) (m : Migration) (status reason : Nat) : State :=
  s.moveLog m.page m.tag status reason (s.dev, m.srcSet, m.srcSo) (s.dev, m.dstSet, m.dstSo) m.switchEpoch m.inst m.pass m.syncs m.holdNs m.copiedKib
    m.startNs

/-- The requests a migration of a page holds at the home, in order of arrival (R153, R155). -/
def State.heldOf (s : State) (page : Nat) : List (Nat × Txn) :=
  (s.sw.txns.filter (fun e => e.2.heldSync && bits e.2.addr 21 32 == page)).mergeSort (fun a b => a.2.qseq ≤ b.2.qseq)

/-- A request enters its line's list at the home, in order of arrival (R122); LIST_MAX follows. -/
def State.lineEnter (s : State) (id : Nat) (t : Txn) (x : Option Nat) : State :=
  let line := t.addr / 64
  let s := { s with hm := { s.hm with
                            nextOrder := s.hm.nextOrder + 1,
                            reqs := nset id { id := id, line := line, order := s.hm.nextOrder, x := x } s.hm.reqs } }
  let n := (s.hm.reqs.filter (fun e => e.2.line == line)).length - 1
  s.hwm HOME_SLICE_STATUS_LIST_MAX n (t.slice.getD (homeSlice t.addr))

/-- The holder ID of a requester that the home tracks: a hearth, or a HOST port for an HDM-DB line (R115, R116). -/
def State.holderOf (s : State) (t : Txn) : Option Nat :=
  let id := t.dev * 4096 + t.src
  if t.dev ≠ s.dev then (if t.tracked then some id else none)
  else if 0x80 ≤ t.src && t.src < 0x90 then some id
  else if t.src < 0x80 && s.hdmDb (t.inst % 4096) (t.addr - s.g IW_BASE_FPA_BASE (t.inst % 4096) * 2 ^ 30) then some id
  else none

/-- Held writes of a page released in order of arrival: they enter their line lists (R155). -/
def State.releaseHeld (s : State) (page : Nat) : State :=
  (s.heldOf page).foldl (fun s e =>
    let t := { e.2 with heldSync := false }
    let s := s.txnSet e.1 t
    if (nget? e.1 s.hm.reqs).isSome then s else s.lineEnter e.1 t (s.holderOf t)) s

/-- The longest time a write of a page is held now. -/
def State.heldNs (s : State) (page : Nat) : Nat := (s.heldOf page).foldl (fun n e => max n (s.now - e.2.tQueue)) 0

/-- A migration that has not switched is abandoned: its held writes are released, its destination goes to ZEROING, and its record
is written (R152, R155, R159, R160, R164). -/
def State.abandon (s : State) (k : Nat) (status reason : Nat) : State :=
  match nget? k s.plc.migs with
  | none => s
  | some m =>
    if m.state = 4 then s else
    let m := { m with holdNs := max m.holdNs (s.heldNs m.page) }
    let s := s.releaseHeld m.page
    let s := s.slotZero m.dstSet m.dstSo
    (s.migDel k).migLog m status reason

/-- Unswitched migrations whose source or destination lies on a module of a port that goes down (R160). -/
def State.migPortDown (s : State) (c : Nat) : State :=
  s.plc.migs.foldl (fun s e =>
    let on_ (set : Nat) : Bool := (s.setModules set).any (fun m => m / 16 == c)
    if e.2.state = 4 then s
    else if on_ e.2.srcSet then s.abandon e.1 ST_LINK_DOWN 7
    else if on_ e.2.dstSet then s.abandon e.1 ST_LINK_DOWN 8 else s) s

/-- The state of a page of a client's write (R153): whether it is in SYNC, and whether it is in TRAIL. -/
def State.inSync (s : State) (page : Nat) : Bool := match s.migOf page with | some e => e.2.state == 3 | none => false
def State.inTrail (s : State) (page : Nat) : Option Migration :=
  match s.migOf page with | some e => if e.2.state == 4 then some e.2 else none | none => none

/-- Where a page is placed now: at the destination of its migration from the moment its switch is decided (Table 8-9). -/
def State.placed (s : State) (page : Nat) : Option Loc :=
  (s.resolve (page * 2 ^ 21)).map (fun l =>
    match s.inTrail page with
    | some m => if l.set = m.srcSet && l.so / 2 ^ 21 = m.srcSo then ⟨s.dev, m.dstSet, m.dstSo * 2 ^ 21⟩ else l
    | none => l)

/-- A module write to a page sets the dirty bit of its sub-granule, from admission to release (R150). One that wins against a switch that is ready
makes it wait for another final pass (R154). -/
def State.markDirty (s : State) (fpa : Nat) : State :=
  match s.migOf (bits fpa 21 32) with
  | some (k, m) => s.migSet k { m with dirty := m.dirty ||| 2 ^ bits fpa 16 5, drained := m.drained && !m.ready, ready := false }
  | none => s

/-- The module writes of a page that have not completed (R150). -/
def State.outstanding (s : State) (page : Nat) : Nat :=
  s.countTxn (fun t => t.kind == .modWrite && bits t.addr 21 32 == page)

/-- Whether a write to a sub-granule of a pass, issued before the pass, has not completed (R150). -/
def State.passBlocked (s : State) (m : Migration) : Bool :=
  s.sw.txns.any (fun e => e.1 < m.mark && e.2.kind == .modWrite && bits e.2.addr 21 32 == m.page && bit m.taken (bits e.2.addr 16 5))

/-- A set named as the override that equals its segment entry goes, unless it is pinned (R140). -/
def State.pageTidy (s : State) (page : Nat) : State :=
  match nget? page s.plc.pages, nget? (page / 512) s.plc.segs with
  | some o, some e =>
    if !o.pin && !o.unbacked && e.valid && o.set = e.set && o.dev = e.dev && o.so2m = e.soGib * 512 + page % 512
    then { s with plc := { s.plc with pages := nerase page s.plc.pages } } else s
  | _, _ => s

/-- A page's override written at an epoch. -/
def State.pageSet (s : State) (page : Nat) (o : PageEntry) : State :=
  ({ s with plc := { s.plc with pages := nset page o s.plc.pages } }).pageTidy page

/-! ## Submitting a commit (R222) -/

/-- A set that a member submits goes to the stack's master (R222). -/
def State.toMaster (s : State) (c : Commit) : State :=
  if s.g STK_STATUS_STATE = 2 then
    s.send (.commitSubmit (s.g STK_STATUS_MASTER_DEV) c.id c.expect c.control (c.entries.map (fun e => (e.map, e.key, e.val))))
  else s

/-- A commit joins the queue of the stack master, which a member's reaches as a message; its own queue keeps it until it concludes. -/
def State.submit (s : State) (owner : CommitOwner) (es : List Staged) (expect : Option Nat) (control : Bool) : State :=
  let c : Commit := { id := s.cmt.nextId, owner := owner, entries := es, expect := expect, control := control }
  { s with cmt := { s.cmt with queue := s.cmt.queue ++ [c], nextId := s.cmt.nextId + 1 } }.toMaster c

end Sys2Proof.Machine
end

