-- ==== Sys2Proof/Machine/Ports.lean ====
section
/-! DEFINITION. Port controllers: training, roles, quiesce, reset, width and loop (R45 to R63). -/

namespace Sys2Proof.Machine

/-! ## Shared operations of a port -/

/-- A fault of a port under a bit of PC_ERR_STATUS, the bit set (Table 15-1, block 0x03). -/
def State.portFault (s : State) (f : Fld) (c cls : Nat) (causes : List (Nat × Nat)) : State :=
  (s.setF f c).report { source := src 0x03 f.lsb, cls := cls, scope := scope 2 c, causes := s.causesNow causes }

/-- The condition of a port's link lost without a command, and of an island's clock lost. -/
def downCond (c : Nat) : Nat × Nat := (src 0x03 4, scope 2 c)
def clkCond (n : Nat) : Nat × Nat := (src 0x02 4, scope 5 n)

/-- The vPPB bound in passthrough to a module, if there is one (R73). -/
def State.vppbOfMod (s : State) (m : Nat) : Option (Nat × Nat) :=
  ((List.range 8192).find? (fun k => s.g VPPB_ENTRY_KIND (k / 64) (k % 64) == 2 && s.g VPPB_ENTRY_MOD (k / 64) (k % 64) == m)).map
    (fun k => (k / 64, k % 64))

/-- The vPPB of an instance's composed logical device, if it is attached (R67). -/
def State.vppbOfInst (s : State) (i : Nat) : Option (Nat × Nat) :=
  ((List.range 8192).find? (fun k => s.g VPPB_ENTRY_KIND (k / 64) (k % 64) == 1 && s.g VPPB_ENTRY_INST (k / 64) (k % 64) == i)).map
    (fun k => (k / 64, k % 64))

/-- A vPPB's slot shows presence or absence to its host (R73, R75). -/
def State.slotShow (s : State) (p v : Nat) (b : Bool) : State :=
  (s.pb VPPB_ENTRY_HOST_PRESENT b p v).send (.slotChange p v b)

/-- A host's unanswered requests to a module bound in passthrough: CXL.mem, CXL.cache and CXL.io (R74). -/
def State.ptOwed (s : State) (p m : Nat) : List (Nat × Txn) :=
  s.sw.txns.filter (fun e => e.2.src == p && e.2.dev == s.dev && [ReqKind.ptRead, .ptWrite, .ioRead, .ioNp].contains e.2.kind && e.2.mod == m)

/-- A passthrough binding removed: the host's unanswered requests to the module conclude with LINK_DOWN, and the module's answers to those it was
sent will be discarded and counted (R74). -/
def State.unbindPt (s : State) (p v : Nat) : State :=
  let m := s.g VPPB_ENTRY_MOD p v
  let owed := s.ptOwed p m
  let sent := (owed.filter (fun e => e.2.place == .sent (m / 16))).map (·.1)
  let s := s.concludeAll (owed.map (·.1)) ST_LINK_DOWN
  let s := s.portMod (m / 16) (fun x => { x with gone := x.gone ++ sent })
  let s := (s.p MOD_ENTRY_PT_BOUND 0 m).clrReg .VPPB_ENTRY p v
  s.send (.slotChange p v false)

/-- Whether a vPPB's binding is to be removed by a commit that has not been applied: its module came back with another identity (R75, R78). -/
def State.leaving (s : State) (p v : Nat) : Bool := (s.cmt.cur.toList ++ s.cmt.queue).any (fun c => c.owner == .identity p v)

/-- The modules of a MODULE port leave: PRESENT reads 0, and a bound one shows surprise removal (R71, R75). -/
def State.modulesGone (s : State) (c : Nat) : State :=
  (List.range 16).foldl (fun s l =>
    let m := 16 * c + l
    if s.on MOD_ENTRY_PRESENT m then
      let s := s.p MOD_ENTRY_PRESENT 0 m
      if s.on MOD_ENTRY_PT_BOUND m then
        match s.vppbOfMod m with
        | some (p, v) => s.slotShow p v false
        | none => s
      else s
    else s) s

/-- Answers owed to the partner of a port that goes down will be discarded and counted (R61, R84); flits on an internal link of the port are lost. -/
def State.dropOwed (s : State) (c : Nat) : State :=
  { s with sw := { s.sw with
      txns := s.sw.txns.map (fun (e : Nat × Txn) => if e.2.src == c && e.2.dev == s.dev && e.2.kind != .ioCpl then (e.1, { e.2 with dropped := true }) else e),
      loop := s.sw.loop.filter (fun m => m.port != some c) } }

/-- A port goes down: no role, no link, STATE DOWN; unswitched migrations from or to its modules are abandoned (R50, R61, R160). DESIGN CHOICE (log 100):
the HDM decoders a host programmed are withdrawn. -/
def State.linkDown (s : State) (c : Nat) : State :=
  let s := (s.migPortDown c).modulesGone c
  let s := ((s.p PC_LINK_STATUS_LINK_STATE 0 c).p PC_LINK_STATUS_ROLE_BOUND 0 c).p PC_QUIESCE_STATUS_STATE 3 c
  let s := s.portMod c (fun x => { x with training := false, recovering := false, authPending := false, authDone := false, authLate := false, conflict := false,
                                          session := false, streams := [], keys := [], linkStream := none, l0p := false, late := [], latePbr := [], gone := [],
                                          decs := [] })
  (s.dropOwed c).cplGo c

/-- A port reset begins: the link goes down, answers owed to the partner will be discarded and counted, and the rest follows within 10 µs (R61,
PORT_RESET_COMPLETE). -/
def State.portReset (s : State) (c : Nat) : State := (s.linkDown c).portMod c (fun x => { x with resetting := true })

/-- The record of an access to a module whose port is down (R72). -/
def State.deadRecord (s : State) (fpa inst core c : Nat) (write : Bool) : State :=
  s.report { source := src 0x05 3, cls := NC, scope := scope 1 (inst % 4096), status := ST_LINK_DOWN, addr := some (0, fpa),
             access := if write then 2 else 1, inst := some inst, core := core, dev := s.dev, causes := s.causesNow [downCond c, clkCond (c / 4)] }

/-- A unit that a port reset concludes with LINK_DOWN; an access to a pooled module is recorded (R61, R72). -/
def State.resetUnit (s : State) (c id : Nat) : State :=
  match s.txn id with
  | some t =>
    if t.kind == ReqKind.modRead || t.kind == ReqKind.modWrite then
      (s.deadRecord t.addr t.inst t.src c (t.kind == ReqKind.modWrite)).conclude id ST_LINK_DOWN []
    else s.conclude id ST_LINK_DOWN []
  | none => s

/-- A port reset completes: each request sent and not answered concludes with LINK_DOWN, the accesses to a pooled module with their records (R72), and
link state and trackers are reinitialised (R61). DESIGN CHOICE (log 124): PC_QUIESCE_CTRL.QUIESCE_TMO_US, which R61 does not name, is kept. -/
def State.portResetDone (s : State) (c : Nat) : State :=
  let s := (s.sentTo c).foldl (fun s id => s.resetUnit c id) s
  let s := (s.clrReg .PC_LINK_STATUS c).clrReg .PC_TAG_STATUS c
  s.portMod c (fun x => { x with resetting := false })

/-- Training from Detect starts when a partner is there, the island has its clock, and nothing holds the port (R52, R59, R62): with no role bound
(R50), at once, so that a port reset still under way completes first. DESIGN CHOICE (log 100): without a partner the port stays in DOWN. -/
def State.trainFromDetect (s : State) (c : Nat) : State :=
  let x := s.port c
  if s.isFollower c || !x.partner || s.on HJ_GATE_CLK_GATED (c / 4) || s.on HJ_GATE_PWR_GATED (c / 4) || s.on PC_QUIESCE_STATUS_ISOLATED c ||
     !(s.on ISL_STATUS_CLK_PRESENT (c / 4)) || s.g PC_QUIESCE_STATUS_STATE c == 4 || x.contained then s
  else
    let s := if x.resetting then s.portResetDone c else s
    ((((s.p PC_LINK_STATUS_LINK_STATE 1 c).p PC_LINK_STATUS_RATE 0 c).p PC_LINK_STATUS_ROLE_BOUND 0 c).p PC_QUIESCE_STATUS_STATE 3 c).portMod c
      (fun x => { x with training := true, recovering := false, conflict := false, target := s.g PC_LINK_CFG_RATE_MAX c, roleSel := s.g PC_ROLE_CFG_ROLE_SEL c })

/-- Training failed for a role conflict: it is recorded and retried every 100 ms (R49). -/
def State.roleConflict (s : State) (c : Nat) : State :=
  let s := s.portFault PC_ERR_STATUS_ROLE_CONFLICT c CE []
  ((s.p PC_LINK_STATUS_LINK_STATE 0 c).p PC_LINK_STATUS_ROLE_BOUND 0 c).portMod c (fun x => { x with training := false, conflict := true })

/-- The status of a port command, returned and held in LAST_STATUS (R59). -/
def State.portStatus (s : State) (m : Master) (c st : Nat) : State := (s.p PC_QUIESCE_STATUS_LAST_STATUS st c).reply m st

/-! ## The port commands (R59) -/

/-- QUIESCE: its effect and its status. -/
def quiesceOp (c : Nat) (s : State) : State × Nat :=
  if s.isFollower c then (s, ST_ACCESS_DENIED) else
  match s.g PC_QUIESCE_STATUS_STATE c with
  | 0 => (((s.p PC_QUIESCE_STATUS_STATE 1 c).portMod c (fun x => { x with drainStart := s.now })).cplGo c, ST_OK)
  | 1 | 2 => (s, ST_LATE)
  | 3 => (s, ST_LINK_DOWN)
  | _ => (s, ST_ACCESS_DENIED)

/-- RELEASE: its effect and its status. -/
def releaseOp (c : Nat) (s : State) : State × Nat :=
  if s.isFollower c then (s, ST_ACCESS_DENIED) else
  match s.g PC_QUIESCE_STATUS_STATE c with
  | 1 | 2 => (s.p PC_QUIESCE_STATUS_STATE 0 c, ST_OK)
  | 0 => (s, ST_LATE)
  | 3 => (s, ST_LINK_DOWN)
  | _ => (s, ST_ACCESS_DENIED)

/-- RETRAIN: Recovery to RATE_MAX, or to the highest rate of the partner where that is lower (R52), in ACTIVE; training from Detect in QUIESCED and
DOWN (R53, R59). -/
def retrainOp (c : Nat) (s : State) : State × Nat :=
  if s.isFollower c || s.on PC_QUIESCE_STATUS_ISOLATED c then (s, ST_ACCESS_DENIED) else
  match s.g PC_QUIESCE_STATUS_STATE c with
  | 0 => (s.portMod c (fun x => { x with recovering := true, target := min x.best (s.g PC_LINK_CFG_RATE_MAX c) }), ST_OK)
  | 2 => ((s.linkDown c).trainFromDetect c, ST_OK)
  | 3 => (s.trainFromDetect c, ST_OK)
  | _ => (s, ST_ACCESS_DENIED)

/-- PORT_RESET: OK in every state of a lead. DESIGN CHOICE (log 100): a reset of one end of a loop leaves the other end in LOOP, and LOOP_EN at 1. -/
def portResetOp (c : Nat) (s : State) : State × Nat :=
  if s.isFollower c then (s, ST_ACCESS_DENIED) else (s.portReset c, ST_OK)

/-- A port command with its status. LAST_STATUS holds the status of the port's own command; a follower acts on no port (R46). -/
def portCommand (reg : RegName) (op : Nat → State → State × Nat) (m : Master) (c : Nat) (s : State) : State :=
  s.cmdBy m reg c (fun s =>
    let r := op c s
    if s.isFollower c then r.1.reply m r.2 else r.1.portStatus m c r.2)

/-! ## Width (R45, R46, R57) -/

/-- The first controllers after a lead of width code `w`, in the lead's port. -/
def spanOf (c w : Nat) : List Nat := (List.range (2 ^ w)).map (c + ·)

/-- Whether a width at a controller is a pattern of Table 3-1. -/
def widthAllowed (c w : Nat) : Bool := w == 0 || (w == 1 && c % 2 == 0) || (w == 2 && c % 4 == 0)

/-- The controllers a width change touches: the old and the new span, and the spans of leads it takes in. -/
def State.widthTouched (s : State) (c w : Nat) : List Nat :=
  let own := spanOf c (s.g PC_WIDTH_CFG_WIDTH c) ++ spanOf c w
  let more := (spanOf c w).flatMap (fun d => if s.isFollower d then [] else spanOf d (s.g PC_WIDTH_CFG_WIDTH d))
  (List.range 128).filter (fun d => own.contains d || more.contains d)

/-- A controller that leads a port of width `w`. -/
def State.makeLead (s : State) (c w : Nat) : State :=
  ((s.p PC_WIDTH_CFG_WIDTH w c).p PC_WIDTH_CFG_LEAD c c).p PC_WIDTH_CFG_FOLLOWER 0 c

/-- A controller that follows a lead of width `w`. -/
def State.makeFollower (s : State) (d c w : Nat) : State :=
  ((s.p PC_WIDTH_CFG_WIDTH w d).p PC_WIDTH_CFG_LEAD c d).p PC_WIDTH_CFG_FOLLOWER 1 d

/-- A write of WIDTH: refused or accepted, and the port re-formed with every touched link taken down. DESIGN CHOICE (log 100): R45 refuses any WIDTH
write to a follower, one that leaves WIDTH at its present value too, which R57 would accept elsewhere. -/
def widthOp (c w : Nat) (s : State) : State × Nat :=
  if w = 3 || s.isFollower c then (s, ST_ACCESS_DENIED)
  else if w = s.g PC_WIDTH_CFG_WIDTH c then (s, ST_OK)
  else if !(widthAllowed c w) then (s, ST_ACCESS_DENIED)
  else
    let touched := s.widthTouched c w
    if !(touched.all (fun d => s.portState d == 2 || s.portState d == 3)) then (s, ST_ACCESS_DENIED)
    else
      let ups := touched.filter (fun d => !(s.isFollower d) && s.g PC_LINK_STATUS_LINK_STATE d != 0)
      let s := ups.foldl (fun s d => s.portReset d) s
      let s := touched.foldl (fun s d => (s.p PC_QUIESCE_STATUS_STATE 3 d).makeLead d 0) s
      let s := s.makeLead c w
      ((spanOf c w).foldl (fun s d => if d = c then s else s.makeFollower d c w) s, ST_OK)

/-! ## Loop-through (R63) -/

/-- LOOP_EN written 1: both ends are bound and train at RATE_MAX, each as on a wire (R63). -/
def loopOnOp (c p : Nat) (s : State) : State × Nat :=
  let free (d : Nat) : Bool := s.g PC_QUIESCE_STATUS_STATE d == 2 || s.g PC_QUIESCE_STATUS_STATE d == 3
  if s.isFollower c || s.isFollower p || c == p || c / 16 != p / 16 ||
     s.g PC_WIDTH_CFG_WIDTH c != s.g PC_WIDTH_CFG_WIDTH p || !(free c) || !(free p) then (s, ST_ACCESS_DENIED)
  else
    let half (s : State) (d role : Nat) : State :=
      let s := if (s.port d).resetting then s.portResetDone d else s
      let s := if s.g PC_LINK_STATUS_LINK_STATE d == 0 then s else s.linkDown d
      let s := s.portMod d (fun x => { x with training := true, recovering := false, conflict := false, best := 6, target := s.g PC_LINK_CFG_RATE_MAX c })
      ((s.p PC_QUIESCE_STATUS_STATE 4 d).p PC_LINK_STATUS_LINK_STATE 5 d).p PC_LINK_STATUS_ROLE_BOUND role d
    let s := half (half s c 1) p 2
    ((s.p PC_LOOP_CFG_LOOP_EN 1 c).p PC_LOOP_CFG_PARTNER p c, ST_OK)

/-- LOOP_EN written 0: the loop ends with a port reset of both controllers. -/
def loopOffOp (c : Nat) (s : State) : State × Nat :=
  if s.isFollower c then (s, ST_ACCESS_DENIED)
  else if !(s.on PC_LOOP_CFG_LOOP_EN c) then (s, ST_OK)
  else
    let p := s.g PC_LOOP_CFG_PARTNER c
    (((s.portReset c).portReset p).p PC_LOOP_CFG_LOOP_EN 0 c, ST_OK)

/-! ## The commands -/

/-- PARTNER_PRESENCE (R52): a partner appears and training starts from Detect, or it goes away. -/
def execPartnerPresence (c : PortId) (present : Bool) (s : State) : Out :=
  whenUp s fun s =>
    let s := s.portMod c (fun x => { x with partner := present, conflict := x.conflict && present })
    if present then (if s.g PC_QUIESCE_STATUS_STATE c == 3 then s.trainFromDetect c else s)
    else if (s.port c).training && s.g PC_QUIESCE_STATUS_STATE c != 4 then
      ((s.p PC_LINK_STATUS_LINK_STATE 0 c).p PC_LINK_STATUS_ROLE_BOUND 0 c).portMod c (fun x => { x with training := false })
    else s

/-- TRAINING_SETS_RECEIVED (R48, R49, R54): the role is bound, by the ROLE_SEL that held when training left Detect (R57), or training fails for its role or
for the flit format. -/
def execTrainingSetsReceived (c : PortId) (sets : PartnerSets) (flit256 : Bool) (rate : Fin 7) (s : State) : Out :=
  whenUp s fun s =>
    if !(s.port c).training || s.g PC_QUIESCE_STATUS_STATE c == 4 then s
    else if !flit256 then
      let s := s.portFault PC_ERR_STATUS_NO_FLIT256 c CE []
      ((s.p PC_LINK_STATUS_LINK_STATE 4 c).p PC_LINK_STATUS_ROLE_BOUND 0 c).portMod c (fun x => { x with training := false })
    else
      let bind (s : State) (r : Nat) : State :=
        (s.p PC_LINK_STATUS_ROLE_BOUND r c).portMod c (fun x => { x with target := min rate.val (s.g PC_LINK_CFG_RATE_MAX c), best := rate })
      match (s.port c).roleSel, sets with
      | 0, .linkNumbers => bind s 1
      | 0, .pad => bind s 2
      | 0, .padModule => s.roleConflict c
      | 1, .linkNumbers => bind s 1
      | 1, _ => s.roleConflict c
      | 2, .linkNumbers => s.roleConflict c
      | 2, .pad => bind s 2
      | 2, .padModule => s.roleConflict c
      | _, _ => bind s 3

/-- EQUALISATION_FAIL (R52): EQ_FAIL, and the next lower rate of Table 3-3, in a training from Detect or a Recovery. DESIGN CHOICE (log 100): at
2.5 GT/s, which has no lower rate, the port goes on at that rate. -/
def execEqualisationFail (c : PortId) (s : State) : Out :=
  whenUp s fun s =>
    if !((s.port c).training || (s.port c).recovering) then s
    else (s.portFault PC_ERR_STATUS_EQ_FAIL c CE []).portMod c (fun x => { x with target := x.target - 1 })

/-- The modules of a MODULE port appear (R71, R75): a bound module that comes back with its identity shows presence again; with
another identity its binding is removed, by an epoch commit as every change of bindings (R78), and ID_CHANGED set. -/
def State.modulesHere (s : State) (c identity : Nat) (caps : List Nat) : State :=
  let same := (s.port c).identity == some identity
  let s := (List.range 16).foldl (fun s l =>
    let m := 16 * c + l
    let here := l < caps.length
    let s := if here then (s.p MOD_ENTRY_PRESENT 1 m).p MOD_ENTRY_CAP (caps.getD l 0) m else s
    if s.on MOD_ENTRY_PT_BOUND m then
      match s.vppbOfMod m with
      | some (p, v) =>
        if s.leaving p v then s
        else if !same then ((s.submit (.identity p v) [] none true).setF BIND_STATUS_ID_CHANGED).fault (src 0x05 1) CE (scope 2 c)
        else if here then s.slotShow p v true
        else s
      | none => s
    else s) s
  s.portMod c (fun x => { x with identity := some identity })

/-- Whether a vPPB of a HOST port shows its device present: a composed one, or a passthrough module whose own link is up (R75). -/
def State.vppbHere (s : State) (p v : Nat) : Bool :=
  s.g VPPB_ENTRY_KIND p v == 1 || (s.g VPPB_ENTRY_KIND p v == 2 && s.on MOD_ENTRY_PRESENT (s.g VPPB_ENTRY_MOD p v) && !(s.leaving p v))

/-- LINK_UP (R47, R51, R52): the link reaches UP or UP_IO and the port becomes ACTIVE. A MODULE port with AUTH_REQ carries CXL.io alone
until its module is authenticated. Unordered I/O that the partner asks for is declined (Table 3-4). The end of a loop stays in LOOP (R63). -/
def execLinkUp (c : PortId) (lanes : Fin 17) (uses : LinkUses) (identity : Nat) (caps : List Nat) (s : State) : Out :=
  whenUp s fun s =>
    let x := s.port c
    let role := s.g PC_LINK_STATUS_ROLE_BOUND c
    if !x.training || role = 0 || lanes.val = 0 then s
    else
      let auth := role = 2 && s.on PC_ROLE_CFG_AUTH_REQ c
      let loop := s.portState c == 4
      let st := if loop then 5 else if x.target < 2 || auth then 2 else 3
      let s := ((s.p PC_LINK_STATUS_LINK_STATE st c).p PC_LINK_STATUS_RATE x.target c).p PC_LINK_STATUS_WIDTH_TRAINED
        (min lanes.val (4 * s.widthCtl c)) c
      let s := s.pb PC_LINK_STATUS_LOPT_ACTIVE (uses.lopt && s.on PC_LINK_CFG_LOPT_EN c) c
      let s := if loop then s else s.p PC_QUIESCE_STATUS_STATE 0 c
      let s := s.condEnd (downCond c).1 (downCond c).2
      let s := s.portMod c (fun x => { x with training := false, conflict := false, authPending := auth, authDone := !auth, l0p := (uses.l0p && s.on PC_LINK_CFG_L0P_EN c) })
      let s := if role = 2 then s.modulesHere c identity caps else s
      if role = 1 then
        (List.range 64).foldl (fun s v => if s.vppbHere c v then s.slotShow c v true else s) s
      else s

/-- TRAIN_TIMEOUT (R52): 120 ms of presence without UP; TRAIN_FAIL unless another bit names the cause. -/
def execTrainTimeout (c : PortId) (s : State) : Out :=
  whenUp s fun s =>
    let x := s.port c
    if !x.training || !x.partner || s.g PC_QUIESCE_STATUS_STATE c == 4 then s
    else
      let s := s.portFault PC_ERR_STATUS_TRAIN_FAIL c CE []
      ((s.p PC_LINK_STATUS_LINK_STATE 0 c).p PC_LINK_STATUS_ROLE_BOUND 0 c).portMod c (fun x => { x with training := false })

/-- ROLE_CONFLICT_RETRY (R49): training again 100 ms after a role conflict, while the partner is there. -/
def execRoleConflictRetry (c : PortId) (s : State) : Out :=
  whenUp s fun s => if (s.port c).conflict then s.trainFromDetect c else s

/-- Whether a certificate chain leads to one of the trust anchors Hjelvon holds (R51, R366). -/
def State.trustsChain (s : State) (chain : List Byte) : Bool := s.hj.anchors.any (fun a => Config.chainTrusted a.2 chain)

/-- A reply that comes after its timeout has won is discarded, counted at its port, and recorded as a consequence of the timeout (Table 2-2, R44). -/
def State.portLate (s : State) (c cause : Nat) : State :=
  (s.portMod c (fun x => { x with discarded := x.discarded + 1 })).report
    { source := src 0x03 63, cls := CE, scope := scope 2 c, causes := [(src 0x03 cause, scope 2 c)] }

/-- Authentication of a module failed or timed out: the link stays UP_IO (R51). -/
def State.authFail (s : State) (c : Nat) : State :=
  (s.portFault PC_ERR_STATUS_AUTH_FAIL c PF []).portMod c (fun x => { x with authPending := false })

/-- Whether a link is up, at any rate or in a loop that has trained. -/
def State.linkUp (s : State) (c : Nat) : Bool :=
  let st := s.g PC_LINK_STATUS_LINK_STATE c
  st == 2 || st == 3 || (st == 5 && !(s.port c).training)

/-- MODULE_AUTHENTICATION (R51): the module's chain leads to a trust anchor and its proof of the key holds, and the link carries CXL.mem; or it stays
UP_IO with AUTH_FAIL. One after the 50 ms is late (R44). The SPDM session stays for IDE_KM (R55); where AUTH_REQ is 0 it is only that. -/
def execModuleAuthentication (c : PortId) (shown : ModuleProof) (s : State) : Out :=
  whenUp s fun s =>
    let x := s.port c
    let good := shown.proof && s.trustsChain shown.chain
    if x.authLate && !x.authPending then (s.portMod c (fun x => { x with authLate := false })).portLate c 6
    else if x.authPending then
      if good then
        let s := if s.g PC_LINK_STATUS_RATE c ≥ 2 && s.g PC_LINK_STATUS_LINK_STATE c == 2 then s.p PC_LINK_STATUS_LINK_STATE 3 c else s
        s.portMod c (fun x => { x with authPending := false, authDone := true, session := true })
      else s.authFail c
    else if good && s.linkUp c && s.g PC_LINK_STATUS_ROLE_BOUND c == 2 && x.authDone then s.portMod c (fun x => { x with session := true })
    else s

/-- AUTH_TIMEOUT (R51): authentication longer than 50 ms. -/
def execAuthTimeout (c : PortId) (s : State) : Out :=
  whenUp s fun s => if (s.port c).authPending then (s.authFail c).portMod c (fun x => { x with authLate := true }) else s

/-- REPLAY_WINDOW_END (R53): replays above REPLAY_THR retrain at the next lower rate, in a loop as on a wire (R63). DESIGN CHOICE (log 100): at
2.5 GT/s, which has no lower rate, REPLAY_THR_HIT is set, no Recovery starts and DOWNSHIFTS does not count. -/
def execReplayWindowEnd (c : PortId) (replays : Nat) (s : State) : Out :=
  whenUp s fun s =>
    let st := s.g PC_LINK_STATUS_LINK_STATE c
    if (st == 2 || st == 3 || st == 5) && s.on PC_LINK_CFG_DOWNSHIFT_EN c && replays > s.g PC_LINK_CFG_REPLAY_THR c then
      let s := s.portFault PC_ERR_STATUS_REPLAY_THR_HIT c CE []
      let r := s.g PC_LINK_STATUS_RATE c
      if r = 0 then s
      else (s.inc PC_LINK_STATUS_DOWNSHIFTS c).portMod c (fun x => { x with recovering := true, target := r - 1 })
    else s

/-- RECOVERY_COMPLETE (R53): the new rate holds; width, role and every request are kept. -/
def execRecoveryComplete (c : PortId) (s : State) : Out :=
  whenUp s fun s =>
    let x := s.port c
    if !x.recovering then s
    else
      let s := s.p PC_LINK_STATUS_RATE x.target c
      let s := if s.g PC_LINK_STATUS_LINK_STATE c == 3 && x.target < 2 then s.p PC_LINK_STATUS_LINK_STATE 2 c
        else if s.g PC_LINK_STATUS_LINK_STATE c == 2 && x.target ≥ 2 && x.authDone then s.p PC_LINK_STATUS_LINK_STATE 3 c else s
      s.portMod c (fun x => { x with recovering := false })

/-- PORT_RETRAIN (R59). -/
def execPortRetrain (m : Master) (c : PortId) (s : State) : Out := whenUp s (portCommand .PC_LINK_CFG retrainOp m c)

/-- QUIESCE (R59, Table 3-6). -/
def execQuiesce (m : Master) (c : PortId) (s : State) : Out := whenUp s (portCommand .PC_QUIESCE_CTRL quiesceOp m c)

/-- PORT_RELEASE (R59, R60). -/
def execPortRelease (m : Master) (c : PortId) (s : State) : Out := whenUp s (portCommand .PC_QUIESCE_CTRL releaseOp m c)

/-- PORT_RESET (R59, R61). -/
def execPortReset (m : Master) (c : PortId) (s : State) : Out := whenUp s (portCommand .PC_QUIESCE_CTRL portResetOp m c)

/-- PORT_RESET_COMPLETE (R61). -/
def execPortResetComplete (c : PortId) (s : State) : Out :=
  whenUp s fun s => if (s.port c).resetting then s.portResetDone c else s

/-- DRAIN_DONE (R60, Table 3-6): the answers owed to the partner are sent and nothing sent to it is unanswered; QUIESCED with the drain's duration. -/
def execDrainDone (c : PortId) (s : State) : Out :=
  whenUp s fun s =>
    if s.g PC_QUIESCE_STATUS_STATE c == 1 && s.outOut c == 0 && s.inOut c == 0 then
      ((s.p PC_QUIESCE_STATUS_STATE 2 c).p PC_QUIESCE_STATUS_LAST_DRAIN_NS (min (s.now - (s.port c).drainStart) (2 ^ 32 - 1)) c).p
        PC_QUIESCE_STATUS_DRAIN_TIMEOUTS 0 c
    else s

/-- DRAIN_TIMEOUT (R60, Table 3-6 step 5): each unanswered request concludes with TIMEOUT and is counted. -/
def execDrainTimeout (c : PortId) (s : State) : Out :=
  whenUp s fun s =>
    if s.g PC_QUIESCE_STATUS_STATE c == 1 then
      let ids := s.sentTo c
      let tags := ids.filterMap (fun id => (s.txn id).bind (fun t => if t.kind = .pbr then some t.tag else none))
      let s := s.concludeAll ids ST_TIMEOUT
      let s := s.portMod c (fun x => { x with late := x.late ++ ids, latePbr := x.latePbr ++ tags })
      let s := (s.p PC_QUIESCE_STATUS_DRAIN_TIMEOUTS (min ids.length (2 ^ 15 - 1)) c).portFault PC_ERR_STATUS_DRAIN_TIMEOUT c PF []
      (s.p PC_QUIESCE_STATUS_STATE 2 c).p PC_QUIESCE_STATUS_LAST_DRAIN_NS (min (s.now - (s.port c).drainStart) (2 ^ 32 - 1)) c
    else s

/-- The trip conditions of the Damper channels whose slot a port serves (R348). -/
def State.slotTrips (s : State) (c : Nat) : List (Nat × Nat) :=
  ((List.range 32).filter (fun d => s.on DMP_CFG_PORT_VALID d && s.g DMP_CFG_PORT d == c)).flatMap
    (fun d => [(src 0x0F 0, scope 8 d), (src 0x0F 1, scope 8 d)])

/-- LINK_LOSS (R61, R75): a port reset, SURPRISE_DOWN and a PF fault; the link stays the cause of what follows. -/
def execLinkLoss (c : PortId) (s : State) : Out :=
  whenUp s fun s =>
    let st := s.g PC_LINK_STATUS_LINK_STATE c
    if st == 2 || st == 3 then
      let s := s.portFault PC_ERR_STATUS_SURPRISE_DOWN c PF (s.slotTrips c)
      (s.condBegin (downCond c).1 (downCond c).2).portReset c
    else s

/-- WIDTH_CHANGE (R45, R46, R57). -/
def execWidthChange (m : Master) (c : PortId) (w : Fin 4) (s : State) : Out :=
  command m .PC_WIDTH_CFG c (widthOp c w) s

/-- A write of PC_LOOP_CFG that gives LOOP_EN and PARTNER (R57, R63): one that leaves both as they are is accepted in any state of a lead. -/
def loopWriteOp (c en p : Nat) (s : State) : State × Nat :=
  let was := s.g PC_LOOP_CFG_LOOP_EN c
  if s.isFollower c then (s, ST_ACCESS_DENIED)
  else if en = was && p = s.g PC_LOOP_CFG_PARTNER c then (s, ST_OK)
  else if was != 0 then
    (if en = 0 then (let q := loopOffOp c s; (q.1.p PC_LOOP_CFG_PARTNER p c, q.2)) else (s, ST_ACCESS_DENIED))
  else if en = 1 then loopOnOp c p s
  else if s.portState c == 2 || s.portState c == 3 then (s.p PC_LOOP_CFG_PARTNER p c, ST_OK)
  else (s, ST_ACCESS_DENIED)

/-- LOOP_ENABLE (R57, R63). -/
def execLoopEnable (m : Master) (c : PortId) (partner : PortId) (s : State) : Out :=
  command m .PC_LOOP_CFG c (loopWriteOp c 1 partner) s

/-- LOOP_DISABLE (R63). -/
def execLoopDisable (m : Master) (c : PortId) (s : State) : Out :=
  command m .PC_LOOP_CFG c (loopOffOp c) s

/-- The secure streams of a port (Table 3-11). -/
def activeStreams (x : PortX) : Nat := (x.streams.filter (fun e => e.2 == 1)).length

/-- A stream becomes Insecure: its outstanding requests conclude with ACCESS_DENIED (R55). -/
def State.insecure (s : State) (c k : Nat) : State :=
  let ids := (s.sw.txns.filter (fun e => (e.2.place == .sent c && e.2.outStream == some k) || (e.2.src == c && e.2.dev == s.dev && e.2.stream == some k))).map (·.1)
  let s := s.concludeAll ids ST_ACCESS_DENIED
  let s := s.portMod c (fun x => { x with streams := (k, 2) :: x.streams.filter (fun e => e.1 != k) })
  s.p PC_LINK_STATUS_IDE_STREAMS (activeStreams (s.port c)) c

/-- A module's error message at a port whose downstream port containment is on: a fatal one takes the link down without a surprise, and it trains again
once the host releases it (Table 3-4). PRESUMED (log 120): what the PCIe standard has containment do. -/
def State.moduleError (s : State) (c : Nat) (fatal : Bool) : State :=
  if s.g PC_LINK_STATUS_ROLE_BOUND c == 2 && (s.port c).dpc && fatal then (s.portReset c).portMod c (fun x => { x with contained := true }) else s

/-- The host of a passthrough binding switches containment on or off, or releases a contained port. -/
def State.containSet (s : State) (c : Nat) (enable release : Bool) : State :=
  let was := (s.port c).contained
  let s := s.portMod c (fun x => { x with dpc := enable, contained := x.contained && !release })
  if was && release then s.trainFromDetect c else s

/-- IDE_CHECK_FAIL (R55). -/
def execIdeCheckFail (c : PortId) (stream : Fin 4) (s : State) : Out :=
  whenUp s fun s =>
    if (s.port c).streams.contains (stream.val, 1) then (s.portFault PC_ERR_STATUS_IDE_CHECK_FAIL c PF []).insecure c stream else s

/-- IDE_KEY_INSTALL (R55, R368): a stream is keyed, or keyed again, inside an SPDM session of the port; at most four streams, one of them a link stream in containment or skid mode
(Table 3-4). The key, which no master can read, is drawn from the DRBG into the port's key store, and without it the stream keeps what it has (R367). -/
def execIdeKeyInstall (c : PortId) (stream : IdeStream) (s : State) : Out :=
  whenUp s fun s =>
    let k := stream.number.val
    let other := (s.port c).linkStream.any (fun l => l.1 != k)
    if s.linkUp c && (s.port c).session && s.on HJ_DRBG_STATUS_INSTANTIATED && !(s.on HJ_STATUS_ERROR_STATE) && !(stream.link.isSome && other) then
      let key := Config.random s.hj.draws
      let s := { s with hj := { s.hj with draws := s.hj.draws + 1 } }
      let s := s.portMod c (fun x => { x with
        streams := (k, 1) :: x.streams.filter (fun e => e.1 != k),
        keys := nset k key x.keys,
        linkStream := match stream.link with
          | some skid => some (k, skid)
          | none => if other then x.linkStream else none })
      s.p PC_LINK_STATUS_IDE_STREAMS (activeStreams (s.port c)) c
    else s

end Sys2Proof.Machine
end

