-- ==== Sys2Proof/Machine/Home.lean ====
section
/-! DEFINITION. The home agent: line order, snoop filter, snoops, memory-side cache, module accesses, timeouts and errors
(R113 to R138). A request advances from one phase to the next as snoop answers and module accesses arrive. -/

namespace Sys2Proof.Machine

/-! ## Snoop filter (R116 to R120) -/

/-- The filter set of a line, with its slice (R118). -/
def sfKey (line : Nat) : Nat :=
  let fpa := line * 64
  homeSlice fpa * 2 ^ 25 + ((bits fpa 6 25) ^^^ (bits fpa 31 22))

/-- Whether a line's set is degraded (R137). -/
def State.isDegraded (s : State) (line : Nat) : Bool :=
  s.on HOME_SLICE_STATUS_DEGRADED_ALL (homeSlice (line * 64)) || s.hm.degraded.contains (sfKey line)

/-- The entry of a line; the home uses no entry of a degraded set (R137). -/
def State.sfFind (s : State) (line : Nat) : Option SfEntry :=
  if s.isDegraded line then none else (ngetD s.hm.sf (sfKey line) []).find? (fun e => e.line == line)

/-- The on-die filter cache's set of a line, with its slice (R118). -/
def odcKey (line : Nat) : Nat := sfKey line / 2 ^ 25 * 2 ^ 18 + sfKey line % 2 ^ 18

/-- The on-die filter cache after a lookup or a write of a line's entry: it holds a copy of the entry while there is one, the most recent of its set
of 16 first (R118, write-through; log 103). -/
def State.odcTouch (s : State) (line : Nat) (there : Bool) : State :=
  let rest := (ngetD s.hm.odc (odcKey line) []).filter (· != line)
  { s with hm := { s.hm with odc := nput [] (odcKey line) (if there then (line :: rest).take 16 else rest) s.hm.odc } }

/-- The entries of a set written; SF_VALID follows (Table 7-12). -/
def State.sfPut (s : State) (key : Nat) (es : List SfEntry) : State :=
  let old := (ngetD s.hm.sf key []).length
  let s := { s with hm := { s.hm with sf := nput [] key es s.hm.sf } }
  s.p SF_STATUS_SF_VALID (s.g SF_STATUS_SF_VALID (key / 2 ^ 25) + es.length - old) (key / 2 ^ 25)

/-- An entry written and made the most recent of its set. DESIGN CHOICE (log 103): a write of an entry is its use; a lookup that changes no entry is
none. -/
def State.sfSet (s : State) (e : SfEntry) : State :=
  (s.sfPut (sfKey e.line) (e :: (ngetD s.hm.sf (sfKey e.line) []).filter (fun x => x.line != e.line))).odcTouch e.line true

/-- The entry of a line freed. -/
def State.sfFree (s : State) (line : Nat) : State :=
  (s.sfPut (sfKey line) ((ngetD s.hm.sf (sfKey line) []).filter (fun x => x.line != line))).odcTouch line false

/-- The group bit of a holder in a coarse entry (Table 7-2). -/
def groupOf (holder : Nat) : Nat :=
  let d := holder / 4096
  let c := holder % 4096
  16 * d + (if c < 0x80 then c / 16 else 8 + (c - 0x80) / 2)

/-- The holders a group bit stands for: on this device its HOST ports and hearths, on another device every controller or
hearth of the group (R119). -/
def State.groupMembers (s : State) (g : Nat) : List Nat :=
  let d := g / 16
  let j := g % 16
  if j < 8 then
    ((List.range 16).map (fun k => 16 * j + k)).filterMap (fun c =>
      if d = s.dev && (s.isFollower c || s.g PC_LINK_STATUS_ROLE_BOUND c != 1) then none else some (4096 * d + c))
  else [4096 * d + 0x80 + 2 * (j - 8), 4096 * d + 0x81 + 2 * (j - 8)]

/-- The devices of the stack, this one included. -/
def State.members (s : State) : List Nat :=
  (List.range 4).filter (fun d => d == s.dev || bit (s.g STK_STATUS_MEMBERS) d)

/-- Every holder of the stack (R137). -/
def State.allHolders (s : State) : List Nat :=
  s.members.flatMap (fun d => (List.range 16).flatMap (fun j => s.groupMembers (16 * d + j)))

/-- The holders an entry names. -/
def State.holdersOf (s : State) (e : SfEntry) : List Nat :=
  if e.coarse then ((List.range 64).filter (fun g => bit e.groups g)).flatMap s.groupMembers else e.holders

/-- A holder added to a shared entry: a fifth makes it coarse (R119). -/
def SfEntry.addHolder (e : SfEntry) (h : Nat) : SfEntry :=
  if e.coarse then { e with groups := e.groups ||| 2 ^ groupOf h }
  else if e.holders.contains h then e
  else if e.holders.length < 4 then { e with holders := e.holders ++ [h] }
  else { e with coarse := true, holders := [], groups := (h :: e.holders).foldl (fun n x => n ||| 2 ^ groupOf x) 0 }

/-- A holder removed from a line's entry; a coarse entry keeps its group bits (R119, R120). -/
def State.sfRemove (s : State) (line h : Nat) : State :=
  match s.sfFind line with
  | none => s
  | some e =>
    if e.coarse then s
    else
      let hs := e.holders.filter (· != h)
      if hs = [] then s.sfFree line
      else s.sfPut (sfKey line) ((ngetD s.hm.sf (sfKey line) []).map (fun x => if x.line = line then { x with holders := hs } else x))

/-- Whether a request will make an entry (Table 7-4). -/
def HomeReq.makesEntry (r : HomeReq) (t : Txn) : Bool := (t.kind == .rdS || t.kind == .rdA) && r.x.isSome

/-- The ways of a set that are taken: its entries, and those that active requests of the set are to make, less those being recalled (R117). -/
def State.sfUsed (s : State) (key : Nat) : Nat :=
  let act := s.hm.reqs.filter (fun e => sfKey e.2.line == key && e.2.phase != .waiting && !e.2.rebuild && (s.sfFind e.2.line).isNone &&
    (match s.txn e.1 with | some t => e.2.makesEntry t | none => false))
  (ngetD s.hm.sf key []).length + act.length - (act.filter (fun e => e.2.phase == .victim)).length

/-- The entries a recall may choose. DESIGN CHOICE (log 127): an entry whose line has an active request, or is being recalled, is passed over. -/
def State.sfIdle (s : State) (key : Nat) : List SfEntry :=
  (ngetD s.hm.sf key []).filter (fun v => !(s.hm.reqs.any (fun e => (e.2.line == v.line && e.2.phase != .waiting) || e.2.snoops.any (fun x => x.line == v.line))))

/-- The victim of a full set: the least recent entry that is not owned, else the least recent (R120). -/
def victimOf (es : List SfEntry) : Option SfEntry :=
  match (es.filter (fun e => !e.owned)).getLast? with
  | some e => some e
  | none => es.getLast?

/-! ## Snoops -/

/-- A snoop to a holder of this device: it waits at a hearth, or goes to a host as a message; at a port that is DOWN it is discarded (R84). -/
def State.snoopHere (s : State) (x : SnoopOut) : State :=
  if 0x80 ≤ x.holder % 4096 then { s with hm := { s.hm with hearthSnoops := s.hm.hearthSnoops ++ [x] } }
  else if s.portState (x.holder % 4096) == 3 then s.portMod (x.holder % 4096) (fun p => { p with discarded := p.discarded + 1 })
  else s.toPort (x.holder % 4096) (.snoop x.holder x.kind x.line)

/-- Snoops issued: to holders of this device, and over Sirfin to those of others (R137). -/
def State.sendSnoops (s : State) (sn : List SnoopOut) : State :=
  sn.foldl (fun s x =>
    if x.holder / 4096 = s.dev then s.snoopHere x
    else s.stackPush { kind := 1, code := x.kind, cls := 1, src := 0x90 + homeSlice (x.line * 64), sdev := s.dev, ddev := x.holder / 4096,
                       inst := s.instOf (x.line * 64), addr := x.line * 64, tag := x.holder,
                       epoch := match s.hm.fwds.find? (fun f => f.1 == x.line && f.2.1 == x.holder) with | some f => 1 + f.2.2 | none => 0,
                       mask := match x.dst with | some q => 1 + q.1 + 4 * q.2 | none => 0 }) s

/-- The snoops of a line to a list of holders. -/
def mkSnoops (hs : List Nat) (kind line : Nat) (owner victim degraded : Bool) (dst : Option (Nat × Nat) := none) : List SnoopOut :=
  hs.map (fun h => { holder := h, kind := kind, owner := owner, line := line, victim := victim, degraded := degraded, dst := dst })

/-! ## Memory (R123, R136) -/

/-- The memory-side cache's lines changed. -/
def State.mscPut (s : State) (line : Nat) (x : Option MscLine) : State :=
  { s with hm := { s.hm with msc := match x with | some l => nset line l s.hm.msc | none => nerase line s.hm.msc } }

/-- Whether a flush still writes a line to its module. -/
def State.flushes (s : State) (line : Nat) : Bool :=
  s.hm.flushIds.any (fun id => match s.txn id with | some t => t.addr / 64 == line | none => false)

/-- The dirty lines of a slice: a line that a flush writes stays dirty until its module has it (R136, Table 20-8). -/
def State.dirtyOf (s : State) (sl : Nat) : Nat :=
  (s.hm.msc.filter (fun e => (e.2.dirty || s.flushes e.1) && homeSlice (e.1 * 64) == sl)).length

/-- Whether a pooled module has gone down with a fault of its port, so that R72 answers its accesses at once. DEDUCED (log 104): at a port that is down
by command an access waits for it (R58, R94). -/
def State.modDead (s : State) (m : Nat) : Bool :=
  let c := m / 16
  !(s.on MOD_ENTRY_PRESENT m) && (s.cond (downCond c).1 (downCond c).2 || s.cond (clkCond (c / 4)).1 (clkCond (c / 4)).2 || s.on PC_QUIESCE_STATUS_ISOLATED c)

/-- Whether a location lies on such a module. -/
def State.locDead (s : State) (l : MemLoc) : Bool := s.modDead l.mod

/-- Module reads of a line that a write of it has overtaken bring nothing into the memory-side cache. -/
def State.readsBehind (s : State) (fpa : Nat) : State :=
  { s with sw := { s.sw with txns := s.sw.txns.map (fun (e : Nat × Txn) =>
      if e.2.kind == .modRead && e.2.addr / 64 == fpa / 64 then (e.1, { e.2 with store := true }) else e) } }

/-- A module access is issued: it waits for its port, or concludes at once when its pooled module is gone (R72, R94, R132). A write's line is held where its
request's payload is, in the request's own cells or the memory-side cache. -/
def State.modAccess (s : State) (parent : Option Nat) (fpa : Nat) (l : MemLoc) (inst : Nat) (write : Bool) (data : List Byte) (poison : Bool) : State × Nat :=
  let sl := homeSlice fpa
  let c := l.mod / 16
  let t : Txn := 
  { src := 0x90 + sl, tag := 0, dev := s.dev, hdev := s.dev, inst := inst, cls := 0, kind := if write then .modWrite else .modRead, addr := fpa, dpa := l.dpa, mod := l.mod, len := 64, data := data, poison := poison, set := l.set, so := l.so, epoch := s.curEpoch, tAcc := s.now, tQueue := s.now, place := .egress c (s.sgOf inst), die := sl, parent := parent }
  let t := { t with path := s.pathOf t }
  let s := if write then (s.markDirty fpa).readsBehind fpa else s
  let r := s.take t
  if s.locDead l then ((r.1.deadRecord fpa inst (0x90 + sl) c write).conclude r.2 ST_LINK_DOWN [], r.2) else r

/-- The locations a write of the home reaches: the present one, and in TRAIL both of the migration, with one that a later commit gives (R156, R159). -/
def State.writeLocs (s : State) (fpa : Nat) : List MemLoc :=
  let now := match s.resolve fpa with | some l => [s.locAt l.set l.so] | none => []
  match s.inTrail (bits fpa 21 32) with
  | some m => ([s.locAt m.srcSet (m.srcSo * 2 ^ 21 + fpa % 2 ^ 21), s.locAt m.dstSet (m.dstSo * 2 ^ 21 + fpa % 2 ^ 21)] ++ now).dedup
  | none => now

/-- The locations a request's write reaches: the one decoded under its epoch, and every one of a page in TRAIL (R78, R156, R157). -/
def State.reqLocs (s : State) (t : Txn) : List MemLoc :=
  if (s.inTrail (bits t.addr 21 32)).isSome then s.writeLocs t.addr else [t.loc]

/-- Module writes of a line issued at every location it must reach. -/
def State.modWrites (s : State) (parent : Option Nat) (fpa inst : Nat) (data : List Byte) (poison : Bool) (locs : List MemLoc) : State × List Nat :=
  locs.foldl (fun r l => let q := r.1.modAccess parent fpa l inst true data poison; (q.1, r.2 ++ [q.2])) (s, [])

/-- A line evicted from the memory-side cache: a dirty one is written to its module. -/
def State.mscEvict (s : State) (line : Nat) : State :=
  match nget? line s.hm.msc with
  | none => s
  | some l =>
    let s := s.mscPut line none
    if l.dirty then (s.modWrites none (line * 64) (s.instOf (line * 64)) l.data l.poison (s.writeLocs (line * 64))).1 else s

/-- The memory-side cache's set of a line in its slice: 1 M lines in 16 ways are 65,536 sets. DESIGN CHOICE (log 20): the line number's low 16 bits. -/
def mscSet (line : Nat) : Nat := homeSlice (line * 64) * 2 ^ 16 + line % 2 ^ 16

/-- Room for a line among the 16 ways of its set: a clean line first, and never a dirty line of a page in SYNC (R136, R153; log 20). -/
def State.mscRoom (s : State) (line : Nat) : State × Bool :=
  let mine := s.hm.msc.filter (fun e => mscSet e.1 == mscSet line)
  if mine.length < 16 then (s, true)
  else match mine.find? (fun e => !(e.2.dirty && s.inSync (e.1 * 64 / 2 ^ 21))) with
    | some e => (s.mscEvict e.1, true)
    | none => (s, false)

/-- A line read from its module enters the memory-side cache, unless the cache has it, a write has overtaken the read, or its page is in SYNC (R136,
R153). -/
def State.mscFill (s : State) (line : Nat) (data : List Byte) (poison overtaken : Bool) : State :=
  if overtaken || (nget? line s.hm.msc).isSome || !(s.on HOME_CFG_MSC_EN) || s.inSync (bits (line * 64) 21 32) then s
  else let q := s.mscRoom line; if q.2 then q.1.mscPut line (some ⟨data, false, poison⟩) else q.1

/-- A line written to memory: into the memory-side cache where it holds or may allocate the line, else to the module, and never into the cache in the
place of a module that is gone (R72); the module writes to wait for. -/
def State.memWriteLine (s : State) (parent : Option Nat) (fpa inst : Nat) (data : List Byte) (poison : Bool) (locs : List MemLoc) : State × List Nat :=
  let line := fpa / 64
  if locs.any (fun l => s.locDead l) then (s.mscPut line none).modWrites parent fpa inst data poison locs
  else if (nget? line s.hm.msc).isSome then (s.mscPut line (some ⟨data, true, poison⟩), [])
  else if s.on HOME_CFG_MSC_EN && !(s.inSync (bits fpa 21 32)) then
    let r := s.mscRoom line
    if r.2 then (r.1.mscPut line (some ⟨data, true, poison⟩), []) else r.1.modWrites parent fpa inst data poison locs
  else s.modWrites parent fpa inst data poison locs

/-! ## A request's progress -/

/-- A request at the home. -/
def State.req (s : State) (id : Nat) : Option HomeReq := nget? id s.hm.reqs
def State.reqSet (s : State) (r : HomeReq) : State := { s with hm := { s.hm with reqs := nset r.id r s.hm.reqs } }
def State.reqDel (s : State) (id : Nat) : State := { s with hm := { s.hm with reqs := nerase id s.hm.reqs } }

/-- What ties the record of a reply that came too late to the record of its timeout (R43): of a snoop of a holder to a line, and of a module access. -/
def snoopKey (holder line : Nat) : Nat × Nat := (0x10000 + holder, line)
def memKeyOf (id : Nat) : Nat × Nat := (0x20000, id)

/-- A fault of the home about a request (block 0x07): NC naming the instance. -/
def State.homeFault (s : State) (f : Fld) (t : Txn) (status aux : Nat) (causes : List (Nat × Nat)) (keys : List (Nat × Nat) := []) : State :=
  (s.setF f).report 
  { source := src 0x07 f.lsb, cls := NC, scope := scope 1 (t.inst % 4096), status := status, addr := some (0, t.addr), access := if t.kind.writes then 2 else 1, inst := some t.inst, core := t.src, dev := t.dev, header := t.header, aux := aux, causes := causes, keys := keys }

/-- A request leaves the home: its requester has its answer (Table 7-5). A failed write of a host is an error completion, and a
read of a host poisoned data, through the status. A hearth that is granted a poisoned line gets the line with it (R123). -/
def State.homeAnswer (s : State) (r : HomeReq) (status : Nat) : State :=
  let data := if status = ST_OK || (status = ST_POISON && r.status = ST_OK && r.x.isSome) then r.data.getD [] else []
  (s.conclude r.id status data).reqDel r.id

/-- The entry after a request (Table 7-4); none is made in a degraded set or for a request whose owner was lost (R129), and RD_CUR changes none but by
a host owner's WB. -/
def State.homeEntry (s : State) (r : HomeReq) (t : Txn) (deg : Bool) : State :=
  if deg || r.lost then s
  else match t.kind, r.x with
    | .rdCur, _ =>
      if !r.written then s
      else match r.ownerKept with
        | some y => s.sfSet { line := r.line, holders := [y] }
        | none => s.sfFree r.line
    | .rdS, some x =>
      let base : SfEntry := match s.sfFind r.line with
        | some e => if e.owned then { line := r.line, holders := match r.ownerKept with | some y => [y] | none => [] } else e
        | none => { line := r.line }
      s.sfSet (base.addHolder x)
    | .rdA, some x => s.sfSet { line := r.line, owned := true, holders := [x] }
    | .wr, _ | .wrPtl, _ | .wb, _ => s.sfFree r.line
    | _, _ => s

/-- A request completes at the home: its entry changes, and its answer goes to the requester, or waits for grant and forwarded
data to meet there (R124, R125), on another device under the home's grant. -/
def State.homeFinish (s : State) (r : HomeReq) (t : Txn) : State :=
  let s := if t.kind = .wb then s else s.homeEntry r t (s.isDegraded r.line)
  let st := if r.status ≠ ST_OK then r.status else if r.bad && !t.kind.writes then ST_POISON else ST_OK
  let r := { r with data := if t.kind.writes then none else r.data }
  if r.fwd && t.dev ≠ s.dev && r.status = ST_OK then
    let u : StackUnit := { kind := 2, code := ST_OK, cls := 2, src := t.src, sdev := s.dev, ddev := t.dev, inst := t.inst, addr := t.addr,
                           tag := t.tag, flag := true }
    let x := t.dev * 4096 + t.src
    let s : State := { s with hm := { s.hm with fwds := (r.line, x, t.tag) :: s.hm.fwds.filter (fun f => !(f.1 == r.line && f.2.1 == x)) } }
    ((s.txnDel r.id).reqDel r.id).stackPush u
  else if r.fwd then s.reqSet { r with status := st, phase := .granting }
  else s.homeAnswer r st

/-- The bytes of a partial write put over a line. -/
def mergeLine (old new : List Byte) (mask : Nat) : List Byte :=
  (List.range 64).map (fun k => if bit mask k then new.getD k 0 else old.getD k 0)

/-- A merge that cannot be made (R135): the whole line is written poisoned and the requester gets POISON. -/
def State.rmwPoison (s : State) (r : HomeReq) (t : Txn) (locs : List MemLoc) : State :=
  let s := s.homeFault HOME_ERR_STATUS_RMW_POISON t ST_POISON 0 []
  let w := s.memWriteLine (some r.id) t.addr t.inst (r.data.getD (List.replicate 64 0)) true locs
  let r := { r with status := ST_POISON, mods := w.2, phase := .writing, written := true }
  if w.2 = [] then w.1.homeFinish r t else w.1.reqSet r

/-- A write at the home is written; the request completes once its module writes have. -/
def State.homeWrite (s : State) (r : HomeReq) (t : Txn) (data : List Byte) (poison : Bool) : State :=
  let w := s.memWriteLine (some r.id) t.addr t.inst data poison (s.reqLocs t)
  let r := { r with mods := w.2, phase := .writing, written := true }
  if w.2 = [] then w.1.homeFinish r t else w.1.reqSet r

/-- The old line is in hand: a read has its data, a partial write merges it (R135). -/
def State.homeData (s : State) (r : HomeReq) (t : Txn) : State :=
  match t.kind with
  | .wrPtl =>
    if r.bad || t.poison then s.rmwPoison r t (s.reqLocs t)
    else s.homeWrite r t (mergeLine (r.data.getD []) t.data t.mask) false
  | _ => s.homeFinish r t

/-- A line read from memory: from the memory-side cache when it holds it, else from the module at the request's own location;
the home's own reads use the present one (R157). -/
def State.homeRead (s : State) (r : HomeReq) (t : Txn) : State :=
  let loc := if t.kind = .wrPtl && (s.inTrail (bits t.addr 21 32)).isSome then
      (match s.placed (bits t.addr 21 32) with | some l => s.locAt l.set (l.so + t.addr % 2 ^ 21) | none => t.loc) else t.loc
  match (if s.locDead loc then none else nget? r.line s.hm.msc) with
  | some l =>
    let s := s.inc MSC_STATUS_MSC_HITS (homeSlice t.addr)
    s.homeData { r with data := some l.data, bad := l.poison } t
  | none =>
    let q := s.modAccess (some r.id) t.addr loc t.inst false [] false
    q.1.reqSet { r with mods := [q.2], phase := .reading }

/-- An owner's data is forwarded to a reader and written to memory, never the one after the other (R124): the reader's request does not wait for the
module write, which reaches the location of the request's epoch and the present one (R78). -/
def State.homeForward (s : State) (r : HomeReq) (t : Txn) (d : List Byte) : State :=
  (s.memWriteLine none t.addr t.inst d r.bad (s.reqLocs t ++ s.writeLocs t.addr).dedup).1.homeFinish { r with written := true } t

/-- Every snoop of a request has concluded: the request goes on to memory (Table 7-4). -/
def State.homeAfterSnoops (s : State) (r : HomeReq) (t : Txn) : State :=
  if r.status ≠ ST_OK then s.homeFinish r t
  else match t.kind with
    | .wr => s.homeWrite r t t.data t.poison
    | .wrPtl => if r.data.isSome then s.homeData r t else s.homeRead r t
    | .rdS =>
      match r.data with
      | some d => s.homeForward r t d
      | none => s.homeRead r t
    | .rdCur =>
      match r.data with
      | some d => if r.fwd then s.homeFinish r t else s.homeForward r t d
      | none => s.homeRead r t
    | _ => if r.data.isSome then s.homeFinish r t else s.homeRead r t

/-- A request acts on the filter (R123, R137): it snoops, or goes straight to memory. -/
def State.homeSnoopPhase (s : State) (r : HomeReq) (t : Txn) : State :=
  let go (sn : List SnoopOut) : State :=
    if sn = [] then s.homeAfterSnoops r t
    else (s.sendSnoops sn).reqSet { r with snoops := sn, phase := .snoops }
  let here (h : Nat) : Bool := !(s.hm.departed.contains (h / 4096))
  let dst := if t.dev ≠ s.dev && !t.kind.writes then some (t.dev, t.tag) else none
  let s := s.odcTouch r.line (s.sfFind r.line).isSome
  if s.isDegraded r.line then go (mkSnoops (s.allHolders.filter (fun h => here h && (0x80 ≤ h % 4096 || s.lineDb r.line))) 0 r.line false false true)
  else match s.sfFind r.line with
    | none => s.homeAfterSnoops r t
    | some e =>
      let all := (s.holdersOf e).filter here
      let others := all.filter (fun h => some h != r.x)
      let mine : Bool := e.owned && (match r.x with | some x => e.holders.contains x | none => false)
      match t.kind with
      | .rdS => if e.owned && !mine then go (mkSnoops others 1 r.line true false false dst)
                else if mine then (s.sfSet { line := r.line, holders := e.holders }).homeAfterSnoops r t else s.homeAfterSnoops r t
      | .rdCur => if e.owned && !mine then go (mkSnoops others 2 r.line true false false dst) else s.homeAfterSnoops r t
      | .rdA => if mine then s.homeAfterSnoops r t else go (mkSnoops others 0 r.line e.owned false false dst)
      | .wr | .wrPtl => if mine then s.homeAfterSnoops r t else go (mkSnoops all 0 r.line e.owned false false)
      | _ => s.homeAfterSnoops r t

/-- The victim's snoops have concluded: what its owner returned is written, its way is free, and the request goes on. -/
def State.victimDone (s : State) (r : HomeReq) (t : Txn) (vline : Nat) : State :=
  let fpa := vline * 64
  let s := match r.data with
    | some d => (s.memWriteLine none fpa (s.instOf fpa) d r.bad (s.writeLocs fpa)).1
    | none => s
  (s.sfFree vline).homeSnoopPhase { r with data := none, bad := false, snoops := [] } t

/-- A holder's data reached the home before its answer: from then on its expiry poisons nothing (R129). -/
def HomeReq.gotFrom (r : HomeReq) (sn : SnoopOut) : HomeReq := { r with snoops := r.snoops.map (fun x => if x = sn then { x with got := true } else x) }

/-- A request goes on once no snoop of it is outstanding, and what the holders of a degraded set returned is written (R137). -/
def State.homeGo (s : State) (r : HomeReq) (vline : Nat) : State :=
  if r.snoops ≠ [] || r.mods ≠ [] || r.rebuild then s.reqSet r
  else match s.txn r.id with
    | none => s.reqDel r.id
    | some t => if r.phase = .victim then s.victimDone r t vline else s.homeAfterSnoops r t

/-! ## Departed holders (R134) -/

/-- A snoop to a holder loses to its expiry (R129, R130): an owner's line is poisoned unless its data has reached the home, a
sharer is removed. DESIGN CHOICE (log 128): the record's scope is the instance of the request that snoops, also where it recalls a victim of another. -/
def State.snoopLost (s : State) (r : HomeReq) (sn : SnoopOut) (causes : List (Nat × Nat)) : State × HomeReq :=
  let fpa := sn.line * 64
  let t := (s.txn r.id).getD { src := 0x90, tag := 0, dev := s.dev, inst := s.instOf fpa, cls := 0, kind := .rdCur, addr := fpa, len := 64, place := .home }
  let tt := { t with addr := fpa }
  let r := { r with snoops := r.snoops.filter (· != sn) }
  let s := { s with hm := { s.hm with expired := s.hm.expired ++ [sn], tmoRecs := (sn.holder, sn.line) :: s.hm.tmoRecs.filter (· != (sn.holder, sn.line)) } }
  if sn.owner || sn.degraded then
    let s := s.homeFault HOME_ERR_STATUS_OWNER_TMO tt ST_TIMEOUT sn.holder causes [snoopKey sn.holder sn.line]
    if (r.data.isSome && !sn.degraded) || sn.got then (s, r)
    else
      let s := (s.memWriteLine none fpa (s.instOf fpa) (List.replicate 64 0) true (s.writeLocs fpa)).1
      let s := if sn.degraded then s else s.sfFree sn.line
      if sn.victim || sn.degraded && r.rebuild then (s, r) else (s, { r with status := ST_POISON, lost := true })
  else
    ((s.homeFault HOME_ERR_STATUS_SHARER_TMO tt ST_TIMEOUT sn.holder causes [snoopKey sn.holder sn.line]).sfRemove sn.line sn.holder, r)

/-- The condition of a split: a departed device (R335). -/
def splitCond : Nat × Nat := (src 0x0E 32, scope 0 0)

/-- The holders of a line on departed devices count as lost at a lookup (R134); a request whose owner is lost ends in POISON. A group of controllers stands
for those of them that were HOST ports, as their device last told (R116, R119; log 133). -/
def State.departedLookup (s : State) (r : HomeReq) : State × HomeReq :=
  match s.sfFind r.line with
  | none => (s, r)
  | some e =>
    let gone := (s.holdersOf e).filter (fun h => s.hm.departed.contains (h / 4096) &&
      (!e.coarse || 0x80 ≤ h % 4096 || (nget? (h / 4096) s.stk.told).isNone || (s.peer (h / 4096)).g PC_LINK_STATUS_ROLE_BOUND (h % 4096) == 1))
    gone.foldl (fun q h => q.1.snoopLost q.2 { holder := h, kind := 0, owner := e.owned, line := r.line } [splitCond]) (s, r)

/-- Whether a request will make an entry in a full set, which first recalls the set's victim; and whether every way of the set is in use, so that there is
none to recall and the request waits (R117). -/
def State.needsWay (s : State) (r : HomeReq) (t : Txn) : Bool :=
  r.makesEntry t && !(s.isDegraded r.line) && (s.sfFind r.line).isNone && decide (s.sfUsed (sfKey r.line) ≥ 16)
def State.wayBusy (s : State) (r : HomeReq) (t : Txn) : Bool := s.needsWay r t && (victimOf (s.sfIdle (sfKey r.line))).isNone

/-- An active request starts: a request that will make an entry in a full set first recalls the set's victim (R117); a victim's holders on departed
devices are lost at once (R134). -/
def State.homeStart (s : State) (r : HomeReq) (t : Txn) : State :=
  match (if s.needsWay r t then victimOf (s.sfIdle (sfKey r.line)) else none) with
  | some v =>
    let s := s.inc SF_STATUS_SF_EVICTIONS (homeSlice t.addr)
    let all := mkSnoops (s.holdersOf v) 0 v.line v.owned true false
    let gone (x : SnoopOut) : Bool := s.hm.departed.contains (x.holder / 4096)
    let q := (all.filter gone).foldl (fun q x => q.1.snoopLost q.2 x [splitCond]) (s, r)
    let sn := all.filter (fun x => !(gone x))
    if sn = [] then (q.1.sfFree v.line).homeSnoopPhase q.2 t
    else (q.1.sendSnoops sn).reqSet { q.2 with snoops := sn, phase := .victim }
  | none => s.homeSnoopPhase r t

/-! ## Heat (R145) -/

/-- One sample of a page: its way of the heat table, an empty way, or the way with the least heat. DESIGN CHOICE (log 129): of several empty ways, or of
several with the least heat, the lowest-numbered. -/
def State.heatSample (s : State) (fpa : Nat) (write : Bool) : State :=
  let page := bits fpa 21 32
  let base (w : Nat) : Nat := (page % 2 ^ 22 * 8 + w) * 16
  let ent (w : Nat) : Nat := s.rdN spHbm (base w) 16
  let heat (e : Nat) : Nat := bits e 32 16 + bits e 48 16
  let ways := List.range 8
  let free (e : Nat) : Bool := e % 2 ^ 32 == 0 && heat e == 0
  let hit := ways.find? (fun w => bits (ent w) 0 32 == page && !(free (ent w)))
  let empty := ways.find? (fun w => free (ent w))
  let least := ways.foldl (fun b w => if heat (ent w) < heat (ent b) then w else b) 0
  let w := match hit, empty with | some w, _ => w | none, some w => w | none, none => least
  let s := if hit.isNone && empty.isNone then s.inc PLC_STATUS_HEAT_EVICT else s
  let e := if hit.isSome then ent w else 0
  let rd := min (bits e 32 16 + b2n (!write)) 0xFFFF
  let wr := min (bits e 48 16 + b2n write) 0xFFFF
  let sub := bits e 64 32 ||| 2 ^ bits fpa 16 5
  s.wrN spHbm (base w) 16 (page + rd * 2 ^ 32 + wr * 2 ^ 48 + sub * 2 ^ 64 + bits e 96 32 * 2 ^ 96)

/-- One in HEAT_N requests that become active at a slice is sampled. DESIGN CHOICE (log 129): the last of each HEAT_N, by a running count of the slice,
which a write of HEAT_N does not reload. -/
def State.heatTouch (s : State) (fpa : Nat) (write : Bool) : State :=
  if !(s.on PLC_HEAT_CFG_HEAT_EN) then s else
  let sl := homeSlice fpa
  let left := ngetD s.hm.heatLeft sl (s.g PLC_HEAT_CFG_HEAT_N)
  if left ≤ 1 then
    ({ s with hm := { s.hm with heatLeft := nset sl (s.g PLC_HEAT_CFG_HEAT_N) s.hm.heatLeft } }).hbmDo (.heat fpa write) (fun s => s.heatSample fpa write)
  else { s with hm := { s.hm with heatLeft := nset sl (left - 1) s.hm.heatLeft } }

/-! ## The commands -/

/-- Whether an earlier request of a unit's flow has departed to the home and not yet entered its list: units of a flow arrive in order (R86). -/
def State.behindFlow (s : State) (t : Txn) : Bool :=
  s.sw.txns.any (fun e => e.2.place == .home && e.2.kind != .wb && e.2.parent.isNone && !e.2.heldSync && decide (e.2.qseq < t.qseq) && sameFlow e.2 t &&
    homeSlice e.2.addr == homeSlice t.addr && (s.req e.1).isNone)

/-- HOME_REQUEST_ARRIVAL (R122, R153): a request that has departed to its slice enters its line's list; a write to a page in SYNC,
and what follows a held write of its line, is held before the list. -/
def execHomeRequestArrival (id : Nat) (s : State) : Out :=
  whenUp s fun s =>
    match s.txn id with
    | none => s
    | some t =>
      if t.place ≠ .home || t.kind = .wb || t.heldSync || (s.req id).isSome || t.parent.isSome || s.behindFlow t then s
      else
        let heldLine := s.sw.txns.any (fun e => e.2.heldSync && e.2.addr / 64 == t.addr / 64)
        if (s.inSync (bits t.addr 21 32) && t.kind.writes) || heldLine then
          ({ s with sw := { s.sw with nextQ := s.sw.nextQ + 1 } }).txnSet id { t with heldSync := true, tQueue := s.now, qseq := s.sw.nextQ }
        else s.lineEnter id t (s.holderOf t)

/-- Whether a request at the home is a WB that waits for its module writes: it never holds another request of its line (R122, R132). -/
def State.isWb (s : State) (id : Nat) : Bool := match s.txn id with | some t => t.kind == .wb | none => false

/-- The request of a line that comes next: the one that arrived first, when none of the line is active (R122) and the line is not being recalled
(R117). -/
def State.nextOfLine (s : State) (line : Nat) : Option HomeReq :=
  let rs := s.hm.reqs.filter (fun e => e.2.line == line && !e.2.rebuild && !(s.isWb e.1))
  if rs.any (fun e => e.2.phase != .waiting) || s.hm.reqs.any (fun e => e.2.phase == .victim && e.2.snoops.any (fun x => x.line == line)) then none
  else rs.foldl (fun b e => match b with | none => some e.2 | some x => if e.2.order < x.order then some e.2 else b) none

/-- HOME_REQUEST_ACTIVATE (R123). While the slice's HBM stack has no clock its filter is not reached, and the request waits (R36); it waits too while every
way of the set it needs one of is in use (R117). -/
def execHomeRequestActivate (line : Nat) (s : State) : Out :=
  whenUp s fun s =>
    match (if s.on ISL_STATUS_CLK_PRESENT (32 + homeSlice (line * 64)) then s.nextOfLine line else none) with
    | none => s
    | some r =>
      match s.txn r.id with
      | none => s.reqDel r.id
      | some t =>
        if s.wayBusy r t then s else
        let s := s.heatTouch t.addr t.kind.writes
        let q := s.departedLookup r
        q.1.homeStart q.2 t

/-- The active request that waits for a snoop of a holder to a line. -/
def State.snoopOwner (s : State) (holder line : Nat) : Option (HomeReq × SnoopOut) :=
  s.hm.reqs.findSome? (fun e => (e.2.snoops.find? (fun x => x.holder == holder && x.line == line)).map (fun x => (e.2, x)))

/-- A holder's answer reaches the home (R124, R131): with a hearth's data, or a host's whose data came before it in its writeback. An answer
after the expiry is discarded. -/
def State.snoopAnswered (s : State) (h line : Nat) (kept : Bool) (d : Option (List Byte × Bool)) : State :=
  match s.snoopOwner h line with
  | none =>
    match s.hm.expired.find? (fun x => x.holder == h && x.line == line) with
    | some x =>
      let s := { s with hm := { s.hm with expired := s.hm.expired.filter (· != x) } }
      (s.inc HOME_CNT_LATE_SNP_RSP).report 
      { source := src 0x07 63, cls := CE, scope := scope 1 (s.instOf (line * 64) % 4096), addr := some (0, line * 64), access := 5, aux := h,
        causes := [snoopKey h line] }
    | none => s
  | some (r, sn) =>
    let r := { r with snoops := r.snoops.filter (· != sn) }
    let r := if kept && sn.kind != 0 then { r with ownerKept := some h } else r
    match d with
    | some (d, bad) =>
      if sn.degraded || r.rebuild then
        let fpa := line * 64
        let w := s.memWriteLine (some r.id) fpa (s.instOf fpa) d bad (s.writeLocs fpa)
        w.1.homeGo { r with mods := r.mods ++ w.2 } line
      else
        let toWrite := match s.txn r.id with | some t => t.kind.writes | none => true
        s.homeGo { r with data := some d, bad := bad, fwd := !sn.victim && !toWrite } line
    | none => s.homeGo r line

/-- The device that holds a line's location: its home (R65). -/
def State.homeDev (s : State) (line : Nat) : Nat := match s.resolve (line * 64) with | some l => l.dev | none => s.dev

/-- A request that this device sent to a home on another completes when the data an owner forwards and the home's grant are both here (R125). -/
def State.farMeet (s : State) (id : Nat) (t : Txn) : State :=
  match t.grant, t.fwd with
  | some g, some (d, bad) => (s.txnSet id t).conclude id (if g = ST_OK && bad then ST_POISON else g) d
  | _, _ => s.txnSet id t

/-- What comes over Sirfin for such a request: the home's grant (`flag`), an owner's data (`tracked`), or the home's own answer, which discards forwarded
data (R125). -/
def State.farAnswer (s : State) (id : Nat) (t : Txn) (u : StackUnit) : State :=
  if u.flag then s.farMeet id { t with grant := some (listedStatus u.code) }
  else if u.tracked then s.farMeet id { t with fwd := some (u.data, u.poison) }
  else s.conclude id (listedStatus u.code) u.data

/-- A hearth's data goes straight to a requester on another device than the home's (R124). -/
def State.forwardTo (s : State) (dst : Nat × Nat) (h line : Nat) (d : List Byte) (poison : Bool) : State :=
  let u : StackUnit := { kind := 2, cls := 2, src := h % 4096, sdev := s.dev, ddev := dst.1, inst := s.instOf (line * 64), poison := poison, tracked := true, addr := line * 64, tag := dst.2, data := d }
  if dst.1 = s.dev then (match s.txn dst.2 with | some t => s.farAnswer dst.2 t u | none => s) else s.stackPush u

/-- SNOOP_ANSWER (R124, R131): a holder of this device answers; to a home on another device the answer goes over Sirfin, and so does a hearth's data to a
requester elsewhere. -/
def execSnoopAnswer (holder : Fin 16384) (line : Nat) (kept : Bool) (s : State) : Out :=
  whenUp s fun s =>
    let h := holder.val
    let ans := s.hm.answers.find? (fun a => a.holder == h && a.line == line)
    if h / 4096 ≠ s.dev || (0x80 ≤ h % 4096 && ans.isNone) then s
    else
      let s : State := match ans with
        | some a => { s with hm := { s.hm with answers := s.hm.answers.erase a } }
        | none => { s with sw := { s.sw with loop := s.sw.loop.filter (fun m => match m with | .snoop x _ l => !(x == h && l == line) | _ => true) } }
      let kept := match ans with | some a => a.kept | none => kept
      let d := match ans with | some a => a.data.map (fun d => (d, a.poison)) | none => none
      let s : State := match ans.bind (·.dst), d with | some dst, some (d, bad) => s.forwardTo dst h line d bad | _, _ => s
      let home := s.homeDev line
      if home = s.dev then s.snoopAnswered h line kept d
      else s.stackPush { kind := 3, cls := 2, src := h % 4096, sdev := s.dev, ddev := home, inst := s.instOf (line * 64), flag := kept, addr := line * 64, tag := h,
                         poison := (match d with | some x => x.2 | none => false), data := (match d with | some x => x.1 | none => []) }

/-- SNOOP_TIMEOUT (R129, R130, R134). -/
def execSnoopTimeout (holder : Fin 16384) (line : Nat) (s : State) : Out :=
  whenUp s fun s =>
    match s.snoopOwner holder line with
    | none => s
    | some (r, sn) =>
      let q := s.snoopLost r sn (s.causesNow [splitCond])
      q.1.homeGo q.2 line

/-- A module access of a request concludes: a read delivers its data, or what the memory-side cache has got meanwhile, and the last write completes the
request (R123, R132, R136). -/
def State.modDone (s : State) (parent id status : Nat) (data : List Byte) (poison overtaken : Bool) : State :=
  match s.req parent with
  | none => s
  | some r =>
    let r := { r with mods := r.mods.filter (· != id) }
    match s.txn r.id with
    | none => if r.rebuild then s.reqSet r else s.reqDel parent
    | some t =>
      if r.phase = .snoops || r.phase = .victim then s.homeGo r r.line
      else if r.phase = .reading then
        if status = ST_OK then
          match nget? r.line s.hm.msc with
          | some l => s.homeData { r with data := some l.data, bad := l.poison } t
          | none => (s.mscFill r.line data poison overtaken).homeData { r with data := some data, bad := poison } t
        else
          let st := if status = ST_LINK_DOWN && t.kind ≠ .wrPtl then ST_POISON else status
          s.homeFinish { r with status := st } t
      else
        let r := if status = ST_OK then r else { r with status := status }
        if r.mods = [] then s.homeFinish r t else s.reqSet r

/-- A reply that comes after its drain timeout has won is discarded, counted at its port, and recorded as its consequence (R43, R44, R60). -/
def State.drainLate (s : State) (id : Nat) : State :=
  match s.ports.find? (fun p => p.2.late.contains id) with
  | some p => (s.portMod p.1 (fun x => { x with late := x.late.erase id })).portLate p.1 8
  | none => s

/-- MODULE_ACCESS_COMPLETE (R123): a module answers an access of the home, or an access that concluded with its port is seen by
the home (R61, R72). An answer after MEM_TMO_US, or after a drain timeout, is discarded and recorded. -/
def execModuleAccessComplete (id : Nat) (data : List Byte) (poison : Bool) (s : State) : Out :=
  whenUp s fun s =>
    match s.txn id with
    | some t =>
      match t.place with
      | .sent c =>
        match (if t.kind = .modRead || t.kind = .modWrite then s.loopTake c id else none) with
        | none => s
        | some (s, got) =>
          let s := s.txnDel id
          let poison := match got with | some x => x.1 != 0 | none => poison
          let data := ((match got with | some x => x.2 | none => data) ++ List.replicate 64 0).take 64
          match t.parent with
          | some p => s.modDone p id ST_OK data poison t.store
          | none => if t.kind = .modRead then s.mscFill (t.addr / 64) data poison t.store else s
      | _ => s
    | none =>
      match nget? id s.sw.answers with
      | some a =>
        if a.src = 0x90 || a.src = 0x91 then
          let s := { s with sw := { s.sw with answers := nerase id s.sw.answers } }
          match s.hm.reqs.find? (fun e => e.2.mods.contains id) with
          | some e => s.modDone e.1 id a.status [] false true
          | none => s
        else s
      | none =>
        match nget? id s.hm.lateMem with
        | some inst =>
          ({ s with hm := { s.hm with lateMem := nerase id s.hm.lateMem } }).report
            { source := src 0x07 63, cls := CE, scope := scope 1 (inst % 4096), access := 6, inst := some inst, causes := [memKeyOf id] }
        | none => s.drainLate id

/-- MEM_TIMEOUT (R132, R160): the access loses; a read's line is untouched, and neither is sent again. A copy write that loses
abandons its migration. -/
def execMemTimeout (access : MemAccess) (s : State) : Out :=
  whenUp s fun s =>
    match access with
    | .copy k =>
      match nget? k.val s.plc.migs with
      | some m => if m.state = 4 then s else s.abandon k ST_TIMEOUT 9
      | none => s
    | .home id =>
      match s.txn id with
      | none => s
      | some t =>
        if t.kind = .modRead || t.kind = .modWrite then
          let s := s.homeFault HOME_ERR_STATUS_MEM_TMO t ST_TIMEOUT 0 (s.causesNow [downCond (t.mod / 16)]) [memKeyOf id]
          let s := { s.txnDel id with hm := { s.hm with lateMem := nset id t.inst s.hm.lateMem } }
          match t.parent with
          | some p => s.modDone p id ST_TIMEOUT [] false true
          | none => s
        else s

/-- WB_ARRIVAL (R121, R122, R126): never behind another request. It is the data of a recall that waits for its writer, is written
for its owner or in a degraded set, and is otherwise discarded; its writer gets a normal completion. -/
def execWbArrival (id : Nat) (s : State) : Out :=
  whenUp s fun s =>
    match s.txn id with
    | none => s
    | some t =>
      if t.kind ≠ .wb || t.place ≠ .home then s
      else
        let line := t.addr / 64
        let x := t.dev * 4096 + t.src
        let done (s : State) : State := s.conclude id ST_OK []
        match s.snoopOwner x line with
        | some (r, sn) =>
          let s := if sn.degraded || r.rebuild then
              (let w := s.memWriteLine (some r.id) t.addr t.inst t.data t.poison (s.writeLocs t.addr)
               w.1.reqSet { r.gotFrom sn with mods := r.mods ++ w.2 })
            else s.reqSet { r with data := some t.data, bad := t.poison, ownerKept := if t.keepS then some x else r.ownerKept }
          done s
        | none =>
          let owner := match s.sfFind line with | some e => e.owned && e.holders.contains x | none => false
          if s.isDegraded line || owner then
            let w := s.memWriteLine (some id) t.addr t.inst t.data t.poison (s.reqLocs t)
            let s := w.1
            let s := if s.isDegraded line then s
              else if t.keepS then s.sfSet { line := line, holders := [x] } else s.sfFree line
            if w.2 = [] then done s
            else s.reqSet { id := id, line := line, order := 0, phase := .writing, mods := w.2, written := true }
          else
            let s := s.inc HOME_CNT_WB_DISCARDS
            let s := if s.hm.tmoRecs.contains (x, line) then s.report
                { source := src 0x07 63, cls := CE, scope := scope 1 (t.inst % 4096), addr := some (0, t.addr), access := 2, inst := some t.inst, core := t.src, dev := t.dev,
                  causes := [snoopKey x line] }
              else s.homeFault HOME_ERR_STATUS_WB_NOT_OWNER t 0 x []
            done s

/-- CLEAN_EVICTION_NOTICE (R120): a notice that a hearth sent when it dropped a clean line reaches the line's home, where the hearth leaves the entry,
but for a coarse one. -/
def execCleanEvictionNotice (h : HearthId) (line : Nat) (s : State) : Out :=
  whenUp s fun s =>
    if !(s.hm.notices.contains (h.val, line)) then s
    else
      let s := { s with hm := { s.hm with notices := s.hm.notices.erase (h.val, line) } }
      let x := s.dev * 4096 + 0x80 + h.val
      let home := s.homeDev line
      if home = s.dev then s.sfRemove line x
      else s.stackPush { kind := 3, code := 1, cls := 2, src := x % 4096, sdev := s.dev, ddev := home, inst := s.instOf (line * 64), tag := x, addr := line * 64 }

/-- BICONFLICT (R127): BIConflictAck leaves before any answer to the host's waiting request. -/
def execBiconflict (c : PortId) (tag : Nat) (s : State) : Out :=
  whenUp s fun s => if s.portState c == 3 then s else s.toPort c (.biConflictAck c tag)

/-- A request whose data was forwarded completes when data and grant have both arrived; a poison answer discards the data (R125). -/
def State.meet (s : State) (r : HomeReq) : State :=
  if r.granted && (r.arrived || r.status ≠ ST_OK) then s.homeAnswer r r.status else s.reqSet r

/-- FORWARDED_DATA (R125): the owner's data reaches the requester, before or after the home has the owner's answer. -/
def execForwardedData (id : Nat) (s : State) : Out :=
  whenUp s fun s =>
    match s.req id with
    | some r =>
      if r.fwd then s.meet { r with arrived := true }
      else if r.phase = .snoops && s.hm.answers.any (fun a => a.line == r.line && a.data.isSome) then s.reqSet { r with arrived := true }
      else s
    | none => s

/-- HOME_GRANT (R125). -/
def execHomeGrant (id : Nat) (s : State) : Out :=
  whenUp s fun s =>
    match s.req id with
    | some r => if r.phase = .granting then s.meet { r with granted := true } else s
    | none => s

/-- SF_ECC_ERROR (R137): corrected and refetched, or the set degraded; the 65th set degrades the slice. -/
def execSfEccError (slice : SliceId) (set : Fin 33554432) (uncorrected : Bool) (s : State) : Out :=
  whenUp s fun s =>
    let key := slice.val * 2 ^ 25 + set.val
    if !uncorrected then
      (s.setF HOME_ERR_STATUS_SF_CE).report { source := src 0x07 4, cls := CE, scope := scope 6 slice, aux := set }
    else
      let n := (s.hm.degraded.filter (fun k => k / 2 ^ 25 == slice.val)).length
      if s.hm.degraded.contains key || s.on HOME_SLICE_STATUS_DEGRADED_ALL slice then
        (s.setF HOME_ERR_STATUS_SF_UE).report { source := src 0x07 5, cls := PF, scope := scope 6 slice, aux := set }
      else if n < 64 then
        let s := { s with hm := { s.hm with degraded := key :: s.hm.degraded } }
        let s := (s.p HOME_SLICE_STATUS_DEGRADED_SETS (n + 1) slice)
        let s := (s.setF HOME_ERR_STATUS_SF_UE).report { source := src 0x07 5, cls := PF, scope := scope 6 slice, aux := set }
        s.condBegin (src 0x07 5) (scope 6 slice)
      else
        let s := (s.p HOME_SLICE_STATUS_DEGRADED_ALL 1 slice).setF HOME_ERR_STATUS_SF_DEGRADED_ALL
        let s := s.report { source := src 0x07 6, cls := DF, scope := 0, aux := set }
        s.condBegin (src 0x07 6) 0

/-- MSC_ECC_ERROR (R138): corrected, repaired by a new read of the module, or a dirty line lost: it is written to the module as poisoned, and is held
poisoned so that the requester it is read for gets POISON. -/
def execMscEccError (line : Nat) (uncorrected : Bool) (s : State) : Out :=
  whenUp s fun s =>
    match nget? line s.hm.msc with
    | none => s
    | some l =>
      let inst := s.instOf (line * 64)
      if !uncorrected || !l.dirty then
        let s := if uncorrected then (match s.placed (bits (line * 64) 21 32) with
            | some l => ((s.mscPut line none).modAccess none (line * 64) (s.locAt l.set (l.so + line * 64 % 2 ^ 21)) inst false [] false).1
            | none => s.mscPut line none) else s
        (s.setF HOME_ERR_STATUS_MSC_CE).report { source := src 0x07 7, cls := CE, scope := scope 6 (homeSlice (line * 64)), addr := some (0, line * 64) }
      else
        let s := (s.setF HOME_ERR_STATUS_MSC_UE).report { source := src 0x07 8, cls := NC, scope := scope 1 (inst % 4096), status := ST_POISON, addr := some (0, line * 64), inst := some inst }
        let s := s.mscPut line (some { l with dirty := false, poison := true })
        (s.modWrites none (line * 64) inst l.data true (s.writeLocs (line * 64))).1

/-- The two halves of a filter entry (Table 7-2). -/
def sfWords (e : SfEntry) (age : Nat) : Nat × Nat :=
  let lo := 1 + 2 * b2n e.owned + 4 * b2n e.coarse + (e.line % 2 ^ 47) * 2 ^ 4 + (min age 15) * 2 ^ 51
  let slot (n h : Nat) : Nat := (2 ^ 15 + h % 2 ^ 14) * 2 ^ (16 * n)
  let hi := if e.coarse then e.groups else
    (List.range e.holders.length).foldl (fun v n => v + slot n (e.holders.getD n 0)) 0
  (lo, hi)

/-- SF_PROBE_CTRL.GO: the entry of LINE as one snapshot (Table 7-10). -/
def probeOp (s : State) : State :=
  let line := s.g SF_PROBE_CTRL_LINE
  let s := s.setF SF_PROBE_CTRL_DONE
  let deg := s.isDegraded line
  let s := s.pb SF_PROBE_CTRL_DEGRADED deg
  let es := ngetD s.hm.sf (sfKey line) []
  let k := es.findIdx (fun e => e.line == line)
  match es[k]? with
  | some e =>
    if deg then ((s.p SF_PROBE_CTRL_HIT 0).p SF_PROBE_DATA0_ENTRY_LO 0).p SF_PROBE_DATA1_ENTRY_HI 0
    else ((s.p SF_PROBE_CTRL_HIT 1).p SF_PROBE_DATA0_ENTRY_LO (sfWords e k).1).p SF_PROBE_DATA1_ENTRY_HI (sfWords e k).2
  | none => ((s.p SF_PROBE_CTRL_HIT 0).p SF_PROBE_DATA0_ENTRY_LO 0).p SF_PROBE_DATA1_ENTRY_HI 0

/-- SF_PROBE_CTRL.REBUILD: refused unless the set of LINE is degraded; every holder of every recorded line is invalidated (R137). DESIGN CHOICE
(log 103): one that is written while another runs is refused with RESOURCE_EXHAUSTED. -/
def rebuildOp (s : State) : State × Nat :=
  let line := s.g SF_PROBE_CTRL_LINE
  if !(s.isDegraded line) then (s, ST_ACCESS_DENIED)
  else if s.hm.reqs.any (fun e => e.2.rebuild) then (s, ST_RESOURCE_EXHAUSTED)
  else
    let id := s.sw.nextId
    let es := ngetD s.hm.sf (sfKey line) []
    let sn := es.flatMap (fun e => mkSnoops (s.allHolders.filter (fun h => 0x80 ≤ h % 4096 || s.lineDb e.line)) 0 e.line false false true)
    let s := { s with sw := { s.sw with nextId := id + 1 } }
    let s := s.p SF_PROBE_CTRL_DONE 0
    ((s.sendSnoops sn).reqSet { id := id, line := line, order := 0, phase := .snoops, snoops := sn, rebuild := true }, ST_OK)

/-- SF_PROBE (R137). -/
def execSfProbe (m : Master) (s : State) : Out := command m .SF_PROBE_CTRL 0 (fun s => (probeOp s, ST_OK)) s

/-- SF_REBUILD (R137). -/
def execSfRebuild (m : Master) (s : State) : Out := command m .SF_PROBE_CTRL 0 rebuildOp s

/-- SF_REBUILD_DONE (R137): every invalidation has concluded and what it returned is written; the set is cleared, with its copies on die (R118), and is
normal again. -/
def execSfRebuildDone (s : State) : Out :=
  whenUp s fun s =>
    match s.hm.reqs.find? (fun e => e.2.rebuild && e.2.snoops == [] && e.2.mods == []) with
    | none => s
    | some e =>
      let key := sfKey e.2.line
      let sl := key / 2 ^ 25
      let s := (ngetD s.hm.sf key []).foldl (fun s x => s.odcTouch x.line false) s
      let s := (s.reqDel e.1).sfPut key []
      let had := s.hm.degraded.contains key
      let s := { s with hm := { s.hm with degraded := s.hm.degraded.filter (· != key) } }
      let s := if had then s.p HOME_SLICE_STATUS_DEGRADED_SETS (s.g HOME_SLICE_STATUS_DEGRADED_SETS sl - 1) sl else s
      let s := if s.g HOME_SLICE_STATUS_DEGRADED_SETS sl == 0 then s.condEnd (src 0x07 5) (scope 6 sl) else s
      s.setF SF_PROBE_CTRL_DONE

/-- MSC_CTRL.FLUSH: every line dirty now is written to its module; LATE while a flush runs (R136). -/
def flushOp (s : State) : State × Nat :=
  if s.on MSC_CTRL_FLUSH_BUSY then (s, ST_LATE)
  else
    let first := s.sw.nextId
    let s := (s.hm.msc.filter (fun e => e.2.dirty)).foldl (fun s e =>
      let s := s.mscPut e.1 (some { e.2 with dirty := false })
      (s.modWrites none (e.1 * 64) (s.instOf (e.1 * 64)) e.2.data e.2.poison (s.writeLocs (e.1 * 64))).1) s
    let ids := (List.range (s.sw.nextId - first)).map (first + ·)
    (({ s with hm := { s.hm with flushIds := ids, flushStart := s.now } }).setF MSC_CTRL_FLUSH_BUSY, ST_OK)

/-- MSC_FLUSH (R136). -/
def execMscFlush (m : Master) (s : State) : Out := command m .MSC_CTRL 0 flushOp s

/-- The last line of a flush is written: FLUSH_BUSY clears and FLUSH_NS is recorded (R136). -/
def State.flushEnd (s : State) : Option State :=
  if s.on MSC_CTRL_FLUSH_BUSY && s.hm.flushIds.all (fun id => (s.txn id).isNone) then
    some (((({ s with hm := { s.hm with flushIds := [] } }).p MSC_CTRL_FLUSH_BUSY 0).p MSC_CTRL_FLUSH_NS (min (s.now - s.hm.flushStart) (2 ^ 32 - 1))))
  else none

end Sys2Proof.Machine
end

