-- ==== Sys2Proof/Machine/Switch.lean ====
section
/-! DEFINITION. The switch core: metering and admitting a request, its path, ageing, egress queues with their shaper and round
robin, mirroring, and the errors of the buffer (R83 to R112). -/

namespace Sys2Proof.Machine

/-! ## Where a unit goes -/

/-- The die a core ID lies on (Table 1-1). -/
def dieOf (core : Nat) : Nat :=
  if core < 0x80 then core / 64 else if core < 0x90 then (core - 0x80) / 8 else if 0x800 ≤ core then (core - 0x800) / 1024 else 0

/-- The traffic class of a request kind (Table 5-1). -/
def ReqKind.cls : ReqKind → Nat
  | .ioPosted => 3
  | .ioRead | .ioNp => 4
  | .ioCpl => 5
  | _ => 0

/-- The queue a unit waits in for its destination (R65, R108): a device of the stack, its home slice, or the egress queue of its
instance's shaping group at a port. -/
def State.destOf (s : State) (t : Txn) : Place :=
  if t.hdev ≠ s.dev then .stack t.hdev
  else if t.kind.composed then .toHome (homeSlice t.addr)
  else .egress (t.mod / 16) (s.sgOf t.inst)

/-- The core ID of a unit's destination (Table 5-2). -/
def State.destCore (s : State) (t : Txn) : Nat :=
  if t.hdev ≠ s.dev then 0xA0 + (t.path / 16 - 1)
  else if t.kind.composed then 0x90 + homeSlice t.addr
  else t.mod / 16

/-! ## Mirroring (R98, R99) -/

/-- The bytes of a mirror record (Table 5-7). -/
def State.mirrorRecord (s : State) (m : Nat) (t : Txn) (seq : Nat) : List Byte :=
  let len := t.data.length
  leBytes 8 t.tAcc ++
  leBytes 8 (t.src + t.cls * 2 ^ 12 + b2n (len > 32) * 2 ^ 15 + t.inst % 2 ^ 14 * 2 ^ 16 + s.destCore t * 2 ^ 32 + m * 2 ^ 44 +
    len % 2 ^ 13 * 2 ^ 48 + b2n (t.header.length > 32) * 2 ^ 61) ++
  leBytes 8 ((if t.kind.composed then t.epoch % 2 ^ 32 else 0) + seq % 2 ^ 24 * 2 ^ 32 + min t.header.length 32 * 2 ^ 56) ++
  leBytes 8 ((if t.kind.composed then t.addr else t.host) % 2 ^ 53) ++
  (t.header ++ List.replicate 32 0).take 32 ++ (t.data ++ List.replicate 32 0).take 32 ++ List.replicate 32 0

/-- A record placed in a session's ring, or discarded when the ring is full. -/
def State.mirrorWrite (s : State) (m : Nat) (t : Txn) : State :=
  let seq := ngetD s.sw.mirSeq m 0
  let s := { s with sw := { s.sw with mirSeq := nset m (seq + 1) s.sw.mirSeq } }
  let prod := s.g MIR_STATUS_PROD m
  let cons := s.g MIR_STATUS_CONS m
  let size := 2 ^ s.g MIR_DEST_RING_LOG2 m
  if (prod + 2 ^ 16 - cons) % 2 ^ 16 = size then s.inc MIR_STATUS_DROPPED m
  else
    let h := s.g MIR_DEST_HEARTH m
    let s := s.wr (spShared h) (s.g MIR_DEST_RING_BASE m * 64 + prod % size * 128) (s.mirrorRecord m t seq)
    let s := s.p MIR_STATUS_PROD ((prod + 1) % 2 ^ 16) m
    if prod = cons then s.setEvent (128 * h + 4 * s.g MIR_DEST_ENGINE m + s.g MIR_DEST_THREAD m) 1 else s

/-- Whether a request matches a session's filter. -/
def State.mirrorMatch (s : State) (m : Nat) (t : Txn) : Bool :=
  s.on MIR_CFG_EN m && (s.on MIR_MATCH_SRC_ANY m || s.g MIR_MATCH_SRC m == t.src) &&
  (s.on MIR_MATCH_INST_ANY m || s.g MIR_MATCH_INST m == t.inst) &&
  (s.on MIR_MATCH_CLASS_ANY m || s.g MIR_MATCH_CLASS m == t.cls)

/-- One in N of the matching requests is copied; with JITTER the reload value is a free value from N/2 to 3N/2 − 1 (log 1). -/
def State.mirror (s : State) (t : Txn) : State :=
  (List.range 16).foldl (fun s m =>
    if !(s.mirrorMatch m t) then s else
    let n := s.g MIR_CFG_N m
    let left := ngetD s.sw.mirCount m n
    if left > 1 then { s with sw := { s.sw with mirCount := nset m (left - 1) s.sw.mirCount } }
    else
      let s := s.mirrorWrite m t
      if s.on MIR_CFG_JITTER m then
        let f := s.fresh
        { f.2 with sw := { f.2.sw with mirCount := nset m (n / 2 + f.1.toNat % n) f.2.sw.mirCount } }
      else { s with sw := { s.sw with mirCount := nset m n s.sw.mirCount } }) s

/-! ## Admitting a request -/

/-- What became of a request: held back at a bound and not accepted, refused with RETRY (R104), answered at once with a status,
or in flight under a number. -/
inductive Taken
  | held
  | retry
  | answered (status : Nat)
  | inFlight (id : Nat)
deriving DecidableEq, Repr

/-- The meter of a request (R100, Table 6-1). -/
def meterOf (t : Txn) : Nat :=
  4 * (t.inst % 4096) + (if t.src ≥ 128 then 3 else match t.kind with
    | .ioRead | .ioNp | .ioPosted => 2
    | .pbr => if bit t.mask 0 then 0 else 1
    | k => if k.writes then 1 else 0)

/-- Whether two units wait in one queue: a penalty list is an instance's and a master's (R105), a fence a flow's (R87), and each link to a device has its
own. -/
def Txn.sameQueue (a b : Txn) : Bool :=
  a.place == b.place && (match a.place with
    | .penalty => a.inst == b.inst && a.src == b.src && a.dev == b.dev
    | .fenced => sameFlow a b
    | .stack _ => a.path / 16 == b.path / 16
    | _ => true)

/-- The payload cells ahead of a unit in its queue, or all of the queue. -/
def State.cellsAhead (s : State) (t : Txn) (before : Option Nat) : Nat :=
  (s.sw.txns.filter (fun e => e.2.sameQueue t && (match before with | some q => decide (e.2.qseq < q) | none => true))).foldl (fun n e => n + e.2.cells) 0

/-- The cells of the HBM overflow region (R89). -/
abbrev ovfRegion : Nat := 67108864

/-- The cells of a request that would spill to HBM (R89): with spilling on and the die below its threshold, all but what the four
oldest payload cells of its queue leave room for, as far as the region has room. -/
def State.spillOf (s : State) (t : Txn) : Nat :=
  if s.on SW_CFG_OVF_EN && s.hbmUp && s.freeShared t.die < s.g SW_OVF_CFG_SPILL_THR_U * 256 && !(t.kind == .ioCpl)
  then min (t.cells - (4 - min (s.cellsAhead t none) 4)) (ovfRegion - s.ovfCells) else 0

/-- Whether a unit has a byte in a frame of a link that the far end has not acknowledged, or bytes left to send there (R324). -/
def State.onWire (s : State) (l id : Nat) : Bool :=
  (s.link l).replay.any (fun f => f.reqs.contains id) || (s.link l).part.any (fun p => p.2.req == some id)

/-- Whether a unit is on its way over its path: in a queue, or on a link and not delivered (R87). -/
def State.underWay (s : State) (id : Nat) (t : Txn) : Bool :=
  match t.place with
  | .penalty | .fenced => false
  | .remote l _ => s.onWire l id
  | p => p.waits

/-- Whether an earlier unit of a flow is on its way over another path, or waits behind a fence (R87). -/
def State.fencedBy (s : State) (t : Txn) : Bool :=
  s.sw.txns.any (fun e => sameFlow e.2 t && (e.2.place == .fenced || (s.underWay e.1 e.2 && e.2.path != t.path)))

/-- A unit with its tracker entry: a write that was accepted while none was free takes it as it goes on, and a hearth's write-back that found no free cell
its cell (R88, R92, R128). -/
def State.entryFor (s : State) (t : Txn) : Option Txn :=
  if t.slice.isSome || !t.kind.composed then some t
  else if s.trkRoom (homeSlice t.addr) t.src (t.kind == .wb) && (t.cells != 0 || decide (1 ≤ s.freeFor t.die t.cls)) then
    some { t with slice := some (homeSlice t.addr), cells := max t.cells 1 }
  else none

/-- A unit sent on towards its destination, or held behind the fence of its flow or for a tracker entry. -/
def State.route (s : State) (id : Nat) (t : Txn) : State :=
  let t := { t with path := s.pathOf t }
  match s.entryFor t with
  | some x => if s.fencedBy t then s.requeue id t .fenced else s.requeue id x (s.destOf t)
  | none => s.requeue id t .fenced

/-- Whether a write has not reached the place at its home where a WB may act beside it: it waits, crosses a link, or has not entered its line's list
(R128). -/
def State.onTheWay (s : State) (id : Nat) (t : Txn) : Bool :=
  match t.place with
  | .remote _ _ => true
  | .home => (s.req id).isNone
  | p => p.waits

/-- A WB of a host that has an entry, cells and a path of its own, and that no earlier write of its line holds: it is passed to the home at once (R87, R88,
R92, R128). -/
def State.wbPasses (s : State) (t : Txn) : Bool :=
  t.kind == .wb && t.slice.all (fun sl => s.trkRoom sl t.src true) && decide (t.cells ≤ s.freeFor t.die t.cls) && !(s.fencedBy t) &&
  !(s.sw.txns.any (fun e => e.2.src == t.src && e.2.dev == t.dev && e.2.kind.composed && e.2.kind.writes && e.2.addr / 64 == t.addr / 64 &&
    s.onTheWay e.1 e.2))

/-- A request that meets a full penalty list waits at its port, whose credit is withheld until the depth falls (R107). -/
def State.penHold (s : State) (t : Txn) : State :=
  if t.src < 128 && !((s.port t.src).penWait.contains t.inst) then s.portMod t.src (fun x => { x with penWait := t.inst :: x.penWait }) else s

/-- The cells a held request waits for on its die, and none once one is taken (R93). -/
def State.cellHold (s : State) (die n : Nat) : State := { s with sw := { s.sw with cellHeld := if n = 0 then nerase die s.sw.cellHeld else nset die n s.sw.cellHeld } }

/-- A request as it comes to be taken: class, die, cells, meter, age limit, tracker slice, epoch and path (R78, R85, R92, R94, R100). -/
def State.arriving (s : State) (t : Txn) : Txn :=
  let t := { t with cls := t.kind.cls, die := dieOf t.src, cells := (t.data.length + 255) / 256, meter := some (meterOf t), tAcc := s.now, tQueue := s.now,
                    epoch := s.curEpoch, ageUs := if t.kind.cls = 0 then s.g SW_AGE_CFG_AGE_MREQ_US else s.g SW_AGE_CFG_AGE_IO_US,
                    slice := if t.kind == ReqKind.ioPosted then none else some (if t.kind.composed then homeSlice t.addr else dieOf t.src) }
  { t with path := s.pathOf t }

/-- The events and mirror samples of a request that is taken (R98, R402). -/
def State.takenIn (s : State) (t : Txn) : State :=
  ((s.mirror t).event (bankOf t.src) 0x002 1 (some t.inst)).event (bankOf t.src) 0x006 ((t.data.length + 63) / 64) (some t.inst)

/-- A write of a host: its port accepts it into ingress cells also while its tracker share is full, and it waits there for an entry (R128). -/
def Txn.hostRwd (t : Txn) : Bool := decide (t.src < 128) && t.kind.composed && t.kind.writes

/-- A request is metered and taken: it is held while a joiner drains (Table 16-7, step 6), at a tracker share, a full penalty list or a cell pool,
refused with RETRY by a REFUSE meter, placed in its penalty list, or sent on its way; a WB passes at once (R92, R93, R100 to R107, R128). -/
def State.takeUnit (s : State) (t : Txn) : State × Taken :=
  let m := meterOf t
  let t := s.arriving t
  let behind := s.penList t.inst t.src != []
  let next := if s.fencedBy t then .fenced else s.destOf t
  let would := s.spillOf { t with place := if behind then .penalty else next }
  let r := s.handled m t.len t.inst would t.die
  let red := !behind && r.1 == 2
  let would := if red then s.spillOf { t with place := .penalty } else would
  let spill := if s.overQuota t.inst would then 0 else min would (s.g INST_OVF_OVF_QUOTA (t.inst % 4096) - s.ovfInst t.inst)
  let room := t.slice.all (fun sl => s.trkRoom sl t.src (t.kind == ReqKind.wb))
  if s.stk.copy.isSome then (s, .held)
  else if s.wbPasses t then
    let q := ((s.setBuckets m (s.colour m t.len).2).takenIn t).take { t with place := if t.hdev = s.dev then .home else .stack t.hdev }
    (q.1, .inFlight q.2)
  else if red && s.on MTR_CFG_RED_ACTION m then (s.inc MTR_STATUS_RED_CNT m, .retry)
  else if !room && !t.hostRwd then (s, .held)
  else if (behind || red) && s.penDepth t.inst ≥ s.g INST_MS_PEN_MAX (t.inst % 4096) then (s.penHold t, .held)
  else if t.cells - spill > s.freeFor t.die t.cls then (s.cellHold t.die (t.cells - spill), .held)
  else if t.src < 128 && (t.cls == 0 || t.cls == 4) && s.dieBound t.die then (s, .held)
  else
    let s := if red then s.inc MTR_STATUS_RED_CNT m else s
    let t := { t with spilled := spill, slice := if room then t.slice else none }
    let s := (if t.cells = 0 then s else s.cellHold t.die 0).takenIn t
    if behind || red then
      let q := s.take { t with place := .penalty }
      (q.1.penRefresh t.inst, .inFlight q.2)
    else
      let q := (s.setBuckets m r.2).take { t with place := if room then next else .fenced }
      (q.1, .inFlight q.2)

/-- Whether a port takes requests of a class from its partner: a lead that is ACTIVE, or in LOOP and trained, on a stream that is not Insecure, at a core
not below its pace floor (R20), with no full penalty list that holds one of its requests (R107), and below its bound, which holds no posted request back;
an UP_IO link carries CXL.io only (R46, R55, R56, R83, Tables 3-3, 3-5 and 5-5). -/
def State.ingressOpen (s : State) (c : Nat) (stream : Option Nat) (io posted : Bool) : Bool :=
  !(s.isFollower c) && (s.portState c == 0 || (s.portState c == 4 && !(s.port c).training)) && (io || !(s.ioOnly c)) &&
  (posted || decide (s.inOut c < s.portBound c)) && !(s.on AVS_STATUS_PACE_LOW) &&
  (s.port c).penWait.all (fun i => decide (s.penDepth i < s.g INST_MS_PEN_MAX (i % 4096))) &&
  !(stream.any (fun k => (s.port c).streams.contains (k, 2)))

/-- What becomes of a request once it was taken: held back at the port (R93), answered at once, or in flight. -/
def State.ingressTaken (s : State) (t : Txn) (q : State × Taken) : State :=
  match q.2 with
  | .answered st => q.1.portAnswer t st []
  | .inFlight _ | .held => q.1
  | .retry => s

/-- The fault of an access to an unbacked page or beyond its window (R66): host address in ADDR, DPA in AUX. -/
def State.unbacked (s : State) (t : Txn) (dpa : Nat) : State :=
  s.report { source := src 0x05 0, cls := NC, scope := scope 1 (t.inst % 4096), status := ST_NO_MATCH,
             addr := some (0, if t.src < 128 then t.host else t.addr), access := if t.kind.writes || t.store then 2 else 1,
             inst := some t.inst, core := t.src, dev := s.dev, aux := dpa }

/-- A composed request placed and admitted: unbacked pages are answered at once (R66, R78, R139), a request to another device
when this one is alone or the device has departed concludes with LINK_DOWN (R336). Such a request is sampled by the mirrors too (R98). -/
def State.admitComposed (s : State) (t : Txn) : State × Taken :=
  let dpa := t.addr - s.g IW_BASE_FPA_BASE (t.inst % 4096) * 2 ^ 30
  match s.resolve t.addr with
  | none => ((s.unbacked t dpa).mirror { t with tAcc := s.now, hdev := s.dev }, .answered (if t.kind.writes || t.store then ST_NO_MATCH else ST_POISON))
  | some l =>
    let t := { s.txnAt t l with epoch := s.curEpoch }
    if l.dev ≠ s.dev && (s.g STK_STATUS_STATE == 4 || s.on STK_PEER_DEPARTED l.dev) then (s.mirror { t with tAcc := s.now }, .answered ST_LINK_DOWN)
    else s.takeUnit t

/-- The state of an instance (Table 13-1). -/
def State.instState (s : State) (i : Nat) : Nat := s.g INST_STATUS_STATE i

/-- Whether an instance ID names an instance of this device that is in one of the states. -/
def State.instIn (s : State) (inst : Nat) (sts : List Nat) : Bool := inst / 4096 == s.dev && sts.contains (s.instState (inst % 4096))

/-- A request that is answered before it is placed is sampled by the mirrors too (R98). -/
def State.mirrorAtOnce (s : State) (t : Txn) : State := s.mirror { t with tAcc := s.now, hdev := s.dev }

/-- A hearth that asks for a line again: its notice that it dropped the line, still on its way, is overtaken and has no effect (R117, R120). -/
def State.noticeDrop (s : State) (t : Txn) : State :=
  if 0x80 ≤ t.src && t.src < 0x90 && (t.kind == .rdS || t.kind == .rdA) then
    { s with hm := { s.hm with notices := s.hm.notices.filter (· != (t.src - 0x80, t.addr / 64)) } }
  else s

/-- A fabric request of an internal master, after its gate: the refusals of R280 and R283, then placement and metering. -/
def State.admitInternal (s : State) (t : Txn) : State × Taken :=
  if s.instIn t.inst [4, 5] then (s.mirrorAtOnce t, .answered ST_ACCESS_DENIED)
  else if s.instIn t.inst [3] then (s.mirrorAtOnce t, .answered ST_FROZEN)
  else match s.admitComposed t with
    | (s, .inFlight id) => (s.noticeDrop t, .inFlight id)
    | q => q

/-! ## The commands -/

/-- The spilled cells of a unit that come back on die now (R89): all that there is room for once free shared cells exceed twice the threshold, and
before that those that its queue must have on die, which for the unit at the head are all. -/
def State.readback (s : State) (t : Txn) : Nat :=
  let free := s.freeFor t.die t.cls
  let ahead := s.cellsAhead t (some t.qseq)
  let must := if s.sw.txns.all (fun e => !(e.2.sameQueue t) || t.qseq ≤ e.2.qseq) then t.spilled else min t.cells (4 - min ahead 4) - (t.cells - t.spilled)
  min (if s.freeShared t.die > 2 * (s.g SW_OVF_CFG_SPILL_THR_U * 256) then t.spilled else must) free

/-- SPILL_READBACK (R89): a unit's spilled cells are read back on die, where the rules of spilling and the free cells allow. -/
def execSpillReadback (id : Nat) (s : State) : Out :=
  whenUp s fun s =>
    match s.txn id with
    | some t => if t.place.waits && s.hbmUp then s.txnSet id { t with spilled := t.spilled - s.readback t } else s
    | none => s

/-- Line rate of a port in thousandths of a byte per ns: its trained rate times its trained lanes (Table 3-3). -/
def State.lineRate (s : State) (c : Nat) : Nat :=
  let r := [25, 50, 80, 160, 320, 640, 1280].getD (s.g PC_LINK_STATUS_RATE c) 0
  s.g PC_LINK_STATUS_WIDTH_TRAINED c * r * 25 / 2

/-- Whether a unit may leave its port now: its cells are on die (R89), its link carries it (Table 3-3), its stream is not Insecure (R55), the port is
below its bound where the unit expects an answer (R56), and no earlier unit must leave first (R86). -/
def State.mayLeave (s : State) (c id : Nat) (t : Txn) : Bool :=
  t.spilled == 0 && (t.cls != 0 || !(s.ioOnly c)) && (!t.nonPosted || decide (s.outOut c < s.portBound c)) && !(s.streamShut c) && !(s.mustFollow id t)

/-- The unit an egress queue sends next: the first that may leave, so that no class waits for one it may not wait for (R83). DESIGN CHOICE (log 125): the
pseudocode of R109 sends the head, and says nothing of a head that may not leave. -/
def State.nextFor (s : State) (c q : Nat) : Option (Nat × Txn) :=
  (s.sw.txns.filter (fun e => e.2.place == .egress c q && s.mayLeave c e.1 e.2)).foldl (fun b e =>
    match b with
    | none => some e
    | some x => if e.2.qseq < x.2.qseq then some e else b) none

/-- Whether the round robin can serve a queue: it is eligible, and a unit of it may leave. -/
def State.servable (s : State) (c q : Nat) : Bool := s.eligible c q && (s.nextFor c q).isSome

/-- The remaining weight of a queue. -/
def State.wrrLeft (s : State) (c q : Nat) : Nat := ngetD s.sw.wrrLeft (16 * c + q) (s.g EQ_WRR_WEIGHT c q)

/-- One request of a queue sent: its weight is used; and a visit of the round robin to a queue, with the requests it may still send. -/
def State.wrrUse (s : State) (c q : Nat) : State := { s with sw := { s.sw with wrrLeft := nset (16 * c + q) (s.wrrLeft c q - 1) s.sw.wrrLeft } }
def State.wrrVisit (s : State) (c q burst : Nat) : State :=
  { s with sw := { s.sw with wrrLast := nset c q s.sw.wrrLast, wrrBurst := nset c burst s.sw.wrrBurst } }

/-- The weights of a port's queues are reloaded once no eligible queue has weight left (R109). -/
def State.wrrReload (s : State) (c : Nat) : State :=
  if (List.range 16).any (fun q => s.eligible c q && decide (0 < s.wrrLeft c q)) then s
  else { s with sw := { s.sw with wrrLeft := (List.range 16).foldl (fun m q => nset (16 * c + q) (s.g EQ_WRR_WEIGHT c q) m) s.sw.wrrLeft } }

/-- The queue the round robin of a port serves now, with the state of the round robin after it (R109). DESIGN CHOICE (log 125): while no unit of the queue
it visits may leave, the visit stays open and the next queue that has one sends it, for its weight as far as it has any. -/
def State.wrrPick (s : State) (c : Nat) : Option (Nat × State) :=
  let last := ngetD s.sw.wrrLast c 15
  let b := ngetD s.sw.wrrBurst c 0
  let order := (List.range 16).map (fun k => (last + 1 + k) % 16)
  let visiting : Bool := b > 0 && s.wrrLeft c last > 0 && s.eligible c last
  let s := if visiting then s else s.wrrReload c
  let ready (q : Nat) : Bool := s.servable c q && decide (0 < s.wrrLeft c q)
  let past := ((order.find? ready) <|> order.find? (fun q => s.servable c q)).map (fun q => (q, s.wrrUse c q))
  if visiting then (if s.servable c last then some (last, (s.wrrUse c last).wrrVisit c last (b - 1)) else past)
  else match order.find? ready with
    | some q => some (q, (s.wrrUse c q).wrrVisit c q (s.g EQ_WRR_BURST c q - 1))
    | none => past

/-- The high-water marks of a departure to an egress port (R110): the instance's from acceptance, the queue's from its entry. DESIGN CHOICE (log 126): the
mark of another device's instance is not kept here. -/
def State.latencyMarks (s : State) (t : Txn) (c q : Nat) : State :=
  let acc := match t.parent with | some p => (match s.txn p with | some x => x.tAcc | none => t.tAcc) | none => t.tAcc
  let mark (s : State) (h o : Fld) (v i j : Nat) : State :=
    let s := s.hwm h v i j
    if v > s.g MS_CFG_LAT_THR_NS then s.inc o i j else s
  let s := if t.inst / 4096 = s.dev then mark s INST_LAT_HWM_NS INST_LAT_OVER_THR (s.now - acc) (t.inst % 4096) 0 else s
  mark s EQ_LAT_HWM_NS EQ_LAT_OVER_THR (s.now - t.tQueue) c q

/-- A unit leaves its port: a request to the partner, or a PBR flit (R77, R86, R96). -/
def State.leaves (s : State) (c q id : Nat) (t : Txn) : State :=
  let s := s.latencyMarks t c q
  let s := { s with sw := { s.sw with sending := nset (16 * c + q) (ngetD s.sw.sending (16 * c + q) 0 + max t.data.length 64 * 1000) s.sw.sending } }
  let s := (s.event c 0x003 1 (some t.inst)).event c 0x007 ((t.data.length + 63) / 64) (some t.inst)
  match t.kind with
  | .ioPosted => ((s.txnDel id).toPort c (.unitOut c id t.kind t.host t.data t.poison)).cplGo c
  | k =>
    let s := if k = .pbr then s.toPort c (.pbrOut s.dev c false t.data)
      else s.toPort c (.unitOut c id k (if k = .modRead || k = .modWrite then t.dpa else t.host) t.data t.poison)
    let s := s.txnSet id { t with place := .sent c, outStream := s.outStreamOf c }
    s.hwm PC_TAG_STATUS_OUT_HWM (s.outOut c) c

/-- EGRESS_DEPARTURE (R96, R109): the round robin of an ACTIVE or looped port sends a unit of a queue, or the oldest unit
of a home slice's queue departs to it. A head whose cells are still spilled waits for them (R89). -/
def execEgressDeparture (d : Departure) (s : State) : Out :=
  whenUp s fun s =>
    match d with
    | .slice sl =>
      match s.headOf (fun t => t.place == .toHome sl) with
      | some (id, t) => if t.spilled = 0 then s.txnSet id { t with place := .home } else s
      | none => s
    | .port c =>
      if s.isFollower c || !(s.portState c == 0 || (s.portState c == 4 && !(s.port c).training)) then s
      else match s.wrrPick c with
        | none => s
        | some (q, s') =>
          match s.nextFor c q with
          | none => s
          | some (id, t) => (s'.leaves c q id t).closeVisits

/-- AGE_EXPIRY (R94, R95): a unit that has not departed is removed, answered AGED and recorded; module accesses are never aged. -/
def execAgeExpiry (id : Nat) (s : State) : Out :=
  whenUp s fun s =>
    match s.txn id with
    | none => s
    | some t =>
      if !t.place.waits || t.kind = .modRead || t.kind = .modWrite || t.kind = .ioCpl || t.kind = .far then s
      else
        let dest := s.destCore t
        let s := if t.cls = 0 then s.inc SW_AGE_STATUS_AGED_MREQ else s.inc SW_AGE_STATUS_AGED_IO
        let s := s.report { source := src 0x04 8, cls := NC, scope := scope 1 (t.inst % 4096), status := ST_AGED,
                            addr := some (0, if t.kind.composed then t.addr else t.host), access := if t.kind.writes then 2 else 1,
                            inst := some t.inst, core := t.src, dev := s.dev, header := t.header,
                            aux := t.ageUs % 2 ^ 20 + t.cls * 2 ^ 20 + dest * 2 ^ 32,
                            causes := if dest < 128 then s.causesNow [downCond dest, clkCond (dest / 4)] else [] }
        s.conclude id ST_AGED []

/-- The tick period in ns (Table 2-x, TICK_SEL). -/
def State.tickPeriod (s : State) : Nat := 16 * 2 ^ s.g TB_CFG_TICK_SEL

/-- The credit of one egress queue over a tick (R108), in thousandths of a byte. -/
def State.shapeQueue (s : State) (k : Nat) : State :=
  let c := k / 16
  let q := k % 16
  let dt := s.tickPeriod
  let rate : Int := s.shpRate c q
  let cr := ngetD s.sw.credit k 0
  let maxC : Int := s.g EQ_SHP_MAX_CREDIT_U c q * 256000
  let busy := ngetD s.sw.sending k 0
  let cr' := if busy > 0 then min (cr - ((s.lineRate c : Int) - rate) * dt) maxC
    else if s.egDepthQ c q > 0 then min (cr + rate * dt) maxC
    else min (cr + rate * dt) 0
  { s with sw := { s.sw with credit := nput 0 k cr' s.sw.credit, sending := nput 0 k (busy - s.lineRate c * dt) s.sw.sending } }

/-- SHAPER_TICK (R101, R108, R111): rates written since the last tick hold from this one on, and the credit of every egress queue that holds work, sends or
has credit follows; others keep a credit of 0. -/
def execShaperTick (s : State) : Out :=
  whenUp s fun s =>
    let s := { s with sw := { s.sw with tickNs := s.sw.tickNs + s.tickPeriod, shpOld := [] } }
    let work := s.sw.txns.filterMap (fun e => match e.2.place with | .egress c q => some (16 * c + q) | _ => none)
    let ks := (s.sw.credit.map (·.1) ++ s.sw.sending.map (·.1) ++ work).dedup
    (ks.foldl (fun s k => s.shapeQueue k) s).closeVisits

/-- PATH_FENCE_LIFT (R87): once no earlier unit of the flow is on another path, its fenced units go on, in order. -/
def execPathFenceLift (id : Nat) (s : State) : Out :=
  whenUp s fun s =>
    match s.txn id with
    | none => s
    | some t =>
      if t.place ≠ .fenced then s
      else
        let path := s.pathOf t
        if s.sw.txns.any (fun e => sameFlow e.2 t && s.underWay e.1 e.2 && e.2.path != path) then s
        else
          let held := (s.sw.txns.filter (fun e => e.2.place == .fenced && sameFlow e.2 t)).mergeSort (fun a b => a.2.qseq ≤ b.2.qseq)
          (held.foldl (fun (q : State × Bool) e =>
            match (if q.2 then none else q.1.entryFor e.2) with
            | some x => (q.1.requeue e.1 { x with path := path } (q.1.destOf x), false)
            | none => (q.1, true)) (s, false)).1

/-- An answer to a request sent to the partner of a port (R43, R60, R74): it concludes the request; one that comes after a drain timeout is late, and one
after an unbind is discarded and counted. In a loop the answer is one that the other end has given (R63). -/
def State.answerIn (s : State) (c id : Nat) (data : List Byte) (poison : Bool) : State :=
  match s.txn id with
  | some t =>
    if t.place = .sent c && t.kind ≠ .modRead && t.kind ≠ .modWrite && t.kind ≠ .pbr then
      match s.loopTake c id with
      | none => s
      | some (s, got) =>
        let data := match got with | some x => x.2 | none => data
        let st := match got with | some x => (if x.1 = 0 then ST_OK else ST_POISON) | none => if poison then ST_POISON else ST_OK
        let s := (s.event c 0x004 1 (some t.inst)).event c 0x006 ((data.length + 63) / 64) (some t.inst)
        s.conclude id st data
    else s
  | none =>
    if (s.port c).late.contains id then (s.portMod c (fun x => { x with late := x.late.erase id })).portLate c 8
    else if (s.port c).gone.contains id then s.portMod c (fun x => { x with gone := x.gone.erase id, discarded := x.discarded + 1 })
    else s

/-- A flit that a port receives: from its partner; or at an end of a loop, one that the other end put on the internal link, which it is taken off (R63). -/
def State.loopTakes (s : State) (c : Nat) (fits : Nat → Msg → Bool) : Option State :=
  match s.loopPeer c with
  | none => some s
  | some p => (s.sw.loop.find? (fits p)).map (fun m => { s with sw := { s.sw with loop := s.sw.loop.erase m } })

/-- RESPONSE_INGRESS (R83, R84, R86): an answer concludes the request it answers; another unit is carried to its port at once, but a completion waits
behind earlier posted requests of its flow, in cells of its reserve (R88); at a port that is DOWN a unit is discarded. From a link that carries CXL.io
alone comes no unit of CXL.mem (Table 3-3), and nothing on an Insecure link stream (R55). -/
def execResponseIngress (c : PortId) (u : RspUnit) (s : State) : Out :=
  whenUp s fun s =>
    match u with
    | .answer id data poison => s.answerIn c id data poison
    | .carry dest inst cls ro data =>
      if !(cls == 1 || cls == 2 || cls == 5) || s.portState c == 3 || (s.ioOnly c && cls != 5) || s.streamShut c then s
      else match s.loopTakes c (fun p m => match m with | .carried x k d => x == p && k == cls.val && d == data | _ => false) with
        | none => s
        | some s =>
          let t : Txn := { src := c, tag := 0, dev := s.dev, inst := s.dev * 4096 + inst, cls := cls, kind := if cls = 5 then .ioCpl else .ptRead, addr := 0,
                           mod := 16 * dest.val, len := data.length, data := data, hdev := s.dev, ro := ro, tAcc := s.now, tQueue := s.now,
                           cells := (data.length + 255) / 256, die := dieOf c, place := .cpl dest }
          let t := { t with path := s.pathOf t }
          let s' := (if cls = 1 then s.mirror t else s).event c 0x004 1 none
          if cls != 5 || [1, 2, 3].contains (s.portState dest) || !(s.mustFollow s.sw.nextId t) then
            (if s.portState dest == 3 then s' else s'.event dest 0x005 1 none).carryTo dest cls data
          else if t.cells ≤ s.freeFor t.die 5 then (s'.take t).1
          else s

/-! ## Port-based routing (R76, R77) -/

/-- The HOST or MODULE edge port of this device that holds a fabric port ID (R76, R77). -/
def State.pbrPort (s : State) (id : Nat) : Option Nat :=
  if id = 0xFFF then none else (List.range 128).find? (fun c => s.edgePort c && s.g PC_ROLE_CFG_PBR_ID c == id)

/-- The way of a PBR flit: its device and port there, and the port it leaves through where that one is down. -/
structure PbrWay where
  dev : Nat
  egress : Nat
  alt : Option Nat
deriving DecidableEq, Repr

/-- The way to a fabric port ID (R77): an edge port of the stack is delivered to, any other ID is looked up in PBR_ROUTE. -/
def State.pbrWay (s : State) (id : Nat) : Option PbrWay :=
  match s.pbrPort id with
  | some e => some ⟨s.dev, e, none⟩
  | none =>
    match s.peerPorts.find? (fun x => x.1 == id && (s.peer (x.2 / 128)).edgePort (x.2 % 128)) with
    | some x => some ⟨x.2 / 128, x.2 % 128, none⟩
    | none =>
      if id < 4095 && s.on PBR_ROUTE_VALID id then
        some ⟨s.g PBR_ROUTE_DEV id, s.g PBR_ROUTE_EGRESS id, if s.on PBR_ROUTE_ALT_VALID id then some (s.g PBR_ROUTE_ALT_EGRESS id) else none⟩
      else none

/-- A way as a unit's mask holds it, whether the flit is a read, and the port of this device it then leaves through: ALT_EGRESS where EGRESS is down.
DESIGN CHOICE (log 106): with ALT_VALID 0 the flit still goes to EGRESS, where it waits. -/
def PbrWay.mask (w : PbrWay) (read : Bool) : Nat := b2n read + 2 * w.egress + 2 ^ 8 * (match w.alt with | some a => 1 + 2 * a | none => 0)
def State.pbrOut (s : State) (mask : Nat) : Nat :=
  let e := bits mask 1 7
  if s.portState e == 3 && bit mask 8 then bits mask 9 7 else e

/-- The instance a PBR request is counted in, and the request as a unit (R56, R77). -/
def State.pbrTxn (s : State) (c : Nat) (id inst tag : Nat) (read : Bool) (data : List Byte) (w : PbrWay) : Txn :=
  { src := c, tag := tag, dev := s.dev, inst := s.dev * 4096 + inst, cls := 0, kind := .pbr, addr := 0, host := id, mod := 16 * s.pbrOut (w.mask read),
    len := max 64 data.length, data := data, mask := w.mask read, hdev := w.dev, place := .home, stream := s.outStreamOf c, priv := 2 }

/-- A PBR request is taken as any request of its port: metered, queued and counted there and at the port it leaves through (R56, R100). -/
def State.pbrRequest (s : State) (t : Txn) : State :=
  if t.hdev ≠ s.dev && (s.g STK_STATUS_STATE == 4 || s.on STK_PEER_DEPARTED t.hdev) then (s.mirrorAtOnce t).portAnswer t ST_LINK_DOWN []
  else s.ingressTaken t (s.takeUnit t)

/-- A PBR response: it concludes the request it answers, which it reaches on the way back; one after the drain timeout is late (R43, R60); one that answers
no request goes on to its port. -/
def State.pbrResponse (s : State) (c tag : Nat) (data : List Byte) (w : PbrWay) : State :=
  let mine (t : Txn) : Bool := t.kind == .pbr && t.place == .sent c && t.tag == tag && t.dev == w.dev && (t.src == w.egress || w.alt == some t.src)
  match s.sw.txns.find? (fun e => mine e.2) with
  | some e => ((s.event c 0x004 1 (some e.2.inst)).event c 0x006 ((data.length + 63) / 64) (some e.2.inst)).conclude e.1 ST_OK data
  | none =>
    if w.dev ≠ s.dev then s.stackPush { kind := 0, code := 12, cls := 2, src := c, sdev := s.dev, ddev := w.dev, mask := w.mask false, data := data }
    else
      let e := s.pbrOut (w.mask false)
      if s.portState e == 3 then s.portMod e (fun x => { x with discarded := x.discarded + 1 }) else s.toPort e (.pbrOut s.dev e true data)

/-- PBR_FLIT_ARRIVAL (R77): to an edge port of the stack, through the route of its destination, or answered and recorded. A request meets what every
request of its port meets (Tables 3-3, 3-5, 5-5). -/
def execPbrFlitArrival (c : PortId) (dest : Fin 4096) (u : PbrUnit) (s : State) : Out :=
  whenUp s fun s =>
    let id := dest.val
    match u with
    | .request inst read tag data =>
      if !(s.ingressOpen c (s.outStreamOf c) false false) then s
      else match s.loopTakes c (fun p m => m == .pbrOut s.dev p false data) with
        | none => s
        | some s =>
          match s.pbrWay id with
          | some w => s.pbrRequest (s.pbrTxn c id inst tag read data w)
          | none =>
            ((s.mirrorAtOnce (s.pbrTxn c id inst tag read data ⟨s.dev, c, none⟩)).report
              { source := src 0x05 2, cls := NC, scope := scope 1 inst, status := ST_NO_MATCH, core := c, inst := some (s.dev * 4096 + inst), dev := s.dev,
                aux := id }).toPort c (.hostAnswer c tag 1 [])
    | .response tag data =>
      if s.isFollower c || s.portState c == 3 || s.ioOnly c || s.streamShut c then s
      else match s.loopTakes c (fun p m => m == .pbrOut s.dev p true data) with
        | none => s
        | some s =>
          if (s.port c).latePbr.contains tag then (s.portMod c (fun x => { x with latePbr := x.latePbr.erase tag })).portLate c 8
          else match s.pbrWay id with
            | some w => s.pbrResponse c tag data w
            | none =>
              (s.inc PBR_STATUS_UNROUTED).report { source := src 0x05 2, cls := CE, scope := scope 2 (s.lead c), core := c, dev := s.dev, aux := id }

/-! ## Units for another device (R321) -/

/-- The code of a request kind on the wire (log 31). -/
def kindCode : ReqKind → Nat
  | .rdS => 0 | .rdA => 1 | .rdCur => 2 | .wr => 3 | .wrPtl => 4 | .pbr => 9 | _ => 5
def kindOf (n : Nat) : ReqKind :=
  match n with
  | 0 => .rdS | 1 => .rdA | 2 => .rdCur | 3 => .wr | 4 => .wrPtl | 9 => .pbr | _ => .wb

/-- The unit a request is as it crosses, under a number its sender knows it by: with the location it was decoded to, its epoch, its acceptance and its
level (R78, R110, R176). -/
def State.unitOfTxn (s : State) (t : Txn) (tag : Nat) : StackUnit :=
  { kind := 0, code := if t.kind = .far then t.dpa else kindCode t.kind, cls := t.cls, src := t.src, sdev := t.dev, ddev := t.hdev, inst := t.inst,
    poison := t.poison, flag := t.keepS, tracked := t.kind != .far && (s.holderOf t).isSome, addr := if t.kind = .pbr then t.host else t.addr, tag := tag,
    epoch := t.epoch, mask := t.mask, loc := t.set % 2 ^ 10 + t.so * 2 ^ 10, tAcc := t.tAcc, priv := t.priv, data := t.data }

/-- BUFFER_ECC_ERROR (R91): corrected, or the payload carried poisoned, or a unit whose header is lost answered at its source. -/
def execBufferEccError (id : Nat) (e : BufferError) (s : State) : Out :=
  whenUp s fun s =>
    match s.txn id with
    | none => s
    | some t =>
      let nc (s : State) (f : Fld) : State := (s.setF f).report
        { source := src 0x04 f.lsb, cls := NC, scope := scope 1 (t.inst % 4096), status := if t.src ≥ 128 && e = .header then ST_INTERNAL else ST_POISON,
          addr := some (0, t.addr), access := if t.kind.writes then 2 else 1, inst := some t.inst,
          core := t.src, dev := s.dev }
      match e with
      | .spillCe => if t.spilled = 0 then s else (s.setF SW_ERR_STATUS_OVF_CE).fault (src 0x04 0) CE 0
      | .spillUe => if t.spilled = 0 then s else (nc s SW_ERR_STATUS_OVF_UE).txnSet id { t with poison := true }
      | .cell => if t.cells = t.spilled then s else (nc s SW_ERR_STATUS_CELL_UE).txnSet id { t with poison := true }
      | .header => (nc s SW_ERR_STATUS_HDR_UE).conclude id (if t.src < 128 then ST_POISON else ST_INTERNAL) []

end Sys2Proof.Machine
end

