-- ==== Sys2Proof/Machine/Jobs.lean ====
section
/-! DEFINITION. Address words (Table 11-1), and the reads and writes that flues, queues, Hjelvon and instance commands make in parts:
one request for each line of fabric memory, and on-die memory at once. -/

namespace Sys2Proof.Machine

/-- The parts of `len` bytes at `a` that lie in one 64-byte line. -/
def lineParts (a len : Nat) : List (Nat × Nat) :=
  if len = 0 then [] else
  (List.range ((a + len - 1) / 64 - a / 64 + 1)).map (fun k =>
    let lo := max a ((a / 64 + k) * 64)
    let hi := min (a + len) ((a / 64 + k + 1) * 64)
    (lo, hi - lo))

/-- Bytes of a line replaced from an offset. -/
def spliceBytes (line : List Byte) (off : Nat) (bs : List Byte) : List Byte := line.take off ++ bs ++ line.drop (off + bs.length)

/-- An answer taken by the master it waits for. -/
def State.takeAnswer (s : State) (id : Nat) : Option (IntAnswer × State) :=
  (nget? id s.sw.answers).map (fun a => (a, { s with sw := { s.sw with answers := nerase id s.sw.answers } }))

/-- A unit that nobody waits for any more: its answer is dropped. -/
def State.forget (s : State) (id : Nat) : State :=
  match s.txn id with
  | some t => s.txnSet id { t with dropped := true }
  | none => { s with sw := { s.sw with answers := nerase id s.sw.answers } }

/-- A request of an internal master: its bytes lie in the line from its address on. -/
def State.reqTxn (s : State) (core tag inst : Nat) (kind : ReqKind) (a : Nat) (bs : List Byte) : Txn :=
  let off := a % 64
  { src := core, tag := tag, dev := s.dev, inst := inst, cls := 0, kind := kind, addr := a / 64 * 64, len := if bs = [] then 64 else bs.length,
    data := if bs = [] then [] else spliceBytes (List.replicate 64 0) off bs, mask := (2 ^ bs.length - 1) * 2 ^ off, place := .home }

/-! ## Address words (Table 11-1, R230) -/

/-- The space, hearth and address of an address word. -/
def awSpace (w : Nat) : Nat := bits w 53 2
def awHearth (w : Nat) : Nat := bits w 55 4
def awAddr (w : Nat) : Nat := w % 2 ^ 53

/-- The size of a space. -/
def awSize (w : Nat) : Nat := match awSpace w with | 0 => 2 ^ 53 | 1 => 0x200000000 | _ => 0x800000

/-- Whether a master of a level may use an address word for `len` bytes; for none, the place it names lies in its space (R230). -/
def awOk (priv w len : Nat) : Bool :=
  w < 2 ^ 59 && awSpace w != 3 && (awSpace w == 2 || awHearth w == 0) && (awSpace w == 0 || decide (priv ≤ 1)) && decide (awAddr w + max 1 len ≤ awSize w)

/-- The byte space of an address word; none for fabric memory. -/
def awMem (w : Nat) : Option Nat := match awSpace w with | 0 => none | 1 => some spHbm | _ => some (spShared (awHearth w))

/-- The access of an address word, as a gate checks it. -/
def awAcc (w len kind level inst : Nat) : GateAcc :=
  { space := awSpace w, hearth := awHearth w, addr := awAddr w, len := len, kind := kind, level := level, inst := inst }

/-! ## Jobs -/

/-- The parts of a read of `len` bytes at an address word. -/
def readParts (w len : Nat) : List Part :=
  match awMem w with
  | some sp => if len = 0 then [] else [{ sp := some sp, addr := awAddr w, len := len }]
  | none => (lineParts (awAddr w) len).map (fun p => { sp := none, addr := p.1, len := p.2 })

/-- The parts of a write of bytes. -/
def writeParts (w : Nat) (bs : List Byte) : List Part :=
  match awMem w with
  | some sp => if bs = [] then [] else [{ sp := some sp, addr := awAddr w, len := bs.length, data := bs }]
  | none => (lineParts (awAddr w) bs.length).map (fun p => { sp := none, addr := p.1, len := p.2, data := (bs.drop (p.1 - awAddr w)).take p.2 })

def jobRead (w len : Nat) : Job := { parts := readParts w len }
def jobWrite (w : Nat) (bs : List Byte) : Job := { write := true, parts := writeParts w bs }

/-- Whether every part has ended, one is in flight, the first status other than OK, and the bytes read. -/
def Job.done (j : Job) : Bool := j.parts.all (fun p => p.fin)
def Job.flying (j : Job) : Bool := j.parts.any (fun p => p.txn.isSome)
def Job.status (j : Job) : Nat := ((j.parts.find? (fun p => p.status != ST_OK)).map (·.status)).getD ST_OK
def Job.bytes (j : Job) : List Byte := j.parts.flatMap (·.data)

/-- A job that has ended: every part has, or one has failed and none is in flight. -/
def Job.over (j : Job) : Bool := !j.flying && (j.done || j.status != ST_OK)

/-- Why a part was not issued: a RETRY of a meter, or a bound. -/
inductive Hold
  | none | retry | bound
deriving DecidableEq, Repr

/-- A part issued: on-die memory at once, a fabric line as one request of the master. -/
def State.partIssue (s : State) (core inst : Nat) (write : Bool) (p : Part) : State × Part × Hold :=
  match p.sp with
  | some sp =>
    if sp = spHbm && !s.hbmUp then (s, p, .bound)
    else if write then ((s.codeKeep sp p.addr p.data.length).wr sp p.addr p.data, { p with fin := true }, .none)
    else (s, { p with data := s.rd sp p.addr p.len, fin := true }, .none)
  | none =>
    let x := s.reqTxn core 0 inst (if !write then .rdCur else if p.len = 64 then .wr else .wrPtl) p.addr (if write then p.data else [])
    match s.admitInternal x with
    | (_, .held) => (s, p, .bound)
    | (s, .retry) => (s, p, .retry)
    | (s, .answered st) => (s, { p with fin := true, status := st }, .none)
    | (s, .inFlight id) => (s, { p with txn := some id }, .none)

/-- The parts of a job not yet issued are issued, in order, until one is held or one has failed. -/
def State.jobIssue (s : State) (core inst : Nat) (j : Job) : State × Job × Hold :=
  let q := j.parts.foldl (fun (q : State × List Part × Hold) p =>
    if p.fin || p.txn.isSome || q.2.2 != .none || q.2.1.any (fun x => x.status != ST_OK) then (q.1, q.2.1 ++ [p], q.2.2)
    else let r := q.1.partIssue core inst j.write p; (r.1, q.2.1 ++ [r.2.1], r.2.2)) (s, [], Hold.none)
  (q.1, { j with parts := q.2.1 }, q.2.2)

/-- The answers that have come are taken. -/
def State.jobTake (s : State) (j : Job) : State × Job :=
  let q := j.parts.foldl (fun (q : State × List Part) p =>
    match p.txn with
    | none => (q.1, q.2 ++ [p])
    | some id =>
      match q.1.takeAnswer id with
      | none => (q.1, q.2 ++ [p])
      | some (a, s) =>
        let d := if j.write then p.data else (a.data.drop (p.addr % 64)).take p.len
        (s, q.2 ++ [{ p with txn := none, fin := true, status := a.status, data := if a.status = ST_OK then d else p.data }])) (s, [])
  (q.1, { j with parts := q.2 })

/-- A job given up: answers of its units in flight are dropped. -/
def State.jobDrop (s : State) (j : Job) : State := j.parts.foldl (fun s p => match p.txn with | some id => s.forget id | none => s) s

end Sys2Proof.Machine
end

