-- ==== Sys2Proof/Machine/Flc.lean ====
section
/-! DEFINITION. The fabric line cache of a hearth (R207, R208, R120). -/

namespace Sys2Proof.Machine

/-- The key of a line in a hearth's cache. -/
def flcKey (h line : Nat) : Nat := h * 2 ^ 47 + line % 2 ^ 47

/-- The lines a hearth holds in the set of a line: FPA[16:6]. -/
def State.flcSet (s : State) (h line : Nat) : List (Nat × FlcLine) :=
  s.flc.filter (fun e => e.1 / 2 ^ 47 == h && e.1 % 2 ^ 11 == line % 2 ^ 11)

/-- A line in a hearth's cache. -/
def State.flcGet (s : State) (h line : Nat) : Option FlcLine := nget? (flcKey h line) s.flc
def State.flcPut (s : State) (h line : Nat) (x : FlcLine) : State := { s with flc := nset (flcKey h line) x s.flc }
def State.flcDel (s : State) (h line : Nat) : State := { s with flc := nerase (flcKey h line) s.flc }

/-- The place after every line of a set in the order of use. -/
def State.flcNext (s : State) (h line : Nat) : Nat := 1 + (s.flcSet h line).foldl (fun n e => max n e.2.rank) 0

/-- A line used now. -/
def State.flcTouch (s : State) (h line : Nat) : State :=
  match s.flcGet h line with
  | some x => s.flcPut h line { x with rank := s.flcNext h line }
  | none => s

/-- A modified line leaves as a WB to its home, or is lost with its page's backing (R66). With no tracker entry or no cell free it waits at ingress (R88,
R92). -/
def State.sendWb (s : State) (h line : Nat) (x : FlcLine) (poison : Bool) : State :=
  let t : Txn := { src := 0x80 + h, tag := 0, dev := s.dev, inst := x.inst, cls := 0, kind := .wb, addr := line * 64, len := 64, data := x.data,
                   mask := 2 ^ 64 - 1, poison := poison, epoch := s.curEpoch, tAcc := s.now, tQueue := s.now, ageUs := s.g SW_AGE_CFG_AGE_MREQ_US,
                   place := .home, cells := 1, die := dieOf (0x80 + h), slice := some (homeSlice (line * 64)) }
  match s.resolve (line * 64) with
  | none => s.unbacked t (line * 64 - s.g IW_BASE_FPA_BASE (x.inst % 4096) * 2 ^ 30)
  | some l =>
    let t := s.txnAt t l
    let t := { t with path := s.pathOf t }
    let room : Bool := s.trkRoom (homeSlice t.addr) t.src true && decide (1 ≤ s.freeFor t.die t.cls)
    let t := { t with slice := if room then t.slice else none, cells := b2n room }
    ((s.mirror t).take { t with place := if !room || s.fencedBy t then .fenced else s.destOf t }).1

/-- A hearth's notice that it drops a clean line, on its way to the line's home (R120). -/
def State.cleanNotice (s : State) (h line : Nat) : State := { s with hm := { s.hm with notices := s.hm.notices ++ [(h, line)] } }

/-- A way is replaced: a modified line leaves as a WB, a clean one with its notice (R120). -/
def State.flcEvict (s : State) (h line : Nat) (x : FlcLine) : State :=
  let s := (s.flcDel h line).inc HTH_STATUS_FLC_EVICTS h
  if x.dirty then s.sendWb h line x x.poison else s.cleanNotice h line

/-- A line placed in a cache, in place of the least recently used way of a full set. -/
def State.flcFill (s : State) (h line : Nat) (owned : Bool) (data : List Byte) (inst : Nat) : State :=
  let set := s.flcSet h line
  let s := if (s.flcGet h line).isSome || set.length < 8 then s
    else match set.foldl (fun b e => match b with | none => some e | some y => if e.2.rank < y.2.rank then some e else b) none with
      | some (k, x) => s.flcEvict h (k % 2 ^ 47) x
      | none => s
  s.flcPut h line { owned := owned, dirty := false, poison := false, rank := s.flcNext h line, inst := inst, data := data }

/-- A cached line written. -/
def State.flcWrite (s : State) (h a : Nat) (bs : List Byte) (inst : Nat) : State :=
  match s.flcGet h (a / 64) with
  | some x => (s.flcPut h (a / 64) { x with dirty := true, poison := x.poison && bs.length != 64, inst := inst, data := spliceBytes x.data (a % 64) bs }).flcTouch h (a / 64)
  | none => s

/-- What an access finds in the cache (R208): the line; nothing, so that it fetches; or a modified line lost to an uncorrected error,
so that it concludes with POISON. -/
inductive FlcHit
  | line (x : FlcLine)
  | miss
  | lost
deriving DecidableEq, Repr

/-- A lookup, with what the cache's check meets. -/
def State.flcLook (s : State) (h line : Nat) (e : FlcErr) : State × FlcHit :=
  match s.flcGet h line with
  | none => (s, .miss)
  | some x =>
    match e with
    | .none => (s, .line x)
    | .ce => (s.fault (src 0x09 1) CE (scope 9 h), .line x)
    | .ue =>
      let s := s.flcDel h line
      if !x.dirty then (s.cleanNotice h line, .miss)
      else ((s.sendWb h line x true).report { source := src 0x09 2, cls := NC, scope := scope 1 (x.inst % 4096), status := ST_POISON,
                                              addr := some (0, line * 64), inst := some x.inst, core := 0x80 + h, dev := s.dev }, .lost)

/-- Every modified line of a hearth's cache leaves as a WB, and the cache is invalidated (R205). -/
def State.flcFlush (s : State) (h : Nat) : State :=
  let mine := s.flc.filter (fun e => e.1 / 2 ^ 47 == h)
  let s := { s with flc := s.flc.filter (fun e => e.1 / 2 ^ 47 != h) }
  mine.foldl (fun s e => if e.2.dirty then s.sendWb h (e.1 % 2 ^ 47) e.2 e.2.poison else s.cleanNotice h (e.1 % 2 ^ 47)) s

end Sys2Proof.Machine
end

