-- ==== Sys2Proof/Machine/ThreadOps.lean ====
section
/-! DEFINITION. What every engine thread shares: general registers, traps and the return from them, the conclusion of an
instruction, and Chimney sampling (R167, R168, R212 to R215, R412, R413). -/

namespace Sys2Proof.Machine

/-! ## Registers of a thread -/

/-- A general register; g0 reads 0 (R167). -/
def Thread.gr (x : Thread) (r : Nat) : Nat := if r = 0 then 0 else ngetD x.gpr r 0

/-- A general register written, cut to 64 bits; a write of g0 is discarded (R167). -/
def Thread.grSet (x : Thread) (r v : Nat) : Thread := if r = 0 then x else { x with gpr := nput 0 r (v % 2 ^ 64) x.gpr }

/-- A general register of a thread. -/
def State.gr (s : State) (t r : Nat) : Nat := (s.th t).gr r
def State.grSet (s : State) (t r v : Nat) : State := s.thMod t (fun x => x.grSet r v)

/-- STATE of a thread (Table 10-1): 0 HALTED, 1 RUN, 2 HANDLER. -/
def State.tState (s : State) (t : Nat) : Nat := s.g TH_STATUS_STATE (thH t) (thI t)
def State.halted (s : State) (t : Nat) : Bool := s.tState t == 0
def State.inTrap (s : State) (t : Nat) : Bool := s.on TH_STATUS_IN_TRAP (thH t) (thI t)
def State.loaded (s : State) (t : Nat) : Bool := s.on TH_STATUS_LOADED (thH t) (thI t)

/-- A field of a thread's TH_STATUS written. -/
def State.tp (s : State) (f : Fld) (v t : Nat) : State := s.p f v (thH t) (thI t)

/-- The thread halts with a reason (Table 10-12): 1 HALT, 2 STOP, 3 DOUBLE, 4 CLEAR, 5 load failed. -/
def State.haltThread (s : State) (t reason : Nat) : State :=
  ((s.tp TH_STATUS_STATE 0 t).tp TH_STATUS_HALT_REASON reason t).thMod t (fun x =>
    { x with waiting := .none, issued := none, stopAsked := false, noIssue := false })

/-! ## Chimney sampling (R412, R413) -/

/-- Whether an instruction word is of class D, a fabric instruction, or a block instruction (Table 9-4). -/
def isClassD (w : Nat) : Bool := let op := bits w 26 6; (0x18 ≤ op && op ≤ 0x1D) || op == 0x24 || op == 0x25 || (0x34 ≤ op && op ≤ 0x36)
def isClassS (w : Nat) : Bool := let op := bits w 26 6; 0x28 ≤ op && op ≤ 0x30
def isFabric (w : Nat) : Bool := let op := bits w 26 6; (0x18 ≤ op && op ≤ 0x1C) || (op == 0x1D && bit w 4)
def isBlock (w : Nat) : Bool := let op := bits w 26 6; 0x34 ≤ op && op ≤ 0x36

/-- Whether an instruction of a thread matches the filter of its hearth. -/
def State.chmMatch (s : State) (t w : Nat) : Bool :=
  let h := thH t
  s.on CHM_CFG_EN h && (s.on CHM_FILTER_TID_ANY h || s.g CHM_FILTER_TID h == s.tidOf t) &&
  (s.on CHM_FILTER_INST_ANY h || s.g CHM_FILTER_INST h == (s.th t).inst) &&
  (match s.g CHM_FILTER_CLASS h with | 0 => true | 1 => isClassD w | 2 => isFabric w | _ => isBlock w)

/-- An instruction issues at a hearth: every Nth that matches is tagged; with JITTER the interval is a free value from N/2 to
3N/2 − 1 (log 1). -/
def State.chmTag (s : State) (t w : Nat) : State × Bool :=
  if !(s.chmMatch t w) then (s, false) else
  let h := thH t
  let n := s.g CHM_CFG_N h
  let left := ngetD s.cnt.chmLeft h n
  let put (s : State) (v : Nat) : State := { s with cnt := { s.cnt with chmLeft := nset h v s.cnt.chmLeft } }
  if left > 1 then (put s (left - 1), false)
  else if s.on CHM_CFG_JITTER h then let f := s.fresh; (put f.2 (n / 2 + f.1.toNat % n), true)
  else (put s n, true)

/-- A Chimney record written to a hearth's ring. -/
def State.chimneyPut (s : State) (h : Nat) (bs : List Byte) : State :=
  let prod := s.g CHM_IDX_PROD h
  let fill := (prod + 2 ^ 32 - s.g CHM_IDX_CONS h) % 2 ^ 32
  let s := s.wr spHbm (s.g CHM_RING_BASE h * 64 + prod % 2 ^ s.g CHM_RING_LOG2 h * 64) bs
  let s := s.p CHM_IDX_PROD ((prod + 1) % 2 ^ 32) h
  if fill + 1 ≥ s.g CHM_CFG_WMARK h then
    if s.cnt.chmOver.contains h then s
    else ({ s with cnt := { s.cnt with chmOver := h :: s.cnt.chmOver } }).cntNotice 3 h 0
  else { s with cnt := { s.cnt with chmOver := s.cnt.chmOver.filter (· != h) } }

/-- The records of a hearth that wait for the clock of an HBM stack (R36). -/
def State.chimneyWaits (s : State) (h : Nat) : Nat := (s.plc.waits.filter (fun j => match j with | .chimney k _ => k == h | _ => false)).length

/-- A tagged instruction concludes: its record is written to the hearth's ring, or discarded when the ring is full (Table 21-4). -/
def State.chmRecord (s : State) (t : Nat) (i : Issued) (status trap : Nat) : State :=
  if !i.tagged then s else
  let h := thH t
  let seq := ngetD s.cnt.chmSeq h 0
  let s := { s with cnt := { s.cnt with chmSeq := nset h (seq + 1) s.cnt.chmSeq } }
  let fill := (s.g CHM_IDX_PROD h + 2 ^ 32 - s.g CHM_IDX_CONS h) % 2 ^ 32
  if fill + s.chimneyWaits h ≥ 2 ^ s.g CHM_RING_LOG2 h then s.inc CHM_STAT_DROPPED h
  else
    let st := if isClassD i.word || isClassS i.word then status else 0
    let bs := leBytes 8 i.time ++ leBytes 8 i.pc ++
      leBytes 8 (i.word % 2 ^ 32 + s.tidOf t * 2 ^ 32 + i.priv * 2 ^ 45) ++
      leBytes 8 (i.inst % 2 ^ 14 + st * 2 ^ 16 + trap * 2 ^ 24 + b2n i.hit * 2 ^ 32 +
        (match i.space with | some 4 => 2 * 2 ^ 34 | some sp => 2 ^ 33 + sp * 2 ^ 34 | none => 0)) ++
      leBytes 8 (i.addr % 2 ^ 53) ++
      leBytes 8 (min (s.now - i.time) (2 ^ 32 - 1) + min i.waitNs (2 ^ 32 - 1) * 2 ^ 32) ++
      leBytes 8 (s.th t).icount ++ leBytes 8 (seq % 2 ^ 32)
    s.hbmDo (.chimney h bs) (fun s => s.chimneyPut h bs)

/-! ## The conclusion of an instruction -/

/-- The instruction a thread has issued, as its Chimney record will show it. -/
def State.issue (s : State) (t word : Nat) : State × Issued :=
  let r := s.chmTag t word
  (r.1, { word := word, pc := (s.th t).pc, priv := s.priv t, inst := (s.th t).inst, time := s.now, tagged := r.2 })

/-- Every staged entry of the device (STG_STATUS). -/
def State.storeUsed (s : State) : Nat := s.thr.foldl (fun n e => n + e.2.staging.length) s.cmt.bridge.length

/-- A thread's staging set written, with its counts. -/
def State.stagingSet (s : State) (t : Nat) (l : List Staged) : State :=
  let s := (s.thMod t (fun x => { x with staging := l })).tp TH_STATUS_STG_ENTRIES l.length t
  s.hwm STG_STATUS_STORE_HWM s.storeUsed

/-- The threads of the engine of a thread. -/
def engThreads (t : Nat) : List Nat := (List.range 4).map (t / 4 * 4 + ·)

/-- P2_ENGINE follows the images of an engine's threads (Table 10-11). -/
def State.engRefresh (s : State) (t : Nat) : State :=
  s.pb ENG_CFG_P2_ENGINE ((engThreads t).any (fun u => s.loaded u && s.basePriv u == 2)) (thH t) (thI t / 4)

/-- An image removed: local memory is cleared to zero once no thread of the engine holds one (R205). -/
def State.imageRemove (s : State) (t : Nat) : State :=
  if !(s.loaded t) then s else
  let s := (s.tp TH_STATUS_LOADED 0 t).engRefresh t
  if (engThreads t).any (fun u => s.loaded u) then s else { s with mem := s.mem.filter (fun c => c.1 / 2 ^ 64 != spLocal (t / 4)) }

/-- Every thread of a hearth is cleared under CLEAR_ALL: the cache is written back and invalidated, and CLEAR_BUSY clears (R205). -/
def State.clearAllEnd (s : State) (h : Nat) : State :=
  if s.on HTH_STATUS_CLEAR_BUSY h && (List.range 128).all (fun k => s.halted (128 * h + k) && !(s.loaded (128 * h + k)))
  then (s.flcFlush h).p HTH_STATUS_CLEAR_BUSY 0 h else s

/-- A stopped thread is cleared: its staging set, events, timer and store errors, its image and its gate's active set (R205, R297). -/
def State.clearNow (s : State) (t : Nat) : State :=
  let s := (s.haltThread t 4).thMod t (fun x =>
    { x with clearAsked := false, evtPend := 0, evtMask := 0, timer := none, serrAddr := 0, serrStatus := 0, serrValid := false,
             serrPending := false, serrMore := 0, oldCode := [], frozen := false })
  let s := ((s.stagingSet t []).tp TH_STATUS_IN_TRAP 0 t).p TG_CTRL_ACTIVE 0 t
  (s.imageRemove t).clearAllEnd (thH t)

/-- The thread is where it may be stopped, and a CLEAR or a STOP waits: it halts there (R204, R205). -/
def State.stopHere (s : State) (t : Nat) : State :=
  if (s.th t).clearAsked then s.clearNow t else if (s.th t).stopAsked then s.haltThread t 2 else s

/-- An instruction completes: PC moves on, ICOUNT counts it, and its record is written. -/
def State.retire (s : State) (t : Nat) (i : Issued) (status next : Nat) : State :=
  let s := s.thMod t (fun x => { x with pc := next % 2 ^ 64, icount := (x.icount + 1) % 2 ^ 64, waiting := .none, issued := none })
  (s.chmRecord t i status 0).stopHere t

/-- An instruction that is left not performed writes its record with a trap code, and waits for nothing. -/
def State.unissue (s : State) (t : Nat) (trap : Nat) : State :=
  let s := match (s.th t).issued with | some i => s.chmRecord t i 0 trap | none => s
  s.thMod t (fun x => { x with waiting := .none, issued := none, noIssue := false })

/-! ## Traps (R212 to R214) -/

/-- A thread moves to a level; its gate sets swap when the level changes (R212, R297). -/
def State.toLevel (s : State) (t level : Nat) : State :=
  if s.priv t = level then s
  else (s.tp TH_STATUS_PRIV level t).p TG_CTRL_ACTIVE (1 - s.tgActive t) t

/-- The handler level of a thread: P0 for a base level of P0, P1 for P1 and P2. -/
def State.handlerLevel (s : State) (t : Nat) : Nat := if s.basePriv t = 0 then 0 else 1

/-- A trap: the trap registers, IN_TRAP, the handler level, and PC at TH_VEC. In a handler an exception is a double exception,
which halts the thread and is recorded (R214). -/
def State.trap (s : State) (t code arg stat pc : Nat) : State :=
  let s := s.tp TH_STATUS_LAST_TRAP code t
  if s.inTrap t then
    let s := s.thMod t (fun x => { x with trapCode := code, trapPc := pc, trapArg := arg % 2 ^ 64, pc := pc })
    let i := (s.th t).inst
    let p2 := s.basePriv t = 2
    let s := s.report { source := src 0x09 0, cls := if p2 then NC else PF, scope := if p2 then scope 1 (i % 4096) else scope 4 t,
                        inst := some i, core := 0x80 + thH t, tid := some (s.tidOf t), dev := s.dev }
    s.haltThread t 3
  else
    let s := s.thMod t (fun x => { x with trapCode := code, trapPc := pc, trapArg := arg % 2 ^ 64, trapStat := stat,
                                          waiting := .none, issued := none, noIssue := false })
    let s := (s.tp TH_STATUS_IN_TRAP 1 t).toLevel t (s.handlerLevel t)
    let s := s.tp TH_STATUS_STATE 2 t
    s.thMod t (fun x => { x with pc := s.g TH_VEC_HANDLER (thH t) (thI t) / 4 * 4 })

/-- An exception of the instruction that has issued: its record, then the trap with TRAP_PC at it, then a STOP that waits. -/
def State.exception (s : State) (t : Nat) (i : Issued) (code arg stat : Nat) : State :=
  let s := (s.chmRecord t i stat code).thMod t (fun x => { x with issued := none, waiting := .none })
  (s.trap t code arg stat i.pc).stopHere t

end Sys2Proof.Machine
end

