-- ==== Sys2Proof/Machine/Commit.lean ====
section
/-! DEFINITION. Staging and commit: the checks of a staging write, the staging sets, the checks of a commit against the tables it
would leave, and the steps of Table 10-5 (R9, R188, R189, R221 to R225, R434, R435). -/

namespace Sys2Proof.Machine

/-! ## Staging -/

/-- The RWE fields of a register. -/
def RegName.rwe (r : RegName) : List Fld := r.fields.filter (fun f => f.acc == .rwe)

/-- The bits of a register that no field names. -/
def RegName.reservedSet (r : RegName) (v : Nat) : Bool :=
  (List.range 64).any (fun b => bit v b && !(r.fields.any (fun f => f.lsb ≤ b && b < f.lsb + f.width)))

/-- Whether the RWE fields of a register accept a staged value: the rules of each field table (R435). DESIGN CHOICE (log 112): MODE 0 of a meter is
accepted whatever PIR_MBPS and PEBS_U hold, for R102 speaks of writes of the rate and the burst alone. -/
def State.stageOk (s : State) (r : RegName) (i : Nat) (v : Nat) : Bool :=
  let f (x : Fld) : Nat := bits v x.lsb x.width
  !(r.reservedSet v) &&
  match r with
  | .ILS_CFG => f ILS_CFG_WAYS ≤ 4 && f ILS_CFG_GRAN ≤ 6
  | .ILS_TGT => f ILS_TGT_DEV == s.dev
  | .IW_LIMIT => f IW_LIMIT_SIZE_GIB ≤ 2 ^ 23
  | .SW_BUF_CFG => 0x40 ≤ f SW_BUF_CFG_RSP_RSV_U && 0x10 ≤ f SW_BUF_CFG_SNP_RSV_U && 8 ≤ f SW_BUF_CFG_IOP_RSV_U &&
      8 ≤ f SW_BUF_CFG_IOCPL_RSV_U &&
      f SW_BUF_CFG_RSP_RSV_U + f SW_BUF_CFG_SNP_RSV_U + f SW_BUF_CFG_IOP_RSV_U + f SW_BUF_CFG_IOCPL_RSV_U ≤ 1152
  | .SW_TRK_CFG => f SW_TRK_CFG_PORT_RSV ≤ 1024 && f SW_TRK_CFG_INT_RSV ≤ 131072 &&
      128 * f SW_TRK_CFG_PORT_RSV + f SW_TRK_CFG_INT_RSV ≤ 262144
  | .MTR_CFG => f MTR_CFG_RED_ACTION == 0 || i % 4 == 3
  | .HOME_CFG => 256 ≤ f HOME_CFG_WB_RSV && f HOME_CFG_WB_RSV ≤ 8192
  | .PG_LO => !(s.isFollower i) && f PG_LO_SPACE != 3 && (f PG_LO_SPACE == 2 || f PG_LO_HEARTH == 0)
  | .PG_HI => !(s.isFollower i)
  | _ => true

/-- Whether two staged entries are for one register, segment or page (R221): an override and its removal are one page's. -/
def Staged.same (a b : Staged) : Bool :=
  a.map == b.map && (a.key == b.key || (a.map && a.key / 2 ^ 62 != 0 && b.key / 2 ^ 62 != 0 && a.key % 2 ^ 32 == b.key % 2 ^ 32))

/-- A staging set with an entry: a second entry for the same register, segment or page replaces the first (R221); none when there
is no room. -/
def State.stagePut (s : State) (set : List Staged) (e : Staged) : Option (List Staged) :=
  if set.any (fun x => x.same e) then some (set.map (fun x => if x.same e then e else x))
  else if set.length ≥ s.g CMT_CFG_STG_MAX || s.storeUsed ≥ 262144 then none
  else some (set ++ [e])

/-- The bridge's staging set written. -/
def State.bridgeSet (s : State) (l : List Staged) : State :=
  let s := { s with cmt := { s.cmt with bridge := l } }
  s.hwm STG_STATUS_STORE_HWM s.storeUsed

/-- The key of a placement-map entry (R189): kind in bits 63 and 62, segment or page below. -/
def mapKind (key : Nat) : Nat := bits key 62 2
def mapIndex (key : Nat) : Nat := key % 2 ^ 32

/-- Whether a segment or override image has no reserved bit set (Tables 8-1, 8-2). -/
def imageOk (kind v : Nat) : Bool :=
  if kind = 0 then bits v 3 1 == 0 && bits v 40 24 == 0 && bits v 96 32 == 0
  else bits v 3 1 == 0 && bits v 51 13 == 0

/-- The images of entries (Tables 8-1, 8-2). -/
def segOfImage (v epoch : Nat) : SegEntry :=
  { valid := bit v 0, pin := bit v 1, set := bits v 4 10, dev := bits v 14 2, soGib := bits v 16 24, epoch := epoch }
def pageOfImage (v epoch : Nat) : PageEntry :=
  { pin := bit v 1, unbacked := bit v 2, set := bits v 4 10, dev := bits v 14 2, so2m := bits v 16 35, epoch := epoch }
def imageOfPage (o : PageEntry) : Nat :=
  1 + 2 * b2n o.pin + 4 * b2n o.unbacked + o.set % 2 ^ 10 * 2 ^ 4 + o.dev % 4 * 2 ^ 14 + o.so2m % 2 ^ 35 * 2 ^ 16

/-! ## A commit's entries -/

/-- One entry brought into effect at an epoch. -/
def State.applyEntry (s : State) (epoch : Nat) (e : Staged) : State :=
  if e.map then
    match mapKind e.key with
    | 0 => { s with plc := { s.plc with segs := nset (mapIndex e.key % 2 ^ 23) (segOfImage e.val epoch) s.plc.segs } }
    | 1 =>
      if bit e.val 0 then { s with plc := { s.plc with pages := nset (mapIndex e.key) (pageOfImage e.val epoch) s.plc.pages } }
      else { s with plc := { s.plc with pages := nerase (mapIndex e.key) s.plc.pages } }
    | _ => { s with plc := { s.plc with pages := nerase (mapIndex e.key) s.plc.pages } }
  else
    match regAt e.key with
    | some (r, i, j) =>
      let s := if r = .MTR_CFG then s.setBuckets i (s.bucketNow i) else s
      r.rwe.foldl (fun s f => s.p f (bits e.val f.lsb f.width) i j) s
    | none => s

/-- A FREE slot that a committed entry places is USED (Table 8-3). -/
def State.slotMark (s : State) (set n : Nat) : State :=
  if s.placeable set && decide (n < s.slotCount set) && s.slotState set n == 0 then s.slotSet set n 1 else s

/-- The slot of this device that places a page now, as set and slot number (R144). -/
def State.slotOfPage (s : State) (page : Nat) : Option (Nat × Nat) :=
  match s.resolve (page * 2 ^ 21) with
  | some l => if l.dev = s.dev then some (l.set, l.so / 2 ^ 21) else none
  | none => none

/-- The slots of this device that a segment entry or override places are USED (R144). -/
def State.pageMark (s : State) (page : Nat) : State := match s.slotOfPage page with | some x => s.slotMark x.1 x.2 | none => s
def State.segMark (s : State) (seg : Nat) : State :=
  match nget? seg s.plc.segs with
  | some g =>
    if !g.valid || g.dev ≠ s.dev || !(s.placeable g.set) then s
    else (List.range 512).foldl (fun s k => if (nget? (seg * 512 + k) s.plc.pages).isSome then s else s.slotMark g.set (g.soGib * 512 + k)) s
  | none => s

/-- The slots of this device that entries place are USED: those of the map entries a commit changes, and of every standing one where it changes which
slots the map of slots holds (R144). -/
def State.slotsUsed (s : State) (es : List Staged) : State :=
  let whole := es.any (fun e => !e.map && (match regAt e.key with | some (r, _, _) => r == .PLC_SET || r == .ILS_CFG | none => false))
  let maps := es.filter (·.map)
  let segs := if whole then s.plc.segs.map (·.1) else (maps.filter (fun e => mapKind e.key == 0)).map (fun e => mapIndex e.key % 2 ^ 23)
  let pages := if whole then s.plc.pages.map (·.1) else (maps.filter (fun e => mapKind e.key != 0)).map (fun e => mapIndex e.key)
  segs.foldl (fun s g => s.segMark g) (pages.foldl (fun s p => s.pageMark p) s)

/-- A commit's entries brought into effect. An override that the tables as the commit leaves them place where its segment entry would goes (R140), and
slots that entries place are USED. -/
def State.applyEntries (s : State) (epoch : Nat) (es : List Staged) : State :=
  let s := es.foldl (fun s e => s.applyEntry epoch e) s
  let maps := es.filter (·.map)
  let segs := (maps.filter (fun e => mapKind e.key == 0)).map (fun e => mapIndex e.key % 2 ^ 23)
  let pages := (maps.filter (fun e => mapKind e.key != 0)).map (fun e => mapIndex e.key)
  ((s.plc.pages.filter (fun o => segs.contains (o.1 / 512) || pages.contains o.1)).foldl (fun s o => s.pageTidy o.1) s).slotsUsed es

/-- Whether a map entry of a commit places a slot of this device that is being filled with zeros, as the tables stand after it (R69; log 132). -/
def State.placesZeroing (s : State) (e : Staged) : Bool :=
  e.map && (match mapKind e.key with
    | 0 =>
      let seg := mapIndex e.key % 2 ^ 23
      let g := ngetD s.plc.segs seg {}
      g.valid && g.dev == s.dev &&
        s.plc.zeroing.any (fun x => x.1 == g.set && x.2.1 / 512 == g.soGib && (nget? (seg * 512 + x.2.1 % 512) s.plc.pages).isNone)
    | _ => (match s.slotOfPage (mapIndex e.key) with | some x => s.plc.zeroing.any (fun z => z.1 == x.1 && z.2.1 == x.2) | none => false))

/-- The valid windows of the stack in GiB: first and size (R68). -/
def State.windows (s : State) : List (Nat × Nat) :=
  let own (s : State) : List (Nat × Nat) := (List.range 4096).filterMap (fun i =>
    if s.on IW_BASE_VALID i then some (s.g IW_BASE_FPA_BASE i, s.g IW_LIMIT_SIZE_GIB i) else none)
  own s ++ s.stk.copies.flatMap (fun c => if c.1 = s.dev then [] else own (s.asDev c.2))

/-- No two windows of a list overlap. -/
def windowsApart : List (Nat × Nat) → Bool
  | [] => true
  | w :: ws => ws.all (fun x => w.1 + w.2 ≤ x.1 || x.1 + x.2 ≤ w.1) && windowsApart ws

/-- The conditions of a VALID interleave set (Table 4-7, R71). -/
def State.setOk (s : State) (set : Nat) : Bool :=
  !(s.on ILS_CFG_VALID set) || (List.range (s.ways set)).all (fun k =>
    let m := s.g ILS_TGT_MOD set k
    s.g ILS_TGT_DEV set k == s.dev && s.on MOD_ENTRY_POOL m &&
    s.g ILS_TGT_BASE set k + s.g ILS_CFG_TGT_SIZE set ≤ s.g MOD_ENTRY_CAP m)

/-- A location of an entry lies on a VALID set and within it (R70, R141); sets of another device are seen in the master's copy. With no copy of the
device, which was then never a member, an entry that the commit brings names no VALID set, and one that stands is left. -/
def State.placeOk (s : State) (brought : Bool) (dev set off size : Nat) : Bool :=
  let ok (s : State) : Bool := s.on ILS_CFG_VALID set && off + size ≤ s.setBytes set
  if dev = s.dev then ok s
  else match nget? dev s.stk.copies with | some c => ok (s.asDev c) | none => !brought

/-- A device's registers as the checks of its commit see them: this device's own, or the master's copy with what the member tells of the registers that
the checks read, by offset (R71, R435; log 111). -/
def State.seenFrom (s : State) (d : Nat) (told : List (Nat × Nat)) : State :=
  if d = s.dev then s
  else told.foldl (fun v e => match regAt e.1 with
    | some (r, i, j) => r.fields.foldl (fun v f => v.p f (bits e.2 f.lsb f.width) i j) v
    | none => v) ((s.asDev (ngetD s.stk.copies d [])).p ID_STACK_DEV_IN_STACK d)

/-- The conditions between entries of the tables as a commit leaves them (R435): `st` the stack as the commit leaves it, `old` and `s` the registers of
the device that submits it, before and after it. -/
def State.commitStatus (st old s : State) (es : List Staged) : Nat :=
  let ws := st.windows
  let regs := (es.filter (fun e => !e.map)).filterMap (fun e => regAt e.key)
  let winOk := ws.all (fun w => 1 ≤ w.2 && w.1 + w.2 ≤ 2 ^ 23) && windowsApart ws
  let regionOk := (List.range 4096).all (fun i => !(s.on IW_BASE_VALID i) || old.on IW_BASE_VALID i ||
    s.g IW_LIMIT_SIZE_GIB i % max (s.g INST_DC_CFG_REGIONS i) 1 == 0)
  let poolOk := regs.all (fun x => x.1 != .MOD_ENTRY || old.on MOD_ENTRY_POOL x.2.1 || !(s.on MOD_ENTRY_POOL x.2.1) ||
    (s.on MOD_ENTRY_PRESENT x.2.1 && !(s.on MOD_ENTRY_PT_BOUND x.2.1)))
  let touched := regs.any (fun x => x.1 == .ILS_CFG || x.1 == .ILS_TGT || x.1 == .MOD_ENTRY)
  let setsOk := !touched || (List.range 1024).all s.setOk
  let ids := ((List.range 128).filter (fun c => !(st.isFollower c) && st.g PC_ROLE_CFG_PBR_ID c != 0xFFF)).map (fun c => st.g PC_ROLE_CFG_PBR_ID c)
  let pbrOk := !(regs.any (fun x => x.1 == .PC_ROLE_CFG)) || decide (ids ++ st.peerPorts.map (·.1)).Nodup
  let wbOk := !(regs.any (fun x => x.1 == .HOME_CFG || x.1 == .SW_TRK_CFG)) || s.g HOME_CFG_WB_RSV + 4096 ≤ s.trkShared
  let gateOk := regs.all (fun x => !(x.1 == .PG_LO || x.1 == .PG_HI) || !(s.on PG_LO_VALID x.2.1 x.2.2) ||
    s.g PG_LO_BASE x.2.1 x.2.2 ≤ s.g PG_HI_LIMIT x.2.1 x.2.2)
  let fieldOk := es.all (fun e => e.map || match regAt e.key with | some (r, i, _) => s.stageOk r i e.val | none => false)
  let mapTouched := touched || es.any (·.map)
  let brought (seg : Bool) (n : Nat) : Bool := es.any (fun e => e.map && (mapKind e.key == 0) == seg && (if seg then mapIndex e.key % 2 ^ 23 else mapIndex e.key) == n)
  let mapOk := !mapTouched ||
    (st.plc.segs.all (fun e => !e.2.valid || st.placeOk (brought true e.1) e.2.dev e.2.set (e.2.soGib * 2 ^ 30) (2 ^ 30)) &&
     st.plc.pages.all (fun e => e.2.unbacked || st.placeOk (brought false e.1) e.2.dev e.2.set (e.2.so2m * 2 ^ 21) (2 ^ 21)))
  let fillOk := !(es.any (fun e => st.placesZeroing e))
  if st.plc.pages.length > 67108864 then ST_RESOURCE_EXHAUSTED
  else if winOk && regionOk && poolOk && setsOk && pbrOk && wbOk && gateOk && fieldOk && mapOk && fillOk then ST_OK else ST_ACCESS_DENIED

/-! ## Submitting and concluding -/

/-- A BIND_CMD operation ends: BUSY clears and its status stands. A forced unbind that lost to the host's power-off then returns LATE with its own tag
(R81, R82). -/
def State.bindEnd (s : State) (b : BindOp) (status : Nat) : State :=
  let s := { s with cmt := { s.cmt with bind := none, bindDone := true } }
  let e := match b.raced with | some tag => (ST_LATE, tag) | none => (status, b.tag)
  ((s.p BIND_STATUS_STATUS e.1).p BIND_STATUS_TAG e.2).p BIND_STATUS_BUSY 0

/-- The modules of a multi-logical module that another HOST port's vPPBs hold (R73). -/
def State.boundElsewhere (s : State) (b : BindOp) : Bool :=
  (List.range 16).any (fun l =>
    let m := b.mod / 16 * 16 + l
    s.on MOD_ENTRY_PT_BOUND m && (match s.vppbOfMod m with | some q => q.1 != b.p | none => false))

/-- Whether the conditions of an operation's change of bindings hold at its commit: a module is never in the pool and bound (R23, R71, R73). -/
def State.bindHolds (s : State) (b : BindOp) : Bool :=
  b.op != 0x10 ||
  !(s.on MOD_ENTRY_POOL b.mod || s.on MOD_ENTRY_PT_BOUND b.mod || s.g VPPB_ENTRY_KIND b.p b.v != 0 || s.boundElsewhere b)

/-- The effect of a BIND_CMD operation's commit on the vPPBs (R67, R73, R74). -/
def State.bindEffect (s : State) (b : BindOp) : State :=
  match b.op with
  | 0x10 =>
    let s := (s.p VPPB_ENTRY_KIND 2 b.p b.v).p VPPB_ENTRY_MOD b.mod b.p b.v
    let s := s.p MOD_ENTRY_PT_BOUND 1 b.mod
    if s.g PC_LINK_STATUS_LINK_STATE b.p == 0 || !(s.on MOD_ENTRY_PRESENT b.mod) then s else s.slotShow b.p b.v true
  | 0x11 => s.unbindPt b.p b.v
  | 0x20 =>
    let s := (s.p VPPB_ENTRY_KIND 1 b.p b.v).p VPPB_ENTRY_INST b.inst b.p b.v
    if s.g PC_LINK_STATUS_LINK_STATE b.p == 0 then s else s.slotShow b.p b.v true
  | 0x21 =>
    let s := s.portMod b.p (fun x => { x with decs := x.decs.filter (fun d => d.1 / 4 != b.v) })
    (s.clrReg .VPPB_ENTRY b.p b.v).send (.slotChange b.p b.v false)
  | _ => s

/-- A commit concludes with its owner: the thread's ECMT, the bridge, BIND_CMD, or another member (R190, R439, R82). -/
def State.commitEnd (s : State) (c : Commit) (status epoch : Nat) : State :=
  match c.owner with
  | .thread t =>
    match (s.th t).issued with
    | some i =>
      if (s.th t).waiting ≠ .commit then s else
      let s := if status = ST_OK then s.stagingSet t [] else s
      let s := (s.grSet t (bits i.word 21 5) (status + (if status = ST_OK then epoch * 2 ^ 32 else 0))).thMod t (fun x => { x with lstat := status })
      s.retire t i status (i.pc + 4)
    | none => s
  | .bridge =>
    let s := if status = ST_OK then (s.bridgeSet []).p BR_CMT_STATUS_EPOCH epoch else s
    let s := { s with cmt := { s.cmt with bridgeDone := true } }
    (s.p BR_CMT_STATUS_STATUS status).p BR_CMT_STATUS_BUSY 0
  | .bind =>
    match s.cmt.bind with
    | some b => s.bindEnd b (if status = ST_OK then b.status else status)
    | none => s
  | .switch _ => s
  | .identity p v => if status = ST_OK || s.g VPPB_ENTRY_KIND p v != 2 then s else s.submit (.identity p v) [] none true
  | .remote d id => s.send (.commitResult d id status epoch)

/-- The stack's members that take part in a commit. -/
def State.commitMembers (s : State) : List Nat :=
  if s.g STK_STATUS_STATE == 3 then s.members else [s.dev]

/-- This device keeps the commit sequence: it is the master, or stands alone or isolated (R222, R336). -/
def State.isCommitMaster (s : State) : Bool := s.g STK_STATUS_STATE == 0 || s.g STK_STATUS_STATE == 3 || s.g STK_STATUS_STATE == 4

/-- The tables as a commit would leave them. -/
def State.afterCommit (s : State) (c : Commit) (epoch : Nat) : State :=
  match c.owner with
  | .remote d _ =>
    let regs := (s.asDev (ngetD s.stk.copies d [])).applyEntries epoch (c.entries.filter (fun e => !e.map))
    let s := { s with stk := { s.stk with copies := nset d regs.regs s.stk.copies } }
    s.applyEntries epoch (c.entries.filter (·.map))
  | _ => s.applyEntries epoch c.entries

/-- What the checks of step 3 give for a commit (Table 10-5, R223, R435): a member's set is checked against the member's registers. -/
def State.commitVerdict (s : State) (c : Commit) : Nat :=
  let e := s.g PLC_EPOCH_STATUS_CUR_EPOCH
  let d := match c.owner with | .remote d _ => d | _ => s.dev
  let st := s.afterCommit c e
  let old := s.seenFrom d c.told
  let new := if d = s.dev then st else old.applyEntries e (c.entries.filter (fun e => !e.map))
  if c.owner = .bind && !(s.cmt.bind.all (fun b => s.bindHolds b)) then ST_ACCESS_DENIED else State.commitStatus st old new c.entries

/-- The master takes a set and checks it (Table 10-5, step 3; R223). -/
def State.commitCheck (s : State) (c : Commit) : State :=
  if (match c.expect with | some x => x != s.g PLC_EPOCH_STATUS_CUR_EPOCH | none => false) then s.commitEnd c ST_STALE_EPOCH 0
  else
    let st := s.commitVerdict c
    if st = ST_OK then { s with cmt := { s.cmt with cur := some { c with need := s.commitMembers } } } else s.commitEnd c st 0

/-- A held request goes to its page's new home on another device: over Sirfin, or back to the device it came from (R159). -/
def State.heldAway (s : State) (id : Nat) (t : Txn) (d : Nat) : State :=
  if t.dev = s.dev then s.route id { t with hdev := d, heldSync := false }
  else (s.txnDel id).stackPush (s.unitOfTxn { t with hdev := d } t.tag)

/-- The held requests of a page decoded anew, to the location the map now gives: a write of a page that it unbacks is not performed (R66, R159). -/
def State.heldTo (s : State) (page : Nat) : State :=
  (s.heldOf page).foldl (fun s e =>
    match s.resolve e.2.addr with
    | some l => if l.dev = s.dev then s.txnSet e.1 (s.txnAt e.2 l) else s.heldAway e.1 e.2 l.dev
    | none =>
      let s := s.unbacked e.2 (e.2.addr - s.g IW_BASE_FPA_BASE (e.2.inst % 4096) * 2 ^ 30)
      s.conclude e.1 (if e.2.kind.writes then ST_NO_MATCH else ST_POISON) []) s

/-- Unswitched migrations whose pages a commit changes are abandoned, and their held writes go to the location the commit gives (R159). -/
def State.tableAbandon (s : State) (es : List Staged) : State :=
  s.plc.migs.foldl (fun s m =>
    if m.2.state != 4 && es.any (fun e => e.map && (if mapKind e.key = 0 then m.2.page / 512 == mapIndex e.key % 2 ^ 23 else m.2.page == mapIndex e.key))
    then (s.heldTo m.2.page).abandon m.1 ST_STALE_EPOCH 4 else s) s

/-- The heat entry of a page, as its offset in the HBM region, when it has one; PAGE 0 with both counts 0 marks an empty way (R145). -/
def State.heatOf (s : State) (page : Nat) : Option Nat :=
  ((List.range 8).map (fun w => (page % 2 ^ 22 * 8 + w) * 16)).find? (fun a =>
    let e := s.rdN spHbm a 16
    e % 2 ^ 32 == page && (page != 0 || bits e 32 32 != 0))

/-- LAST_MOVE_MS of a page, 0 for a page that has not switched. -/
def State.lastMoveMs (s : State) (page : Nat) : Nat := match s.heatOf page with | some a => s.rdN spHbm (a + 12) 4 | none => 0

/-- The page's switch at a time noted in its heat entry. DESIGN CHOICE (log 130): a page that has no entry gets none, so that no time of its switch is
noted. -/
def State.movedPut (s : State) (page ms : Nat) : State :=
  match s.heatOf page with
  | some a => s.wrN spHbm (a + 12) 4 ms
  | none => s

/-- The page's switch now. -/
def State.heatMoved (s : State) (page : Nat) : State :=
  let ms := s.now / 1000000 % 2 ^ 32
  s.hbmDo (.moved page ms) (fun s => s.movedPut page ms)

/-- A migration switches at an epoch (R154): TRAIL, its held writes released to both locations. -/
def State.switchMig (s : State) (k epoch : Nat) : State :=
  match nget? k s.plc.migs with
  | none => s
  | some m =>
    if m.state ≠ 3 then s else
    let s := s.migSet k { m with state := 4, switchEpoch := epoch, holdNs := max m.holdNs (s.heldNs m.page), ready := false }
    let s := s.slotSet m.dstSet m.dstSo 1
    let s := s.inc PLC_INST_MOVES (m.inst % 4096)
    (s.heatMoved m.page).releaseHeld m.page

/-- Whether a migration is to switch: its final pass found no dirty sub-granule and no write outstanding, and none has come since (R154). -/
def State.migClean (s : State) (k : Nat) : Bool :=
  match nget? k s.plc.migs with
  | some m => m.state == 3 && m.ready && m.dirty == 0 && s.outstanding m.page == 0
  | none => false

/-- The entry of a switch: the page's override at the destination. -/
def switchEntry (dev : Nat) (m : Migration) : Staged :=
  ⟨true, 2 ^ 62 + m.page, imageOfPage { set := m.dstSet, dev := dev, so2m := m.dstSo }⟩

/-- The migrations that a switch commit is to switch now, with their pages: those whose slot still holds the migration of the entry, and which are clean
(R154). One abandoned since the commit was submitted is not among them (R155, R160, R162, R164). -/
def State.switchNow (s : State) (c : Commit) : List (Nat × Nat) :=
  match c.owner with
  | .switch ks => ks.filterMap (fun k => match nget? k s.plc.migs with
    | some m => if s.migClean k && c.entries.contains (switchEntry s.dev m) then some (k, m.page) else none
    | none => none)
  | _ => []

/-- The map entries of a commit that change what an unswitched migration moves: all of a control commit, and of a placement commit those that unback pages
(R69, R159). -/
def changesPages (control : Bool) (es : List Staged) : List Staged :=
  if control then es else es.filter (fun e => e.map && mapKind e.key == 1 && bit e.val 2)

/-- The registers of the interleave sets. -/
def ilsKey (k : Nat) : Bool := (fldIds (RegName.ILS_CFG.fields ++ RegName.ILS_TGT.fields)).contains (Nat.unpair k).1

/-- The interleave sets as they stand are kept for the requests of the epochs before a commit that changes them, while there are any (R78, R225). -/
def State.keepSets (s : State) (epoch : Nat) (es : List Staged) : State :=
  let old := s.cmt.past.filter (fun e => epochBefore s.oldestStack e.1)
  let hit := es.any (fun e => !e.map && (match regAt e.key with | some (r, _, _) => r == .ILS_CFG || r == .ILS_TGT | none => false))
  { s with cmt := { s.cmt with past := if hit then old ++ [(epoch, s.regs.filter (fun e => ilsKey e.1))] else old } }

/-- The slots of this device whose pages a placement commit unbacks, as they are placed now: only BIND_CMD operations unback pages so, whichever device
they run on (R69, R78, R142, R438). -/
def State.unbackSlots (s : State) (control : Bool) (es : List Staged) : List (Nat × Nat) :=
  if control then [] else (es.filter (fun e => e.map && mapKind e.key == 1 && bit e.val 2)).filterMap (fun e => s.slotOfPage (mapIndex e.key))

/-- A page pinned since its switch was decided keeps its PIN at the new location (R162, Table 8-9). -/
def State.keepPins (s : State) (control : Bool) (es : List Staged) : List Staged :=
  if control then es
  else es.map (fun e => if e.map && mapKind e.key == 1 && !(bit e.val 1) && !(bit e.val 2) && (ngetD s.plc.pages (mapIndex e.key) {}).pin
    then { e with val := e.val + 2 } else e)

/-- Lines of the memory-side cache whose pages a commit unbacks leave it, dirty ones to their module, and none is left of a page it backs: `t` is the
device as the commit leaves it (R69). -/
def State.mscRelease (s t : State) : State :=
  s.hm.msc.foldl (fun s e =>
    match (s.resolve (e.1 * 64)).isSome, (t.resolve (e.1 * 64)).isSome with
    | true, false => s.mscEvict e.1
    | false, true => s.mscPut e.1 none
    | _, _ => s) s

/-- The vPPB change of a BIND_CMD operation whose commit has been applied. -/
def State.bindCommitted (s : State) (c : Commit) (_e : Nat) : State :=
  match c.owner, s.cmt.bind with
  | .bind, some b => s.bindEffect b
  | .identity p v, _ => if s.g VPPB_ENTRY_KIND p v == 2 then s.unbindPt p v else s
  | _, _ => s

/-- A commit becomes current on this device: its entries, the decoders' epoch, and what a BIND_CMD operation changes. Slots whose
pages it unbacks go to ZEROING, to be filled once no earlier request is in flight (R69, R78, R225), and migrations whose pages it changes or unbacks are
abandoned (R69, R159). -/
def State.commitLocal (s : State) (c : Commit) (e : Nat) : State :=
  let c := { c with entries := s.keepPins c.control c.entries }
  let slots := s.unbackSlots c.control c.entries
  let s := (s.keepSets e c.entries).mscRelease (s.afterCommit c e)
  let s := s.afterCommit c e
  let s := { s with cmt := { s.cmt with tagEpoch := e } }
  let s := slots.foldl (fun s x => s.slotZero x.1 x.2 (some e)) s
  (s.tableAbandon (changesPages c.control c.entries)).bindCommitted c e

/-! ## The commands (Table 10-5) -/

/-- The master takes the first set of its queue while it has none under way (R222); one whose device has left its stack only expires (R224). -/
def State.commitNext (s : State) : State :=
  match s.cmt.cur, s.cmt.queue.find? (fun x => !x.lost) with
  | none, some x => if s.isCommitMaster then ({ s with cmt := { s.cmt with queue := s.cmt.queue.filter (fun y => y.id != x.id) } }).commitCheck x else s
  | _, _ => s

/-- COMMIT_TAKE (R222, R223): the next set is taken and checked; one of another member joins the queue in order of arrival, and is taken where none waits
before it; a member learns that the master refused its set. -/
def execCommitTake (c : CommitSource) (s : State) : Out :=
  whenUp s fun s =>
    match c with
    | .own => s.commitNext
    | .remote d id expect control entries told =>
      if s.g STK_STATUS_STATE ≠ 3 then s
      else
        let first := s.cmt.queue.all (·.lost)
        let x : Commit := { id := s.cmt.nextId, owner := .remote d id, entries := entries.map (fun e => ⟨e.1, e.2.1, e.2.2⟩),
                            expect := expect.map (·.val), control := control, told := told }
        let s : State := { s with cmt := { s.cmt with queue := s.cmt.queue ++ [x], nextId := s.cmt.nextId + 1 } }
        if first then s.commitNext else s
    | .refused id status =>
      if s.isCommitMaster then s
      else match s.cmt.queue.find? (fun x => x.id == id) with
        | some x => ({ s with cmt := { s.cmt with queue := s.cmt.queue.filter (fun y => y.id != id) } }).commitEnd x (listedStatus status) 0
        | none => s

/-- COMMIT_SHADOW_ACK (Table 10-5, step 4): a member's shadow tables hold the entries, and with its acknowledgement it tells the oldest epoch of its
requests in flight (log 110); on a member, the entries are those of the master. -/
def execCommitShadowAck (d : DevId) (held : ShadowAck) (s : State) : Out :=
  whenUp s fun s =>
    if s.isCommitMaster then
      let s := s.tellOldest (held.oldest.toList.map (fun e => (d, e)))
      match s.cmt.cur with
      | some c => if c.epoch.isSome || c.acks.contains d.val then s
                  else { s with cmt := { s.cmt with cur := some { c with acks := d.val :: c.acks } } }
      | none => s
    else if d.val = s.dev then { s with cmt := { s.cmt with shadow := held.entries.map (fun e => ⟨e.1, e.2.1, e.2.2⟩) } }
    else s

/-- COMMIT_DECISION (Table 10-5, step 5; R142, R154, R222): the next epoch is assigned, and a control commit advances the generation. A commit whose
members have left since it was taken waits for its expiry (R224). Migrations that are no longer clean stay in SYNC. -/
def execCommitDecision (s : State) : Out :=
  whenUp s fun s =>
    match s.cmt.cur with
    | none => s
    | some c =>
      if c.epoch.isSome || !(s.commitMembers.all (fun d => c.acks.contains d)) || !(c.need.all (fun d => s.commitMembers.contains d)) then s
      else
        let e := (s.g PLC_EPOCH_STATUS_CUR_EPOCH + 1) % 2 ^ 32
        if (e + 2 ^ 32 - s.oldestStack) % 2 ^ 32 ≥ 2 ^ 31 then s
        else
          let s := s.p PLC_EPOCH_STATUS_CUR_EPOCH e
          let s := if c.control then s.p CMT_STATUS_GENERATION (s.g CMT_STATUS_GENERATION + 1) else s
          match c.owner with
          | .switch _ =>
            let now := s.switchNow c
            let es := c.entries.filter (fun x => now.any (fun q => q.2 == mapIndex x.key))
            let s := now.foldl (fun s q => s.switchMig q.1 e) s
            { s with cmt := { s.cmt with cur := some { c with epoch := some e, entries := es } } }
          | _ => { s with cmt := { s.cmt with cur := some { c with epoch := some e } } }

/-- A member's shadow tables become current. Of its own commit, a switch whose page has been written since, or whose migration has been abandoned, leaves
the page where it is (R154, R155); so do the switches that another home left out; and a binding that no longer holds its conditions is not made (R23). -/
def State.memberApply (s : State) (epoch : Nat) (control : Bool) (own : AppliedSet) : State :=
  let x := own.own.bind (fun id => s.cmt.queue.find? (fun x => x.id == id))
  let sw := match x with | some { owner := .switch _, .. } => true | _ => false
  let now := match x with | some x => s.switchNow x | none => []
  let es := (s.keepPins control s.cmt.shadow).filter (fun e =>
    !(e.map && (own.stays.contains (mapIndex e.key) || (sw && !(now.any (fun q => q.2 == mapIndex e.key))))))
  let slots := s.unbackSlots control es
  let s := s.keepSets epoch es
  let s := ((s.mscRelease (s.applyEntries epoch es)).applyEntries epoch es).p PLC_EPOCH_STATUS_CUR_EPOCH epoch
  let s := if control then s.p CMT_STATUS_GENERATION (s.g CMT_STATUS_GENERATION + 1) else s
  let s := { s with cmt := { s.cmt with shadow := [], tagEpoch := epoch } }
  let s := slots.foldl (fun s x => s.slotZero x.1 x.2 (some epoch)) s
  let s := s.tableAbandon (changesPages control es)
  match x with
  | some x =>
    let s := { s with cmt := { s.cmt with queue := s.cmt.queue.filter (fun y => y.id != x.id) } }
    let s := now.foldl (fun (s : State) q => s.switchMig q.1 epoch) s
    if x.owner = .bind && !(s.cmt.bind.all (fun b => s.bindHolds b)) then s.commitEnd x ST_ACCESS_DENIED 0
    else (s.bindCommitted x epoch).commitEnd x ST_OK epoch
  | none => s

/-- A commit past its decision concludes with OK once every member that stays in the stack has applied it (R224). -/
def State.commitSettle (s : State) : State :=
  match s.cmt.cur with
  | some c =>
    match c.epoch with
    | some e => if s.commitMembers.all (fun d => c.applied.contains d) then ({ s with cmt := { s.cmt with cur := none } }).commitEnd c ST_OK e else s
    | none => s
  | none => s

/-- Whether the master waits with its own tables: a switch is visible at the page's home before any other decoder (R142). -/
def State.awaitsHome (s : State) (c : Commit) : Bool :=
  !c.control && (match c.owner with | .remote h _ => !(c.applied.contains h) && s.commitMembers.contains h | _ => false)

/-- COMMIT_APPLY (Table 10-5, step 6; R225): a member's shadow tables become current and its decoders tag with the new epoch; a joiner
queues it (Table 16-7, step 5). Once every member has applied it, the commit concludes with OK. -/
def execCommitApply (d : DevId) (epoch : Fin 4294967296) (control : Bool) (own : AppliedSet) (s : State) : Out :=
  whenUp s fun s =>
    if s.isCommitMaster then
      match s.cmt.cur with
      | none => s
      | some c =>
        match c.epoch with
        | none => s
        | some e =>
          if c.applied.contains d.val || (d.val = s.dev && s.awaitsHome c) then s
          else
            let c := { c with entries := c.entries.filter (fun x => !(x.map && own.stays.contains (mapIndex x.key))) }
            let s := if d.val = s.dev then s.commitLocal c e else s
            { s with stk := { s.stk with ackGen := nset d (s.g CMT_STATUS_GENERATION) s.stk.ackGen },
                     cmt := { s.cmt with cur := some { c with applied := d.val :: c.applied } } }.commitSettle
    else if d.val = s.dev && s.g STK_STATUS_STATE == 1 then
      { s with stk := { s.stk with queued := s.stk.queued ++ [(epoch.val, control, s.cmt.shadow)] }, cmt := { s.cmt with shadow := [] } }
    else if d.val = s.dev then s.memberApply epoch control own
    else s

/-- A queued commit expires: it returns TIMEOUT, and a member discards the entries of it that its shadow tables hold (R224). -/
def State.queuedExpire (s : State) (id : Nat) : State :=
  match s.cmt.queue.find? (fun x => x.id == id) with
  | some x =>
    let sh := if s.cmt.shadow.all (fun e => x.entries.contains e) then [] else s.cmt.shadow
    ({ s with cmt := { s.cmt with queue := s.cmt.queue.filter (fun y => y.id != id), shadow := sh } }).commitEnd x ST_TIMEOUT 0
  | none => s

/-- COMMIT_TIMEOUT (R224): before the decision the shadow entries are discarded and the commit returns TIMEOUT; after it, nothing. -/
def execCommitTimeout (id : Nat) (s : State) : Out :=
  whenUp s fun s =>
    match s.cmt.cur with
    | some c =>
      if c.id = id && c.epoch.isNone then ({ s with cmt := { s.cmt with cur := none, shadow := [] } }).commitEnd c ST_TIMEOUT 0
      else s.queuedExpire id
    | none => s.queuedExpire id

end Sys2Proof.Machine
end

