-- ==== Sys2Proof/Machine/Exec.lean ====
section
/-! DEFINITION. Running one instruction of a thread: its fetch and checks, the register instructions, the loads and stores of the
engine address space, special registers, events, staging, traps and interrupts (R167 to R175, R184 to R195, R202, R212 to R215). -/

namespace Sys2Proof.Machine

/-! ## The engine address space (Table 9-2) -/

/-- A place in the engine address space: its byte space, its offset there, and its kind: 0 local, 1 shared, 2 HBM region. -/
structure Eng where
  sp : Nat
  off : Nat
  kind : Nat
deriving DecidableEq, Repr

/-- Where `len` bytes at an engine address of a thread lie; none outside Table 9-2. -/
def engAt (t a len : Nat) : Option Eng :=
  if a + len ≤ 0x20000 then some ⟨spLocal (t / 4), a, 0⟩
  else if 0x1000000 ≤ a && a + len ≤ 0x1800000 then some ⟨spShared (thH t), a - 0x1000000, 1⟩
  else if 0x100000000 ≤ a && a + len ≤ 0x300000000 then some ⟨spHbm, a - 0x100000000, 2⟩
  else none

/-- The engine address of an offset in a space. -/
def engAddr (kind off : Nat) : Nat := match kind with | 0 => off | 1 => 0x1000000 + off | _ => 0x100000000 + off

/-- What a check of an access finds: it may go on at a place, or its trap code and argument, with what the gate refused. -/
inductive Chk
  | ok (e : Eng)
  | bad (code arg : Nat) (gate : Option (GateAcc × Nat × Option Nat))
deriving DecidableEq, Repr

/-- An access of `len` bytes in the engine address space: RANGE, then GATE; local memory is not gated (R170, R202). -/
def State.engCheck (s : State) (t a len kind : Nat) (hbm : Bool) : Chk :=
  match engAt t a len with
  | none => .bad 4 a none
  | some e =>
    if e.kind = 2 && !hbm then .bad 4 a none
    else if e.kind = 0 then .ok e
    else match s.thGate t (if e.kind = 1 then 2 else 1) e.off len kind with
      | some g => .bad 5 (engAddr e.kind g.2.1) (some g)
      | none => .ok e

/-- An access to fabric memory: RANGE for bits [63:53] of any of its bytes, then GATE. -/
def State.fabCheck (s : State) (t a len kind : Nat) : Chk :=
  if 2 ^ 53 < a + len then .bad 4 (max a (2 ^ 53)) none
  else match s.thGate t 0 a len kind with
    | some g => .bad 5 g.2.1 (some g)
    | none => .ok ⟨0, a, 3⟩

/-! ## Fetch and issue -/

/-- A thread that may issue: RUN or HANDLER, and waiting for nothing, nor for the reissue of a posted store (R180). -/
def State.ready (s : State) (t : Nat) : Bool :=
  !(s.halted t) && (s.th t).waiting == Waiting.none && !((s.th t).stores.any (fun p => p.held))

/-- The bytes a thread fetches: those it has stored to since its last FENCE I show what was there before (R175). -/
def State.fetchBytes (s : State) (t : Nat) (e : Eng) (pc : Nat) : List Byte :=
  (List.range 4).map (fun k => ngetD (s.th t).oldCode (pc + k) (memByte s.mem (memKey e.sp (e.off + k))))

/-- The place a thread fetches from: fetch is permitted in local and shared memory, and X is checked in shared memory (R170, R290). -/
def State.fetchCheck (s : State) (t : Nat) : Chk := s.engCheck t (s.th t).pc 4 2 false

/-- Whether the level check of an instruction comes to nothing but PRIV: TRET outside a trap is ILLEGAL, which comes before (R202, R213). -/
def State.plvPriv (s : State) (t : Nat) (p : Plv) (w : Nat) : Bool := !(plvAllowed p w (s.priv t)) && (p != .tret || s.inTrap t)

/-- An uncorrected error in local or shared memory (R208): STATUS with POISON, whatever NOTRAP holds, and a record. -/
def State.memError (s : State) (t : Nat) (i : Issued) (a : Nat) : State :=
  let inst := (s.th t).inst
  let p2 := s.basePriv t = 2
  let s := s.report { source := src 0x09 1, cls := if p2 then NC else PF, scope := if p2 then scope 1 (inst % 4096) else scope 4 t,
                      status := ST_POISON, inst := some inst, core := 0x80 + thH t, tid := some (s.tidOf t), dev := s.dev }
  s.exception t i 6 a ST_POISON

/-- The instruction of a command runs when the thread is ready and the word at PC is one of its row. A word of no row raises ILLEGAL
whichever command is sent; a word of another row leaves the thread as it is; so does an instruction that is held (`none`). `bad` says that the fetch meets
an uncorrected error of the memory, whichever instruction stands there (R208). -/
def runFetch (bad : Bool) (p : Plv) (t : ThrId) (f : State → Issued → Option State) (s : State) : Out :=
  whenUp s fun s =>
    if !(s.ready t) then s else
    let pc := (s.th t).pc
    let raw : Issued := { word := 0, pc := pc, priv := s.priv t, inst := (s.th t).inst, time := s.now }
    match s.fetchCheck t with
    | .bad code arg g => (s.recordRefusal t g).exception t raw code arg 0
    | .ok e =>
      if bad then s.memError t raw pc else
      let w := leNat (s.fetchBytes t e pc)
      match plvOf w with
      | none => let q := s.issue t w; q.1.exception t q.2 1 w 0
      | some p' =>
        if p' ≠ p then s
        else
          let q := s.issue t w
          if s.plvPriv t p w then q.1.exception t q.2 2 w 0
          else (f q.1 q.2).getD s

/-- An instruction whose fetch meets no error. -/
def runPlv (p : Plv) (t : ThrId) (f : State → Issued → Option State) (s : State) : Out := runFetch false p t f s

/-- An access that fails its checks raises its trap (R202). -/
def State.refuseAcc (s : State) (t : Nat) (i : Issued) (code arg : Nat) (g : Option (GateAcc × Nat × Option Nat)) : State :=
  (s.recordRefusal t g).exception t i code arg 0

/-! ## Ways an instruction ends -/

/-- It writes RD and goes on. -/
def State.retireRd (s : State) (t : Nat) (i : Issued) (v : Nat) : State := (s.grSet t (wRd i.word) v).retire t i 0 (i.pc + 4)

/-- A class S instruction: its status in RD[7:0] and LSTAT, its result in RD[63:32] (R187). -/
def State.retireS (s : State) (t : Nat) (i : Issued) (st hi : Nat) : State :=
  ((s.grSet t (wRd i.word) (st + hi * 2 ^ 32)).thMod t (fun x => { x with lstat := st })).retire t i st (i.pc + 4)

/-- A class D instruction (R178): its result on OK; on another status STATUS, or with NOTRAP what it writes instead. -/
def State.retireD (s : State) (t : Nat) (i : Issued) (st arg : Nat) (ok bad : State → State) : State :=
  let s := s.thMod t (fun x => { x with lstat := st })
  if st = ST_OK then (ok s).retire t i st (i.pc + 4)
  else if bit (s.th t).tctl 0 then (bad s).retire t i st (i.pc + 4)
  else s.exception t i 6 arg st

/-! ## Register instructions -/

/-- The register instructions: a value of RA, RB and RD, written to RD. -/
def regInstr (p : Plv) (t : ThrId) (v : State → Nat → Nat) (s : State) : Out :=
  runPlv p t (fun s i => some (s.retireRd t i (v s i.word))) s

/-- ALU (R172, Table 9-5). -/
def execAlu (t : ThrId) (s : State) : Out := regInstr .alu t (fun s w => aluFn (wFn w) (s.gr t (wRa w)) (s.gr t (wRb w))) s
/-- ADDI (Table 9-4). -/
def execAddi (t : ThrId) (s : State) : Out := regInstr .addi t (fun s w => w64 (s.gr t (wRa w) + wSimm w)) s
/-- ANDI (Table 9-4). -/
def execAndi (t : ThrId) (s : State) : Out := regInstr .andi t (fun s w => s.gr t (wRa w) &&& wImm w) s
/-- ORI (Table 9-4). -/
def execOri (t : ThrId) (s : State) : Out := regInstr .ori t (fun s w => s.gr t (wRa w) ||| wImm w) s
/-- XORI (Table 9-4). -/
def execXori (t : ThrId) (s : State) : Out := regInstr .xori t (fun s w => s.gr t (wRa w) ^^^ wImm w) s
/-- SHI (Table 9-4). -/
def execShi (t : ThrId) (s : State) : Out := regInstr .shi t (fun s w => shiFn (s.gr t (wRa w)) (wImm w)) s
/-- CATI (Table 9-4). -/
def execCati (t : ThrId) (s : State) : Out := regInstr .cati t (fun s w => w64 (s.gr t (wRa w) * 2 ^ 16) + wImm w) s
/-- CRC (R185). -/
def execCrc (t : ThrId) (s : State) : Out := regInstr .crc t (fun s w => crcFn (wFn w) (s.gr t (wRd w)) (s.gr t (wRa w))) s
/-- MIX (R186). -/
def execMix (t : ThrId) (s : State) : Out := regInstr .mix t (fun s w => mix64 (s.gr t (wRa w)) (s.gr t (wRb w))) s
/-- FHASH (R186). -/
def execFhash (t : ThrId) (s : State) : Out :=
  regInstr .fhash t (fun s w => flowHash (s.gr t (wRa w) % 4096) (bits (s.gr t (wRa w)) 16 14) (bits (s.gr t (wRb w)) 12 9) (s.g SW_CFG_HASH_SEED)) s

/-- A branch: PC + 4 × sext(OFF) when its condition holds (R173). -/
def branchInstr (p : Plv) (t : ThrId) (s : State) : Out :=
  runPlv p t (fun s i =>
    let w := i.word
    some (s.retire t i 0 (if branchTaken p (s.gr t (wBa w)) (s.gr t (wBb w)) then w64 (i.pc + 4 * wSimm w) else i.pc + 4))) s

/-- BEQ. -/
def execBeq (t : ThrId) (s : State) : Out := branchInstr .beq t s
/-- BNE. -/
def execBne (t : ThrId) (s : State) : Out := branchInstr .bne t s
/-- BLT. -/
def execBlt (t : ThrId) (s : State) : Out := branchInstr .blt t s
/-- BGE. -/
def execBge (t : ThrId) (s : State) : Out := branchInstr .bge t s
/-- BLTU. -/
def execBltu (t : ThrId) (s : State) : Out := branchInstr .bltu t s
/-- BGEU. -/
def execBgeu (t : ThrId) (s : State) : Out := branchInstr .bgeu t s

/-- JAL (R167): g28 = PC + 4. -/
def execJal (t : ThrId) (s : State) : Out :=
  runPlv .jal t (fun s i => some ((s.grSet t 28 (i.pc + 4)).retire t i 0 (w64 (i.pc + 4 * wrap (sext (bits i.word 0 26) 26) 64)))) s

/-- JALR (R173): the target is formed before RD is written, and its bits [1:0] are cleared. -/
def execJalr (t : ThrId) (s : State) : Out :=
  runPlv .jalr t (fun s i =>
    let dest := w64 (s.gr t (wRa i.word) + wSimm i.word) / 4 * 4
    some ((s.grSet t (wRd i.word) (i.pc + 4)).retire t i 0 dest)) s

/-! ## Loads and stores of the engine address space (R174) -/

/-- The data address of a format I access. -/
def State.ea (s : State) (t w : Nat) : Nat := w64 (s.gr t (wRa w) + wSimm w)

/-- An access noted for the Chimney record. -/
def Issued.at (i : Issued) (a : Nat) (space : Option Nat) : Issued := { i with addr := a, space := space }
def Issued.eng (i : Issued) (pl : Eng) : Issued :=
  i.at pl.off (match pl.kind with | 0 => some 4 | 1 => some 2 | 2 => some 1 | _ => some 0)

/-- A load of `n` bytes; `e` says whether the memory's check fails on the data. DESIGN CHOICE (log 117): a load command whose check fails on the fetch
stands for that of the instruction at PC, be it a load or not. -/
def loadInstr (p : Plv) (n : Nat) (t : ThrId) (e : LocalErr) (s : State) : Out :=
  runFetch (e == .fetch) p t (fun s i =>
    let a := s.ea t i.word
    if a % n ≠ 0 then some (s.refuseAcc t i 3 a none)
    else match s.engCheck t a n 0 true with
      | .bad code arg g => some (s.refuseAcc t i code arg g)
      | .ok pl =>
        let i := i.eng pl
        if e = .data && pl.kind ≠ 2 then some (s.memError t i a)
        else if pl.kind = 2 && !s.hbmUp then none
        else some (s.retireRd t i (s.rdN pl.sp pl.off n))) s

/-- Bytes stored to the engine address space: until a thread's next FENCE I, its fetch sees what was there before (R175). -/
def State.engWrite (s : State) (t : Nat) (pl : Eng) (bs : List Byte) : State :=
  ((if pl.kind = 2 then s else s.thMod t (fun x => x.keepCode s.mem pl.sp (engAddr pl.kind 0) pl.off bs.length)).codeKeep pl.sp pl.off bs.length).wr pl.sp pl.off bs

/-- A store of the low `n` bytes of RD. -/
def storeInstr (p : Plv) (n : Nat) (t : ThrId) (s : State) : Out :=
  runPlv p t (fun s i =>
    let a := s.ea t i.word
    if a % n ≠ 0 then some (s.refuseAcc t i 3 a none)
    else match s.engCheck t a n 1 true with
      | .bad code arg g => some (s.refuseAcc t i code arg g)
      | .ok pl =>
        if pl.kind = 2 && !s.hbmUp then none
        else some ((s.engWrite t pl (leBytes n (s.gr t (wRd i.word)))).retire t (i.eng pl) 0 (i.pc + 4))) s

/-- LDB. -/
def execLdb (t : ThrId) (e : LocalErr) (s : State) : Out := loadInstr .ldb 1 t e s
/-- LDH. -/
def execLdh (t : ThrId) (e : LocalErr) (s : State) : Out := loadInstr .ldh 2 t e s
/-- LDW. -/
def execLdw (t : ThrId) (e : LocalErr) (s : State) : Out := loadInstr .ldw 4 t e s
/-- LDD. -/
def execLdd (t : ThrId) (e : LocalErr) (s : State) : Out := loadInstr .ldd 8 t e s
/-- STB. -/
def execStb (t : ThrId) (s : State) : Out := storeInstr .stb 1 t s
/-- STH. -/
def execSth (t : ThrId) (s : State) : Out := storeInstr .sth 2 t s
/-- STW. -/
def execStw (t : ThrId) (s : State) : Out := storeInstr .stw 4 t s
/-- STD. -/
def execStd (t : ThrId) (s : State) : Out := storeInstr .std 8 t s

/-- AMO on local or shared memory (R184): the HBM region is out of range, and the access is checked as a read and a write. -/
def execAmoLocal (t : ThrId) (s : State) : Out :=
  runPlv .amoLocal t (fun s i =>
    let w := i.word
    let a := s.gr t (wRa w)
    some (
      if a % 8 ≠ 0 then s.refuseAcc t i 3 a none
      else match s.engCheck t a 8 3 false with
        | .bad code arg g => s.refuseAcc t i code arg g
        | .ok pl =>
          let old := s.rdN pl.sp pl.off 8
          let new := amoFn (wFn w) old (s.gr t (wRb w)) (s.gr t (wRd w))
          (s.engWrite t pl (leBytes 8 new)).retireD t (i.eng pl) ST_OK a (fun s => s.grSet t (wRd w) old) id)) s

/-! ## Special registers (Table 9-1) -/

/-- The value of a special register. -/
def State.sprRead (s : State) (t n : Nat) (pc : Nat) : Nat :=
  let x := s.th t
  match n with
  | 0x000 => pc
  | 0x001 => s.tidOf t
  | 0x002 => s.priv t
  | 0x003 => x.inst
  | 0x004 => x.lstat
  | 0x005 => x.tctl
  | 0x006 => x.evtPend
  | 0x007 => x.evtMask
  | 0x008 => match x.timer with | some d => d - s.now | none => 0
  | 0x009 => x.serrAddr
  | 0x00A => x.serrStatus + b2n x.serrValid * 2 ^ 8 + b2n x.serrPending * 2 ^ 9 + x.serrMore * 2 ^ 16
  | 0x00B => s.now
  | 0x00C => s.curEpoch
  | 0x00D => x.icount
  | 0x010 => x.trapCode
  | 0x011 => x.trapPc
  | 0x012 => x.trapArg
  | _ => x.trapStat

/-- SERR_ADDR and SERR_STAT cleared, as a read of either does (R169). -/
def Thread.serrClear (x : Thread) : Thread := { x with serrAddr := 0, serrStatus := 0, serrValid := false, serrPending := false, serrMore := 0 }

/-- MFS (R169). -/
def execMfs (t : ThrId) (s : State) : Out :=
  runPlv .mfs t (fun s i =>
    let n := wImm i.word
    let v := s.sprRead t n i.pc
    let s := if n = 0x009 || n = 0x00A then s.thMod t Thread.serrClear else s
    some (s.retireRd t i v)) s

/-- A special register written. -/
def Thread.sprWrite (x : Thread) (now n v : Nat) : Thread :=
  match n with
  | 0x003 => { x with inst := v % 2 ^ 14 }
  | 0x004 => { x with lstat := v % 2 ^ 8 }
  | 0x005 => { x with tctl := v % 4 }
  | 0x006 => { x with evtPend := x.evtPend &&& (2 ^ 32 - 1 - v % 2 ^ 32) }
  | 0x007 => { x with evtMask := v % 2 ^ 32 }
  | 0x008 => { x with timer := if v % 2 ^ 32 = 0 then none else some (now + v % 2 ^ 32) }
  | 0x010 => { x with trapCode := v % 2 ^ 8 }
  | 0x011 => { x with trapPc := w64 v }
  | 0x012 => { x with trapArg := w64 v }
  | 0x013 => { x with trapStat := v % 2 ^ 8 }
  | _ => x

/-- MTS (R169). -/
def execMts (t : ThrId) (s : State) : Out :=
  runPlv .mts t (fun s i => some ((s.thMod t (fun x => x.sprWrite s.now (wImm i.word) (s.gr t (wRd i.word)))).retire t i 0 (i.pc + 4))) s

/-! ## System calls, returns, halting -/

/-- SYSCALL (Table 9-10). -/
def execSyscall (t : ThrId) (s : State) : Out := runPlv .syscall t (fun s i => some (s.exception t i 8 (wImm i.word) 0)) s
/-- BRK (Table 9-10). -/
def execBrk (t : ThrId) (s : State) : Out := runPlv .brk t (fun s i => some (s.exception t i 9 (wImm i.word) 0)) s

/-- The engine's P2 instance (R210). -/
def State.p2Inst (s : State) (t : Nat) : Nat := s.g ENG_CFG_P2_INST (thH t) (thI t / 4)

/-- TRET (R213): ILLEGAL outside a trap, which comes before the level check (R202). -/
def execTret (t : ThrId) (s : State) : Out :=
  runPlv .tret t (fun s i =>
    some (
      if !(s.inTrap t) then s.exception t i 1 i.word 0
      else
        let s := ((s.tp TH_STATUS_IN_TRAP 0 t).tp TH_STATUS_STATE 1 t).toLevel t (s.basePriv t)
        let s := if s.basePriv t = 2 then s.thMod t (fun x => { x with inst := s.p2Inst t }) else s
        s.retire t i 0 ((s.th t).trapPc / 4 * 4))) s

/-- YIELD (Table 9-4): the issue slot is given up; nothing but PC changes. -/
def execYield (t : ThrId) (s : State) : Out := runPlv .yield t (fun s i => some (s.retire t i 0 (i.pc + 4))) s

/-- HALT (Table 10-1). -/
def execHalt (t : ThrId) (s : State) : Out := runPlv .halt t (fun s i => some ((s.retire t i 0 (i.pc + 4)).haltThread t 1)) s

/-! ## Events (R191 to R193) and interrupts (R215) -/

/-- EVTWAIT takes what is pending of the bits it selects. -/
def State.evtTake (s : State) (t : Nat) (i : Issued) (m : Nat) : State :=
  let got := (s.th t).evtPend &&& (m % 2 ^ 32)
  (s.thMod t (fun x => { x with evtPend := x.evtPend &&& (2 ^ 32 - 1 - got) })).retireS t i ST_OK got

/-- EVTWAIT (R192): it takes pending selected events, or the thread waits; a waiting thread takes them when the command comes
again. -/
def execEvtwait (t : ThrId) (s : State) : Out :=
  match (s.th t).waiting, (s.th t).issued with
  | .event, some i => whenUp s fun s =>
      let m := s.gr t (wRa i.word)
      if (s.th t).evtPend &&& (m % 2 ^ 32) = 0 then s else s.evtTake t i m
  | _, _ =>
    runPlv .evtwait t (fun s i =>
      let m := s.gr t (wRa i.word)
      some (if (s.th t).evtPend &&& (m % 2 ^ 32) = 0 then s.thMod t (fun x => { x with waiting := .event, issued := some i })
            else s.evtTake t i m)) s

/-- EVTWAIT_TIMEOUT (R192): only a wait with a timeout, and only with nothing taken. -/
def execEvtwaitTimeout (t : ThrId) (s : State) : Out :=
  whenUp s fun s =>
    match (s.th t).waiting, (s.th t).issued with
    | .event, some i => if s.gr t (wRb i.word) = 0 then s else s.retireS t i ST_TIMEOUT 0
    | _, _ => s

/-- THREAD_TIMER_EXPIRY (R191): event 0, and the timer is disarmed. -/
def execThreadTimerExpiry (t : ThrId) (s : State) : Out :=
  whenUp s fun s =>
    if (s.th t).timer.isNone then s else (s.thMod t (fun x => { x with timer := none })).setEvent t 0

/-- Whether a device is in the stack, as this one sees it. -/
def State.inStack (s : State) (d : Nat) : Bool := d = s.dev || s.members.contains d

/-- An event (code 6) or a message to a thread or mailbox (7, 8) of another device: it goes over Sirfin with its sender's level and instance, and the
instruction waits for its status (R193, R194; log 108). -/
def State.farSend (s : State) (t : Nat) (i : Issued) (d code target n : Nat) (msg : List Byte) (answer : Bool) : State :=
  let x : Txn := { src := 0x80 + thH t, tag := thI t, dev := s.dev, inst := (s.th t).inst, cls := 0, kind := .far, addr := target, dpa := code, len := msg.length,
                   data := msg, mask := n + 32 * s.priv t, epoch := s.tidOf t, keepS := answer, tAcc := s.now, tQueue := s.now, priv := s.priv t, place := .stack d, hdev := d }
  let x := { x with path := s.pathOf x }
  let r := s.take { x with place := if s.fencedBy x then .fenced else .stack d }
  r.1.thMod t (fun x => { x with waiting := .fabric r.2, issued := some i })

/-- The status such an instruction ends with: one of its own, or LINK_DOWN where the answer is lost (log 108). -/
def farStatus (st : Nat) : Nat := if [ST_OK, ST_NO_MATCH, ST_ACCESS_DENIED, ST_FROZEN, ST_RETRY].contains st then st else ST_LINK_DOWN

/-- EVTSIG (R193). -/
def execEvtsig (t : ThrId) (s : State) : Out :=
  runPlv .evtsig t (fun s i =>
    let tid := s.gr t (wRa i.word) % 2 ^ 13
    let n := s.gr t (wRb i.word) % 32
    some (
      if n < 16 then s.retireS t i ST_NO_MATCH 0
      else if !(s.inStack (tid / 2048)) then s.retireS t i ST_LINK_DOWN 0
      else match s.thrOf tid with
        | some u =>
          if s.priv t = 2 && (s.th u).inst ≠ (s.th t).inst then s.retireS t i ST_ACCESS_DENIED 0
          else (s.retireS t i ST_OK 0).setEvent u n
        | none => s.farSend t i (tid / 2048) 6 tid n [] false)) s

/-- The lowest pending unmasked event of a thread. -/
def State.pendingInt (s : State) (t : Nat) : Option Nat :=
  let m := (s.th t).evtPend &&& (s.th t).evtMask
  (List.range 32).find? (fun n => bit m n)

/-- An interrupt taken: what had issued is left not performed, event `n` is no longer pending, and the trap is taken with TRAP_PC at it (R215). -/
def State.takeInt (s : State) (t n : Nat) : State :=
  let pc := (s.th t).pc
  let s := (s.unissue t (0x20 + n)).thMod t (fun x => { x with evtPend := x.evtPend &&& (2 ^ 32 - 1 - 2 ^ n) })
  s.trap t (0x20 + n) 0 0 pc

/-! ## Staging and commit (R187 to R190) -/

/-- STGR (R188): W is checked at the control offset (Table 14-3). -/
def execStgr (t : ThrId) (s : State) : Out :=
  runPlv .stgr t (fun s i =>
    let off := s.gr t (wRa i.word)
    let v := s.gr t (wRb i.word)
    let i := i.at off (some 3)
    some (
      if off ≥ 0x4000000 then s.retireS t i ST_NO_MATCH 0
      else match s.thGate t 3 off 8 1 with
        | some g => s.refuseAcc t i 5 g.2.1 (some g)
        | none =>
          match regAt off with
          | none => s.retireS t i ST_NO_MATCH 0
          | some (r, c, _) =>
            if r.rwe = [] then s.retireS t i ST_NO_MATCH 0
            else if !(s.stageOk r c v) then s.retireS t i ST_ACCESS_DENIED 0
            else match s.stagePut (s.th t).staging ⟨false, off, v⟩ with
              | none => s.retireS t i ST_RESOURCE_EXHAUSTED 0
              | some l => (s.stagingSet t l).retireS t i ST_OK 0)) s

/-- Page overrides that a staging set would add to the committed ones (R140). -/
def State.newOverrides (s : State) (l : List Staged) : Nat :=
  (l.filter (fun e => e.map && mapKind e.key == 1 && (nget? (mapIndex e.key) s.plc.pages).isNone)).length

/-- STGM (R189). The kind 3 and a non-zero RA[61:35] are refused. -/
def execStgm (t : ThrId) (s : State) : Out :=
  runPlv .stgm t (fun s i =>
    let ra := s.gr t (wRa i.word)
    let rb := s.gr t (wRb i.word)
    let kind := bits ra 62 2
    let ix := if kind = 0 then ra % 2 ^ 23 else ra % 2 ^ 32
    let set := (s.th t).staging
    let put (s : State) (v : Nat) : State :=
      match s.stagePut set ⟨true, kind * 2 ^ 62 + ix, v⟩ with
      | none => s.retireS t i ST_RESOURCE_EXHAUSTED 0
      | some l => if kind = 1 && s.plc.pages.length + s.newOverrides l > 67108864 then s.retireS t i ST_RESOURCE_EXHAUSTED 0
                  else (s.stagingSet t l).retireS t i ST_OK 0
    some (
      if bits ra 35 27 ≠ 0 || kind = 3 then s.retireS t i ST_ACCESS_DENIED 0
      else if kind = 2 then
        if (nget? ix s.plc.pages).isSome || set.any (fun e => e.map && mapKind e.key == 1 && mapIndex e.key == ix) then put s 0
        else s.retireS t i ST_NO_MATCH 0
      else if rb % 16 ≠ 0 then s.refuseAcc t i 3 rb none
      else match s.engCheck t rb 16 0 false with
        | .bad code arg g => s.refuseAcc t i code arg g
        | .ok pl =>
          let v := s.rdN pl.sp pl.off 16
          if imageOk kind v then put s v else s.retireS t i ST_ACCESS_DENIED 0)) s

/-- ECMT (R190): an empty set concludes at once; another waits for its commit. -/
def execEcmt (t : ThrId) (s : State) : Out :=
  runPlv .ecmt t (fun s i =>
    let w := i.word
    some (
      if (s.th t).staging = [] then s.retireS t i ST_OK s.curEpoch
      else
        let expect := if s.gr t (wRb w) % 2 = 1 then some (s.gr t (wRa w) % 2 ^ 32) else none
        (s.submit (.thread t) (s.th t).staging expect true).thMod t (fun x => { x with waiting := .commit, issued := some i }))) s

/-- EABORT (R190). -/
def execEabort (t : ThrId) (s : State) : Out :=
  runPlv .eabort t (fun s i =>
    some (if (s.th t).staging = [] then s.retireS t i ST_LATE 0 else (s.stagingSet t []).retireS t i ST_OK 0)) s

/-! ## Receiving a message (R195) -/

/-- MBRECV. -/
def execMbrecv (t : ThrId) (s : State) : Out :=
  runPlv .mbrecv t (fun s i =>
    let a := s.gr t (wRa i.word)
    some (
      if a % 64 ≠ 0 then s.refuseAcc t i 3 a none
      else match s.engCheck t a 64 1 false with
        | .bad code arg g => s.refuseAcc t i code arg g
        | .ok pl =>
          match (s.th t).rxq with
          | [] => s.retireS t i ST_RETRY 0
          | m :: ms => ((s.engWrite t pl m).thMod t (fun x => { x with rxq := ms })).retireS t i ST_OK 0)) s

end Sys2Proof.Machine
end

