-- ==== Sys2Proof/Machine/Fabric.lean ====
section
/-! DEFINITION. The fabric instructions: loads, posted stores and AMOs, their answers, back-off, fences, and
the snoops of the home (R175 to R184, R207, R208). -/

namespace Sys2Proof.Machine

/-! ## Issuing a fabric request -/

/-- A request of a thread (R176). -/
def State.thTxn (s : State) (t inst : Nat) (kind : ReqKind) (a : Nat) (bs : List Byte) : Txn :=
  { s.reqTxn (0x80 + thH t) (thI t) inst kind a bs with priv := s.priv t, store := kind == .rdA }

/-- RETRY_AUTO, NOTRAP of a thread. -/
def State.retryAuto (s : State) (t : Nat) : Bool := bit (s.th t).tctl 1

/-- A thread waits out a RETRY: 1 µs, doubled after each further one up to 64 µs (R180). -/
def State.backOff (s : State) (t : Nat) (i : Issued) : State :=
  s.thMod t (fun x => { x with waiting := .retry, issued := some { i with retries := i.retries + 1, waitNs := i.waitNs + 1000 * 2 ^ min i.retries 6 } })

/-- A request that its instruction waits for: held at issue at a bound (R183), refused with RETRY, answered at once, or in flight. -/
def State.fabIssue (s : State) (t : Nat) (i : Issued) (x : Txn) (fin : State → Nat → State) : Option State :=
  match s.admitInternal x with
  | (_, .held) => none
  | (s, .retry) => some (if s.retryAuto t then s.backOff t i else fin s ST_RETRY)
  | (s, .answered st) => some (fin s st)
  | (s, .inFlight id) => some (s.thMod t (fun x => { x with waiting := .fabric id, issued := some i }))

/-- Whether a posted store of the thread to a line has not concluded (R181). -/
def Thread.storesTo (x : Thread) (line : Nat) : Bool := x.stores.any (fun p => p.addr / 64 == line)

/-! ## Loads (R177, R178) -/

/-- The low 8 bytes at an address of a line's data, as a number. -/
def dword (data : List Byte) (a : Nat) : Nat := leNat ((data.drop (a % 64)).take 8)

/-- A load concludes with a status and a line. -/
def State.loadDone (s : State) (t : Nat) (i : Issued) (st : Nat) (data : List Byte) : State :=
  let rd := wRd i.word
  match plvOf i.word with
  | some .flineLd | some .flineLdu =>
    let put (bs : List Byte) (s : State) : State :=
      match engAt t (s.gr t rd) 64 with | some pl => s.engWrite t pl bs | none => s
    s.retireD t i st i.addr (put ((data ++ List.replicate 64 0).take 64)) (put (List.replicate 64 0))
  | _ => s.retireD t i st i.addr (fun s => s.grSet t rd (dword data i.addr)) (fun s => s.grSet t rd 0)

/-- A load's request: from the cache, or to the home. -/
def State.loadGo (s : State) (t : Nat) (i : Issued) (cached : Bool) (e : FlcErr) : Option State :=
  let a := i.addr
  let line := a / 64
  let h := thH t
  if (s.th t).storesTo line then none
  else if cached then
    match s.flcLook h line e with
    | (s, .line x) =>
      let s := s.flcPut h line { x with rank := s.flcNext h line, inst := i.inst }
      some (s.loadDone t { i with hit := true } (if x.poison then ST_POISON else ST_OK) x.data)
    | (s, .lost) => some (s.loadDone t i ST_POISON [])
    | (s, .miss) => s.fabIssue t i (s.thTxn t i.inst .rdS a []) (fun s st => s.loadDone t i st [])
  else s.fabIssue t i (s.thTxn t i.inst .rdCur a []) (fun s st => s.loadDone t i st [])

/-- FLD and FLDU: the address, and its checks. -/
def fldBody (t : Nat) (cached : Bool) (e : FlcErr) (s : State) (i : Issued) : Option State :=
  let a := s.ea t i.word
  let i := i.at a (some 0)
  if a % 8 ≠ 0 then some (s.refuseAcc t i 3 a none)
  else match s.fabCheck t a 8 0 with
    | .bad code arg g => some (s.refuseAcc t i code arg g)
    | .ok _ => s.loadGo t i cached e

/-- FLINE loads: the operand in RD is checked before the one in RA (R202). -/
def flineLdBody (t : Nat) (cached : Bool) (e : FlcErr) (s : State) (i : Issued) : Option State :=
  let d := s.gr t (wRd i.word)
  let a := s.gr t (wRa i.word)
  let i := i.at a (some 0)
  if d % 64 ≠ 0 then some (s.refuseAcc t i 3 d none)
  else match s.engCheck t d 64 1 true with
    | .bad code arg g => some (s.refuseAcc t i code arg g)
    | .ok pl =>
      if a % 64 ≠ 0 then some (s.refuseAcc t i 3 a none)
      else match s.fabCheck t a 64 0 with
        | .bad code arg g => some (s.refuseAcc t i code arg g)
        | .ok _ => if pl.kind = 2 && !s.hbmUp then none else s.loadGo t i cached e

/-! ## Posted stores (R181, R182) -/

/-- A failed posted store recorded (R182). -/
def Thread.serrRecord (x : Thread) (a st : Nat) : Thread :=
  if x.serrValid then { x with serrMore := min (x.serrMore + 1) 0xFFFF }
  else { x with serrAddr := a, serrStatus := st, serrValid := true, serrPending := true }

/-- The status of a cached store: one of part of a poisoned line makes nothing of it look valid, and has POISON (R123, R135; log 66). -/
def State.storeStatus (s : State) (t : Nat) (p : PostedStore) (st : Nat) : Nat :=
  if st = ST_OK && p.cached && !p.line && (match s.flcGet (thH t) (p.addr / 64) with | some x => x.poison | none => false) then ST_POISON else st

/-- A posted store concludes: on OK a cached one writes its line. -/
def State.storeEnd (s : State) (t : Nat) (p : PostedStore) (st : Nat) : State :=
  let st := s.storeStatus t p st
  let s := if st = ST_OK then (if p.cached then s.flcWrite (thH t) p.addr p.data p.inst else s)
    else s.thMod t (fun x => x.serrRecord p.addr st)
  match p.sample with | some i => s.chmRecord t i st 0 | none => s

/-- A posted store's request: a cached one fetches its line owned, an uncached one is WR_PTL of 8 B or WR of a line. -/
def State.storeTxn (s : State) (t : Nat) (p : PostedStore) : Txn :=
  { (if p.cached then s.thTxn t p.inst .rdA p.addr [] else s.thTxn t p.inst (if p.line then .wr else .wrPtl) p.addr p.data) with priv := p.priv }

/-- The line a cached store writes is owned in the cache. -/
def State.flcOwned (s : State) (h line : Nat) : Bool := match s.flcGet h line with | some x => x.owned | none => false

/-- A store enters the queue and its instruction goes on; its record is written when the store concludes. -/
def State.storeQueue (s : State) (t : Nat) (i : Issued) (p : PostedStore) : State :=
  let p := { p with sample := if i.tagged then some i else none }
  (s.thMod t (fun x => { x with stores := x.stores ++ [p] })).retireD t { i with tagged := false } ST_OK i.addr id id

/-- A store that concludes as it is posted: its instruction goes on. -/
def State.storeNow (s : State) (t : Nat) (i : Issued) (p : PostedStore) (st : Nat) : State :=
  (s.storeEnd t { p with sample := if i.tagged then some i else none } st).retireD t { i with tagged := false } ST_OK i.addr id id

/-- A store is posted: it stalls at a full queue, waits in it behind an earlier store to its line, and is otherwise issued. -/
def State.storeGo (s : State) (t : Nat) (i : Issued) (p : PostedStore) (e : FlcErr) : Option State :=
  let line := p.addr / 64
  if (s.th t).stores.length ≥ 16 then none
  else if (s.th t).storesTo line then some (s.storeQueue t i p)
  else
    let q := if p.cached then s.flcLook (thH t) line e else (s, FlcHit.miss)
    let s := q.1
    match q.2 with
    | .lost => some (s.storeNow t i p ST_POISON)
    | _ =>
      if p.cached && s.flcOwned (thH t) line then some (s.storeNow t { i with hit := true } p ST_OK)
      else match s.admitInternal (s.storeTxn t p) with
        | (_, .held) => none
        | (s, .retry) => some (if s.retryAuto t then s.backOff t i else s.storeNow t i p ST_RETRY)
        | (s, .answered st) => some (s.storeNow t i p st)
        | (s, .inFlight id) => some (s.storeQueue t i { p with txn := some id })

/-- FST and FSTU. -/
def fstBody (t : Nat) (cached : Bool) (e : FlcErr) (s : State) (i : Issued) : Option State :=
  let a := s.ea t i.word
  let i := i.at a (some 0)
  if a % 8 ≠ 0 then some (s.refuseAcc t i 3 a none)
  else match s.fabCheck t a 8 1 with
    | .bad code arg g => some (s.refuseAcc t i code arg g)
    | .ok _ => s.storeGo t i { addr := a, data := leBytes 8 (s.gr t (wRd i.word)), cached := cached, txn := none, inst := i.inst, priv := i.priv } e

/-- FLINE stores. -/
def flineStBody (t : Nat) (cached : Bool) (e : FlcErr) (s : State) (i : Issued) : Option State :=
  let d := s.gr t (wRd i.word)
  let a := s.gr t (wRa i.word)
  let i := i.at a (some 0)
  if d % 64 ≠ 0 then some (s.refuseAcc t i 3 d none)
  else match s.engCheck t d 64 0 true with
    | .bad code arg g => some (s.refuseAcc t i code arg g)
    | .ok pl =>
      if a % 64 ≠ 0 then some (s.refuseAcc t i 3 a none)
      else match s.fabCheck t a 64 1 with
        | .bad code arg g => some (s.refuseAcc t i code arg g)
        | .ok _ =>
          if pl.kind = 2 && !s.hbmUp then none
          else s.storeGo t i { addr := a, data := s.rd pl.sp pl.off 64, cached := cached, txn := none, line := true, inst := i.inst, priv := i.priv } e

/-! ## Fences (R175) and fabric AMOs (R184) -/

/-- A failed posted store is reported: PENDING clears, and STORE_ERR is raised, or LSTAT takes the status and the instruction goes
on (R182). -/
def State.serrReport (s : State) (t : Nat) (i : Issued) (go : State → Option State) : Option State :=
  let x := s.th t
  if !x.serrPending then go s
  else
    let s := s.thMod t (fun x => { x with serrPending := false })
    if bit x.tctl 0 then go (s.thMod t (fun x => { x with lstat := x.serrStatus }))
    else some (s.exception t i 7 x.serrAddr x.serrStatus)

/-- FENCE F, A and I: they wait for every posted store; FENCE I also discards instructions fetched. -/
def fenceInstr (p : Plv) (code : Bool) (t : ThrId) (s : State) : Out :=
  runPlv p t (fun s i =>
    if (s.th t).stores ≠ [] then none
    else s.serrReport t i (fun s =>
      some ((if code then s.thMod t (fun x => { x with oldCode := [] }) else s).retire t i 0 (i.pc + 4)))) s

/-- FENCE L: earlier stores to local, shared and HBM memory are visible at once. -/
def execFenceL (t : ThrId) (s : State) : Out := runPlv .fenceL t (fun s i => some (s.retire t i 0 (i.pc + 4))) s
/-- FENCE F. -/
def execFenceF (t : ThrId) (s : State) : Out := fenceInstr .fenceF false t s
/-- FENCE A. A CST has concluded before a later instruction issues (R179), so no CST is waited for. -/
def execFenceA (t : ThrId) (s : State) : Out := fenceInstr .fenceA false t s
/-- FENCE I. -/
def execFenceI (t : ThrId) (s : State) : Out := fenceInstr .fenceI true t s

/-- An AMO that fails. -/
def State.amoFail (s : State) (t : Nat) (i : Issued) (st : Nat) : State :=
  s.retireD t i st i.addr id (fun s => s.grSet t (wRd i.word) 0)

/-- The AMO on an owned line. -/
def State.amoDo (s : State) (t : Nat) (i : Issued) : State :=
  let w := i.word
  match s.flcGet (thH t) (i.addr / 64) with
  | some x =>
    let old := dword x.data i.addr
    let new := amoFn (wFn w) old (s.gr t (wRb w)) (s.gr t (wRd w))
    if x.poison then s.amoFail t i ST_POISON
    else (s.flcWrite (thH t) i.addr (leBytes 8 new) i.inst).retireD t i ST_OK i.addr (fun s => s.grSet t (wRd w) old) id
  | none => s

/-- A fabric AMO: it waits as FENCE F does, owns the line, and is performed in the cache. -/
def amoBody (t : Nat) (e : FlcErr) (s : State) (i : Issued) : Option State :=
  let a := s.gr t (wRa i.word)
  let i := i.at a (some 0)
  if a % 8 ≠ 0 then some (s.refuseAcc t i 3 a none)
  else match s.fabCheck t a 8 3 with
    | .bad code arg g => some (s.refuseAcc t i code arg g)
    | .ok _ =>
      if (s.th t).stores ≠ [] then none
      else s.serrReport t i (fun s =>
        match s.flcLook (thH t) (a / 64) e with
        | (s, .lost) => some (s.amoFail t i ST_POISON)
        | (s, _) =>
          if s.flcOwned (thH t) (a / 64) then some (s.amoDo t { i with hit := true })
          else s.fabIssue t i (s.thTxn t i.inst .rdA a []) (fun s st => s.amoFail t i st))

/-! ## The commands -/

/-- FLD. -/
def execFld (t : ThrId) (e : FlcErr) (s : State) : Out := runPlv .fld t (fldBody t true e) s
/-- FLDU. -/
def execFldu (t : ThrId) (s : State) : Out := runPlv .fldu t (fldBody t false .none) s
/-- FST. -/
def execFst (t : ThrId) (e : FlcErr) (s : State) : Out := runPlv .fst t (fstBody t true e) s
/-- FSTU. -/
def execFstu (t : ThrId) (s : State) : Out := runPlv .fstu t (fstBody t false .none) s
/-- FLINE 0. -/
def execFlineLd (t : ThrId) (e : FlcErr) (s : State) : Out := runPlv .flineLd t (flineLdBody t true e) s
/-- FLINE 1. -/
def execFlineLdu (t : ThrId) (s : State) : Out := runPlv .flineLdu t (flineLdBody t false .none) s
/-- FLINE 2. -/
def execFlineSt (t : ThrId) (e : FlcErr) (s : State) : Out := runPlv .flineSt t (flineStBody t true e) s
/-- FLINE 3. -/
def execFlineStu (t : ThrId) (s : State) : Out := runPlv .flineStu t (flineStBody t false .none) s
/-- AMO on fabric memory. -/
def execAmoFabric (t : ThrId) (e : FlcErr) (s : State) : Out := runPlv .amoFabric t (amoBody t e) s

/-- A line that a hearth is granted enters its cache; a poisoned one as a poisoned copy (R123). -/
def State.flcGrant (s : State) (h line : Nat) (owned : Bool) (a : IntAnswer) (inst : Nat) : State :=
  if a.status = ST_OK then s.flcFill h line owned a.data inst
  else if a.status = ST_POISON && a.data.length = 64 then (match (s.flcFill h line owned a.data inst).flcGet h line with
    | some x => (s.flcFill h line owned a.data inst).flcPut h line { x with poison := true }
    | none => s)
  else s

/-- FABRIC_ANSWER (R178): the answer has come, and the instruction concludes; a line fetched enters the cache. -/
def execFabricAnswer (t : ThrId) (s : State) : Out :=
  whenUp s fun s =>
    match (s.th t).waiting, (s.th t).issued with
    | .cst st, some i => s.retireD t i st i.addr id id
    | .fabric id, some i =>
      match s.takeAnswer id with
      | none => s
      | some (a, s) =>
        let fill (s : State) (owned : Bool) : State := s.flcGrant (thH t) (i.addr / 64) owned a i.inst
        match plvOf i.word with
        | some .fld | some .flineLd => (fill s false).loadDone t i a.status a.data
        | some .fldu | some .flineLdu => s.loadDone t i a.status a.data
        | some .amoFabric => if a.status = ST_OK then (fill s true).amoDo t i else (fill s true).amoFail t i a.status
        | some .evtsig | some .mbsend => s.retireS t i (farStatus a.status) 0
        | _ => s
    | _, _ => s

/-- The k-th posted store leaves its thread's queue with a status. -/
def State.storeLeave (s : State) (t k : Nat) (p : PostedStore) (st : Nat) : State :=
  (s.thMod t (fun x => { x with stores := x.stores.eraseIdx k })).storeEnd t p st

/-- The k-th posted store of a thread changed. -/
def State.storeSet (s : State) (t k : Nat) (p : PostedStore) : State := s.thMod t (fun x => { x with stores := x.stores.set k p })

/-- A posted store after one more RETRY: its wait counts in its record (R180). -/
def PostedStore.again (p : PostedStore) : PostedStore :=
  { p with held := true, retries := p.retries + 1, sample := p.sample.map (fun i => { i with waitNs := i.waitNs + 1000 * 2 ^ min p.retries 6 }) }

/-- The k-th posted store of a thread is issued. A RETRY ends it, or with RETRY_AUTO it waits to be issued again (R180). -/
def State.storeIssue (s : State) (t k : Nat) (p : PostedStore) : State :=
  if p.cached && s.flcOwned (thH t) (p.addr / 64) then s.storeLeave t k p ST_OK
  else match s.admitInternal (s.storeTxn t p) with
    | (_, .held) => s
    | (s, .retry) => if s.retryAuto t then s.storeSet t k p.again else s.storeLeave t k p ST_RETRY
    | (s, .answered st) => s.storeLeave t k p st
    | (s, .inFlight id) => s.storeSet t k { p with txn := some id, held := false }

/-- RETRY_REISSUE (R180): the request is issued again, or where the thread waits for none, that of its first posted store that waits. -/
def execRetryReissue (t : ThrId) (s : State) : Out :=
  whenUp s fun s =>
    match (s.th t).waiting, (s.th t).issued with
    | .retry, some i =>
      let s0 := s.thMod t (fun x => { x with waiting := .none })
      ((match plvOf i.word with
        | some .fld => fldBody t true .none s0 i
        | some .fldu => fldBody t false .none s0 i
        | some .fst => fstBody t true .none s0 i
        | some .fstu => fstBody t false .none s0 i
        | some .flineLd => flineLdBody t true .none s0 i
        | some .flineLdu => flineLdBody t false .none s0 i
        | some .flineSt => flineStBody t true .none s0 i
        | some .flineStu => flineStBody t false .none s0 i
        | some .amoFabric => amoBody t .none s0 i
        | _ => none)).getD s
    | _, _ =>
      let l := (s.th t).stores
      match l.find? (fun p => p.held) with
      | some p => s.storeIssue t (l.findIdx (fun p => p.held)) p
      | none => s

/-- POSTED_STORE_CONCLUDE (R181, R182): the k-th posted store of a thread concludes with its answer; one that waited behind a store
to its line is issued once that has gone. -/
def execPostedStoreConclude (t : ThrId) (k : Fin 16) (s : State) : Out :=
  whenUp s fun s =>
    match (s.th t).stores[k.val]? with
    | none => s
    | some p =>
      match p.txn with
      | some id =>
        match s.takeAnswer id with
        | none => s
        | some (a, s) =>
          let s := if p.cached then s.flcGrant (thH t) (p.addr / 64) true a p.inst else s
          s.storeLeave t k p a.status
      | none =>
        if p.held || ((s.th t).stores.take k).any (fun x => x.addr / 64 == p.addr / 64) then s else s.storeIssue t k p

/-- Whether a hearth holds a snoop to a line: a request of its whose data was forwarded, or whose answer has come, has not completed (R125); or its own WB of
the line is on its way, so that memory is not current yet (R124). -/
def State.snoopHeld (s : State) (h line : Nat) (after : Option Nat) : Bool :=
  let x := s.dev * 4096 + 0x80 + h
  s.hm.reqs.any (fun e => e.2.line == line && e.2.fwd &&
    (match s.txn e.1 with | some t => t.dev * 4096 + t.src == x | none => false)) ||
  s.sw.txns.any (fun e => e.2.dev == s.dev && e.2.src == 0x80 + h && e.2.addr / 64 == line &&
    (e.2.grant.isSome || e.2.fwd.isSome || e.2.kind == .wb || after == some e.1)) ||
  s.sw.answers.any (fun e => e.2.src == 0x80 + h && e.2.line == some line)

/-- HEARTH_SNOOP (R125, R207): a snoop of the home is answered from the cache, once nothing of the hearth's holds it. -/
def execHearthSnoop (h : HearthId) (line : Nat) (s : State) : Out :=
  whenUp s fun s =>
    let x := s.dev * 4096 + 0x80 + h.val
    match s.hm.hearthSnoops.find? (fun n => n.holder == x && n.line == line) with
    | none => s
    | some n =>
      if s.snoopHeld h line n.after then s
      else
        let ans (s : State) (data : Option (List Byte)) (poison kept : Bool) : State :=
          { s with hm := { s.hm with hearthSnoops := s.hm.hearthSnoops.erase n, answers := s.hm.answers ++ [⟨x, line, data, poison, kept, n.dst⟩] } }
        match s.flcGet h line with
        | none => ans s none false false
        | some c =>
          let data := if c.dirty then some c.data else none
          match n.kind with
          | 0 => ans (s.flcDel h line) data c.poison false
          | 1 => ans (s.flcPut h line { c with owned := false, dirty := false }) data c.poison true
          | _ => ans s data c.poison true

end Sys2Proof.Machine
end

