-- ==== Sys2Proof/Machine/Block.lean ====
section
/-! DEFINITION. The block instructions BMOVE, BFILL and BCMP: their beats, how a beat is issued and concludes, and the progress
registers (R197 to R200). -/

namespace Sys2Proof.Machine

/-- Whether the operand in RD, and the one in RA, is fabric (Table 9-11). -/
def dFab (w : Nat) : Bool := bit w 0
def aFab (w : Nat) : Bool := bit w 1 && wOp w != 0x35

/-- BFILL, and BCMP. -/
def isFill (w : Nat) : Bool := wOp w == 0x35
def isCmp (w : Nat) : Bool := wOp w == 0x36

/-- The check of one operand of a beat. -/
def State.beatCheck (s : State) (t : Nat) (fab : Bool) (a len kind : Nat) : Chk :=
  if fab then s.fabCheck t a len kind else s.engCheck t a len kind true

/-- How a BMOVE's source and destination overlap, over the bytes left: none, destination below the source, or above it (R199). -/
inductive Overlap
  | apart | below | above
deriving DecidableEq, Repr

/-- The overlap of a block instruction as its registers stand. -/
def State.overlapOf (s : State) (t w : Nat) : Overlap :=
  let d := s.gr t (wRd w)
  let a := s.gr t (wRa w)
  let n := s.gr t (wRb w)
  if wOp w ≠ 0x34 || dFab w ≠ aFab w || d = a then .apart
  else if d < a then (if a < d + n then .below else .apart)
  else if d < a + n then .above else .apart

/-- The end of a destination that the instruction leaves undefined as it starts (R199): of a BMOVE to above an overlapping source, or of what is left of
one that stopped (DEDUCED, log 117: by its end). -/
def State.lapOf (s : State) (t w : Nat) : Option Nat :=
  let e := s.gr t (wRd w) + s.gr t (wRb w)
  if s.overlapOf t w = .above || (wOp w = 0x34 && (s.th t).blockLap == some e) then some e else none

/-- Whether an operand of a block instruction in the HBM region waits for its clock (R36). -/
def State.beatWaits (s : State) (t w : Nat) (b : Beat) : Bool :=
  let hbm (fab : Bool) (a : Nat) : Bool := !fab && (match engAt t a b.len with | some pl => pl.kind == 2 | none => false)
  !s.hbmUp && (hbm (dFab w) b.dst || (!(isFill w) && hbm (aFab w) b.src))

/-- The next beat of a block instruction: it starts after those in flight, and ends at a 64-byte boundary of RD (R197). -/
def State.nextBeat (s : State) (t w : Nat) : Option Beat :=
  let off := (s.th t).beats.foldl (fun n b => n + b.len) 0
  let d := w64 (s.gr t (wRd w) + off)
  let left := s.gr t (wRb w) - off
  if left = 0 then none
  else
    let len := min (64 - d % 64) left
    some { dst := d, src := w64 (s.gr t (wRa w) + off), len := len }

/-- The reads a beat makes of an operand: its part of each line of fabric memory, or its engine bytes at once. -/
def State.beatReads (s : State) (t : Nat) (rd fab : Bool) (a len : Nat) : List BeatRead :=
  if fab then (lineParts a len).map (fun p => { rd := rd, addr := p.1, len := p.2 })
  else match engAt t a len with
    | some pl => [{ rd := rd, addr := a, len := len, data := some (s.rd pl.sp pl.off len) }]
    | none => []

/-- A beat checked and begun: the operand in RD before the one in RA (R202); a refused beat has failed. -/
def State.startBeat (s : State) (t w : Nat) (b : Beat) : State × Beat :=
  let refuse (s : State) (code arg : Nat) (g : Option (GateAcc × Nat × Option Nat)) : State × Beat :=
    (s.recordRefusal t g, { b with phase := .failed true code arg 0 })
  match s.beatCheck t (dFab w) b.dst b.len (if isCmp w then 0 else 1) with
  | .bad code arg g => refuse s code arg g
  | .ok _ =>
    if isFill w then (s, b)
    else match s.beatCheck t (aFab w) b.src b.len 0 with
      | .bad code arg g => refuse s code arg g
      | .ok _ => (s, { b with reads := (if isCmp w then s.beatReads t true (dFab w) b.dst b.len else []) ++ s.beatReads t false (aFab w) b.src b.len })

/-- A request of a beat: issued, or left for another try at a bound or in a back-off, or failed. -/
inductive BeatIssue
  | later
  | flying (id : Nat)
  | failed (status : Nat)
deriving DecidableEq, Repr

def State.beatIssue (s : State) (t : Nat) (x : Txn) : State × BeatIssue :=
  match s.admitInternal x with
  | (_, .held) => (s, .later)
  | (s', .retry) => if s'.retryAuto t then (s', .later) else (s', .failed ST_RETRY)
  | (s', .answered st) => (s', .failed st)
  | (s', .inFlight id) => (s', .flying id)

/-- A read of a beat taken as far as it goes now: its answer taken, or its request issued, unless another has failed. -/
def State.stepRead (s : State) (t inst : Nat) (stop : Bool) (r : BeatRead) : State × BeatRead :=
  match r.txn with
  | some id =>
    match s.takeAnswer id with
    | none => (s, r)
    | some (a, s) =>
      if a.status = ST_OK then (s, { r with txn := none, data := some ((a.data.drop (r.addr % 64)).take r.len) })
      else (s, { r with txn := none, status := a.status })
  | none =>
    if r.data.isSome || r.status ≠ ST_OK || stop || (s.th t).storesTo (r.addr / 64) then (s, r)
    else match s.beatIssue t (s.thTxn t inst .rdCur r.addr []) with
      | (s, .later) => (s, r)
      | (s, .flying id) => (s, { r with txn := some id })
      | (s, .failed st) => (s, { r with status := st })

/-- The reads of a beat taken as far as they go. -/
def State.stepReads (s : State) (t inst : Nat) (rs : List BeatRead) : State × List BeatRead :=
  let stop := rs.any (fun r => r.status != ST_OK)
  rs.foldl (fun q r => let x := q.1.stepRead t inst stop r; (x.1, q.2 ++ [x.2])) (s, [])

/-- The data a beat has read of an operand. -/
def Beat.got (b : Beat) (rd : Bool) : List Byte := (b.reads.filter (fun r => r.rd == rd)).flatMap (fun r => r.data.getD [])

/-- The bytes a beat writes: the source's, or the pattern by address; free bytes over the whole destination where it lies above an overlapping source
(R199, log 1). -/
def State.beatBytes (s : State) (t w : Nat) (b : Beat) : State × List Byte :=
  if isFill w then
    let pat := leBytes 8 (s.gr t (wRa w))
    (s, (List.range b.len).map (fun k => pat.getD ((b.dst + k) % 8) 0))
  else if (s.th t).blockLap.isSome then
    let f := s.freshBytes b.len
    (f.2, f.1)
  else (s, b.got false)

/-- The first difference of two runs of bytes. -/
def firstDiff (a b : List Byte) : Option Nat := (List.range (max a.length b.length)).find? (fun k => a[k]? != b[k]?)

/-- A beat whose reads are in hand: compared, written to engine memory, or its fabric write issued (R198). -/
def State.beatWrite (s : State) (t : Nat) (i : Issued) (b : Beat) : State × Beat :=
  let w := i.word
  if isCmp w then
    (s, { b with phase := match firstDiff (b.got true) (b.got false) with | some k => .diff k | none => .done })
  else
    let q := s.beatBytes t w b
    if dFab w && (s.th t).storesTo (b.dst / 64) then (s, b)
    else if dFab w then
      match q.1.beatIssue t (q.1.thTxn t i.inst (if b.len = 64 then .wr else .wrPtl) b.dst q.2) with
      | (_, .later) => (s, b)
      | (s, .flying id) => (s, { b with phase := .writing id })
      | (s, .failed st) => (s, { b with phase := .failed false 6 b.dst st })
    else match engAt t b.dst b.len with
      | some pl => (q.1.engWrite t pl q.2, { b with phase := .done })
      | none => (s, b)

/-- A beat taken as far as it goes now. -/
def State.stepBeat (s : State) (t : Nat) (i : Issued) (b : Beat) : State × Beat :=
  match b.phase with
  | .reading =>
    let q := s.stepReads t i.inst b.reads
    let b := { b with reads := q.2 }
    if b.reads.any (fun r => r.txn.isSome) then (q.1, b)
    else match b.reads.find? (fun r => r.status != ST_OK) with
      | some r => (q.1, { b with phase := .failed false 6 r.addr r.status })
      | none => if b.reads.all (fun r => r.data.isSome) then q.1.beatWrite t i b else (q.1, b)
  | .writing id =>
    match s.takeAnswer id with
    | none => (s, b)
    | some (a, s) => (s, { b with phase := if a.status = ST_OK then .done else .failed false 6 b.dst a.status })
  | _ => (s, b)

/-- Whether a beat has ended. -/
def Beat.ended (b : Beat) : Bool :=
  match b.phase with
  | .reading | .writing _ => false
  | _ => true

/-- The progress registers advanced by `n` bytes: RD, for BMOVE and BCMP RA as well, and RB (R197). -/
def State.progress (s : State) (t w n : Nat) : State :=
  let s := s.grSet t (wRd w) (s.gr t (wRd w) + n)
  let s := if isFill w then s else s.grSet t (wRa w) (s.gr t (wRa w) + n)
  s.grSet t (wRb w) (s.gr t (wRb w) - n)

/-- The leading beats that have completed leave, and the registers advance over them. -/
def State.popBeats (s : State) (t w : Nat) : List Beat → State
  | [] => s.thMod t (fun x => { x with beats := [] })
  | b :: bs =>
    match b.phase with
    | .done => (s.progress t w b.len).popBeats t w bs
    | _ => s.thMod t (fun x => { x with beats := b :: bs })

/-- Beats issued while fewer than eight are in flight: one at a time where the destination lies below an overlapping source, and
none once a beat has failed or differed, or an interrupt or STOP waits (R199, R200). -/
def State.issueBeats (s : State) (t w : Nat) : Nat → State
  | 0 => s
  | n + 1 =>
    let bs := (s.th t).beats
    let stop := (s.th t).noIssue || bs.any (fun b => b.ended && b.phase != .done) || bs.length ≥ (if s.overlapOf t w = .below then 1 else 8)
    if stop then s
    else match s.nextBeat t w with
      | none => s
      | some b =>
      if s.beatWaits t w b then s
      else
        let q := s.startBeat t w b
        (q.1.thMod t (fun x => { x with beats := x.beats ++ [q.2] })).issueBeats t w n

/-- Whether a beat has a request in flight. -/
def Beat.flying (b : Beat) : Bool :=
  match b.phase with
  | .reading => b.reads.any (fun r => r.txn.isSome)
  | .writing _ => true
  | _ => false

/-- Where an interrupt or STOP waits and no beat is in flight, beats that have not ended are given up: none of them has begun its write (R200). -/
def State.haltBeats (s : State) (t : Nat) : State :=
  if (s.th t).noIssue && !((s.th t).beats.any Beat.flying) then s.thMod t (fun x => { x with beats := x.beats.takeWhile Beat.ended }) else s

/-- A block instruction at a beat boundary where an interrupt or STOP waits: it halts, or the interrupt is taken with TRAP_PC at it, RB at 0 or not
(R200, R204). -/
def State.blockHalt (s : State) (t : Nat) : State :=
  match (if (s.th t).stopAsked || (s.th t).clearAsked then none else s.pendingInt t) with
  | some n => s.takeInt t n
  | none => (s.unissue t 0).stopHere t

/-- A block instruction after its beats have moved: it completes, stops on a failed beat once those in flight have ended, stops where
a STOP or an interrupt waits, or issues further beats (R178, R199, R200, R204). -/
def State.blockGo (s : State) (t : Nat) (i : Issued) : State :=
  let w := i.word
  let s := (s.popBeats t w (s.th t).beats).haltBeats t
  let bs := (s.th t).beats
  let fin (s : State) (st arg : Nat) : State :=
    (s.thMod t (fun x => { x with beats := [], waiting := .none, noIssue := false })).retireD t i st arg id id
  match bs with
  | [] =>
    if (s.th t).noIssue && ((s.th t).stopAsked || (s.th t).clearAsked || (s.pendingInt t).isSome) then s.blockHalt t
    else if s.gr t (wRb w) = 0 then fin s ST_OK i.addr
    else (s.thMod t (fun x => { x with noIssue := false })).issueBeats t w 8
  | b :: _ =>
    match b.phase with
    | .failed forced code arg st =>
      if !(bs.all Beat.ended) then s
      else
        let s := s.thMod t (fun x => { x with beats := [], waiting := .none, noIssue := false })
        if forced then
          s.exception t i code arg st
        else s.retireD t i st arg id id
    | .diff k => if bs.all Beat.ended then fin (s.progress t w k) ST_OK i.addr else s
    | _ => s.issueBeats t w 8

/-- A block instruction issues no further beat, and goes as far as that lets it (R200, R204). -/
def State.blockStop (s : State) (t : Nat) : State :=
  let s := s.thMod t (fun x => { x with noIssue := true })
  match (s.th t).issued with
  | some i => s.blockGo t i
  | none => s

/-- INTERRUPT_TAKE (R204, R215): at an instruction boundary, or in an EVTWAIT or RETRY wait, or once a block instruction's beats have
ended; a block instruction with beats in flight issues no further one. -/
def execInterruptTake (t : ThrId) (s : State) : Out :=
  whenUp s fun s =>
    if s.halted t || s.inTrap t then s else
    match s.pendingInt t with
    | none => s
    | some n =>
      match (s.th t).waiting with
      | .none | .event | .retry => s.takeInt t n
      | .block => s.blockStop t
      | _ => s

/-- A block instruction starts; with no byte left it completes at once (R197). -/
def blockInstr (p : Plv) (t : ThrId) (s : State) : Out :=
  runPlv p t (fun s i =>
    let w := i.word
    let d := s.gr t (wRd w)
    let i := if dFab w then i.at d (some 0) else match engAt t d 1 with | some pl => i.eng pl | none => i.at d none
    if s.gr t (wRb w) = 0 then some (s.retireD t i ST_OK i.addr id id)
    else some ((s.thMod t (fun x => { x with waiting := .block, issued := some i, beats := [], noIssue := false, blockLap := s.lapOf t w })).blockGo t i)) s

/-- BMOVE. -/
def execBmove (t : ThrId) (s : State) : Out := blockInstr .bmove t s
/-- BFILL. -/
def execBfill (t : ThrId) (s : State) : Out := blockInstr .bfill t s
/-- BCMP. -/
def execBcmp (t : ThrId) (s : State) : Out := blockInstr .bcmp t s

/-- BLOCK_BEAT_CONCLUDE (R199): the k-th beat in flight goes as far as its answers allow; `e` says that local or shared memory fails its
check at it (R208). -/
def execBlockBeatConclude (t : ThrId) (k : Fin 8) (e : LocalErr) (s : State) : Out :=
  whenUp s fun s =>
    match (s.th t).waiting, (s.th t).issued with
    | .block, some i =>
      match (s.th t).beats[k.val]? with
      | none => if (s.th t).beats = [] then s.blockGo t i else s
      | some b =>
        let w := i.word
        let onDie := !(dFab w) || !(aFab w || isFill w)
        let fresh := b.phase = .reading && b.reads.all (fun r => r.txn.isNone)
        let q : State × Beat :=
          if e = .data && onDie && fresh then
            let inst := (s.th t).inst
            let p2 := s.basePriv t = 2
            (s.report { source := src 0x09 1, cls := if p2 then NC else PF, scope := if p2 then scope 1 (inst % 4096) else scope 4 t, status := ST_POISON,
                        inst := some inst, core := 0x80 + thH t, tid := some (s.tidOf t), dev := s.dev },
             { b with phase := .failed true 6 (if isFill w || !(dFab w) then b.dst else b.src) ST_POISON })
          else s.stepBeat t i b
        (q.1.thMod t (fun x => { x with beats := x.beats.set k q.2 })).blockGo t i
    | _, _ => s

end Sys2Proof.Machine
end

