-- ==== Sys2Proof/Machine/Hearth.lean ====
section
/-! DEFINITION. Starting, stopping and clearing threads, and loading images (R203 to R206, R209, R210, R216 to R220). -/

namespace Sys2Proof.Machine

/-! ## START, STOP and CLEAR (R203 to R205) -/

/-- START. A thread that the fault unit contains does not start (Table 15-3). -/
def startOp (t : Nat) (s : State) : State × Nat :=
  if !(s.halted t) then (s, ST_LATE)
  else if !(s.loaded t) then (s, ST_NO_MATCH)
  else if s.fu.contained.contains (scope 4 t) then (s, ST_ACCESS_DENIED)
  else ((s.tp TH_STATUS_STATE (if s.inTrap t then 2 else 1) t).tp TH_STATUS_HALT_REASON 0 t, ST_OK)

/-- A thread brought to where it may be stopped: at once at a boundary or in an event or RETRY wait, at a beat boundary of a block
instruction, and otherwise when the answer or the outcome it waits for arrives (R204). -/
def State.stopSoon (s : State) (t : Nat) : State :=
  match (s.th t).waiting with
  | .none | .event | .retry => (s.unissue t 0).stopHere t
  | .block => s.blockStop t
  | _ => s

/-- STOP. -/
def stopOp (t : Nat) (s : State) : State × Nat :=
  if s.halted t then (s, ST_LATE)
  else ((s.thMod t (fun x => { x with stopAsked := true })).stopSoon t, ST_OK)

/-- CLEAR: the thread stops as STOP does, and is cleared there. -/
def clearOp (t : Nat) (s : State) : State × Nat :=
  if s.halted t then (s.clearNow t, ST_OK)
  else ((s.thMod t (fun x => { x with clearAsked := true })).stopSoon t, ST_OK)

/-- A command of TH_CTRL: its status is held in CMD_STATUS and answered. -/
def threadCommand (op : Nat → State → State × Nat) (m : Master) (t : Nat) (s : State) : Out :=
  whenUp s fun s => s.cmdBy m .TH_CTRL (thH t) (fun s => let r := op t s; (r.1.tp TH_STATUS_CMD_STATUS r.2 t).reply m r.2) (thI t)

/-- THREAD_START. -/
def execThreadStart (m : Master) (t : ThrId) (s : State) : Out := threadCommand startOp m t s
/-- THREAD_STOP. -/
def execThreadStop (m : Master) (t : ThrId) (s : State) : Out := threadCommand stopOp m t s
/-- THREAD_CLEAR. -/
def execThreadClear (m : Master) (t : ThrId) (s : State) : Out := threadCommand clearOp m t s

/-- CLEAR_ALL: every thread of the hearth is cleared, then its fabric line cache; refused for hearth 15 (R205, Table 10-9). -/
def clearAllOp (h : Nat) (s : State) : State × Nat :=
  if h = 15 then (s, ST_ACCESS_DENIED)
  else ((List.range 128).foldl (fun s k => (clearOp (128 * h + k) s).1) (s.p HTH_STATUS_CLEAR_BUSY 1 h) |>.clearAllEnd h, ST_OK)

/-- CLEAR_ALL. -/
def execClearAll (m : Master) (h : HearthId) (s : State) : Out := command m .HTH_CTRL h (clearAllOp h) s

/-! ## Images (Table 10-2) -/

/-- The number in bytes `a` to `a + n − 1` of a header. -/
def fieldOf (bs : List Byte) (a n : Nat) : Nat := leNat ((bs.drop a).take n)

/-- A section of an image: its kind, file offset, length and destination offset. -/
structure Section where
  kind : Nat
  off : Nat
  len : Nat
  dest : Nat
deriving DecidableEq, Repr

/-- The sections a header lists. -/
def sectionsOf (hd : List Byte) : List Section :=
  (List.range (min (fieldOf hd 7 1) 8)).map (fun k =>
    let a := 32 + 16 * k
    ⟨fieldOf hd a 4 % 16, fieldOf hd (a + 4) 4, fieldOf hd (a + 8) 4, fieldOf hd (a + 12) 4⟩)

/-- The space a section goes to, and its size (R217). -/
def Section.space (x : Section) (t : Nat) : Nat :=
  if x.kind ≤ 1 then spLocal (t / 4) else if x.kind = 2 then spShared (thH t) else spHbm
def Section.room (x : Section) : Nat := if x.kind ≤ 1 then 0x20000 else if x.kind = 2 then 0x800000 else 0x200000000

/-- Whether two sections overlap in a space. -/
def Section.overlaps (t : Nat) (x y : Section) : Bool :=
  x.space t == y.space t && decide (x.dest < y.dest + y.len) && decide (y.dest < x.dest + x.len)

/-- Whether no section of a list overlaps another. -/
def sectionsApart (t : Nat) : List Section → Bool
  | [] => true
  | x :: xs => xs.all (fun y => !(x.overlaps t y)) && sectionsApart t xs

/-- The levels a load may give a thread (R209, R210): P0 only in hearth 15, P2 only outside it; and on one engine either no P2 thread, or
only P2 threads of one instance. -/
def State.levelOk (s : State) (t priv inst : Nat) : Bool :=
  let others := (engThreads t).filter (fun u => u != t && s.loaded u)
  let any := (engThreads t).any (fun u => s.loaded u)
  match priv with
  | 0 => thH t == 15 && others.all (fun u => s.basePriv u != 2)
  | 1 => others.all (fun u => s.basePriv u != 2)
  | 2 => thH t != 15 && others.all (fun u => s.basePriv u == 2) && (!any || s.p2Inst t == inst)
  | _ => false

/-- The loaded P2 threads of an instance (R271). -/
def State.instThreads (s : State) (inst : Nat) : List Nat :=
  (List.range 2048).filter (fun t => s.loaded t && s.basePriv t == 2 && s.p2Inst t == inst)

/-- Whether an instance may be named by a P2 load: one that is not FREE here, within its quota of loaded threads (R271). -/
def State.loadInst (s : State) (t priv inst : Nat) : Nat :=
  if priv ≠ 2 then ST_OK
  else if inst / 4096 ≠ s.dev || s.instState (inst % 4096) = 0 then ST_ACCESS_DENIED
  else if ((s.instThreads inst).filter (fun u => u != t)).length ≥ s.g INST_POOL_THREAD_QUOTA (inst % 4096) then ST_RESOURCE_EXHAUSTED
  else ST_OK

/-- Step 2 of Table 10-3: the header's format and lengths, the level rules, the room of R217, and the instance's quota. -/
def State.headerStatus (s : State) (t inst : Nat) (hd : List Byte) : Nat :=
  let priv := fieldOf hd 6 1
  let n := fieldOf hd 7 1
  let len := fieldOf hd 8 4
  let secs := sectionsOf hd
  if fieldOf hd 0 4 ≠ 0x56504C4B || fieldOf hd 4 2 ≠ 1 || n = 0 || n > 8 || len % 64 ≠ 0 || secs.any (fun x => x.kind > 3) ||
     secs.any (fun x => x.off < 256 || x.off + x.len > 256 + len) then ST_ACCESS_DENIED
  else if !(s.levelOk t priv inst) then ST_ACCESS_DENIED
  else if s.loadInst t priv inst = ST_ACCESS_DENIED then ST_ACCESS_DENIED
  else if 256 + len + 4736 > 9 * 2 ^ 20 then ST_RESOURCE_EXHAUSTED
  else if secs.any (fun x => x.dest + x.len > x.room) || !(sectionsApart t secs) then ST_RESOURCE_EXHAUSTED
  else s.loadInst t priv inst

/-- The gate of the master that issued a load on a write to a section's destination (R219). -/
def State.loadGate (s : State) (m : Master) (t : Nat) (x : Section) : Option (GateAcc × Nat × Option Nat) :=
  if x.kind ≤ 1 || x.len = 0 then none
  else
    let sp := if x.kind = 2 then 2 else 1
    let acc (level inst : Nat) : GateAcc := { space := sp, hearth := if sp = 2 then thH t else 0, addr := x.dest, len := x.len, kind := 1, level := level, inst := inst }
    match m with
    | .thread u => let a := acc (s.priv u) (s.th u).inst; (s.gateCheck (.thread u (s.tgActive u)) a).map (fun r => (a, r.1, r.2))
    | .bridge => let a := acc 1 0; (s.gateCheck .none a).map (fun r => (a, r.1, r.2))
    | _ => none

/-- Destination bytes filled with zeros (R219). -/
def State.zeroFill (s : State) (ds : List (Nat × Nat × Nat)) : State :=
  ds.foldl (fun s d => s.wr d.1 d.2.1 (List.replicate d.2.2 0)) s

/-- The sections written in order, each checked by the loader's gate: what was written, and whether all of it passed. -/
def State.writeSections (s : State) (m : Master) (t : Nat) (img : List Byte) (secs : List Section) : State × List (Nat × Nat × Nat) × Bool :=
  secs.foldl (fun q x =>
    if !q.2.2 then q
    else match q.1.loadGate m t x with
      | some g => (q.1.csRefuse m g, q.2.1, false)
      | none => (q.1.wr (x.space t) x.dest ((img.drop x.off).take x.len), q.2.1 ++ [(x.space t, x.dest, x.len)], true))
    (s, [], true)

/-- A load ends with a status: its tag and the step that failed are stored (Table 10-10). -/
def State.loadEnd (s : State) (h tag st step : Nat) : State :=
  let s := { s with loads := nerase h s.loads, loadTags := if s.loadTags.contains h then s.loadTags else h :: s.loadTags }
  (((s.p HTH_LOAD_STATUS_STATUS st h).p HTH_LOAD_STATUS_TAG tag h).p HTH_LOAD_STATUS_BUSY 0 h).p HTH_LOAD_STATUS_FAIL_STEP step h

/-- A hold of Hjelvon on a gateable unit (R372); hearth 15 cannot be gated. -/
def State.holdHearth (s : State) (h : Nat) (b : Bool) : State := if h < 15 then s.pb HJ_GATE_HELD b (32 + h) else s

/-- A load fails after its first step: what it wrote is zeros, and its thread is left without an image (R219). -/
def State.loadFail (s : State) (h k tag st step : Nat) (ds : List (Nat × Nat × Nat)) : State :=
  let t := 128 * h + k
  let s := ((s.zeroFill ds).tp TH_STATUS_LOADED 0 t).tp TH_STATUS_HALT_REASON 5 t
  (s.engRefresh t).loadEnd h tag st step

/-- HTH_LOAD_CMD.GO (Tables 10-3 and 10-4): the checks of step 2 and the sections of step 3, whose bytes are hashed as they are written. -/
def loadOp (m : Master) (h k tag inst : Nat) (s : State) : State × Nat :=
  let t := 128 * h + k
  if s.on HTH_LOAD_STATUS_BUSY h then (s, ST_RESOURCE_EXHAUSTED)
  else if s.loadTags.contains h && s.g HTH_LOAD_STATUS_TAG h = tag then (s, s.g HTH_LOAD_STATUS_STATUS h)
  else if !(s.halted t) then (s.loadEnd h tag ST_RETRY 2, ST_RETRY)
  else
    let base := s.g HTH_LOAD_SRC_OFFSET h * 64
    let hd := s.rd spHbm base 256
    let st := if base + 256 > 0x200000000 then ST_ACCESS_DENIED else s.headerStatus t inst hd
    if st ≠ ST_OK then (s.loadFail h k tag st 2 [], st)
    else
      let len := fieldOf hd 8 4
      let img := s.rd spHbm base (256 + len)
      let s := s.tp TH_STATUS_LOADED 0 t
      let q := s.writeSections m t img (sectionsOf hd)
      if !q.2.2 then (q.1.loadFail h k tag ST_ACCESS_DENIED 3 q.2.1, ST_ACCESS_DENIED)
      else
        let op : LoadOp := { thread := k, tag := tag, inst := inst, header := hd, hash := Config.sha384 (img.drop 256), sig := q.1.rd spHbm (base + 256 + len) 4736, dests := q.2.1 }
        ((({ q.1 with loads := nset h op q.1.loads }).p HTH_LOAD_STATUS_BUSY 1 h).holdHearth h true, ST_OK)

/-- IMAGE_LOAD. -/
def execImageLoad (m : Master) (h : HearthId) (k : Fin 128) (tag : Fin 65536) (inst : Fin 16384) (s : State) : Out :=
  command m .HTH_LOAD_CMD h (loadOp m h k tag inst) s

/-! ## Verification (R218, R219, R360) -/

/-- A dual signature over a digest under a key block in the layout of Table 18-1: both signatures must verify (R357). -/
def dualVerify (keyBlock digest sig : List Byte) : Bool :=
  Config.verify (leNat (keyBlock.take 97)) digest (sig.take 96) &&
  Config.verify (leNat ((keyBlock.drop 128).take 2592)) digest ((sig.drop 96).take 4627)

/-- The digest of bytes, as 48 bytes. -/
def digest (bs : List Byte) : List Byte := leBytes 48 (Config.sha384 bs)

/-- Step 4 of Table 10-3: BODY_HASH; for P0 and P1 both signatures under the running bundle's image-signing key, and for P0 VERSION. -/
def State.imageValid (s : State) (keyBlock hd sig : List Byte) (hash : Nat) : Bool :=
  let priv := fieldOf hd 6 1
  hash == fieldOf hd 160 48 &&
  (priv == 2 || dualVerify keyBlock (digest (hd.take 208)) sig) &&
  (priv != 0 || decide (s.g RBC_COUNT 1 ≤ fieldOf hd 15 1))

/-- Step 5: PC, the handler, INST and the base level; the thread stays HALTED. -/
def State.imageSet (s : State) (t inst : Nat) (hd : List Byte) (hash : Nat) : State :=
  let priv := fieldOf hd 6 1
  let s := s.thMod t (fun x => { x with pc := fieldOf hd 16 8 / 4 * 4, inst := inst, tctl := 2, version := fieldOf hd 12 4, codeHash := hash, oldCode := [] })
  let s := if priv = 2 then s.p ENG_CFG_P2_INST inst (thH t) (thI t / 4) else s.p TH_VEC_HANDLER (fieldOf hd 24 8) (thH t) (thI t)
  ((((s.tp TH_STATUS_BASE_PRIV priv t).tp TH_STATUS_PRIV priv t).tp TH_STATUS_IN_TRAP 0 t).tp TH_STATUS_LOADED 1 t).engRefresh t

/-- IMAGE_LOAD_COMPLETE: Hjelvon answers, and the image is accepted or refused; so it is where its instance has become FREE or full meanwhile (R271). In
its error state it answers INTERNAL (R374). An answer that lost to the bound of step 4 is discarded and recorded (R43, R44). -/
def execImageLoadComplete (h : HearthId) (s : State) : Out :=
  whenUp s fun s =>
    match nget? h.val s.loads with
    | none => s
    | some o =>
      if o.late then
        ({ s with loads := nerase h.val s.loads }).report { source := src 0x09 63, cls := CE, scope := scope 9 h, core := 0x80 + h, dev := s.dev }
      else
      let s := s.holdHearth h false
      if s.on HJ_STATUS_ERROR_STATE && fieldOf o.header 6 1 ≠ 2 then s.loadFail h o.thread o.tag ST_INTERNAL 4 o.dests
      else if s.imageValid s.hj.keyBlock o.header o.sig o.hash then
        (let st := s.loadInst (128 * h + o.thread) (fieldOf o.header 6 1) o.inst
         if st = ST_OK then (s.imageSet (128 * h + o.thread) o.inst o.header o.hash).loadEnd h o.tag ST_OK 0
         else s.loadFail h o.thread o.tag st 2 o.dests)
      else s.loadFail h o.thread o.tag ST_ACCESS_DENIED 4 o.dests

/-- IMAGE_VERIFY_TIMEOUT: Hjelvon does not answer within the bound of step 4 (Table 10-4); an answer that comes after all is late (R44). -/
def execImageVerifyTimeout (h : HearthId) (s : State) : Out :=
  whenUp s fun s =>
    match nget? h.val s.loads with
    | none => s
    | some o =>
      if o.late then s
      else
        let t : State := (s.holdHearth h false).loadFail h o.thread o.tag ST_INTERNAL 4 o.dests
        { t with loads := nset h.val { o with late := true } t.loads }

end Sys2Proof.Machine
end

