-- ==== Sys2Proof/Machine/FlueOps.lean ====
section
/-! DEFINITION. How a flue works: its gate, movers, request lines, descriptors, beats, the end of a descriptor, ring slots and completion
records, and the entries of work queues it serves (R227 to R258, R264, R265). -/

namespace Sys2Proof.Machine

/-! ## A flue and its registers -/

/-- A flue. -/
def State.flu (s : State) (f : Nat) : Flue := ngetD s.fl.flues f {}

/-- The STATE and WAIT_REASON that a flue shows (Tables 11-2, 11-12). -/
def Flue.code (x : Flue) : Nat :=
  match x.run with
  | .idle => 0
  | .stopped => 5
  | r => if x.stop.isSome then 4 else match r with | .ready => 1 | .running => 2 | _ => 3
def Flue.reason (x : Flue) : Nat :=
  if x.stop.isSome then 0 else match x.run with | .line => 1 | .cq => 2 | .helper => 3 | .retry => 4 | .bound => 5 | _ => 0

/-- A flue written, with its status register. -/
def State.fluSet (s : State) (f : Nat) (x : Flue) : State :=
  let s := { s with fl := { s.fl with flues := nput {} f x s.fl.flues } }
  (s.p FLU_STATUS_STATE x.code f).p FLU_STATUS_WAIT_REASON x.reason f
def State.fluMod (s : State) (f : Nat) (g : Flue → Flue) : State := s.fluSet f (g (s.flu f))

/-- The instance ID and level of a flue. -/
def State.fluInst (s : State) (f : Nat) : Nat := s.dev * 4096 + s.g FLU_ASSIGN_INST f
def State.fluPriv (s : State) (f : Nat) : Nat := s.g FLU_ASSIGN_PRIV f

/-- A fault of a flue under a bit of FLU_ERR. -/
def State.fluFault (s : State) (f : Nat) (b : Fld) (cls status : Nat) (causes : List (Nat × Nat)) : State :=
  (s.setF b f).report { source := src 0x0A b.lsb, cls := cls, scope := if cls = NC then scope 1 (s.g FLU_ASSIGN_INST f) else scope 3 f, status := status,
                        inst := some (s.fluInst f), core := 0x800 + f, dev := s.dev, causes := causes }

/-- The gate a flue is checked by (R229, R298). -/
def State.fluGate (s : State) (f : Nat) : Gate :=
  let o := s.g FLU_ASSIGN_OWNER f
  if s.on FLU_ASSIGN_OWNER_KIND f then .thread (o % 2048) (s.tgBase (o % 2048)) else .port (o % 128)

/-- The check of a flue's access: refused words and gate refusals are ACCESS_DENIED, the latter recorded (R230, R293). -/
def State.fluCheck (s : State) (f w len kind : Nat) : State × Bool :=
  if !(awOk (s.fluPriv f) w len) then (s, false)
  else
    let x := awAcc w len kind (s.fluPriv f) (s.fluInst f)
    match s.gateCheck (s.fluGate f) x with
    | none => (s, true)
    | some (a, r) =>
      let tid := if s.on FLU_ASSIGN_OWNER_KIND f then some (s.g FLU_ASSIGN_OWNER f) else none
      (s.gateRefuse (s.fluGate f) x a r (0x800 + f) tid (scope 3 f), false)

/-- A job's parts issued for a flue. -/
def State.fluIssue (s : State) (f : Nat) (j : Job) : State × Job × Hold := s.jobIssue (0x800 + f) (s.fluInst f) j

/-! ## Movers (R240) -/

/-- The flues of a die, and the movers they hold. -/
def State.fluesOn (s : State) (die : Nat) : List (Nat × Flue) := s.fl.flues.filter (fun e => e.1 / 1024 == die)
def State.moversFree (s : State) (die : Nat) : Bool := ((s.fluesOn die).filter (fun e => e.2.mover)).length < 64

/-- A flue takes its place behind those that are ready. -/
def State.fluReady (s : State) (f : Nat) : State :=
  let o := s.fl.order
  ({ s with fl := { s.fl with order := o + 1 } }).fluMod f (fun x => { x with run := .ready, mover := false, order := o })

/-- A flue waits for something and holds no mover. -/
def State.fluWait (s : State) (f : Nat) (r : FluRun) : State := s.fluMod f (fun x => { x with run := r, mover := false })

/-- A flue that a RETRY or a bound holds. -/
def State.fluHold (s : State) (f : Nat) (h : Hold) : State :=
  match h with
  | .none => s
  | .retry => s.fluWait f .retry
  | .bound => s.fluWait f .bound

/-- A flue that comes to rest: IDLE, or STOPPED. -/
def State.fluRest (s : State) (f : Nat) (r : FluRun) : State :=
  let s := (s.fluMod f (fun x => { x with run := r, mover := false, stop := none, stage := .none, job := {}, beats := [], wrote := [] })).p FLU_STATUS_PREEMPTED 0 f
  if r = .idle then s.p FLU_STATUS_STOP_ERR 0 f else s

/-! ## Request lines (R245, R246) -/

/-- The request line of a flue, if it waits for one. -/
def State.fluLine (s : State) (f : Nat) : Option Nat := if s.on FLU_CFG_TRIG_LINE f then some (s.g FLU_CFG_LINE f) else none

/-- DACK_N of a pin line. -/
def State.dack (s : State) (n : Nat) (low : Bool) : State :=
  if n ≥ 16 then s else
  { s with pins := { s.pins with dackLow := if low then (if s.pins.dackLow.contains n then s.pins.dackLow else n :: s.pins.dackLow)
                                            else s.pins.dackLow.filter (· != n) } }

/-- A unit of work taken from a line where a request is present: an edge is taken from PEND. -/
def State.lineTake (s : State) (f n : Nat) : Option State :=
  let burst := if s.on RQL_CFG_BURST_MODE n then s.g RQL_CFG_BURST n else 0
  let got (s : State) : State := s.fluMod f (fun x => { x with unitLeft := some burst })
  if !(s.on RQL_CFG_EN n) then none
  else if s.on RQL_CFG_SENSE n then
    if s.g RQL_CFG_PEND n = 0 then none else some (got (s.p RQL_CFG_PEND (s.g RQL_CFG_PEND n - 1) n))
  else if s.on RQL_CFG_DREQ n then some (got s) else none

/-- A unit of work ends: its line shows it. -/
def State.unitEnd (s : State) (f : Nat) : State :=
  let s := s.fluMod f (fun x => { x with unitLeft := none })
  match s.fluLine f with | some n => s.dack n false | none => s

/-- The flue has its unit of work, or waits for its line. A unit of bursts that has beats left goes on. -/
def State.unitReady (s : State) (f : Nat) : State × Bool :=
  match s.fluLine f with
  | none => (s, true)
  | some n =>
    if (s.flu f).unitLeft.isSome then (s, true)
    else match s.lineTake f n with
      | some s => (s, true)
      | none => (s.fluWait f .line, false)

/-! ## Descriptors (Tables 11-3, 11-4, R231 to R234) -/

/-- A descriptor's base block. -/
def descOf (bs : List Byte) : FluDesc :=
  let f (a : Nat) : Nat := leNat ((bs.drop a).take 8)
  { w0 := f 0, next := f 8, src := f 16, dst := f 24, len := f 32, o0 := f 40, o1 := f 48, raw := bs.take 64 }

def FluDesc.op (d : FluDesc) : Nat := d.w0 % 256
def FluDesc.ext (d : FluDesc) : Nat := bits d.w0 8 2
def FluDesc.cmpl (d : FluDesc) : Bool := bit d.w0 10
def FluDesc.evt (d : FluDesc) : Bool := bit d.w0 11
def FluDesc.stopBit (d : FluDesc) : Bool := bit d.w0 13
def FluDesc.nextValid (d : FluDesc) : Bool := bit d.w0 14
def FluDesc.own (d : FluDesc) : Bool := bit d.w0 15
def FluDesc.srcWrap (d : FluDesc) : Nat := bits d.w0 16 6
def FluDesc.dstWrap (d : FluDesc) : Nat := bits d.w0 24 6
def FluDesc.tag (d : FluDesc) : Nat := bits d.w0 32 16
def FluDesc.elements (d : FluDesc) : Nat := d.o0 % 2 ^ 16
def FluDesc.listed (d : FluDesc) : Bool := d.op == 3 || d.op == 4

/-- A wrap that may stand: 0, or 6 to 40 with its window in its space. -/
def wrapOk (w word : Nat) : Bool := w == 0 || (decide (6 ≤ w) && decide (w ≤ 40) && decide (awAddr word / 2 ^ w * 2 ^ w + 2 ^ w ≤ awSize word))

/-- The checks of R231 on a base block, in order; `ring` a ring slot, `wq` a block of a work-queue entry, whose NEXT is ignored. -/
def descOk (priv : Nat) (ring wq : Bool) (d : FluDesc) : Bool :=
  decide (1 ≤ d.op) && decide (d.op ≤ 7) &&
  bits d.w0 22 2 == 0 && bits d.w0 30 2 == 0 && bits d.w0 48 16 == 0 && decide (d.len ≤ 2 ^ 40) &&
  wrapOk d.srcWrap d.src && wrapOk d.dstWrap d.dst && (d.op != 3 || d.srcWrap == 0) && (d.op != 4 || d.dstWrap == 0) &&
  (d.ext == 0 || (d.listed && !ring)) &&
  (!d.listed || d.ext == 0 || decide (d.elements ≤ 4 * d.ext)) &&
  (d.op != 6 || d.o1 % 4 != 3) &&
  awOk priv d.src 0 && awOk priv d.dst 0 && (ring || wq || !d.nextValid || awOk priv d.next 0) &&
  (!(d.listed && d.ext == 0) || (awOk priv d.o1 (16 * d.elements) && d.o1 % 16 == 0))

/-- An element of 16 bytes (R233): its address word and length, and whether it passes. -/
def elemOf (bs : List Byte) : Nat × Nat := (leNat (bs.take 8), leNat ((bs.drop 8).take 8))
def elemOk (priv : Nat) (e : Nat × Nat) : Bool := decide (e.2 < 2 ^ 41) && awOk priv e.1 e.2

/-- The inline elements of extension blocks. -/
def inlineElems (n : Nat) (bs : List Byte) : NMap (Nat × Nat) := (List.range n).map (fun k => (k, elemOf ((bs.drop (16 * k)).take 16)))

/-- An address that moves on by `n`, within its wrap (R234). -/
def wrapAdd (a n w : Nat) : Nat :=
  if w = 0 then a + n else let base := a / 2 ^ w * 2 ^ w; base + (a - base + n) % 2 ^ w

/-- The bytes from an address to its wrap point. -/
def wrapGap (a w : Nat) : Nat := if w = 0 then 2 ^ 64 else 2 ^ w - a % 2 ^ w

/-! ## Beats (R233 to R236) -/

/-- What the cursor finds next: work to do, an element that must be read, or the end. -/
inductive FluNext
  | at_ (c : FluCursor)
  | need (k : Nat)
  | finished
deriving DecidableEq, Repr

/-- The element a listed descriptor works on from number `k` up; elements of length 0 are skipped. -/
def FluDesc.elemFrom (d : FluDesc) (c : FluCursor) : Nat → Nat → FluNext
  | 0, _ => .finished
  | fuel + 1, k =>
    if k ≥ d.elements then .finished
    else match nget? k d.elems with
      | none => .need k
      | some (w, n) =>
        if n = 0 then d.elemFrom c fuel (k + 1)
        else .at_ (if d.op = 3 then { c with elem := k, left := n, src := w } else { c with elem := k, left := n, dst := w })

/-- The cursor where the next byte is moved. An element with no byte left is one that has not begun: the number moves on as the last byte of an
element does (log 121). -/
def FluDesc.norm (d : FluDesc) (c : FluCursor) : FluNext :=
  if !d.listed then (if c.left = 0 then .finished else .at_ c)
  else if c.left ≠ 0 then .at_ c
  else d.elemFrom c (d.elements + 1) c.elem

/-- The number of the element a cursor works on once `n` of its bytes have been moved. -/
def FluDesc.elemAfter (d : FluDesc) (c : FluCursor) (n : Nat) : Nat := if d.listed && c.left ≤ n then c.elem + 1 else c.elem

/-- The pieces of a GATHER beat: `room` bytes at the destination, drawn from as many elements as it takes. -/
def FluDesc.gather (d : FluDesc) : Nat → FluCursor → Nat → List (Nat × Nat) → Option Nat × FluCursor × List (Nat × Nat)
  | 0, c, _, ps => (none, c, ps)
  | fuel + 1, c, room, ps =>
    if room = 0 then (none, c, ps)
    else match d.norm c with
      | .finished => (none, c, ps)
      | .need k => (some k, c, ps)
      | .at_ c =>
        let n := min c.left room
        d.gather fuel { src := c.src + n, dst := wrapAdd c.dst n d.dstWrap, left := c.left - n, elem := d.elemAfter c n, did := c.did + n } (room - n)
          (ps ++ [(c.src, n)])

/-- A beat to issue: its source pieces, destination word and length, and the cursor after it; or the element it needs; or the end. -/
inductive FluBeatNext
  | beat (pieces : List (Nat × Nat)) (dst len : Nat) (nxt : FluCursor)
  | need (k : Nat)
  | finished
deriving DecidableEq, Repr

/-- The next beat from a cursor (R235): to the 64-byte boundary of the destination (of the source for CRC), to the wrap points, to the end of
the descriptor or, for SCATTER, of the element; before an element that may not be used, what the elements before it give (R233). -/
def FluDesc.nextBeat (d : FluDesc) (c : FluCursor) : FluBeatNext :=
  match d.norm c with
  | .finished => .finished
  | .need k => .need k
  | .at_ c =>
    let room := min (64 - (if d.op = 6 then c.src else c.dst) % 64)
      (min (if d.op = 2 || d.op = 3 then 2 ^ 64 else wrapGap c.src d.srcWrap) (if d.op = 4 || d.op = 6 then 2 ^ 64 else wrapGap c.dst d.dstWrap))
    if d.op = 3 then
      match d.gather (65 + d.elements) c room [] with
      | (some k, c', ps) => if ps != [] && d.stopAt.map (·.1) == some k then .beat ps c.dst (c'.did - c.did) c' else .need k
      | (none, c', ps) => .beat ps c.dst (c'.did - c.did) c'
    else
      let n := min c.left room
      let c' := { c with src := if d.op = 2 then c.src else wrapAdd c.src n d.srcWrap,
                         dst := if d.op = 6 then c.dst else wrapAdd c.dst n (if d.op = 4 then 0 else d.dstWrap), left := c.left - n,
                         elem := d.elemAfter c n, did := c.did + n }
      .beat (if d.op = 2 then [] else [(c.src, n)]) c.dst n c'

/-- Where the progress registers stand (R235). -/
def State.fluCursor (s : State) (f : Nat) : FluCursor :=
  { src := s.g FLU_SRC_SRC f, dst := s.g FLU_DST_DST f, left := s.g FLU_LEFT_LEFT f, elem := s.g FLU_LEFT_ELEM f, did := (s.flu f).did }

/-- The progress registers written from a cursor. -/
def State.fluProgress (s : State) (f : Nat) (c : FluCursor) : State :=
  ((((s.p FLU_SRC_SRC c.src f).p FLU_DST_DST c.dst f).p FLU_LEFT_LEFT c.left f).p FLU_LEFT_ELEM c.elem f).fluMod f (fun x => { x with did := c.did })

/-- Whether a beat still has a read or a write in flight or in hand. -/
def FluBeat.ended (b : FluBeat) : Bool := match b.phase with | .done | .gone | .failed _ => true | _ => false

/-- Beats given up: those of a list that have no write under way. The progress registers never pass one (R235, R241). -/
def State.dropBeats (s : State) (bs : List FluBeat) : State × List FluBeat :=
  bs.foldl (fun q b => match b.phase with
    | .reading | .staged => ((q.1.jobDrop b.src).jobDrop b.cmp, q.2 ++ [{ b with phase := .gone }])
    | _ => (q.1, q.2 ++ [b])) (s, [])

/-- A run of bytes named by an address word, and whether two meet. -/
def awSpan (w n : Nat) : Option Nat × Nat × Nat := (awMem w, awAddr w, n)
def spansMeet (x y : Option Nat × Nat × Nat) : Bool := x.1 == y.1 && decide (max x.2.1 y.2.1 < min (x.2.1 + x.2.2) (y.2.1 + y.2.2))

/-- The runs of the `n` bytes that an operand names: one, or two where it passes its wrap point, or its whole window (R234). -/
def wrapSpans (a n w : Nat) : List (Option Nat × Nat × Nat) :=
  let gap := wrapGap (awAddr a) w
  if w = 0 || n ≤ gap then [awSpan a n]
  else
    let base := awAddr a / 2 ^ w * 2 ^ w
    if n ≥ 2 ^ w then [(awMem a, base, 2 ^ w)] else [(awMem a, awAddr a, gap), (awMem a, base, n - gap)]

/-- Whether two of the elements known overlap. -/
def FluDesc.elemsMeet (d : FluDesc) : Bool :=
  d.elems.any (fun x => d.elems.any (fun y => x.1 != y.1 && spansMeet (awSpan x.2.1 x.2.2) (awSpan y.2.1 y.2.2)))

/-- Whether what a beat writes is undefined (R236): a COPY whose source and destination overlap in one space, or elements that overlap each other or
the destination. -/
def FluDesc.overlaps (d : FluDesc) (b : FluBeat) : Bool :=
  if d.op = 1 then (wrapSpans d.src d.len d.srcWrap).any (fun x => (wrapSpans d.dst d.len d.dstWrap).any (spansMeet x))
  else d.listed && (d.elemsMeet || b.src.parts.any (fun p => spansMeet (p.sp, p.addr, p.len) (awSpan b.dst b.len)))

/-- The runs of bytes that a descriptor writes. -/
def FluDesc.writes (d : FluDesc) (did : Nat) : List (Option Nat × Nat × Nat) :=
  match d.op with
  | 1 | 2 => wrapSpans d.dst d.len d.dstWrap
  | 3 => wrapSpans d.dst did d.dstWrap
  | 4 => d.elems.map (fun e => awSpan e.2.1 e.2.2)
  | 6 => if bit d.o1 3 then [awSpan d.dst 8] else []
  | _ => []

/-- FENCE of a descriptor. -/
def FluDesc.fence (d : FluDesc) : Bool := bit d.w0 12

/-- What a beat, or the fetch of a descriptor or element, has read, where it may have met a write of an earlier descriptor with no FENCE between them:
a free value (R237). -/
def State.raced (s : State) (f : Nat) (j : Job) : State × Job :=
  let q := j.parts.foldl (fun (q : State × List Part) p =>
    if (s.flu f).wrote.any (fun w => spansMeet w (p.sp, p.addr, p.len)) then
      let v := q.1.freshBytes p.len
      (v.2, q.2 ++ [{ p with data := v.1 }])
    else (q.1, q.2 ++ [p])) (s, [])
  (q.1, { j with parts := q.2 })

/-- A beat's write issued: its bytes in hand (R235). -/
def State.beatOut (s : State) (f : Nat) (d : FluDesc) (b : FluBeat) : State × FluBeat × Hold :=
  let bs := if d.op = 2 then (List.range b.len).map (fun k => (leBytes 8 d.o0).getD ((b.dst + k) % 8) 0) else b.src.bytes
  let v := if d.overlaps b then s.freshBytes b.len else (bs, s)
  let r := v.2.fluIssue f (jobWrite b.dst v.1)
  if r.2.2 != Hold.none && r.2.1.parts.all (fun p => !p.fin && p.txn.isNone) then (r.1, b, r.2.2)
  else (r.1, { b with phase := .writing, out := r.2.1 }, r.2.2)

/-- A beat checked, and its reads issued: the source, then the destination (R292). -/
def State.beatStart (s : State) (f : Nat) (d : FluDesc) (ps : List (Nat × Nat)) (dst len : Nat) (nxt : FluCursor) : State × FluBeat × Hold :=
  let b : FluBeat := { dst := dst, len := len, nxt := nxt }
  let chks := ps.map (fun p => (p.1, p.2, 0)) ++ (if d.op = 6 then [] else [(dst, len, if d.op = 5 then 0 else 1)])
  let c := chks.foldl (fun q x => if !q.2 then q else q.1.fluCheck f x.1 x.2.1 x.2.2) (s, true)
  if !c.2 then (c.1, { b with phase := .failed ST_ACCESS_DENIED }, .none)
  else if d.op = 2 then (c.1, { b with phase := .staged }, .none)
  else
    let r := c.1.fluIssue f { parts := ps.flatMap (fun p => readParts p.1 p.2) }
    let q := if d.op = 5 && r.2.2 == Hold.none then r.1.fluIssue f (jobRead dst len) else (r.1, if d.op = 5 then jobRead dst len else {}, r.2.2)
    (q.1, { b with src := r.2.1, cmp := q.2.1 }, q.2.2)

/-- The reads of the beats that were held are issued, and staged beats are written first; it ends at the first that is held. -/
def State.beatsAgain (s : State) (f : Nat) (d : FluDesc) (bs : List FluBeat) : State × List FluBeat × Hold :=
  bs.foldl (fun q b =>
    if q.2.2 != Hold.none then (q.1, q.2.1 ++ [b], q.2.2)
    else match b.phase with
      | .staged => let r := q.1.beatOut f d b; (r.1, q.2.1 ++ [r.2.1], r.2.2)
      | .reading =>
        let r := q.1.fluIssue f b.src
        let r2 := if r.2.2 == Hold.none then r.1.fluIssue f b.cmp else (r.1, b.cmp, r.2.2)
        (r2.1, q.2.1 ++ [{ b with src := r.2.1, cmp := r2.2.1 }], r2.2.2)
      | .writing => let r := q.1.fluIssue f b.out; (r.1, q.2.1 ++ [{ b with out := r.2.1 }], r.2.2)
      | _ => (q.1, q.2.1 ++ [b], Hold.none)) (s, [], Hold.none)

/-! ## The end of a descriptor (R236, R238, R249, R252) -/

/-- The queue that a flue's record goes to, if it goes to one. -/
def State.recQueue (s : State) (f : Nat) (e : FluEnd) : Option Nat :=
  if e.kind = 1 then some (s.g FLU_ASSIGN_CALL_CQ f)
  else match (s.flu f).entry with
    | some w => some (s.g WQ_CFG_CQ w.queue)
    | none => if s.on FLU_CFG_CQ_EN f then some (s.g FLU_CFG_CQ f) else none

/-- The address word of unit `n` of a work queue's ring (R254). -/
def State.wqUnit (s : State) (q n : Nat) : Nat := s.g WQ_RING_BASE q + 32 * (n % 2 ^ s.g WQ_RING_RING_LOG2 q)

/-- A completion record (Table 11-8). -/
def State.recBytes (s : State) (f : Nat) (e : FluEnd) (phase : Bool) : State × List Byte :=
  let x := s.flu f
  let t := match x.entry, x.desc with
    | some w, some d => (s, if e.kind = 1 then d.tag else w.tag)
    | some w, none => (s, w.tag)
    | none, some d => (s, d.tag)
    | none, none => let v := s.fresh; (v.2, v.1.toNat % 2 ^ 16)
  let dw := match x.entry with | some w => if e.kind = 1 then s.g FLU_DESC_DESC f else s.wqUnit w.queue w.unit | none => s.g FLU_DESC_DESC f
  (t.1, leBytes 8 (e.status + b2n phase * 2 ^ 8 + e.kind * 2 ^ 9 + f * 2 ^ 16 + t.2 * 2 ^ 32) ++ leBytes 8 dw ++
    leBytes 8 (if e.kind = 1 then e.did else e.did % 2 ^ 41) ++ leBytes 8 e.result)

/-- A record copied into FLU_LAST_CMPL (R249). -/
def State.lastCmpl (s : State) (f : Nat) (bs : List Byte) : State :=
  (List.range 4).foldl (fun s k => s.p FLU_LAST_CMPL_WORD (leNat ((bs.drop (8 * k)).take 8)) f k) s

/-- Whether a queue has room for a record (R250); one not in use has none. -/
def State.cqRoom (s : State) (q : Nat) : Bool :=
  s.on CQ_CFG_EN q && decide ((s.g CQ_IDX_TAIL q + 2 ^ 32 - s.g CQ_IDX_HEAD q) % 2 ^ 32 < 2 ^ s.g CQ_CFG_LOG2 q)

/-- The PHASE of a queue's next record. -/
def State.cqPhase (s : State) (q : Nat) : Bool := s.g CQ_IDX_TAIL q / 2 ^ s.g CQ_CFG_LOG2 q % 2 == 0

/-! ## Work queues (R254, R258, R264, R265) -/

/-- A work queue. -/
def State.wq (s : State) (q : Nat) : WorkQueue := ngetD s.fl.queues q {}
def State.wqMod (s : State) (q : Nat) (g : WorkQueue → WorkQueue) : State :=
  { s with fl := { s.fl with queues := nput {} q (g (s.wq q)) s.fl.queues } }

/-- A fault of a work queue under a bit of WQ_ERR. -/
def State.wqFault (s : State) (q : Nat) (b : Fld) (cls status : Nat) : State :=
  (s.setF b q).report { source := src 0x0B b.lsb, cls := cls, scope := if cls = NC then scope 1 (s.g WQ_CFG_INST q) else 0, status := status,
                        inst := some (s.dev * 4096 + s.g WQ_CFG_INST q), core := 0x800 + s.g WQ_CFG_FLUE q, dev := s.dev, aux := q }

/-- A published head's write issued as far as it goes; on OK the published head follows it. -/
def State.wqPublishGo (s : State) (q v : Nat) (j : Job) : State :=
  let r := s.fluIssue (s.g WQ_CFG_FLUE q) j
  if r.2.1.over then
    let s := r.1.wqMod q (fun x => { x with job := none, pub := if r.2.1.status = ST_OK then v else x.pub })
    if r.2.1.status = ST_OK then s else s.wqFault q WQ_ERR_HEAD_FAIL NC r.2.1.status
  else r.1.wqMod q (fun x => { x with job := some (v, r.2.1) })

/-- The head word of a bound queue is written at WQ_HEAD_ADDR; a later value waits for one under way, and none passes an entry whose record is not
written (R265). -/
def State.wqPublish (s : State) (q : Nat) : State :=
  if !(s.on WQ_CFG_VALID q) then s
  else if (s.wq q).job.isSome then s.wqMod q (fun x => { x with want := true })
  else
    let a := s.g WQ_HEAD_ADDR_ADDR q
    let h := (s.wq q).held.getD (s.g WQ_IDX_HEAD q)
    let c := s.fluCheck (s.g WQ_CFG_FLUE q) a 8 1
    let s := c.1.wqMod q (fun x => { x with want := false })
    if !c.2 || a % 8 ≠ 0 then s.wqFault q WQ_ERR_HEAD_FAIL NC ST_ACCESS_DENIED
    else s.wqPublishGo q h (jobWrite a (leBytes 8 (h + b2n (s.g WQ_STATUS_STATE q == 1) * 2 ^ 32 + b2n (s.on WQ_STATUS_ERR_STOP q) * 2 ^ 33)))

/-- The queues bound to a flue. -/
def State.wqOf (s : State) (f : Nat) : List Nat := (List.range 8192).filter (fun q => s.on WQ_CFG_VALID q && s.g WQ_CFG_FLUE q == f)

/-- A queue that a flue may serve: ENABLED, with units it has not found to end beyond TAIL (R256, R264). -/
def State.wqEligible (s : State) (q : Nat) : Bool :=
  s.g WQ_STATUS_STATE q == 1 && s.g WQ_IDX_TAIL q != s.g WQ_IDX_HEAD q && (s.wq q).short != some (s.g WQ_IDX_TAIL q)

/-- The units of a queue held inline, and those fetched ahead, are given up. -/
def WorkQueue.drop (x : WorkQueue) : WorkQueue := { x with inl := [], ahead := [], aheadJob := none, short := none }

/-- The reads ahead of a queue are given up with what it holds. -/
def State.wqForget (s : State) (q : Nat) : State :=
  (match (s.wq q).aheadJob with | some j => s.jobDrop j.2 | none => s).wqMod q WorkQueue.drop

/-- A queue is disabled: its inline entries are discarded, and the head word shows it. -/
def State.wqDisabled (s : State) (q : Nat) (err : Bool) : State :=
  let s := (s.p WQ_STATUS_STATE 0 q).wqForget q
  (if err then s.setF WQ_STATUS_ERR_STOP q else s).wqPublish q

/-- The head passes an entry that has started; the published head stays at it where its record is not written (R265, log 122). -/
def State.wqPass (s : State) (w : WqEntry) (lost : Bool) : State :=
  let kept (m : NMap (List Byte)) : NMap (List Byte) := m.filter (fun e => (e.1 + 2 ^ 32 - w.unit) % 2 ^ 32 ≥ w.len)
  (s.p WQ_IDX_HEAD ((w.unit + w.len) % 2 ^ 32) w.queue).wqMod w.queue (fun x =>
    { x with inl := kept x.inl, ahead := kept x.ahead, held := if lost && x.held.isNone then some w.unit else x.held })

/-- An entry's record has been written, or its write has failed: the head passes it unless its header failed, and a status other than OK disables its
queue (R256 to R258, R266). -/
def State.wqEntryEnd (s : State) (w : WqEntry) (e : FluEnd) : State :=
  let q := w.queue
  let s := if e.lost then s else s.inc WQ_STATUS_ENTRIES_DONE q
  let s := if w.bad then s else s.wqPass w e.lost
  if s.g WQ_STATUS_STATE q = 2 || e.status ≠ ST_OK then s.wqDisabled q (e.status != ST_OK) else s.wqPublish q

/-! ## Going on -/

/-- Another flue of a flue's priority waits for a mover, and none is free. -/
def State.fluShares (s : State) (f : Nat) : Bool :=
  !(s.moversFree (f / 1024)) && (s.fluesOn (f / 1024)).any (fun e => e.1 != f && e.2.run == .ready && s.g FLU_CFG_PRIO e.1 == s.g FLU_CFG_PRIO f)

/-- The unit of work is the rest of the descriptor in progress: a flue resumed within it has its request (R245). -/
def State.unitKept (s : State) (f : Nat) : State := s.fluMod f (fun x => { x with unitLeft := some (x.unitLeft.getD 0) })

/-- Whether a flue's unit of work is a number of beats (R245). -/
def State.fluBurst (s : State) (f : Nat) : Bool := match s.fluLine f with | some n => s.on RQL_CFG_BURST_MODE n | none => false

/-- A flue at a descriptor boundary with work ahead, or resumed: it stops where a stop waits, waits for its line, gives its mover to a flue of its
priority that has waited, or goes on, with its mover where DESCRIPTOR_FETCH or WQ_ENTRY_START finds it. -/
def State.fluBoundary (s : State) (f : Nat) : State :=
  let x := s.flu f
  match x.stop with
  | some .abort => s.fluRest f .idle
  | some _ => s.fluRest f .stopped
  | none =>
    let s := if s.fluBurst f then s else if x.mid then s.unitKept f else s.unitEnd f
    let s := s.fluMod f (fun x => { x with stage := .none, job := {}, desc := if x.mid then x.desc else none, fin := none, beats := [] })
    match s.unitReady f with
    | (s, false) => s
    | (s, true) => if x.mover && !(s.fluShares f) then s.fluMod f (fun x => { x with run := .running }) else s.fluReady f

/-- A flue that has nothing to do is IDLE; in WQ mode it goes on where a bound queue is eligible (R263). -/
def State.fluIdle (s : State) (f : Nat) : State :=
  if s.g FLU_CFG_MODE f = 2 && (s.wqOf f).any (fun q => s.wqEligible q) then (s.fluMod f (fun x => { x with stop := none })).fluBoundary f
  else s.fluRest f .idle

/-- An IDLE WQ flue leaves IDLE when a bound queue is eligible (R263). -/
def State.fluWake (s : State) (f : Nat) : State :=
  if s.on FLU_ASSIGN_VALID f && s.g FLU_CFG_MODE f == 2 && (s.flu f).run == .idle && !(s.fu.contained.contains (scope 3 f)) &&
     (s.wqOf f).any (fun q => s.wqEligible q) then s.fluIdle f else s

/-- A descriptor is no longer in progress: nothing of it is left (log 121). -/
def State.fluUnmid (s : State) (f : Nat) : State := ((s.p FLU_LEFT_LEFT 0 f).p FLU_LEFT_ELEM 0 f).fluMod f (fun x => { x with mid := false, desc := none })

/-- The address word of the ring slot at HEAD (R251). -/
def State.ringSlot (s : State) (f : Nat) : Nat :=
  s.g FLU_RING_BASE_BASE f + 64 * (s.g FLU_RING_IDX_HEAD f % 2 ^ s.g FLU_RING_BASE_RING_LOG2 f)

/-- After a record, or where none is written (R232, R238, R241, R247, R251, R252, R263). -/
def State.fluAfter (s : State) (f : Nat) : State :=
  let x := s.flu f
  match x.fin with
  | none => s
  | some e =>
    let mode := s.g FLU_CFG_MODE f
    if e.kind = 1 then (s.fluMod f (fun x => { x with stage := .helper, called := true, timedOut := false, job := {}, fin := none })).fluWait f .helper
    else
      let nextInList := e.status = ST_OK && (match x.desc with | some d => d.nextValid | none => false) && mode ≠ 1 &&
        (match x.entry with | some w => w.kind == 2 | none => true) && e.kind = 0
      match x.entry with
      | some w =>
        let s := s.wqEntryEnd w e
        let s := (s.fluUnmid f).fluMod f (fun x => { x with entry := none, fin := none })
        let halt := e.kind = 0 && (match x.desc with | some d => d.stopBit | none => false)
        if (x.stop.isSome || halt) && x.stop ≠ some .abort then s.fluRest f .stopped else s.fluIdle f
      | none =>
        if e.kind = 2 || x.stop = some .abort then (((s.fluUnmid f).fluMod f (fun x => { x with fin := none })).unitEnd f).fluIdle f
        else if e.status ≠ ST_OK then (s.setF FLU_STATUS_STOP_ERR f |>.fluMod f (fun x => { x with fin := none })).fluRest f .stopped
        else
          let s := if mode = 1 then s.p FLU_DESC_DESC (s.ringSlot f) f
            else if nextInList then (match x.desc with | some d => s.p FLU_DESC_DESC d.next f | none => s) else s
          let more := nextInList || mode = 1
          let halt := x.stop.isSome || (match x.desc with | some d => d.stopBit | none => false)
          let s := (s.fluUnmid f).fluMod f (fun x => { x with more := more, fin := none })
          if halt then s.fluRest f .stopped
          else if !more then (s.unitEnd f).fluRest f .idle
          else s.fluBoundary f

/-- The record of an end: none, only FLU_LAST_CMPL, or one that waits to be appended (R249, R250). -/
def State.fluRecord (s : State) (f : Nat) (e : FluEnd) : State :=
  if !e.need then (s.fluMod f (fun x => { x with fin := some e })).fluAfter f
  else
    let q := s.recQueue f e
    let b := s.recBytes f e (match q with | some q => s.cqPhase q | none => false)
    let s := (b.1.lastCmpl f b.2).fluMod f (fun x => { x with fin := some e, stage := .record, job := {} })
    match q with
    | none => s.fluAfter f
    | some q => if s.cqRoom q then s else s.fluWait f .cq

/-- The slot of a ring written back whole: STATUS and BYTES_DONE, and OWN unless the flue stops on an error (R252). -/
def slotBytes (d : FluDesc) (e : FluEnd) : List Byte :=
  let w0 := if e.kind ≠ 2 && e.status ≠ ST_OK then d.w0 else d.w0 - b2n d.own * 2 ^ 15
  leBytes 8 w0 ++ (d.raw.drop 8).take 48 ++ leBytes 8 (e.status + e.did % 2 ^ 41 * 2 ^ 8)

/-- The write-back of a slot is over: HEAD advances past a slot given back; a refused or failed write stops the flue (R293). -/
def State.slotDone (s : State) (f : Nat) (e : FluEnd) (st : Nat) : State :=
  let e := if e.status = ST_OK && st ≠ ST_OK then { e with status := st, need := true } else e
  let s := if e.kind = 2 || e.status = ST_OK then s.p FLU_RING_IDX_HEAD ((s.g FLU_RING_IDX_HEAD f + 1) % 2 ^ 16) f else s
  s.fluRecord f e

/-- A descriptor concludes (R236, R238, R243): its status, the end of a unit of one descriptor (R246), the ring slot, the record. -/
def State.fluConclude (s : State) (f : Nat) (e : FluEnd) : State :=
  let x := s.flu f
  let s := (if e.kind = 0 || x.mid then s.inc FLU_STATUS_DESC_DONE f else s).p FLU_STATUS_LAST_STATUS e.status f
  let s := if s.fluBurst f then s else s.unitEnd f
  let s := s.fluMod f (fun y => { y with wrote := y.wrote ++ (match x.desc with | some d => d.writes x.did | none => []) })
  match x.entry with
  | some w =>
    let w := { w with sum := w.sum + e.did }
    let s := s.fluMod f (fun x => { x with entry := some w, beats := [], job := {} })
    let goesOn := w.kind = 2 && e.status = ST_OK && e.kind = 0 && (match x.desc with | some d => d.nextValid | none => false)
    if goesOn && x.stop ≠ some .abort then
      let s := match x.desc with | some d => s.p FLU_DESC_DESC d.next f | none => s
      let s := (s.fluUnmid f).fluMod f (fun x => { x with stage := .none })
      if x.stop.isSome || (match x.desc with | some d => d.stopBit | none => false) then s.fluRest f .stopped
      else if x.mover then s.fluMod f (fun x => { x with run := .running }) else s.fluReady f
    else s.fluRecord f { e with did := w.sum, need := true }
  | none =>
    let s := s.fluMod f (fun x => { x with beats := [], job := {} })
    match x.desc with
    | some d =>
      if s.g FLU_CFG_MODE f = 1 && d.raw ≠ [] && (e.kind = 0 || x.mid) then
        let a := s.g FLU_DESC_DESC f
        let c := s.fluCheck f a 64 1
        if !c.2 then c.1.slotDone f e ST_ACCESS_DENIED
        else
          let r := c.1.fluIssue f (jobWrite a (slotBytes d e))
          if r.2.1.over then r.1.slotDone f e r.2.1.status
          else (r.1.fluMod f (fun x => { x with stage := .slotOut, job := r.2.1, fin := some e })).fluHold f r.2.2
      else s.fluRecord f e
    | none => s.fluRecord f e

/-- A descriptor refused at fetch, or an element refused (R231, R233). -/
def State.descBad (s : State) (f : Nat) : State :=
  (s.fluFault f FLU_ERR_DESC_BAD NC ST_ACCESS_DENIED []).fluConclude f { status := ST_ACCESS_DENIED, did := (s.flu f).did }

/-- The result of a finished descriptor: a CRC is inverted where it asks for it, and written at DST; an equal COMPARE gives all ones (R236). -/
def State.fluFinish (s : State) (f : Nat) (d : FluDesc) : State :=
  let did := (s.flu f).did
  let acc := s.g FLU_ACC_ACC f
  if d.op = 6 then
    let w := if d.o1 % 4 = 2 then 64 else 32
    let v := if bit d.o1 2 then 2 ^ w - 1 - acc % 2 ^ w else acc % 2 ^ w
    let e : FluEnd := { status := ST_OK, result := v, did := did, need := d.cmpl }
    if bit d.o1 3 then
      let c := s.fluCheck f d.dst 8 1
      if !c.2 then c.1.fluConclude f { e with status := ST_ACCESS_DENIED, need := true }
      else
        let r := c.1.fluIssue f (jobWrite d.dst (leBytes 8 v))
        if r.2.1.over && r.2.2 = .none then r.1.fluConclude f { e with status := r.2.1.status, need := d.cmpl || r.2.1.status != ST_OK }
        else (r.1.fluMod f (fun x => { x with stage := .crcOut, job := r.2.1, fin := some e })).fluHold f r.2.2
    else s.fluConclude f e
  else s.fluConclude f { status := ST_OK, result := if d.op = 5 then 2 ^ 64 - 1 else 0, did := did, need := d.cmpl }

/-- The leading beats that are over move the progress registers (R235). What is left is answered with them: a difference of a COMPARE, or
the status of a failed beat. -/
def State.popFlu (s : State) (f : Nat) (d : FluDesc) : List FluBeat → State × List FluBeat × Option (Nat × Nat)
  | [] => (s, [], none)
  | b :: bs =>
    match b.phase with
    | .done =>
      let go (s : State) := (s.fluProgress f b.nxt).popFlu f d bs
      if d.op = 5 then
        match (List.range b.len).find? (fun k => b.src.bytes[k]? != b.cmp.bytes[k]?) with
        | some k => (s, b :: bs, some (ST_OK, s.g FLU_ACC_ACC f + k))
        | none => go (s.p FLU_ACC_ACC (s.g FLU_ACC_ACC f + b.len) f)
      else if d.op = 6 then
        let a := s.g FLU_ACC_ACC f
        go (s.p FLU_ACC_ACC (crcBytes (crcPoly (d.o1 % 4)) (if d.o1 % 4 = 2 then a else a % 2 ^ 32) b.src.bytes) f)
      else go s
    | .failed st => (s, b :: bs, some (st, 0))
    | _ => (s, b :: bs, none)

/-- A beat whose reads have not been issued: nothing of it is in flight. -/
def FluBeat.held (b : FluBeat) : Bool := b.phase == .reading && !b.src.flying && !b.cmp.flying

/-- Under an abort the beats with no write under way are given up; once a beat has failed, those that have not been issued (R238, R243). -/
def State.pruneBeats (s : State) (abort : Bool) (bs : List FluBeat) : State × List FluBeat :=
  if abort then s.dropBeats bs
  else if bs.any (fun b => match b.phase with | .failed _ => true | _ => false) then (s, bs.map (fun b => if b.held then { b with phase := .gone } else b))
  else (s, bs)

/-- An abort's end: the record of KIND ABORT, with what the progress registers show (R243). -/
def State.fluAborted (s : State) (f : Nat) : State :=
  let x := s.flu f
  let s := s.fluMod f (fun x => { x with called := false, desc := if x.mid then x.desc else none })
  s.fluConclude f { status := ST_PARTIAL, did := if x.mid then x.did else 0, kind := 2 }

/-- The beats of a descriptor taken as far as they go: leading ones move the registers, and an end, a pause or an abort is carried out once
nothing is under way. -/
def State.fluSettle (s : State) (f : Nat) : State :=
  let x := s.flu f
  match x.desc with
  | none => s
  | some d =>
    let r := s.popFlu f d x.beats
    let p := r.1.pruneBeats (x.stop == some .abort) r.2.1
    let s := p.1.fluMod f (fun x => { x with beats := p.2 })
    let busy := p.2.any (fun b => !b.ended)
    let s := if p.2 = [] && s.fluBurst f && (s.flu f).unitLeft = some 0 then s.unitEnd f else s
    if x.stop = some .abort then (if busy then s else s.fluAborted f)
    else match r.2.2 with
      | some (st, off) =>
        if st = ST_OK then
          let q := s.dropBeats p.2
          (q.1.p FLU_ACC_ACC off f).fluConclude f { status := ST_OK, result := off, did := off }
        else if busy then s
        else s.fluConclude f { status := st, did := (s.flu f).did }
      | none =>
        if x.stop = some .pause && !busy then
          if p.2 = [] && d.norm (s.fluCursor f) = .finished then s.fluFinish f d else s.fluRest f .stopped
        else s

/-- Beats issued while fewer than 32 are in flight, the flue holds a mover, nothing has failed, no pause or abort is under way, and the unit
of work has beats left (R235, R245). -/
def State.fluBeats (s : State) (f : Nat) (d : FluDesc) : Nat → State
  | 0 => s
  | n + 1 =>
    let x := s.flu f
    let line := s.fluBurst f
    let failed := x.beats.any (fun b => match b.phase with | .failed _ => true | _ => false)
    if !x.mover || x.beats.length ≥ 32 || failed || x.stop = some .pause || x.stop = some .abort then s
    else
      let c := match x.beats.getLast? with | some b => b.nxt | none => s.fluCursor f
      match d.nextBeat c with
      | .finished => if x.beats = [] then s.fluFinish f d else s
      | .need k =>
        let w := d.o1 + 16 * k
        if x.beats ≠ [] then s
        else if d.stopAt.map (·.1) = some k then s.fluConclude f { status := (d.stopAt.map (·.2)).getD ST_OK, did := x.did }
        else
          let q := s.fluCheck f w 16 0
          if !q.2 then
            let d := { d with stopAt := some (k, ST_ACCESS_DENIED) }
            (q.1.fluMod f (fun x => { x with desc := some d })).fluBeats f d n
          else
            let r := q.1.fluIssue f (jobRead w 16)
            (r.1.fluMod f (fun x => { x with stage := .element, job := r.2.1 })).fluHold f r.2.2
      | .beat ps dst len nxt =>
        if line && x.unitLeft.getD 0 = 0 then
          if x.beats ≠ [] then s
          else match (s.unitEnd f).unitReady f with
            | (s, false) => s
            | (s, true) => s.fluBeats f d n
        else
          let r := s.beatStart f d ps dst len nxt
          let s := match s.fluLine f with | some k => r.1.dack k true | none => r.1
          let s := s.fluMod f (fun x => { x with beats := x.beats ++ [r.2.1], unitLeft := if line then x.unitLeft.map (· - 1) else x.unitLeft })
          if r.2.2 ≠ .none then s.fluHold f r.2.2
          else if r.2.1.phase = .staged then
            let o := s.beatOut f d r.2.1
            let s := o.1.fluMod f (fun x => { x with beats := x.beats.dropLast ++ [o.2.1] })
            if o.2.2 ≠ .none then s.fluHold f o.2.2 else s.fluBeats f d n
          else s.fluBeats f d n

/-- The beats go on: those held before, then new ones. -/
def State.fluWork (s : State) (f : Nat) : State :=
  let x := s.flu f
  match x.desc with
  | none => s
  | some d =>
    let r := if x.mover then s.beatsAgain f d x.beats else (s, x.beats, Hold.none)
    let s := r.1.fluMod f (fun x => { x with beats := r.2.1 })
    if r.2.2 ≠ .none then s.fluHold f r.2.2
    else
      let s := s.fluSettle f
      if (s.flu f).stage = .work then
        let s := s.fluBeats f d 40
        let x := s.flu f
        if x.stage = .work && x.beats.any (fun b => match b.phase with | .failed _ => true | _ => false) then s.fluSettle f else s
      else s

/-- The bytes done by a descriptor in progress whose count was not kept: from its registers (log 21). -/
def FluDesc.doneAt (d : FluDesc) (c : FluCursor) : Nat :=
  let dist (a b w : Nat) : Nat := if w = 0 then a - b else (a + 2 ^ w - b % 2 ^ w) % 2 ^ w
  if d.op = 3 then dist c.dst d.dst d.dstWrap else if d.op = 4 then dist c.src d.src d.srcWrap else d.len - c.left

/-- A descriptor that has passed its checks begins, or goes on from its progress registers (R242); RUN calls its helper (R247). -/
def State.fluBegin (s : State) (f : Nat) (d : FluDesc) : State :=
  let x := s.flu f
  let s :=
    if x.mid then s.fluMod f (fun x => { x with desc := some d, stage := .work, did := if x.did = 0 then d.doneAt (s.fluCursor f) else x.did })
    else
      let s := ((((s.p FLU_SRC_SRC d.src f).p FLU_DST_DST d.dst f).p FLU_LEFT_LEFT (if d.listed then 0 else d.len) f).p FLU_LEFT_ELEM 0 f).p
        FLU_ACC_ACC (if d.op = 6 then (if d.o1 % 4 = 2 then d.o0 else d.o0 % 2 ^ 32) else 0) f
      s.fluMod f (fun x => { x with desc := some d, stage := .work, mid := true, did := 0, beats := [], job := {},
                                    wrote := if d.fence then [] else x.wrote })
  if d.op = 7 then s.fluRecord f { status := ST_OK, result := d.o0 % 2 ^ 16, did := d.o1, kind := 1 } else s.fluWork f

/-- The descriptor's base block is fetched: its address is checked first (R231). -/
def State.fluFetch (s : State) (f : Nat) : State :=
  let x := s.flu f
  let s := if s.g FLU_CFG_MODE f = 1 && !x.mid then s.p FLU_DESC_DESC (s.ringSlot f) f else s
  let w := s.g FLU_DESC_DESC f
  let s := s.fluMod f (fun x => { x with desc := if x.mid then x.desc else none, did := if x.mid then x.did else 0 })
  if !(awOk (s.fluPriv f) w 64) || w % 64 ≠ 0 then s.descBad f
  else
    let c := s.fluCheck f w 64 0
    if !c.2 then c.1.fluConclude f { status := ST_ACCESS_DENIED, did := (s.flu f).did }
    else
      let r := c.1.fluIssue f (jobRead w 64)
      (r.1.fluMod f (fun x => { x with stage := .fetch, job := r.2.1 })).fluHold f r.2.2

/-- What a running flue does next: the fetch of its descriptor, or what was held. In WQ mode an entry is taken by its own command, unless a
list goes on. -/
def State.fluGo (s : State) (f : Nat) : State :=
  let x := s.flu f
  match x.stage with
  | .none =>
    let list := match x.entry with | some w => w.kind == 2 && w.started | none => s.g FLU_CFG_MODE f != 2
    if list then s.fluFetch f else s
  | .work => s.fluWork f
  | .helper => s
  | .record => if x.job.parts = [] then s else let r := s.fluIssue f x.job; (r.1.fluMod f (fun x => { x with job := r.2.1 })).fluHold f r.2.2
  | _ => let r := s.fluIssue f x.job; (r.1.fluMod f (fun x => { x with job := r.2.1 })).fluHold f r.2.2

end Sys2Proof.Machine
end

