-- ==== Sys2Proof/Machine/Flues.lean ====
section
/-! DEFINITION. The commands of the flues, movers, request lines, helpers and completion queues, and DMAL (R196, R227 to R253). -/

namespace Sys2Proof.Machine

/-! ## Commands of a flue (Table 11-6) -/

/-- A flue in the placement range (Table 11-10). -/
def State.fluPlacement (s : State) (f : Nat) : Bool :=
  s.g PLC_CFG_FLUE_FIRST ≤ f && f < s.g PLC_CFG_FLUE_FIRST + s.g PLC_CFG_FLUE_COUNT

/-- What every doorbell and command meets first: an unassigned or contained flue, a placement flue at P2, a frozen instance (R228, R283). -/
def State.fluGuard (s : State) (m : Master) (f : Nat) : Option Nat :=
  if !(s.on FLU_ASSIGN_VALID f) || s.fu.contained.contains (scope 3 f) || (s.mPriv m ≥ 2 && s.fluPlacement f) then some ST_ACCESS_DENIED
  else if s.mPriv m ≥ 2 && [2, 3].contains (s.instState (s.g FLU_ASSIGN_INST f)) then some ST_FROZEN
  else none

/-- A flue started: work is ahead, and it waits for its line or a mover. -/
def State.fluStart (s : State) (f : Nat) : State :=
  (((s.p FLU_STATUS_STOP_ERR 0 f).p FLU_STATUS_PREEMPTED 0 f).fluMod f (fun x => { x with run := .ready, mover := false, stop := none, stage := .none })).fluBoundary f

/-- The start doorbell (R243, R251, R263). -/
def doorbellOp (m : Master) (f addr : Nat) (s : State) : State × Nat :=
  let mode := s.g FLU_CFG_MODE f
  match s.fluGuard m f with
  | some st => (s, st)
  | none =>
    if mode = 2 || (mode ≠ 1 && !(awOk (s.fluPriv f) addr 0)) then (s, ST_ACCESS_DENIED)
    else if (s.flu f).run = .idle then
      let s := if mode = 1 then s else s.p FLU_DESC_DESC addr f
      ((s.fluMod f (fun x => { x with mid := false, more := true })).fluStart f, ST_OK)
    else (if mode = 1 then s.setF FLU_STATUS_KICK f else s, ST_RETRY)

/-- The fetch, element or queue read of a flue given up, and an entry it has not started (Table 11-6). -/
def State.fluDropJob (s : State) (f : Nat) : State :=
  (s.jobDrop (s.flu f).job).fluMod f (fun x => { x with job := {}, stage := .none, entry := x.entry.filter (·.started) })

/-- The record and slot of a concluded descriptor are still to come. -/
def Flue.ending (x : Flue) : Bool := x.stage == .slotOut || x.stage == .record || x.stage == .crcOut

/-- A stop asked of a flue (R241): at the boundary, or a pause; an abort under way goes on. -/
def State.fluStop (s : State) (f : Nat) (k : FluStop) : State :=
  let x := s.flu f
  let held := x.run == .retry || x.run == .bound || x.run == .ready || s.on FLU_STATUS_PREEMPTED f
  if x.stop = some .abort then s
  else
  let s := s.fluMod f (fun x => { x with stop := some k })
  if x.ending || x.stage == .helper then s
  else if x.stage == .none && !x.mid then s.fluRest f .stopped
  else if k = .boundary then s
  else match x.stage with
    | .work =>
      let q := if held then s.dropBeats x.beats else (s, x.beats)
      (q.1.fluMod f (fun x => { x with beats := q.2 })).fluSettle f
    | _ => (s.fluDropJob f).fluRest f .stopped

/-- STOP. -/
def fluStopOp (m : Master) (f : Nat) (s : State) : State × Nat :=
  match s.fluGuard m f with
  | some st => (s, st)
  | none =>
    match (s.flu f).code with
    | 1 | 2 | 3 => (s.fluStop f (if s.on FLU_CFG_STOP_MODE f then .pause else .boundary), ST_OK)
    | _ => (s, ST_LATE)

/-- A flue resumed (R242): a list that had ended has nothing left. -/
def State.fluResume (s : State) (f : Nat) : State :=
  let x := s.flu f
  if !x.mid && !x.more && x.entry.isNone && s.g FLU_CFG_MODE f ≠ 2 then (s.p FLU_STATUS_STOP_ERR 0 f).fluRest f .idle
  else if s.g FLU_CFG_MODE f = 2 && x.entry.isNone && !((s.wqOf f).any (fun q => s.wqEligible q)) then (s.p FLU_STATUS_STOP_ERR 0 f).fluRest f .idle
  else s.fluStart f

/-- RESUME. -/
def fluResumeOp (m : Master) (f : Nat) (s : State) : State × Nat :=
  match s.fluGuard m f with
  | some st => (s, st)
  | none =>
    match (s.flu f).code with
    | 4 => (s, ST_RETRY)
    | 5 => (s.fluResume f, ST_OK)
    | _ => (s, ST_LATE)

/-- The work of a flue ended (R243): what is in flight is given up, writes conclude, and the abort record follows; a record that waits is
still written, and nothing is fetched after it. -/
def State.fluAbort (s : State) (f : Nat) : State :=
  let x := s.flu f
  let s := s.fluMod f (fun x => { x with stop := some .abort })
  if x.ending && !(x.stage == .crcOut && !x.job.flying) then s
  else match x.stage with
    | .work => s.fluSettle f
    | _ => (s.fluDropJob f).fluAborted f

/-- ABORT. -/
def fluAbortOp (m : Master) (f : Nat) (s : State) : State × Nat :=
  match s.fluGuard m f with
  | some st => (s, st)
  | none => if (s.flu f).run = .idle then (s, ST_LATE) else (s.fluAbort f, ST_OK)

/-- A flue reset (R7, R244): everything is given up, the flue's registers within the reset's scope return to their Reset values and the flue is
IDLE; a record still to be written is lost, and stands in FLU_LAST_CMPL. FLU_ASSIGN, the completion queues and RQL_CFG stay. -/
def State.fluReset (s : State) (f : Nat) : State :=
  let x := s.flu f
  let s := match x.stage, x.fin with
    | .slotOut, some e =>
      if e.need then let b := s.recBytes f e (match s.recQueue f e with | some q => s.cqPhase q | none => false); b.1.lastCmpl f b.2 else s
    | _, _ => s
  let s := s.jobDrop x.job
  let s := x.beats.foldl (fun s b => ((s.jobDrop b.src).jobDrop b.cmp).jobDrop b.out) s
  let s := { s with fl := { s.fl with cqBusy := s.fl.cqBusy.filter (fun e => e.2 != f) } }
  let s := match s.fluLine f with
    | some n => (((s.unitEnd f).p RQL_CFG_BOUND 0 n).p RQL_CFG_BOUND_FLUE 0 n)
    | none => s
  let s := [RegName.FLU_CFG, .FLU_STATUS, .FLU_DESC, .FLU_SRC, .FLU_DST, .FLU_LEFT, .FLU_ACC, .FLU_RING_BASE, .FLU_RING_IDX, .FLU_ERR].foldl
    (fun s r => s.clrReg r f) (s.fluSet f {})
  if x.stage == .record || (x.stage == .slotOut && x.fin.any (·.need)) then s.fluFault f FLU_ERR_CMPL_LOST CE 0 [] else s

/-- RESET: refused while a bound queue is ENABLED or DRAINING (R244, R263). -/
def fluResetOp (m : Master) (f : Nat) (s : State) : State × Nat :=
  if !(s.on FLU_ASSIGN_VALID f) || (s.mPriv m ≥ 2 && s.fluPlacement f) then (s, ST_ACCESS_DENIED)
  else if s.g FLU_CFG_MODE f = 2 && (s.wqOf f).any (fun q => s.g WQ_STATUS_STATE q != 0) then (s, ST_ACCESS_DENIED)
  else (s.fluReset f, ST_OK)

/-- A command or doorbell of a flue: its status is held in CMD_STATUS and answered. -/
def flueCommand (r : RegName) (op : State → State × Nat) (m : Master) (f : Nat) (s : State) : Out :=
  whenUp s fun s => s.cmdBy m r f (fun s => let q := op s; (q.1.p FLU_STATUS_CMD_STATUS q.2 f).reply m q.2)

/-- FLU_DOORBELL. -/
def execFluDoorbell (m : Master) (f : FlueId) (addr : Word) (s : State) : Out := flueCommand .FLU_DOORBELL (doorbellOp m f addr.toNat) m f s
/-- FLUE_STOP. -/
def execFlueStop (m : Master) (f : FlueId) (s : State) : Out := flueCommand .FLU_CTRL (fluStopOp m f) m f s
/-- FLUE_RESUME. -/
def execFlueResume (m : Master) (f : FlueId) (s : State) : Out := flueCommand .FLU_CTRL (fluResumeOp m f) m f s
/-- FLUE_ABORT. -/
def execFlueAbort (m : Master) (f : FlueId) (s : State) : Out := flueCommand .FLU_CTRL (fluAbortOp m f) m f s
/-- FLUE_RESET. -/
def execFlueReset (m : Master) (f : FlueId) (s : State) : Out := flueCommand .FLU_CTRL (fluResetOp m f) m f s

/-- DMAL (R196): the start doorbell, by a thread. -/
def execDmal (t : ThrId) (s : State) : Out :=
  runPlv .dmal t (fun s i =>
    let ra := s.gr t (wRa i.word)
    let f := ra % 2048
    some (
      if ra ≥ 2048 then s.retireS t i ST_NO_MATCH 0
      else
        let q := if !(s.on FLU_ASSIGN_VALID f) || s.fluInst f ≠ (s.th t).inst then (s, ST_ACCESS_DENIED)
          else doorbellOp (.thread t) f (s.gr t (wRb i.word)) s
        (q.1.p FLU_STATUS_CMD_STATUS q.2 f).retireS t i q.2 0)) s

/-! ## Assignment (R228) -/

/-- A write of FLU_ASSIGN. -/
def fluAssignOp (m : Master) (f : Nat) (w : RegW) (s : State) : State × Nat :=
  let v := s.after w FLU_ASSIGN_VALID f
  let inst := s.after w FLU_ASSIGN_INST f
  let priv := s.after w FLU_ASSIGN_PRIV f
  let mine := (List.range 2048).filter (fun k => k != f && s.on FLU_ASSIGN_VALID k && s.g FLU_ASSIGN_INST k == inst)
  if (s.flu f).run ≠ .idle || priv = 3 || (priv = 0 && s.g FLU_ASSIGN_PRIV f ≠ 0 && !(s.p0 m)) || (w.has FLU_ASSIGN_PRIV && priv = 0 && !(s.p0 m)) ||
     s.after w FLU_ASSIGN_RUN_TMO_US f = 0 || s.instState inst = 0 || s.g CQ_CFG_INST (s.after w FLU_ASSIGN_CALL_CQ f) ≠ inst
  then (s, ST_ACCESS_DENIED)
  else if v = 1 && mine.length ≥ s.g INST_POOL_FLUE_QUOTA inst then (s, ST_RESOURCE_EXHAUSTED)
  else ([FLU_ASSIGN_VALID, FLU_ASSIGN_PRIV, FLU_ASSIGN_PRIO_MAX, FLU_ASSIGN_INST, FLU_ASSIGN_OWNER_KIND, FLU_ASSIGN_OWNER, FLU_ASSIGN_CALL_CQ,
          FLU_ASSIGN_RUN_TMO_US].foldl (fun s b => s.putW w b f) s |>.fluWake f, ST_OK)

/-- FLU_ASSIGN_WRITE. -/
def execFluAssignWrite (m : Master) (f : FlueId) (v : Word) (s : State) : Out :=
  command m .FLU_ASSIGN f (fluAssignOp m f { v := v.toNat }) s

/-! ## Movers (R240) -/

/-- A flue that could run now: READY, or held at a bound that has lifted. -/
def State.fluRunnable (s : State) (f : Nat) (x : Flue) : Bool :=
  x.run == .ready || (x.run == .bound && ((((s.fluMod f (fun x => { x with run := .running, mover := true })).fluGo f).flu f).run != .bound))

/-- The flue that waits for a mover of a die: highest priority, then oldest. -/
def State.fluWaiting (s : State) (die : Nat) : Option (Nat × Flue) :=
  ((s.fluesOn die).filter (fun e => s.fluRunnable e.1 e.2)).foldl (fun b e =>
    match b with
    | none => some e
    | some y =>
      let p := s.g FLU_CFG_PRIO e.1
      let q := s.g FLU_CFG_PRIO y.1
      if q < p || (p = q && e.2.order < y.2.order) then some e else b) none

/-- A flue given a mover: its place among those that run is the latest. -/
def State.giveMover (s : State) (f : Nat) : State :=
  let o := s.fl.order
  let s := { s with fl := { s.fl with order := o + 1 } }
  ((s.p FLU_STATUS_PREEMPTED 0 f).fluMod f (fun x => { x with run := .running, mover := true, order := o })).fluGo f

/-- MOVER_GRANT. -/
def execMoverGrant (die : Fin 2) (s : State) : Out :=
  whenUp s fun s =>
    if !(s.moversFree die) then s
    else match s.fluWaiting die with
      | some e => s.giveMover e.1
      | none => s

/-- The running flue of a die that loses its mover to one of priority `p`: the lowest priority below it, the oldest among equals; none that
stops (Table 11-7). -/
def State.fluVictim (s : State) (die p : Nat) : Option (Nat × Flue) :=
  ((s.fluesOn die).filter (fun e => e.2.mover && e.2.stop.isNone && decide (s.g FLU_CFG_PRIO e.1 < p))).foldl (fun (b : Option (Nat × Flue)) e =>
    match b with
    | none => some e
    | some y =>
      let pe := s.g FLU_CFG_PRIO e.1
      let py := s.g FLU_CFG_PRIO y.1
      if pe < py || (pe = py && e.2.order < y.2.order) then some e else b) none

/-- FLUE_PREEMPTION: with no mover free, the running flue of lowest priority, the one that has held its mover longest among equals, loses it
to a waiting flue of strictly higher priority; a stopping flue is left alone (Table 11-7). -/
def execFluePreemption (die : Fin 2) (s : State) : Out :=
  whenUp s fun s =>
    if s.moversFree die then s
    else match s.fluWaiting die with
      | none => s
      | some (f, _) =>
        match s.fluVictim die (s.g FLU_CFG_PRIO f) with
        | none => s
        | some (v, _) => ((s.fluReady v).p FLU_STATUS_PREEMPTED 1 v).giveMover f

/-! ## Descriptors and beats -/

/-- The element whose read the flue waits for, and the descriptor that goes on with what that read gave. -/
def State.elemNeeded (s : State) (f : Nat) (d : FluDesc) : Nat := match d.nextBeat (s.fluCursor f) with | .need k => k | _ => 0
def State.elemTaken (s : State) (f : Nat) (d : FluDesc) : State :=
  (s.fluMod f (fun x => { x with desc := some d, stage := .work, job := {} })).fluWork f

/-- The fetched bytes of a list or ring flue: the base block, the extension blocks, or an element (R231, R233, R251). -/
def State.fluFetched (s : State) (f : Nat) (bs : List Byte) : State :=
  let x := s.flu f
  let ring := s.g FLU_CFG_MODE f = 1
  match x.stage, x.desc with
  | .element, some d =>
    let e := elemOf bs
    if elemOk (s.fluPriv f) e then s.elemTaken f { d with elems := nset (s.elemNeeded f d) e d.elems }
    else (s.fluFault f FLU_ERR_DESC_BAD NC ST_ACCESS_DENIED []).elemTaken f { d with stopAt := some (s.elemNeeded f d, ST_ACCESS_DENIED) }
  | .ext, some d =>
    let es := inlineElems d.elements bs
    if es.all (fun e => elemOk (s.fluPriv f) e.2) then s.fluBegin f { d with elems := es } else s.descBad f
  | .fetch, _ =>
    let d := descOf bs
    if ring && !x.mid && !d.own then
      if s.on FLU_STATUS_KICK f then (s.p FLU_STATUS_KICK 0 f).fluFetch f else (s.unitEnd f).fluRest f .idle
    else
      let s := s.fluMod f (fun x => { x with desc := some d })
      if !(descOk (s.fluPriv f) ring false d) then s.descBad f
      else if d.ext = 0 then s.fluBegin f d
      else
        let w := s.g FLU_DESC_DESC f + 64
        let c := s.fluCheck f w (64 * d.ext) 0
        if !c.2 then c.1.fluConclude f { status := ST_ACCESS_DENIED }
        else
          let r := c.1.fluIssue f (jobRead w (64 * d.ext))
          (r.1.fluMod f (fun x => { x with stage := .ext, job := r.2.1 })).fluHold f r.2.2
  | _, _ => s

/-- The answers of a fetch taken: once all have come, what it has read is checked and used, or the descriptor concludes with the status of the
fetch; a list's element that cannot be read ends it once the elements before it are done (R231, R233). -/
def State.fluTake (s : State) (f : Nat) : State :=
  let x := s.flu f
  let r := s.jobTake x.job
  let s := r.1.fluMod f (fun x => { x with job := r.2 })
  if !r.2.over then s
  else if r.2.status ≠ ST_OK then
    match x.stage, x.desc with
    | .element, some d => s.elemTaken f { d with stopAt := some (s.elemNeeded f d, r.2.status) }
    | _, _ => s.fluConclude f { status := r.2.status, did := x.did }
  else
    let v := s.raced f r.2
    v.1.fluFetched f v.2.bytes

/-- DESCRIPTOR_FETCH: a running flue at a descriptor boundary reads its next descriptor or ring slot; the answers of a read under way are
taken (R231, R232, R251). -/
def execDescriptorFetch (f : FlueId) (s : State) : Out :=
  whenUp s fun s =>
    let x := s.flu f
    let list := match x.entry with | some w => w.started && w.kind == 2 | none => true
    if x.run ≠ .running then s
    else match x.stage with
      | .none => s.fluGo f
      | .element | .ext => s.fluTake f
      | .fetch => if list then s.fluTake f else s
      | _ => s

/-- FLUE_BEAT_READ_ANSWER (R235): the answers of the k-th beat's reads are taken; read whole, it is staged and its write issues. `ue` is an
uncorrectable error of the staging store (Table 11-5). -/
def execFlueBeatReadAnswer (f : FlueId) (k : Fin 32) (ue : Bool) (s : State) : Out :=
  whenUp s fun s =>
    let x := s.flu f
    match x.stage, x.desc, x.beats[k.val]? with
    | .work, some d, some b =>
      if b.phase ≠ .reading then s
      else
        let r := s.jobTake b.src
        let q := r.1.jobTake b.cmp
        let b := { b with src := r.2, cmp := q.2 }
        let ended := b.src.over && (b.cmp.over || b.src.status != ST_OK && !b.cmp.flying)
        let bad := if b.src.status ≠ ST_OK then b.src.status else b.cmp.status
        let b := if !ended then b
          else if bad ≠ ST_OK then { b with phase := .failed bad }
          else if ue then { b with phase := .failed ST_INTERNAL }
          else { b with phase := if d.op = 5 || d.op = 6 then .done else .staged }
        let s := if ended && bad = ST_OK && ue then q.1.fluFault f FLU_ERR_STAGE_UE NC ST_INTERNAL [] else q.1
        let u := if ended then s.raced f b.src else (s, b.src)
        let v := if ended then u.1.raced f b.cmp else (u.1, b.cmp)
        (v.1.fluMod f (fun x => { x with beats := x.beats.set k { b with src := u.2, cmp := v.2 } })).fluWork f
    | _, _, _ => s

/-- FLUE_BEAT_WRITE_CONCLUDE (R235, R236, R252): the k-th beat's write concludes, or the write of a CRC or of a ring slot. -/
def execFlueBeatWriteConclude (f : FlueId) (k : Fin 32) (s : State) : Out :=
  whenUp s fun s =>
    let x := s.flu f
    match x.stage, x.fin with
    | .crcOut, some e =>
      let r := s.jobTake x.job
      let s := r.1.fluMod f (fun x => { x with job := r.2 })
      if x.stop = some .abort then (if r.2.flying then s else s.fluAborted f)
      else if !r.2.over then s else s.fluConclude f { e with status := r.2.status, need := e.need || r.2.status != ST_OK }
    | .slotOut, some e =>
      let r := s.jobTake x.job
      let s := r.1.fluMod f (fun x => { x with job := r.2 })
      if !r.2.over then s else s.slotDone f e r.2.status
    | .work, _ =>
      match x.beats[k.val]? with
      | some b =>
        if b.phase ≠ .writing then s
        else
          let r := s.jobTake b.out
          let b := { b with out := r.2, phase := if !r.2.over then .writing else if r.2.status = ST_OK then .done else .failed r.2.status }
          (r.1.fluMod f (fun x => { x with beats := x.beats.set k b })).fluWork f
      | none => s
    | _, _ => s

/-- FLUE_RETRY_REISSUE (R239): the back-off ends, and the request waits for a mover again. -/
def execFlueRetryReissue (f : FlueId) (s : State) : Out :=
  whenUp s fun s => if (s.flu f).run = .retry then s.fluReady f else s

/-! ## Completion queues (R249, R250) -/

/-- A record has been written in its slot: TAIL advances, and the queue's thread and host are told as it is configured; a refused or failed
write stops the flue, and for a CALL it concludes the descriptor (R238, R257, R293). An abort that waited for a CALL record goes on (R243). -/
def State.recDone (s : State) (f q : Nat) (e : FluEnd) (st : Nat) : State :=
  let x := s.flu f
  let s := { s with fl := { s.fl with cqBusy := nerase q s.fl.cqBusy } }
  let aborted := e.kind = 1 && x.stop = some .abort
  if st ≠ ST_OK then
    if aborted then s.fluAborted f
    else if e.kind = 1 then s.fluConclude f { status := st }
    else (s.fluMod f (fun x => { x with fin := some { e with status := if e.status = ST_OK then st else e.status, lost := true } })).fluAfter f
  else
    let evt := e.kind = 1 || (match x.entry, x.desc with | some w, _ => w.evt | none, some d => d.evt | none, none => false)
    let s := s.p CQ_IDX_TAIL ((s.g CQ_IDX_TAIL q + 1) % 2 ^ 32) q
    let tid := s.g CQ_CFG_EVT_TID q
    let s := if s.on CQ_CFG_EVT_EN q && evt then (if (s.thrOf tid).isSome then s.setEventTid tid 4 else s.eventTo tid 4) else s
    let s := if s.on CQ_CFG_MSIX_EN q then s.send (.msix (s.g CQ_CFG_INST q) (s.g CQ_CFG_MSIX_VEC q)) else s
    if aborted then s.fluAborted f else s.fluAfter f

/-- CQ_APPEND (R249, R250): the record of the flue is written once its queue has room and no other record is being written to it; the
conclusion of that write appends it. A write that a RETRY or a bound holds waits as a beat does (R239). -/
def execCqAppend (f : FlueId) (s : State) : Out :=
  whenUp s fun s =>
    let x := s.flu f
    match x.stage, x.fin with
    | .record, some e =>
      match s.recQueue f e with
      | none => s
      | some q =>
        if x.job.parts ≠ [] then
          let r := s.jobTake x.job
          let s := r.1.fluMod f (fun x => { x with job := r.2 })
          if !r.2.over then s else s.recDone f q e r.2.status
        else if (nget? q s.fl.cqBusy).isSome then s
        else if !(s.cqRoom q) then (if x.run = .cq then s else s.fluWait f .cq)
        else
          let a := s.g CQ_BASE_BASE q + 32 * (s.g CQ_IDX_TAIL q % 2 ^ s.g CQ_CFG_LOG2 q)
          let b := s.recBytes f e (s.cqPhase q)
          let s := b.1.lastCmpl f b.2
          let c := s.fluCheck f a 32 1
          if !c.2 then c.1.recDone f q e ST_ACCESS_DENIED
          else
            let r := c.1.fluIssue f (jobWrite a b.2)
            let s := { r.1 with fl := { r.1.fl with cqBusy := nset q f r.1.fl.cqBusy } }.fluMod f (fun x => { x with job := r.2.1 })
            if r.2.1.over then s.recDone f q e r.2.1.status else s.fluHold f r.2.2
    | _, _ => s

/-- A write of a queue's HEAD (R250). -/
def cqHeadOp (q head : Nat) (s : State) : State × Nat :=
  let h := s.g CQ_IDX_HEAD q
  if (head + 2 ^ 32 - h) % 2 ^ 32 ≤ (s.g CQ_IDX_TAIL q + 2 ^ 32 - h) % 2 ^ 32 then (s.p CQ_IDX_HEAD head q, ST_OK) else (s, ST_ACCESS_DENIED)

/-- CQ_HEAD_WRITE. -/
def execCqHeadWrite (m : Master) (q : CqId) (head : Fin 4294967296) (s : State) : Out := command m .CQ_IDX q (cqHeadOp q head) s

/-! ## Request lines (R245) -/

/-- The flue bound to a line starts the unit that it waits for. -/
def State.lineArrive (s : State) (n : Nat) : State :=
  if !(s.on RQL_CFG_BOUND n) then s
  else
    let f := s.g RQL_CFG_BOUND_FLUE n
    if (s.flu f).run ≠ .line then s
    else match s.lineTake f n with
      | some s => s.fluReady f
      | none => s

/-- An assertion of a line: an edge is counted while the line is enabled. -/
def State.lineEdge (s : State) (n : Nat) : State :=
  if s.on RQL_CFG_EN n && s.on RQL_CFG_SENSE n then s.p RQL_CFG_PEND (min (s.g RQL_CFG_PEND n + 1) 255) n else s

/-- REQUEST_LINE_ASSERT: a pin line takes a level. -/
def execRequestLineAssert (n : Fin 16) (asserted : Bool) (s : State) : Out :=
  whenUp s fun s =>
    let was := s.on RQL_CFG_DREQ n
    let s := s.pb RQL_CFG_DREQ asserted n
    let s := if asserted && !was then s.lineEdge n else s
    s.lineArrive n

/-- RQL_CFG.SET: one assertion of an internal line; a pin line refuses it. A level line is asserted for that moment only. -/
def rqlSetOp (n : Nat) (s : State) : State × Nat :=
  if n < 16 then (s, ST_ACCESS_DENIED)
  else
    let s := (s.lineEdge n).pb RQL_CFG_DREQ (!(s.on RQL_CFG_SENSE n)) n
    ((s.lineArrive n).p RQL_CFG_DREQ 0 n, ST_OK)

/-- RQL_SET. -/
def execRqlSet (m : Master) (n : Fin 1024) (s : State) : Out := command m .RQL_CFG n (rqlSetOp n) s

/-! ## Helpers (R247, R248) -/

/-- A helper's return: the waiting RUN concludes with its status, one that Table 0-5 does not list as INTERNAL (R14); with none waiting it is stray. -/
def helperOp (f status result : Nat) (s : State) : State × Nat :=
  let x := s.flu f
  let status := listedStatus status
  if x.called then
    let s := s.fluMod f (fun x => { x with called := false })
    (s.fluConclude f { status := status, result := result, did := 0, need := (match x.desc with | some d => d.cmpl | none => false) || status != ST_OK }, ST_OK)
  else
    let sc := scope 1 (s.g FLU_ASSIGN_INST f)
    (s.fluFault f FLU_ERR_RUN_STRAY CE 0 (if x.timedOut then [(src 0x0A 0, sc)] else []), ST_OK)

/-- HELPER_RETURN. -/
def execHelperReturn (m : Master) (f : FlueId) (status : Fin 256) (result : Fin 4294967296) (s : State) : Out :=
  command m .FLU_RUN_RET f (helperOp f status result) s

/-- HELPER_TIMEOUT. -/
def execHelperTimeout (f : FlueId) (s : State) : Out :=
  whenUp s fun s =>
    if !(s.flu f).called then s
    else
      let s := s.fluMod f (fun x => { x with called := false, timedOut := true })
      (s.fluFault f FLU_ERR_RUN_TMO NC ST_TIMEOUT []).fluConclude f { status := ST_TIMEOUT }

end Sys2Proof.Machine
end

