-- ==== Sys2Proof/Machine/WorkQueues.lean ====
section
/-! DEFINITION. The commands of the work queues: doorbells, binding, the start of an entry, disabling and the published head (R254 to R267). -/

namespace Sys2Proof.Machine

/-! ## Doorbells (R259 to R262) -/

/-- The instance of a queue is frozen or being frozen (R283). -/
def State.wqFrozen (s : State) (q : Nat) : Bool := [2, 3].contains (s.instState (s.g WQ_CFG_INST q))

/-- An event for a thread of this device or of another. -/
def State.signal (s : State) (tid n : Nat) : State := if (s.thrOf tid).isSome then s.setEventTid tid n else s.eventTo tid n

/-- The flue of a bound queue wakes where it can serve it. -/
def State.wqWake (s : State) (q : Nat) : State := if s.on WQ_CFG_VALID q then s.fluWake (s.g WQ_CFG_FLUE q) else s

/-- A visit of the round robin that ended because its queue had nothing more is closed (R109, R264). -/
def State.wqVisitEnd (s : State) (q : Nat) : State :=
  let f := s.g WQ_CFG_FLUE q
  if !(s.wqEligible q) && ngetD s.fl.rrLast f 8191 == q then { s with fl := { s.fl with rrBurst := nset f 0 s.fl.rrBurst } } else s

/-- Units handed over: TAIL moves to `t`, the thread of the queue is told, and the flue wakes (R259, R262). -/
def State.wqAdvance (s : State) (q t : Nat) : State :=
  if t = s.g WQ_IDX_TAIL q then s
  else
    let s := (s.wqVisitEnd q).p WQ_IDX_TAIL t q
    let s := if s.on WQ_CFG_EVT_EN q then s.signal (s.g WQ_CFG_EVT_TID q) 5 else s
    s.wqWake q

/-- A doorbell that names tail `t`: Table 12-3, then the room up to the published head and the ring size (R259). -/
def wqTailOp (q t : Nat) (s : State) : State × Nat :=
  let d := (t + 2 ^ 32 - s.g WQ_IDX_TAIL q) % 2 ^ 32
  if s.wqFrozen q then (s, ST_FROZEN)
  else match s.g WQ_STATUS_STATE q with
    | 0 => (s, ST_ACCESS_DENIED)
    | 1 =>
      if d > 2 ^ s.g WQ_RING_RING_LOG2 q - (s.g WQ_IDX_TAIL q + 2 ^ 32 - (s.wq q).pub) % 2 ^ 32 then (s.wqFault q WQ_ERR_DB_OVERRUN CE ST_ACCESS_DENIED, ST_ACCESS_DENIED)
      else (s.wqAdvance q t, ST_OK)
    | _ => (s, ST_RETRY)

/-- A doorbell's status held and answered. -/
def State.dbStatus (s : State) (m : Master) (q st : Nat) : State := (s.p WQ_STATUS_DB_STATUS st q).reply m st

/-- WQ_DOORBELL. -/
def execWqDoorbell (m : Master) (q : QueueId) (tail : Fin 4294967296) (s : State) : Out :=
  whenUp s fun s => s.cmdBy m .WQ_DB q (fun s => let r := wqTailOp q tail s; r.1.dbStatus m q r.2)

/-! ## Entries (Tables 12-1, 12-2) -/

/-- An entry's header as it stands in memory. -/
structure WqHeader where
  len : Nat
  kind : Nat
  evt : Bool
  fence : Bool
  tag : Nat
  addr : Nat
  routine : Nat
  arg : Nat
  reserved : Bool
deriving DecidableEq, Repr

/-- The header of 32 bytes. -/
def wqHeader (bs : List Byte) : WqHeader :=
  let w := leNat (bs.take 8)
  let r := leNat ((bs.drop 16).take 8)
  { len := w % 32, kind := bits w 8 4, evt := bit w 12, fence := bit w 13, tag := bits w 32 16, addr := leNat ((bs.drop 8).take 8), routine := r % 2 ^ 16,
    arg := leNat ((bs.drop 24).take 8), reserved := bits w 5 3 != 0 || bits w 14 18 != 0 || bits w 48 16 != 0 || r ≥ 2 ^ 16 }

/-- The checks of R256 on a header: its length, its kind, the length its kind allows, and reserved bits, a field that its kind has at 0 among
them. -/
def WqHeader.ok (h : WqHeader) : Bool :=
  !h.reserved && decide (1 ≤ h.len) && decide (h.len ≤ 16) &&
  (match h.kind with
   | 1 => (h.len == 3 || h.len == 5 || h.len == 7 || h.len == 9) && h.addr == 0 && h.routine == 0 && h.arg == 0
   | 2 => h.len == 1 && h.routine == 0 && h.arg == 0
   | 3 => h.addr == 0
   | _ => false)

/-! ## The inline window (R261) -/

/-- The 32-byte units of inline bytes. -/
def inlineUnits (bs : List Byte) : List (List Byte) := (List.range (bs.length / 32)).map (fun k => (bs.drop (32 * k)).take 32)

/-- How many leading units of inline bytes are whole entries whose headers pass; none where a header fails. -/
def leadingUnits : Nat → List (List Byte) → Option Nat
  | 0, _ => some 0
  | _, [] => some 0
  | fuel + 1, u :: us =>
    let h := wqHeader u
    if !h.ok then none
    else if h.len ≤ us.length + 1 then (leadingUnits fuel (us.drop (h.len - 1))).map (· + h.len) else some 0

/-- The entry that a queue's flue has taken from it. -/
def State.wqEntry (s : State) (q : Nat) : Option WqEntry :=
  match (s.flu (s.g WQ_CFG_FLUE q)).entry with
  | some w => if w.queue = q then some w else none
  | none => none

/-- The inline units of a queue whose entries have not been taken. -/
def State.inlineHeld (s : State) (q : Nat) : Nat :=
  ((s.wq q).inl.filter (fun e => match s.wqEntry q with | some w => decide (w.len ≤ (e.1 + 2 ^ 32 - w.unit) % 2 ^ 32) | none => true)).length

/-- The units that are kept: the leading whole entries, up to 512 B of entries not yet taken; a write that loses some is counted. -/
def State.inlineKeep (s : State) (q first : Nat) (bs : List Byte) : State :=
  let us := inlineUnits bs
  let n := min ((leadingUnits us.length us).getD 0) (16 - s.inlineHeld q)
  let s := s.wqMod q (fun x => { x with inl := (us.take n).zipIdx.foldl (fun m e => nset ((first + e.2) % 2 ^ 32) e.1 m) x.inl })
  if n < us.length then s.inc WQ_ERR_INLINE_DISCARDS q else s

/-- A write to a queue's window: aligned, of 32 to 256 B, and inside it, or refused; it is a doorbell for its units. -/
def inlineOp (q off : Nat) (bs : List Byte) (s : State) : State × Nat :=
  if off % 32 ≠ 0 || bs.length % 32 ≠ 0 || bs.length < 32 || off + bs.length > 256 then (s.wqFault q WQ_ERR_DB_BAD CE ST_ACCESS_DENIED, ST_ACCESS_DENIED)
  else
    let t0 := s.g WQ_IDX_TAIL q
    let kept := s.inlineKeep q t0 bs
    let r := wqTailOp q ((t0 + bs.length / 32) % 2 ^ 32) kept
    if r.2 = ST_OK then r else wqTailOp q ((t0 + bs.length / 32) % 2 ^ 32) s

/-- The offset of a queue's window. -/
def wqWindow (q : Nat) : Nat := 0x1600000 + 0x100 * q

/-- WQ_INLINE_DOORBELL: the write meets the gate over its bytes, and a host's view where the queue is not its own. -/
def execWqInlineDoorbell (m : Master) (q : QueueId) (offset : Nat) (data : List Byte) (s : State) : Out :=
  whenUp s fun s =>
    let a := wqWindow q + offset
    match s.csGate m a (max 1 data.length) 1 with
    | some g => (s.csRefuse m g).reply m ST_ACCESS_DENIED
    | none =>
      match m with
      | .host k => if s.hostSees k .WQ_DB q then let r := inlineOp q offset data s; r.1.dbStatus m q r.2 else (s.strayAccess m a 2).reply m ST_NO_MATCH
      | _ => let r := inlineOp q offset data s; r.1.dbStatus m q r.2

/-! ## ENABLE and DISABLE (Tables 12-3, 12-4) -/

/-- ENABLE. -/
def wqEnableOp (q : Nat) (s : State) : State × Nat :=
  if s.wqFrozen q then (s, ST_FROZEN)
  else match s.g WQ_STATUS_STATE q with
    | 0 =>
      let s := ((s.p WQ_IDX_TAIL (s.g WQ_IDX_HEAD q) q).p WQ_STATUS_ERR_STOP 0 q).p WQ_STATUS_STATE 1 q
      ((s.wqForget q).wqPublish q, ST_OK)
    | 1 => (s, ST_LATE)
    | _ => (s, ST_RETRY)

/-- A flue between entries that has no eligible queue left is IDLE. -/
def State.wqIdle (s : State) (f : Nat) : State :=
  let x := s.flu f
  if s.g FLU_CFG_MODE f = 2 && x.entry.isNone && x.stage == .none && x.stop.isNone && !(x.run == .idle || x.run == .stopped) &&
     !((s.wqOf f).any (fun q => s.wqEligible q)) then s.fluRest f .idle else s

/-- An entry fetched and not started is given up, unless it has concluded and its record waits; its flue goes on with its other queues. -/
def State.wqUntake (s : State) (q : Nat) : State :=
  let f := s.g WQ_CFG_FLUE q
  match s.wqEntry q with
  | some w =>
    if w.started || w.bad then s
    else
      let s := s.fluDropJob f
      match (s.flu f).stop with
      | some _ => s.fluRest f .stopped
      | none => if (s.flu f).run = .stopped then s else s.fluIdle f
  | none => s

/-- The queue begins to drain, and its head word shows it: inline entries, those fetched ahead and an entry not started are discarded; with none
started it is DISABLED (step 2), and a flue that waited only for it is IDLE. -/
def State.wqDrain (s : State) (q : Nat) : State :=
  let s := ((s.p WQ_STATUS_STATE 2 q).wqForget q).wqUntake q
  (if (s.wqEntry q).isSome then s.wqPublish q else s.wqDisabled q false).wqIdle (s.g WQ_CFG_FLUE q)

/-- DISABLE. -/
def wqDisableOp (q : Nat) (s : State) : State × Nat :=
  if s.g WQ_STATUS_STATE q = 1 then (s.wqDrain q, ST_OK) else (s, ST_LATE)

/-- A command of WQ_CTRL: its status is held in CMD_STATUS and answered. -/
def queueCommand (op : State → State × Nat) (m : Master) (q : Nat) (s : State) : Out :=
  whenUp s fun s => s.cmdBy m .WQ_CTRL q (fun s => let r := op s; (r.1.p WQ_STATUS_CMD_STATUS r.2 q).reply m r.2)

/-- WQ_ENABLE. -/
def execWqEnable (m : Master) (q : QueueId) (s : State) : Out := queueCommand (wqEnableOp q) m q s
/-- WQ_DISABLE. -/
def execWqDisable (m : Master) (q : QueueId) (s : State) : Out := queueCommand (wqDisableOp q) m q s

/-- The entry that a queue's flue has taken has concluded: its own record waits. -/
def State.wqConcluded (s : State) (q : Nat) : Bool :=
  let x := s.flu (s.g WQ_CFG_FLUE q)
  (s.wqEntry q).isSome && x.stage == .record && x.fin.any (fun e => e.kind != 1)

/-- WQ_DRAIN_TIMEOUT: the started entry of a draining queue is aborted (step 4); one that has concluded has won (R266). -/
def execWqDrainTimeout (q : QueueId) (s : State) : Out :=
  whenUp s fun s =>
    if s.g WQ_STATUS_STATE q = 2 && (s.wqEntry q).isSome && !(s.wqConcluded q) then
      (s.wqFault q WQ_ERR_DRAIN_ABORT CE 0).fluAbort (s.g WQ_CFG_FLUE q)
    else s

/-! ## Binding (R263, R271) -/

/-- The bound queues of an instance. -/
def State.instQueues (s : State) (i : Nat) : List Nat := (List.range 8192).filter (fun q => s.on WQ_CFG_VALID q && s.g WQ_CFG_INST q == i)

/-- A write of WQ_CFG. -/
def wqCfgOp (q : Nat) (w : RegW) (s : State) : State × Nat :=
  let v := s.after w WQ_CFG_VALID q
  let i := s.after w WQ_CFG_INST q
  let f := s.after w WQ_CFG_FLUE q
  if s.g WQ_STATUS_STATE q ≠ 0 || s.g FLU_ASSIGN_INST f ≠ i || !((s.flu f).run == .idle || s.g FLU_CFG_MODE f == 2) ||
     s.g CQ_CFG_INST (s.after w WQ_CFG_CQ q) ≠ i || (v = 1 && s.instState i = 0) then (s, ST_ACCESS_DENIED)
  else if v = 1 && ((s.instQueues i).filter (· != q)).length ≥ s.g INST_POOL_WQ_QUOTA i then (s, ST_RESOURCE_EXHAUSTED)
  else
    let was := if s.on WQ_CFG_VALID q then some (s.g WQ_CFG_FLUE q) else none
    let s := [WQ_CFG_VALID, WQ_CFG_EVT_EN, WQ_CFG_EVT_TID, WQ_CFG_INST, WQ_CFG_FLUE, WQ_CFG_CQ].foldl (fun s b => s.putW w b q) s
    let s := match was with | some g => if s.wqOf g = [] then (s.p FLU_CFG_MODE 0 g).fluMod g (fun x => { x with more := false }) else s | none => s
    (if v = 1 then s.p FLU_CFG_MODE 2 f else s, ST_OK)

/-- WQ_CFG_WRITE. -/
def execWqCfgWrite (m : Master) (q : QueueId) (v : Word) (s : State) : Out := command m .WQ_CFG q (wqCfgOp q { v := v.toNat }) s

/-! ## Taking entries (R256, R257, R264) -/

/-- The weight a queue has left in its flue's round. -/
def State.wqLeft (s : State) (q : Nat) : Nat := ngetD s.fl.rrLeft q (s.g WQ_CTRL_WEIGHT q)

/-- The entries of a visit. -/
def State.wqBurst (s : State) (q : Nat) : Nat := let b := s.g WQ_CTRL_BURST q; if b = 0 then 64 else b

/-- The queue a flue serves next, by the weighted round robin in queue-number order. -/
def State.wqPick (s : State) (f : Nat) : Option (Nat × State) :=
  let qs := s.wqOf f
  let use (s : State) (q burst : Nat) : State :=
    { s with fl := { s.fl with rrLeft := nset q (s.wqLeft q - 1) s.fl.rrLeft, rrLast := nset f q s.fl.rrLast, rrBurst := nset f burst s.fl.rrBurst } }
  let last := ngetD s.fl.rrLast f 8191
  let b := ngetD s.fl.rrBurst f 0
  if b > 0 && qs.contains last && s.wqLeft last > 0 && s.wqEligible last then some (last, use s last (b - 1))
  else
    let elig := qs.filter (fun q => s.wqEligible q)
    let s := if elig.any (fun q => s.wqLeft q > 0) then s
      else { s with fl := { s.fl with rrLeft := qs.foldl (fun m q => nset q (s.g WQ_CTRL_WEIGHT q) m) s.fl.rrLeft } }
    match ((elig.filter (· > last)) ++ (elig.filter (· ≤ last))).find? (fun q => s.wqLeft q > 0) with
    | some q => some (q, use s q (s.wqBurst q - 1))
    | none => none

/-- The queue whose entry a flue was put with in progress (R287): the one whose entry's descriptor FLU_DESC names, or else one with a list. -/
def State.wqHeld (s : State) (f : Nat) : Option (Nat × State) :=
  if !(s.flu f).mid then none
  else
    let qs := (s.wqOf f).filter (fun q => s.wqEligible q)
    ((qs.find? (fun q => s.wqUnit q (s.g WQ_IDX_HEAD q + 1) == s.g FLU_DESC_DESC f)).orElse (fun _ => qs.head?)).map (·, s)

/-- The bytes of a unit in hand: held inline, or fetched ahead. -/
def State.wqBytes (s : State) (q n : Nat) : Option (List Byte) := (nget? n (s.wq q).inl).orElse (fun _ => nget? n (s.wq q).ahead)

/-- The parts of a unit: in hand, or read from the ring. -/
def State.unitParts (s : State) (q n : Nat) : List Part :=
  match s.wqBytes q n with
  | some bs => [{ sp := none, addr := 0, len := 0, data := bs, fin := true }]
  | none => readParts (s.wqUnit q n) 32

/-- Units of a queue read by its flue: each that is not in hand is checked first. -/
def State.wqRead (s : State) (f q : Nat) (ns : List Nat) : State × Bool :=
  let c := (ns.filter (fun n => (s.wqBytes q n).isNone)).foldl (fun r n => if !r.2 then r else r.1.fluCheck f (s.wqUnit q n) 32 0) (s, true)
  if !c.2 then (c.1, false)
  else
    let r := c.1.fluIssue f { parts := ns.flatMap (fun n => s.unitParts q n) }
    ((r.1.fluMod f (fun x => { x with stage := .fetch, job := r.2.1 })).fluHold f r.2.2, true)

/-- An entry that ends before it starts: its head stays (R256). The TAG of a header that could not be read is a free value (log 1). -/
def State.wqBad (s : State) (f : Nat) (w : WqEntry) (st : Nat) (refused : Bool) : State :=
  let s := if refused then s.wqFault w.queue WQ_ERR_ENTRY_BAD NC ST_ACCESS_DENIED else s
  let v := if w.read then (BitVec.ofNat 64 w.tag, s) else s.fresh
  (v.2.fluMod f (fun x => { x with entry := some { w with bad := true, tag := v.1.toNat % 2 ^ 16 }, stage := .none, job := {} })).fluConclude f { status := st }

/-- The entry that ends beyond TAIL waits for a later doorbell, and its visit counts for nothing. -/
def State.wqShort (s : State) (f : Nat) (w : WqEntry) : State :=
  let s := s.wqMod w.queue (fun x => { x with short := some (s.g WQ_IDX_TAIL w.queue) })
  let s := { s with fl := { s.fl with rrLeft := nset w.queue (s.wqLeft w.queue + 1) s.fl.rrLeft } }
  let s := s.fluMod f (fun x => { x with entry := none, stage := .none, job := {} })
  if (s.wqOf f).any (fun q => s.wqEligible q) then s else s.fluRest f .idle

/-- The RUN descriptor that a CALL entry is. -/
def WqEntry.call (w : WqEntry) (unit1 : Nat) : FluDesc :=
  { w0 := 7 + w.tag * 2 ^ 32, next := 0, src := unit1, dst := 0, len := 32 * (w.len - 1), o0 := w.routine, o1 := w.arg }

/-- The reading of an entry has failed: before its start it ends with its head in place; a started one that was resumed concludes, and its head passes
it (R258). -/
def State.wqFailed (s : State) (f : Nat) (w : WqEntry) (st : Nat) : State :=
  if w.started then (s.fluMod f (fun x => { x with stage := .none, job := {} })).fluConclude f { status := st, did := (s.flu f).did }
  else s.wqBad f w st false

/-- An entry that has passed its checks starts, or goes on; with its FENCE what it reads has met every earlier write. -/
def State.wqStart (s : State) (f : Nat) (w : WqEntry) (bs : List Byte) : State :=
  let first := s.wqUnit w.queue w.unit
  let second := s.wqUnit w.queue (w.unit + 1)
  let s := s.fluMod f (fun x => { x with entry := some { w with started := true }, stage := .none, job := {},
                                         wrote := if w.fence && !w.started then [] else x.wrote })
  match w.kind with
  | 1 =>
    let d := descOf bs
    (s.p FLU_DESC_DESC second f).fluBegin f { d with elems := inlineElems (if d.listed && d.ext != 0 then d.elements else 0) (bs.drop 64) }
  | 2 => (if (s.flu f).mid then s else s.p FLU_DESC_DESC w.addr f).fluFetch f
  | _ => (s.p FLU_DESC_DESC first f).fluBegin f (w.call second)

/-- The embedded descriptor of a DESC entry: its length, R231, and its inline elements (R233). -/
def State.wqDescOk (s : State) (f : Nat) (w : WqEntry) (bs : List Byte) : Bool :=
  let d := descOf bs
  w.len == 3 + 2 * d.ext && descOk (s.fluPriv f) false true d &&
  (d.ext == 0 || (inlineElems d.elements (bs.drop 64)).all (fun e => elemOk (s.fluPriv f) e.2))

/-- The units after a header have been read. -/
def State.wqUnits (s : State) (f : Nat) (w : WqEntry) (bs : List Byte) : State :=
  if s.wqDescOk f w bs then s.wqStart f w bs
  else if w.started then (s.fluMod f (fun x => { x with stage := .none, job := {} })).descBad f
  else s.wqBad f w ST_ACCESS_DENIED true

/-- The header has been read: its checks, the wait for TAIL, and the units after it. -/
def State.wqHead (s : State) (f : Nat) (w : WqEntry) (bs : List Byte) : State :=
  let h := wqHeader bs
  let w := { w with len := h.len, kind := h.kind, evt := h.evt, tag := h.tag, routine := h.routine, arg := h.arg, addr := h.addr, read := true, fence := h.fence }
  if !h.ok then s.wqBad f w ST_ACCESS_DENIED true
  else if (s.g WQ_IDX_TAIL w.queue + 2 ^ 32 - w.unit) % 2 ^ 32 < w.len then s.wqShort f w
  else if w.kind = 1 then
    let s := s.fluMod f (fun x => { x with entry := some w, job := {} })
    let r := s.wqRead f w.queue ((List.range (w.len - 1)).map (fun k => (w.unit + 1 + k) % 2 ^ 32))
    if !r.2 then r.1.wqBad f w ST_ACCESS_DENIED false
    else
      let x := r.1.flu f
      if x.job.over && x.job.status = ST_OK then r.1.wqUnits f w x.job.bytes else r.1
  else s.wqStart f w []

/-- Bytes of the entry in hand: the header while its length is not known, then the units after it. -/
def State.wqTaken (s : State) (f : Nat) (w : WqEntry) : State :=
  let r := s.jobTake (s.flu f).job
  let i := r.1.fluIssue f r.2
  let s := (i.1.fluMod f (fun x => { x with job := i.2.1 })).fluHold f i.2.2
  if !i.2.1.over then s
  else if i.2.1.status ≠ ST_OK then s.wqFailed f w i.2.1.status
  else
    let v := s.raced f i.2.1
    if w.read then v.1.wqUnits f w v.2.bytes else v.1.wqHead f w v.2.bytes

/-- The units of an entry read by its flue, and what can go on at once. -/
def State.wqFetch (s : State) (f : Nat) (w : WqEntry) (ns : List Nat) : State :=
  let r := s.wqRead f w.queue ns
  if !r.2 then r.1.wqFailed f w ST_ACCESS_DENIED
  else if (r.1.flu f).job.over then r.1.wqTaken f w else r.1

/-! ## Fetching ahead (R264) -/

/-- The next unit to fetch ahead, walking `k` more entries from unit `n`: the first one not in hand, below TAIL, of an entry whose header passes. -/
def State.aheadUnit (s : State) (q : Nat) : Nat → Nat → Option Nat
  | 0, _ => none
  | k + 1, n =>
    let room := (s.g WQ_IDX_TAIL q + 2 ^ 32 - n) % 2 ^ 32
    if room = 0 then none
    else match s.wqBytes q n with
      | none => some n
      | some bs =>
        let h := wqHeader bs
        if !h.ok || h.len > room then none
        else match ((List.range h.len).map (fun j => (n + j) % 2 ^ 32)).find? (fun m => (s.wqBytes q m).isNone) with
          | some m => some m
          | none => s.aheadUnit q k ((n + h.len) % 2 ^ 32)

/-- The read ahead of a queue goes as far as it can: what has come is kept, one that failed is left for the entry's turn, and the next unit of the
visit is read where the flue's gate passes it. -/
def State.wqAhead (s : State) (f : Nat) (w : WqEntry) : State :=
  let q := w.queue
  match (s.wq q).aheadJob with
  | some (n, j) =>
    let r := s.jobTake j
    let i := r.1.fluIssue f r.2
    if !i.2.1.over then i.1.wqMod q (fun x => { x with aheadJob := some (n, i.2.1) })
    else
      let v := i.1.raced f i.2.1
      v.1.wqMod q (fun x => { x with aheadJob := none, ahead := if i.2.1.status = ST_OK then nset n v.2.bytes x.ahead else x.ahead })
  | none =>
    match s.aheadUnit q (ngetD s.fl.rrBurst f 0) ((w.unit + w.len) % 2 ^ 32) with
    | none => s
    | some n =>
      let a := s.wqUnit q n
      if s.g WQ_STATUS_STATE q ≠ 1 || !(awOk (s.fluPriv f) a 32) || (s.gateCheck (s.fluGate f) (awAcc a 32 0 (s.fluPriv f) (s.fluInst f))).isSome then s
      else
        let r := s.fluIssue f (jobRead a 32)
        r.1.wqMod q (fun x => { x with aheadJob := some (n, r.2.1) })

/-- WQ_ENTRY_START: the running flue takes an entry of the queue it serves next. Its header and units are read from the inline store, from what was
fetched ahead, or from the ring, and it starts once they have been checked; a started one that was stopped goes on from its registers (R242). While an
entry runs, the next ones of its visit are fetched ahead (R264). -/
def execWqEntryStart (f : FlueId) (s : State) : Out :=
  whenUp s fun s =>
    let x := s.flu f
    if s.g FLU_CFG_MODE f ≠ 2 || x.run ≠ .running then s
    else match x.stage, x.entry with
      | .none, none =>
        match (s.wqHeld f).orElse (fun _ => s.wqPick f) with
        | none => s.fluRest f .idle
        | some (q, s) =>
          let w : WqEntry := { queue := q, unit := s.g WQ_IDX_HEAD q, len := 0, kind := 0, tag := 0, evt := false }
          (s.fluMod f (fun x => { x with entry := some w })).wqFetch f w [w.unit]
      | .none, some w =>
        if !w.started || w.kind = 2 then s
        else if w.kind = 3 then s.wqStart f w []
        else s.wqFetch f w ((List.range (w.len - 1)).map (fun k => (w.unit + 1 + k) % 2 ^ 32))
      | .fetch, some w => if w.started && w.kind = 2 then s.wqAhead f w else s.wqTaken f w
      | _, some w => if w.started then s.wqAhead f w else s
      | _, _ => s

/-! ## The published head (R265) -/

/-- HEAD_WRITE_CONCLUDE: the write of a head takes its answer; a later value that waits is written then. -/
def execHeadWriteConclude (q : QueueId) (s : State) : Out :=
  whenUp s fun s =>
    match (s.wq q).job with
    | none => s
    | some (v, j) =>
      let r := s.jobTake j
      let s := r.1.wqPublishGo q v r.2
      if (s.wq q).job.isNone && (s.wq q).want then s.wqPublish q else s

end Sys2Proof.Machine
end

