-- ==== Sys2Proof/Machine/FlueRegs.lean ====
section
/-! DEFINITION. Writes of the registers of flues, completion queues, request lines and work queues that are no commands of their own
(Tables 11-9 to 11-15, 12-5 to 12-8), and whole register words. -/

namespace Sys2Proof.Machine

/-! ## Whole register words -/

/-- The word of a register copy. -/
def State.word (s : State) (r : RegName) (i : Nat := 0) (j : Nat := 0) : Nat := r.fields.foldl (fun n f => n + s.g f i j * 2 ^ f.lsb) 0

/-- Every field of a register copy set from a word. -/
def State.setWord (s : State) (r : RegName) (v : Nat) (i : Nat := 0) (j : Nat := 0) : State :=
  r.fields.foldl (fun s f => s.p f (bits v f.lsb f.width) i j) s

/-- The fields given written where the write carries them. -/
def State.putAll (s : State) (w : RegW) (fs : List Fld) (i : Nat := 0) (j : Nat := 0) : State := fs.foldl (fun s f => s.putW w f i j) s

/-- Whether a write would change a field. -/
def State.changes (s : State) (w : RegW) (f : Fld) (i : Nat := 0) (j : Nat := 0) : Bool := s.after w f i j != s.g f i j

/-! ## Flues -/

/-- FLU_CFG (Table 11-11, R240, R245, R249). -/
def fluCfgOp (f : Nat) (w : RegW) (s : State) : State × Nat :=
  let trig := s.after w FLU_CFG_TRIG_LINE f == 1
  let n := s.after w FLU_CFG_LINE f
  if !((s.flu f).run == .idle || (s.flu f).run == .stopped) || (w.has FLU_CFG_MODE && w.val FLU_CFG_MODE ≥ 2) ||
     s.after w FLU_CFG_PRIO f > s.g FLU_ASSIGN_PRIO_MAX f || s.g CQ_CFG_INST (s.after w FLU_CFG_CQ f) ≠ s.g FLU_ASSIGN_INST f ||
     (trig && s.on RQL_CFG_BOUND n && s.g RQL_CFG_BOUND_FLUE n ≠ f) then (s, ST_ACCESS_DENIED)
  else
    let s := match s.fluLine f with
      | some k => (s.p RQL_CFG_BOUND 0 k).p RQL_CFG_BOUND_FLUE 0 k
      | none => s
    let s := s.putAll w [FLU_CFG_MODE, FLU_CFG_STOP_MODE, FLU_CFG_PRIO, FLU_CFG_TRIG_LINE, FLU_CFG_LINE, FLU_CFG_CQ, FLU_CFG_CQ_EN] f
    (if trig then (s.p RQL_CFG_BOUND 1 n).p RQL_CFG_BOUND_FLUE f n else s, ST_OK)

/-- FLU_RING_BASE (R251): only while IDLE, and HEAD becomes 0. -/
def fluRingBaseOp (f : Nat) (w : RegW) (s : State) : State × Nat :=
  let l := s.after w FLU_RING_BASE_RING_LOG2 f
  if (s.flu f).run ≠ .idle || l < 2 || l > 16 || s.after w FLU_RING_BASE_BASE f % 64 ≠ 0 then (s, ST_ACCESS_DENIED)
  else ((s.putAll w [FLU_RING_BASE_BASE, FLU_RING_BASE_RING_LOG2] f).p FLU_RING_IDX_HEAD 0 f, ST_OK)

/-- FLU_DESC, FLU_SRC, FLU_DST, FLU_LEFT, FLU_ACC and FLU_RING_IDX (R253): by P0 and P1 masters while STOPPED. A descriptor is in progress where
bytes or elements are left. -/
def fluProgressOp (m : Master) (f : Nat) (r : RegName) (w : RegW) (s : State) : State × Nat :=
  if s.mPriv m ≥ 2 || (s.flu f).run ≠ .stopped then (s, ST_ACCESS_DENIED)
  else
    let s := s.putAll w r.fields f
    (match r with
     | .FLU_LEFT => s.fluMod f (fun x => { x with mid := s.g FLU_LEFT_LEFT f != 0 || s.g FLU_LEFT_ELEM f != 0, did := 0 })
     | .FLU_DESC => s.fluMod f (fun x => { x with desc := none })
     | _ => s, ST_OK)

/-! ## Completion queues (Table 11-15) -/

/-- CQ_BASE: only while EN is 0. -/
def cqBaseOp (q : Nat) (w : RegW) (s : State) : State × Nat :=
  if s.on CQ_CFG_EN q || s.after w CQ_BASE_BASE q % 64 ≠ 0 then (s, ST_ACCESS_DENIED) else (s.putW w CQ_BASE_BASE q, ST_OK)

/-- CQ_CFG: LOG2 only while EN is 0; INST and EVT_TID by P0, P1 and the bridge; EN written 1 zeroes both indices. -/
def cqCfgOp (m : Master) (q : Nat) (w : RegW) (s : State) : State × Nat :=
  let l := s.after w CQ_CFG_LOG2 q
  if l < 4 || l > 20 || (s.on CQ_CFG_EN q && s.changes w CQ_CFG_LOG2 q) ||
     (s.mPriv m ≥ 2 && (s.changes w CQ_CFG_INST q || s.changes w CQ_CFG_EVT_TID q)) then (s, ST_ACCESS_DENIED)
  else
    let s := s.putAll w [CQ_CFG_EN, CQ_CFG_LOG2, CQ_CFG_INST, CQ_CFG_EVT_EN, CQ_CFG_EVT_TID, CQ_CFG_MSIX_EN, CQ_CFG_MSIX_VEC] q
    (if w.has CQ_CFG_EN && w.val CQ_CFG_EN = 1 then (s.p CQ_IDX_TAIL 0 q).p CQ_IDX_HEAD 0 q else s, ST_OK)

/-! ## Request lines (Table 11-14) -/

/-- RQL_CFG of a flue block below 1,024: EN written 0 clears PEND, and SET asserts an internal line. -/
def rqlCfgOp (n : Nat) (w : RegW) (s : State) : State × Nat :=
  let set := w.has RQL_CFG_SET && w.val RQL_CFG_SET == 1
  if n ≥ 1024 || s.after w RQL_CFG_BURST n = 0 || (set && n < 16) then (s, ST_ACCESS_DENIED)
  else
    let s := s.putAll w [RQL_CFG_EN, RQL_CFG_SENSE, RQL_CFG_BURST_MODE, RQL_CFG_BURST] n
    let s := if w.has RQL_CFG_EN && w.val RQL_CFG_EN = 0 then s.p RQL_CFG_PEND 0 n else s
    if set then rqlSetOp n s else (s.lineArrive n, ST_OK)

/-! ## Work queues (Tables 12-7, 12-8) -/

/-- A queue is DISABLED. -/
def State.wqOff (s : State) (q : Nat) : Bool := s.g WQ_STATUS_STATE q == 0

/-- WQ_RING: only while DISABLED (R267); 4 to 20, aligned to the ring's size. -/
def wqRingOp (q : Nat) (w : RegW) (s : State) : State × Nat :=
  let l := s.after w WQ_RING_RING_LOG2 q
  if !(s.wqOff q) || l < 4 || l > 20 || s.after w WQ_RING_BASE q % (32 * 2 ^ l) ≠ 0 then (s, ST_ACCESS_DENIED)
  else (s.putAll w [WQ_RING_BASE, WQ_RING_RING_LOG2] q, ST_OK)

/-- WQ_HEAD_ADDR: only while DISABLED, and 8 B aligned. -/
def wqHeadAddrOp (q : Nat) (w : RegW) (s : State) : State × Nat :=
  if !(s.wqOff q) || s.after w WQ_HEAD_ADDR_ADDR q % 8 ≠ 0 then (s, ST_ACCESS_DENIED) else (s.putW w WQ_HEAD_ADDR_ADDR q, ST_OK)

/-- WQ_IDX.HEAD: only while DISABLED; what is published follows it again. -/
def wqIdxOp (q : Nat) (w : RegW) (s : State) : State × Nat :=
  if !(s.wqOff q) then (s, ST_ACCESS_DENIED) else ((s.putW w WQ_IDX_HEAD q).wqMod q (fun x => { x with held := none }), ST_OK)

/-- WQ_CTRL: its fields, then ENABLE or DISABLE; both at once are refused (R432). -/
def wqCtrlOp (q : Nat) (w : RegW) (s : State) : State × Nat :=
  let on := w.has WQ_CTRL_ENABLE && w.val WQ_CTRL_ENABLE == 1
  let off := w.has WQ_CTRL_DISABLE && w.val WQ_CTRL_DISABLE == 1
  if on && off then (s.p WQ_STATUS_CMD_STATUS ST_ACCESS_DENIED q, ST_ACCESS_DENIED)
  else if s.after w WQ_CTRL_DRAIN_TMO_US q = 0 || s.after w WQ_CTRL_WEIGHT q = 0 then (s, ST_ACCESS_DENIED)
  else
    let t := s.putAll w [WQ_CTRL_DRAIN_TMO_US, WQ_CTRL_WEIGHT, WQ_CTRL_BURST] q
    let op (s : State) := if on then wqEnableOp q s else wqDisableOp q s
    let r := if (op t).2 = ST_OK then op t else op s
    if on || off then (r.1.p WQ_STATUS_CMD_STATUS r.2 q, r.2) else (t, ST_OK)

end Sys2Proof.Machine
end

