-- ==== Sys2Proof/Machine/ThreadGates.lean ====
section
/-! DEFINITION. The commands of thread gates (R296, R297). -/

namespace Sys2Proof.Machine

/-- Whether a written word has a bit that no field of its register names. -/
def RegW.reserved (w : RegW) (r : RegName) : Bool := r.fields.foldl (fun n f => n + bits w.v f.lsb f.width * 2 ^ f.lsb) 0 != w.v % 2 ^ 64

/-- The word of a region's HI register that a LO write is judged with: the one held, or the one in force. -/
def State.heldHi (s : State) (t k : Nat) : Nat :=
  match (s.th t).gateHi.find? (fun e => e.1 == k) with
  | some e => e.2
  | none => s.word .TG_HI t k

/-- A region's HI word is no longer held. -/
def State.dropHi (s : State) (t k : Nat) : State := s.thMod t (fun x => { x with gateHi := x.gateHi.filter (fun e => e.1 != k) })

/-- A write to a region of the active set is accepted only while the thread is HALTED. -/
def State.gateOpen (s : State) (t k : Nat) : Bool := s.halted t || k / 16 != s.tgActive t

/-- A write of TG_HI, held until the region's LO write. A half that the write does not carry keeps its value. -/
def tgHiOp (t k : Nat) (w : RegW) (s : State) : State × Nat :=
  if !(s.gateOpen t k) then (s, ST_ACCESS_DENIED)
  else
    let old := s.heldHi t k
    let v := (if w.hi then bits w.v 32 32 else bits old 32 32) * 2 ^ 32 + (if w.lo then w.v % 2 ^ 32 else old % 2 ^ 32)
    ((s.dropHi t k).thMod t (fun x => { x with gateHi := (k, v) :: x.gateHi }), ST_OK)

/-- A write of TG_LO: the pair is judged, and changes as one; a refused write discards the word held (R295, R296). SPACE 3 is a thread gate's
(Table 14-7). -/
def tgLoOp (t k : Nat) (w : RegW) (s : State) : State × Nat :=
  if !(s.gateOpen t k) then (s, ST_ACCESS_DENIED)
  else
    let hi := s.heldHi t k
    let g (f : Fld) : Nat := s.after w (tgFld f) t k
    let h (f : Fld) : Nat := bits hi f.lsb f.width
    if w.reserved .TG_LO || (g PG_LO_SPACE ≠ 2 && g PG_LO_HEARTH ≠ 0) || (RegW.mk hi true true).reserved .TG_HI ||
       (g PG_LO_VALID = 1 && h PG_HI_LIMIT < g PG_LO_BASE) then (s.dropHi t k, ST_ACCESS_DENIED)
    else ((s.putAll w (RegName.TG_LO).fields t k).setWord .TG_HI hi t k |>.dropHi t k, ST_OK)

/-- TG_CTRL.SWAP: only while the thread is HALTED. -/
def gateSwapOp (t : Nat) (s : State) : State × Nat :=
  if s.halted t then (s.p TG_CTRL_ACTIVE (1 - s.tgActive t) t, ST_OK) else (s, ST_ACCESS_DENIED)

/-- A command of a register copy (i, j) that answers a status. -/
def commandAt (m : Master) (r : RegName) (i j : Nat) (op : State → State × Nat) (s : State) : Out :=
  whenUp s fun s => s.cmdBy m r i (fun s => let q := op s; q.1.reply m q.2) j

/-- THREAD_GATE_LO_WRITE. -/
def execThreadGateLoWrite (m : Master) (t : ThrId) (set : Fin 2) (r : Fin 16) (v : Word) (s : State) : Out :=
  commandAt m .TG_LO t (16 * set + r) (tgLoOp t (16 * set + r) { v := v.toNat }) s

/-- THREAD_GATE_HI_WRITE. -/
def execThreadGateHiWrite (m : Master) (t : ThrId) (set : Fin 2) (r : Fin 16) (v : Word) (s : State) : Out :=
  commandAt m .TG_HI t (16 * set + r) (tgHiOp t (16 * set + r) { v := v.toNat }) s

/-- GATE_SWAP. -/
def execGateSwap (m : Master) (t : ThrId) (s : State) : Out := command m .TG_CTRL t (gateSwapOp t) s

end Sys2Proof.Machine
end

