-- ==== Sys2Proof/Machine/Instances.lean ====
section
/-! DEFINITION. Tenant instances: their commands, reset, freeze, save and restore (R268 to R273, R279 to R287). -/

namespace Sys2Proof.Machine

/-! ## An instance behind its registers -/

/-- An instance. -/
def State.ix (s : State) (i : Nat) : InstX := ngetD s.inst i {}
def State.ixMod (s : State) (i : Nat) (f : InstX → InstX) : State := { s with inst := nput {} i (f (s.ix i)) s.inst }

/-- The instance ID of a local instance. -/
def State.instId (s : State) (i : Nat) : Nat := s.dev * 4096 + i

/-- The flues of an instance, and its counter sets. -/
def State.instFlues (s : State) (i : Nat) : List Nat := (List.range 2048).filter (fun f => s.on FLU_ASSIGN_VALID f && s.g FLU_ASSIGN_INST f == i)
def State.instSets (s : State) (i : Nat) : List Nat := (List.range 256).filter (fun c => s.on CSET_CFG_VALID c && s.g CSET_CFG_INST c == i)

/-- A fault of an instance under a bit of INST_ERR. -/
def State.instFault (s : State) (i : Nat) (b : Fld) (cls status : Nat) (causes : List (Nat × Nat)) (keys : List (Nat × Nat) := []) : State :=
  (s.setF b i).report { source := src 0x0C b.lsb, cls := cls, scope := scope 1 i, status := status, inst := some (s.instId i), dev := s.dev, causes := causes, keys := keys }

/-- A command ends: its status and tag are stored (R269). -/
def State.instEnd (s : State) (i st : Nat) : State :=
  let tag := (s.ix i).tag
  (((s.p INST_STATUS_STATUS st i).p INST_STATUS_TAG tag i).p INST_STATUS_BUSY 0 i).ixMod i (fun x => { x with op := 0, master := none, job := {}, image := [], length := 0, done := true })

/-! ## The mailbox's answers (R276, R278) -/

/-- The vector of an answer. -/
def State.respVec (s : State) (i : Nat) : State :=
  if s.on MBX_HCFG_RESP_MSIX_EN i then s.send (.msix i (s.g MBX_HCFG_RESP_VEC i)) else s

/-- An answer of 64 bytes stored: LAST_TAG, BUSY and RESP_VALID follow, and its vector is sent. -/
def State.storeAnswer (s : State) (i tag : Nat) (bs : List Byte) : State :=
  let s := s.wr (spMbx i) 0x1C0 bs
  let s := ((s.p MBX_STATUS_LAST_TAG tag i).p MBX_STATUS_BUSY 0 i).setF MBX_STATUS_RESP_VALID i
  (s.ixMod i (fun x => { x with answered := true, land := [], left := none })).respVec i

/-- An answer that the device itself writes: a header of zeros, TAG and STATUS. -/
def deviceAnswer (tag st : Nat) : List Byte := leBytes 8 0 ++ leBytes 8 (tag + st * 2 ^ 16) ++ List.replicate 48 0

/-! ## CREATE, DESTROY and the instance reset (Table 13-7) -/

/-- The pools of R271, with the quota each holds: threads, flues outside the placement range, queues, counter sets, overflow cells. -/
def State.pools (s : State) : List (Fld × Nat) :=
  [(INST_POOL_THREAD_QUOTA, 1920), (INST_POOL_FLUE_QUOTA, 2048 - min (s.g PLC_CFG_FLUE_COUNT) (2048 - s.g PLC_CFG_FLUE_FIRST)), (INST_POOL_WQ_QUOTA, 8192),
   (INST_POOL_CSET_QUOTA, 256), (INST_OVF_OVF_QUOTA, 67108864)]

/-- Whether every pool holds the quotas of the instances that are not FREE together with those given for instance `i`. -/
def State.poolsHold (s : State) (i : Nat) (quota : Fld → Nat) : Bool :=
  s.pools.all (fun p => decide ((List.range 4096).foldl (fun n k => if k = i || s.instState k = 0 then n else n + s.g p.1 k) (quota p.1) ≤ p.2))

/-- CREATE. -/
def createOp (i : Nat) (s : State) : State × Nat :=
  if s.instState i ≠ 0 then (s, ST_ACCESS_DENIED)
  else if !(s.poolsHold i (fun f => s.g f i)) then (s, ST_RESOURCE_EXHAUSTED)
  else ((s.ixMod i (fun x => { x with answered := false, flues := [], queues := [], threads := [] })).p INST_STATUS_STATE 1 i, ST_OK)

/-- A queue in an instance reset: its started entry is aborted, and its head passes it, so that it never runs again, but not the published head, since its
record is lost (R265, R267); the queue is DISABLED, with ERR_STOP where its flue is contained. -/
def State.wqReset (s : State) (q : Nat) (err : Bool) : State :=
  if s.g WQ_STATUS_STATE q = 0 then s
  else
    let s := match s.wqEntry q with
      | some w =>
        if w.started then
          let s := s.fluAbort (s.g WQ_CFG_FLUE q)
          if w.bad || (s.wqEntry q).isNone then s else s.wqPass w true
        else s
      | none => s
    if s.g WQ_STATUS_STATE q = 0 then s else s.wqDisabled q err

/-- Steps 1 to 5 of the instance reset, which ends in a state. -/
def State.instReset (s : State) (i ending : Nat) : State :=
  let id := s.instId i
  let s := (s.p INST_STATUS_STATE 5 i).ixMod i (fun x => { x with ending := ending, flues := [], queues := [], threads := [], left := none })
  let s := s.p INST_STATUS_PUT_PENDING 0 i
  let s := s.concludeAll ((s.sw.txns.filter (fun e => e.2.place == .penalty && e.2.inst == id)).map (·.1)) ST_ACCESS_DENIED
  let s := (s.instQueues i).foldl (fun s q => s.wqReset q false) s
  let s := (s.instFlues i).foldl (fun s f => s.fluReset f) s
  let s := (s.instThreads id).foldl (fun s t => (clearOp t (s.thMod t (fun x => { x with frozen := false }))).1) s
  let s := if s.on MBX_STATUS_BUSY i then s.storeAnswer i (s.ix i).cmdTag (deviceAnswer (s.ix i).cmdTag ST_RETRY) else s
  (s.p MBX_NOTE_IDX_PROD 0 i).p MBX_NOTE_IDX_CONS 0 i

/-- Step 7: the meters' buckets are full, penalty depth 0, latency marks and virtual counters clear. -/
def State.instClear (s : State) (i : Nat) : State :=
  let s := (List.range 4).foldl (fun s k => { s with sw := { s.sw with buckets := nerase (4 * i + k) s.sw.buckets } }) s
  let s := (s.penRefresh (s.instId i)).clrReg .INST_LAT i
  (s.instSets i).foldl (fun s c => (List.range 8).foldl (fun s j =>
    if s.on CSET_MAP_USED c j then
      let b := s.g CSET_MAP_BANK c j
      let k := s.g CSET_MAP_COUNTER c j
      (s.p CNT_VAL_VALUE 0 b k).p CNT_VAL_OVF 0 b k
    else s) s) s

/-- Whether an instance reset may end: no request that carries the instance is in flight, and its threads have been cleared (step 6). -/
def State.instQuiet (s : State) (i : Nat) : Bool :=
  let id := s.instId i
  !(s.sw.txns.any (fun e => e.2.inst == id && e.2.parent.isNone)) && s.instThreads id == []

/-- Containment of an instance ends: its scope is no longer contained, nor a cause. -/
def State.instFree (s : State) (i : Nat) : State :=
  ({ s with fu := { s.fu with contained := s.fu.contained.filter (· != scope 1 i) } }).ixMod i (fun x => { x with contain := false })

/-- INST_RESET_COMPLETE: steps 6 to 8, and the end of the RESET or DESTROY that asked for it; a SAVE that was under way goes on to its own end. -/
def execInstResetComplete (i : InstId) (s : State) : Out :=
  whenUp s fun s =>
    if s.instState i ≠ 5 || !(s.instQuiet i) then s
    else
      let x := s.ix i
      let s := s.instClear i
      let s := if x.ending = 0 then (s.instFree i).p INST_STATUS_STATE 0 i else s.p INST_STATUS_STATE (if x.contain then 4 else x.ending) i
      if x.op = 0x02 || x.op = 0x20 then s.instEnd i ST_OK else s

/-- L2 containment of an instance (R281, Table 13-9): the instance reset, which leaves it CONTAINED; a freeze under way ends first. -/
def State.instContain (s : State) (i : Nat) : State :=
  if s.instState i = 0 || (s.ix i).contain then s
  else
    let s := (s.instFault i INST_ERR_CONTAINED_ENTRY NC 0 []).ixMod i (fun x => { x with contain := true })
    match s.instState i with
    | 2 | 5 => s
    | _ => s.instReset i 4

/-- Whether DESTROY must be refused: something is still assigned to the instance (R272). -/
def State.instInUse (s : State) (i : Nat) : Bool :=
  s.instFlues i != [] || s.instQueues i != [] || s.instThreads (s.instId i) != [] || s.instSets i != [] || s.on IW_BASE_VALID i ||
  (List.range 8192).any (fun k => s.g VPPB_ENTRY_KIND (k / 64) (k % 64) == 1 && s.g VPPB_ENTRY_INST (k / 64) (k % 64) == i)

/-! ## Freezing (R283 to R285) -/

/-- FREEZE: the flues pause and the threads stop; FREEZE_COMPLETE ends it. -/
def State.freezeBegin (s : State) (i : Nat) : State :=
  let s := s.p INST_STATUS_STATE 2 i
  let s := if s.on MBX_STATUS_BUSY i then s.ixMod i (fun x => { x with left := some (x.due - s.now) }) else s
  let s := (s.instFlues i).foldl (fun s f =>
    if (s.flu f).run = .idle || (s.flu f).run = .stopped then s else (s.fluMod f (fun x => { x with frozen := true })).fluStop f .pause) s
  (s.instThreads (s.instId i)).foldl (fun s t => if s.halted t then s else (stopOp t (s.thMod t (fun x => { x with frozen := true }))).1) s

/-- Whether the pauses and stops of a freeze have concluded. -/
def State.freezeOver (s : State) (i : Nat) : Bool :=
  (s.instFlues i).all (fun f => (s.flu f).run == .idle || (s.flu f).run == .stopped) &&
  (s.instThreads (s.instId i)).all (fun t => s.halted t && (s.th t).stores == [])

/-- FREEZE_COMPLETE. An L2 containment that came during the freeze resets the frozen instance (Table 13-9). -/
def execFreezeComplete (i : InstId) (s : State) : Out :=
  whenUp s fun s =>
    if s.instState i ≠ 2 || !(s.freezeOver i) then s
    else
      let s := (s.p INST_STATUS_STATE 3 i).instEnd i ST_OK
      if (s.ix i).contain then s.instReset i 4 else s

/-- THAW: paused flues and stopped threads go on, the mailbox timer runs on, and queues with entries wake their flues. -/
def State.thaw (s : State) (i : Nat) : State :=
  let s := (s.p INST_STATUS_STATE 1 i).ixMod i (fun x => { x with flues := [], queues := [], threads := [],
                                                                  due := match x.left with | some l => s.now + l | none => x.due, left := none })
  let s := (s.instFlues i).foldl (fun s f =>
    if (s.flu f).frozen then
      let s := s.fluMod f (fun x => { x with frozen := false })
      if (s.flu f).run = .stopped then s.fluResume f else s
    else s) s
  let s := (s.instThreads (s.instId i)).foldl (fun s t => if (s.th t).frozen then (startOp t (s.thMod t (fun x => { x with frozen := false }))).1 else s) s
  (s.instQueues i).foldl (fun s q => s.wqWake q) s

/-! ## The image (Table 13-8) -/

/-- The words of the configuration section: registers and copies. -/
def configWords (i : Nat) : List (RegName × Nat) :=
  [(.INST_POOL, i), (.INST_OVF, i), (.INST_DC_CFG, i)] ++ (List.range 4).map (fun k => (.MTR_CFG, 4 * i + k)) ++
  (List.range 4).map (fun k => (.MTR_RATE, 4 * i + k)) ++ (List.range 4).map (fun k => (.MTR_BURST, 4 * i + k)) ++ [(.INST_MS, i), (.PLC_INST, i)]

/-- Bytes padded with zeros to a length. -/
def padTo (n : Nat) (bs : List Byte) : List Byte := (bs ++ List.replicate n 0).take n

/-- The configuration section: MBX_TMO_MS and MBX_HCFG last. -/
def State.configImage (s : State) (i : Nat) : List Byte :=
  padTo 1024 ((configWords i).flatMap (fun c => leBytes 8 (s.word c.1 c.2)) ++ leBytes 8 (s.g MBX_CFG_MBX_TMO_MS i) ++ leBytes 8 (s.word .MBX_HCFG i))

/-- The mailbox section: the command area, the landing record, BUSY with whether an answer is stored, LAST_TAG and the remaining µs, the answer,
the note ring, PROD and CONS. -/
def State.mailboxImage (s : State) (i : Nat) : List Byte :=
  let x := s.ix i
  padTo 1024 (s.rd (spMbx i) 0x140 128 ++ padTo 192 x.land ++
    leBytes 8 (s.g MBX_STATUS_BUSY i + b2n x.answered * 2 + s.g MBX_STATUS_LAST_TAG i * 2 ^ 16 + x.left.getD 0 / 1000 * 2 ^ 32) ++
    s.rd (spMbx i) 0x1C0 64 ++ s.rd (spMbx i) 0x200 512 ++ leBytes 8 (s.word .MBX_NOTE_IDX i))

/-- A queue's record: WQ_CFG without FLUE, WQ_RING, WQ_HEAD_ADDR, WQ_CTRL, WQ_IDX, and STATE with ERR_STOP. -/
def State.queueRecord (s : State) (q : Nat) : List Byte :=
  padTo 64 (leBytes 8 (s.word .WQ_CFG q - s.g WQ_CFG_FLUE q * 2 ^ 32) ++ leBytes 8 (s.word .WQ_RING q) ++ leBytes 8 (s.word .WQ_HEAD_ADDR q) ++
    leBytes 8 (s.word .WQ_CTRL q) ++ leBytes 8 (s.word .WQ_IDX q) ++ leBytes 8 (s.g WQ_STATUS_STATE q + s.g WQ_STATUS_ERR_STOP q * 4))

/-- A counter set's record: CSET_CFG, its maps, and the values and selections of its counters, at the offsets of the set's registers and 0xC0. -/
def State.setRecord (s : State) (c : Nat) : List Byte :=
  let ofMap (r : RegName) : List Byte := (List.range 8).flatMap (fun j =>
    leBytes 8 (if s.on CSET_MAP_USED c j then s.word r (s.g CSET_MAP_BANK c j) (s.g CSET_MAP_COUNTER c j) else 0))
  padTo 256 (padTo 16 (leBytes 8 (s.word .CSET_CFG c)) ++ padTo 112 ((List.range 8).flatMap (fun j => leBytes 8 (s.word .CSET_MAP c j))) ++ ofMap .CNT_VAL ++ ofMap .CNT_SEL)

/-- A thread's record. -/
def State.threadRecord (s : State) (t : Nat) : List Byte :=
  let x := s.th t
  padTo 512 ((List.range 31).flatMap (fun r => leBytes 8 (x.gr (r + 1))) ++ leBytes 8 x.pc ++ leBytes 8 x.lstat ++ leBytes 8 x.tctl ++ leBytes 8 x.evtPend ++
    leBytes 8 x.evtMask ++ leBytes 8 (s.sprRead t 0x008 0) ++ leBytes 8 x.serrAddr ++ leBytes 8 (s.sprRead t 0x00A 0) ++ leBytes 8 (b2n x.frozen) ++ leBytes 48 x.codeHash)

/-- The registers of a flue's record, in order. -/
def flueWords : List RegName := [.FLU_CFG, .FLU_DESC, .FLU_SRC, .FLU_DST, .FLU_LEFT, .FLU_ACC, .FLU_RING_BASE, .FLU_RING_IDX]

/-- A flue's record: its registers, FROZE_PAUSED, and the registers of its queue and of its call queue. -/
def State.flueRecord (s : State) (f : Nat) : List Byte :=
  padTo 128 (flueWords.flatMap (fun r => leBytes 8 (s.word r f)) ++ leBytes 8 (b2n (s.flu f).frozen) ++
    [s.g FLU_CFG_CQ f, s.g FLU_ASSIGN_CALL_CQ f].flatMap (fun q => cqRegs.flatMap (fun r => leBytes 8 (s.word r q))))

/-- An image and its flue records, as SAVE writes them. -/
def State.instImage (s : State) (i : Nat) : List Byte × List Byte :=
  let fs := s.instFlues i
  let qs := s.instQueues i
  let cs := s.instSets i
  let ts := s.instThreads (s.instId i)
  let body := s.configImage i ++ s.mailboxImage i ++ qs.flatMap s.queueRecord ++ cs.flatMap s.setRecord ++ ts.flatMap s.threadRecord
  let recs := fs.flatMap s.flueRecord
  let head := leBytes 4 0x53514E49 ++ leBytes 2 1 ++ leBytes 2 (ts.length + fs.length * 2 ^ 7) ++ leBytes 1 qs.length ++ leBytes 1 cs.length ++ leBytes 2 0 ++
    leBytes 4 (256 + body.length) ++ leBytes 2 (s.instId i) ++ leBytes 6 0 ++ leBytes 8 s.now ++ leBytes 4 (s.g CMT_STATUS_GENERATION) ++ List.replicate 44 0 ++
    leBytes 48 (Config.sha384 (body ++ recs))
  (padTo 256 head ++ body, recs)

/-! ## SAVE and RESTORE (R286) -/

/-- The range at an address word, under the gate of the master that issued the command; a refusal is recorded (R229, R230). -/
def State.rangeCheck (s : State) (m : Master) (w len kind : Nat) : State × Bool :=
  if !(awOk (s.mPriv m) w len) then (s, false)
  else match m with
    | .thread t =>
      let a := awAcc w len kind (s.priv t) (s.th t).inst
      match s.gateCheck (.thread t (s.tgActive t)) a with
      | some r => (s.recordRefusal t (some (a, r.1, r.2)), false)
      | none => (s, true)
    | .bridge =>
      let a := awAcc w len kind 1 0
      match s.gateCheck .none a with
      | some r => (s.gateFault .none a r.1 r.2 0xC1 none 0, false)
      | none => (s, true)
    | _ => (s, true)

/-- The instance that a master's fabric requests carry. -/
def State.mInst (s : State) : Master → Nat
  | .thread t => (s.th t).inst
  | _ => 0

/-- A command's job issued for its master as far as it goes. -/
def State.instIssue (s : State) (i : Nat) (m : Master) (j : Job) : State :=
  let r := s.jobIssue (masterCore m) (s.mInst m) j
  r.1.ixMod i (fun x => { x with job := r.2.1 })

/-- SAVE: the image and the flue records are written as one range. -/
def saveOp (m : Master) (i : Nat) (s : State) : State × Option Nat :=
  let im := s.instImage i
  let w := s.g INST_ARG0_ARG0 i
  let c := s.rangeCheck m w (im.1.length + im.2.length) 1
  if s.instState i ≠ 3 then (s, some ST_ACCESS_DENIED)
  else if !c.2 then (c.1, some ST_ACCESS_DENIED)
  else
    let s := c.1.ixMod i (fun x => { x with length := im.1.length + im.2.length * 2 ^ 32 })
    (s.instIssue i m (jobWrite w (im.1 ++ im.2)), none)

/-- RESTORE: the 256 bytes before the sections are read first. -/
def restoreOp (m : Master) (i : Nat) (s : State) : State × Option Nat :=
  let w := s.g INST_ARG0_ARG0 i
  let c := s.rangeCheck m w 256 0
  if s.instState i ≠ 0 then (s, some ST_ACCESS_DENIED)
  else if !c.2 then (c.1, some ST_ACCESS_DENIED)
  else (c.1.instIssue i m (jobRead w 256), none)

/-- The counts of an image. -/
structure ImgCounts where
  threads : Nat
  flues : Nat
  queues : Nat
  sets : Nat
  len : Nat
deriving DecidableEq, Repr

/-- The counts an image names. -/
def countsOf (hd : List Byte) : ImgCounts :=
  let c := fieldOf hd 6 2
  { threads := c % 128, flues := bits c 7 7, queues := fieldOf hd 8 1, sets := fieldOf hd 9 1, len := fieldOf hd 12 4 }

/-- MAGIC, FORMAT, and counts within the limits of a quota; the length that the counts give. -/
def headOk (hd : List Byte) : Bool :=
  let c := countsOf hd
  fieldOf hd 0 4 == 0x53514E49 && fieldOf hd 4 2 == 1 && c.threads ≤ 64 && c.flues ≤ 64 && c.queues ≤ 128 && c.sets ≤ 16 &&
  c.len == 2304 + 64 * c.queues + 256 * c.sets + 512 * c.threads

/-- A quota that an image names. -/
def imageQuota (img : List Byte) (f : Fld) : Nat := if f.reg = .INST_OVF then bits (fieldOf img 264 8) f.lsb f.width else bits (fieldOf img 256 8) f.lsb f.width

/-- The checks of R286 on a whole image: its hash, its counts within its quotas, and those within their ranges (Table 13-12). -/
def restoreOk (img : List Byte) : Bool :=
  let c := countsOf img
  let q := imageQuota img
  Config.sha384 (img.drop 256) == fieldOf img 80 48 && c.threads ≤ q INST_POOL_THREAD_QUOTA && c.flues ≤ q INST_POOL_FLUE_QUOTA &&
  c.queues ≤ q INST_POOL_WQ_QUOTA && c.sets ≤ q INST_POOL_CSET_QUOTA && q INST_POOL_THREAD_QUOTA ≤ 64 && q INST_POOL_FLUE_QUOTA ≤ 64 &&
  q INST_POOL_WQ_QUOTA ≤ 128 && q INST_POOL_CSET_QUOTA ≤ 16 && q INST_OVF_OVF_QUOTA ≤ 67108864

/-- A register's writable fields set from a word. -/
def State.setWritable (s : State) (r : RegName) (v i : Nat) : State :=
  r.fields.foldl (fun s f => if f.acc = .rw || f.acc = .rwe then s.p f (bits v f.lsb f.width) i else s) s

/-- Records of a length cut from bytes. -/
def cutRecords (bs : List Byte) (len n : Nat) : List (List Byte) := (List.range n).map (fun k => (bs.drop (len * k)).take len)

/-- A slot of a counter set bound to a counter that is free: its set's instance, and the saved selection and value (R410, R411). -/
def State.setSlot (s : State) (i c j map val sel : Nat) : State :=
  let b := map % 256
  let k := bits map 8 8
  if !(bit map 16) || k ≥ bankCount b || s.on CNT_SEL_BOUND b k || s.on CNT_SEL_EN b k then s
  else
    let s := (s.setWord .CSET_MAP map c j).setWord .CNT_SEL sel b k
    let s := ((s.p CNT_SEL_BOUND 1 b k).p CNT_SEL_INST_EN 1 b k).p CNT_SEL_INST (s.instId i) b k
    (s.p CNT_VAL_VALUE val b k).p CNT_VAL_OVF (bits val 48 1) b k

/-- A saved counter set takes the lowest set that is not assigned. -/
def State.setRestore (s : State) (i : Nat) (r : List Byte) : State :=
  match (List.range 256).find? (fun c => !(s.on CSET_CFG_VALID c)) with
  | none => s
  | some c =>
    let s := (s.setWord .CSET_CFG (fieldOf r 0 8) c).p CSET_CFG_INST i c
    (List.range 8).foldl (fun s j => s.setSlot i c j (fieldOf r (16 + 8 * j) 8) (fieldOf r (128 + 8 * j) 8) (fieldOf r (192 + 8 * j) 8)) s

/-- The mailbox of an image put in place; the landing record of a command in progress is written again at the target (R286). -/
def State.mailboxRestore (s : State) (i : Nat) (mb : List Byte) : State :=
  let w := fieldOf mb 320 8
  let land := (mb.drop 128).take 192
  let s := ((s.wr (spMbx i) 0x140 (mb.take 128)).wr (spMbx i) 0x1C0 ((mb.drop 328).take 64)).wr (spMbx i) 0x200 ((mb.drop 392).take 512)
  let s := ((s.setWord .MBX_NOTE_IDX (fieldOf mb 904 8) i).p MBX_STATUS_BUSY (w % 2) i).p MBX_STATUS_LAST_TAG (bits w 16 16) i
  let s := s.ixMod i (fun x => { x with answered := bit w 1, cmdTag := fieldOf land 0 2, land := if bit w 0 then land else [],
                                        left := if bit w 0 then some (bits w 32 32 * 1000) else none })
  if bit w 0 then s.wr (spShared (thH (s.g MBX_CFG_SERVER_TID i % 2048))) (s.g MBX_CFG_LAND i * 64) land else s

/-- The instance created FROZEN from an image. -/
def State.restoreFrom (s : State) (i : Nat) (img : List Byte) : State :=
  let c := countsOf img
  let s := (configWords i).zipIdx.foldl (fun s e => s.setWritable e.1.1 (fieldOf img (256 + 8 * e.2) 8) e.1.2) s
  let k := 256 + 8 * (configWords i).length
  let s := (s.p MBX_CFG_MBX_TMO_MS (fieldOf img k 8) i).setWord .MBX_HCFG (fieldOf img (k + 8) 8) i
  let s := s.mailboxRestore i ((img.drop 1280).take 1024)
  let s := (cutRecords (img.drop (2304 + 64 * c.queues)) 256 c.sets).foldl (fun s r => s.setRestore i r) s
  let s := s.ixMod i (fun x => { x with
                                 queues := (cutRecords (img.drop 2304) 64 c.queues).map (·, false),
                                 threads := (cutRecords (img.drop (2304 + 64 * c.queues + 256 * c.sets)) 512 c.threads).map (·, false),
                                 flues := (cutRecords (img.drop c.len) 128 c.flues).map (·, false) })
  (s.p INST_STATUS_STATE 3 i).pb INST_STATUS_PUT_PENDING (c.queues + c.threads + c.flues != 0) i

/-- What a SAVE or RESTORE under way does with the answers that have come: it ends, or its reading goes on. -/
def State.instWork (s : State) (i : Nat) : State :=
  let x := s.ix i
  match x.master with
  | none => s
  | some m =>
    if x.op ≠ 0x12 && x.op ≠ 0x13 then s
    else
      let r := s.jobTake x.job
      let s := r.1.instIssue i m r.2
      let j := (s.ix i).job
      if !j.over then s
      else if j.status ≠ ST_OK then s.instEnd i j.status
      else if x.op = 0x12 then ((s.p INST_ARG1_ARG1 (x.length % 2 ^ 32) i).p INST_ARG1_FLUE_REC_LEN (x.length / 2 ^ 32) i).instEnd i ST_OK
      else if x.image = [] then
        let hd := j.bytes
        let c := countsOf hd
        let n := c.len + 128 * c.flues
        let w := s.g INST_ARG0_ARG0 i
        if !(headOk hd) || n > 65536 then s.instEnd i ST_ACCESS_DENIED
        else
          let k := s.rangeCheck m w n 0
          if !k.2 then k.1.instEnd i ST_ACCESS_DENIED
          else (k.1.ixMod i (fun x => { x with image := hd, length := n })).instIssue i m (jobRead w n)
      else
        let img := j.bytes
        if !(headOk img) || x.length ≠ (countsOf img).len + 128 * (countsOf img).flues || !(restoreOk img) then s.instEnd i ST_ACCESS_DENIED
        else if s.instState i ≠ 0 then s.instEnd i ST_ACCESS_DENIED
        else if !(s.poolsHold i (imageQuota img)) then s.instEnd i ST_RESOURCE_EXHAUSTED
        else (s.restoreFrom i img).instEnd i ST_OK

/-! ## Putting records (R287) -/

/-- A record to be put: NO_MATCH beyond the image's count, LATE where it has been put. -/
def putRecord (rs : List (List Byte × Bool)) (k : Nat) : Except Nat (List Byte) :=
  match rs[k]? with
  | none => .error ST_NO_MATCH
  | some (_, true) => .error ST_LATE
  | some (r, false) => .ok r

/-- Whether restored records remain to be put. -/
def InstX.pending (x : InstX) : Bool := (x.flues ++ x.queues ++ x.threads).any (fun r => !r.2)

/-- PUT_PENDING follows the records. -/
def State.putRefresh (s : State) (i : Nat) : State := s.pb INST_STATUS_PUT_PENDING (s.ix i).pending i

/-- A completion queue takes the saved registers, and stays its instance's. -/
def State.cqRestore (s : State) (q : Nat) (r : List Byte) : State :=
  let inst := s.g CQ_CFG_INST q
  (((s.setWord .CQ_BASE (fieldOf r 0 8) q).setWord .CQ_CFG (fieldOf r 8 8) q).setWord .CQ_IDX (fieldOf r 16 8) q).p CQ_CFG_INST inst q

/-- FLUE_PUT. -/
def fluePutOp (i : Nat) (s : State) : State × Nat :=
  let k := s.g INST_ARG0_ARG0 i
  let f := s.g INST_ARG1_ARG1 i
  match putRecord (s.ix i).flues k with
  | .error st => (s, st)
  | .ok r =>
    let cfg := fieldOf r 0 8
    let wq := cfg % 4 == 2
    let c := fluCfgOp f { v := cfg - (if wq then 2 else 0) } s
    if f ≥ 2048 || !(s.on FLU_ASSIGN_VALID f) || s.g FLU_ASSIGN_INST f ≠ i || (s.flu f).run ≠ .idle || wq != (s.g FLU_CFG_MODE f == 2) || c.2 ≠ ST_OK
    then (s, ST_ACCESS_DENIED)
    else
      let s := if wq then c.1.p FLU_CFG_MODE 2 f else c.1
      let s := flueWords.zipIdx.foldl (fun s e => if e.1 = .FLU_CFG then s else s.setWord e.1 (fieldOf r (8 * e.2) 8) f) s
      let s := (s.cqRestore (s.g FLU_CFG_CQ f) (r.drop 72)).cqRestore (s.g FLU_ASSIGN_CALL_CQ f) (r.drop 96)
      let mid := s.g FLU_LEFT_LEFT f != 0 || s.g FLU_LEFT_ELEM f != 0
      let froze := fieldOf r 64 8 % 2 == 1
      let s := s.fluSet f { run := if mid || froze then .stopped else .idle, mid := mid, more := froze, frozen := froze }
      ((s.ixMod i (fun x => { x with flues := x.flues.set k (r, true) })).putRefresh i, ST_OK)

/-- WQ_PUT. -/
def wqPutOp (i : Nat) (s : State) : State × Nat :=
  let k := s.g INST_ARG0_ARG0 i
  let q := s.g INST_ARG1_ARG1 i
  match putRecord (s.ix i).queues k with
  | .error st => (s, st)
  | .ok r =>
    let cfg := fieldOf r 0 8
    let st := fieldOf r 40 8
    if q ≥ 8192 || !(s.on WQ_CFG_VALID q) || s.g WQ_CFG_INST q ≠ i || !(s.wqOff q) || s.g CQ_CFG_INST (bits cfg 44 12) ≠ i then (s, ST_ACCESS_DENIED)
    else
      let f := s.g WQ_CFG_FLUE q
      let s := ((s.setWord .WQ_CFG cfg q).p WQ_CFG_INST i q).p WQ_CFG_FLUE f q
      let s := (((s.setWord .WQ_RING (fieldOf r 8 8) q).setWord .WQ_HEAD_ADDR (fieldOf r 16 8) q).setWord .WQ_CTRL (fieldOf r 24 8) q).setWord .WQ_IDX (fieldOf r 32 8) q
      let s := (s.p WQ_STATUS_STATE (b2n (st % 4 == 1)) q).p WQ_STATUS_ERR_STOP (bits st 2 1) q
      let s := s.wqMod q (fun _ => { pub := s.g WQ_IDX_HEAD q })
      ((s.ixMod i (fun x => { x with queues := x.queues.set k (r, true) })).putRefresh i, ST_OK)

/-- THREAD_PUT. -/
def threadPutOp (i : Nat) (s : State) : State × Nat :=
  let k := s.g INST_ARG0_ARG0 i
  let tid := s.g INST_ARG1_ARG1 i
  match putRecord (s.ix i).threads k with
  | .error st => (s, st)
  | .ok r =>
    let t := tid % 2048
    if tid / 2048 ≠ s.dev || !(s.halted t) || !(s.loaded t) || s.basePriv t ≠ 2 || s.p2Inst t ≠ s.instId i || (s.th t).codeHash ≠ fieldOf r 320 48
    then (s, ST_ACCESS_DENIED)
    else
      let w (n : Nat) : Nat := fieldOf r (248 + 8 * n) 8
      let s := (List.range 31).foldl (fun s g => s.grSet t (g + 1) (fieldOf r (8 * g) 8)) s
      let s := s.thMod t (fun x => { x with pc := w 0, lstat := w 1 % 256, tctl := w 2 % 4, evtPend := w 3 % 2 ^ 32, evtMask := w 4 % 2 ^ 32,
                                            timer := if w 5 = 0 then none else some (s.now + w 5), serrAddr := w 6, serrStatus := w 7 % 256, serrValid := bit (w 7) 8, serrPending := bit (w 7) 9,
                                            serrMore := bits (w 7) 16 16, frozen := bit (w 8) 0 })
      ((s.ixMod i (fun x => { x with threads := x.threads.set k (r, true) })).putRefresh i, ST_OK)

/-! ## INST_CMD (R269, Table 13-2) -/

/-- What an operation does: the state after it, and its status unless it runs on. -/
def instOp (m : Master) (i op : Nat) (s : State) : State × Option Nat :=
  let st := s.instState i
  let now (r : State × Nat) : State × Option Nat := (r.1, some r.2)
  match op with
  | 0x01 => now (createOp i s)
  | 0x02 =>
    if st = 0 then (s, some ST_LATE)
    else if st = 2 || st = 5 || s.instInUse i then (s, some ST_ACCESS_DENIED)
    else (s.instReset i 0, none)
  | 0x10 =>
    if st = 3 then (s, some ST_LATE)
    else if st ≠ 1 then (s, some ST_ACCESS_DENIED)
    else (s.freezeBegin i, none)
  | 0x11 =>
    if st = 1 then (s, some ST_LATE)
    else if st ≠ 3 || (s.ix i).pending then (s, some ST_ACCESS_DENIED)
    else (s.thaw i, some ST_OK)
  | 0x12 => saveOp m i s
  | 0x13 => restoreOp m i s
  | 0x14 => now (fluePutOp i s)
  | 0x15 => now (wqPutOp i s)
  | 0x16 => now (threadPutOp i s)
  | 0x20 => if st = 0 then (s, some ST_ACCESS_DENIED) else (s.instReset i (if (s.ix i).contain then 4 else 1), none)
  | 0x21 =>
    if st = 1 then (s, some ST_LATE)
    else if st ≠ 4 then (s, some ST_ACCESS_DENIED)
    else ((s.instFree i).p INST_STATUS_STATE 1 i, some ST_OK)
  | _ => (s, some ST_NO_MATCH)

/-- A write of INST_CMD: refused while a command runs, answered from the store for the tag last completed, and otherwise started. -/
def instCmdOp (m : Master) (i op tag : Nat) (s : State) : State × Nat :=
  if s.on INST_STATUS_BUSY i then (s, ST_RESOURCE_EXHAUSTED)
  else if (s.ix i).done && s.g INST_STATUS_TAG i = tag then (s, s.g INST_STATUS_STATUS i)
  else
    let s := (s.ixMod i (fun x => { x with op := op, tag := tag, master := some m, job := {}, image := [], length := 0 })).p INST_STATUS_BUSY 1 i
    let r := instOp m i op s
    match r.2 with
    | some st => (r.1.instEnd i st, st)
    | none => (r.1.instWork i, ST_OK)

/-- A command of an instance. -/
def instCommand (op : Nat) (m : Master) (i tag : Nat) (s : State) : Out := command m .INST_CMD i (instCmdOp m i op tag) s

/-- CREATE. -/
def execCreate (m : Master) (i : InstId) (tag : Fin 65536) (s : State) : Out := instCommand 0x01 m i tag s
/-- DESTROY. -/
def execDestroy (m : Master) (i : InstId) (tag : Fin 65536) (s : State) : Out := instCommand 0x02 m i tag s
/-- FREEZE. -/
def execFreeze (m : Master) (i : InstId) (tag : Fin 65536) (s : State) : Out := instCommand 0x10 m i tag s
/-- THAW. -/
def execThaw (m : Master) (i : InstId) (tag : Fin 65536) (s : State) : Out := instCommand 0x11 m i tag s
/-- SAVE. -/
def execSave (m : Master) (i : InstId) (tag : Fin 65536) (s : State) : Out := instCommand 0x12 m i tag s
/-- RESTORE. -/
def execRestore (m : Master) (i : InstId) (tag : Fin 65536) (s : State) : Out := instCommand 0x13 m i tag s
/-- FLUE_PUT. -/
def execFluePut (m : Master) (i : InstId) (tag : Fin 65536) (s : State) : Out := instCommand 0x14 m i tag s
/-- WQ_PUT. -/
def execWqPut (m : Master) (i : InstId) (tag : Fin 65536) (s : State) : Out := instCommand 0x15 m i tag s
/-- THREAD_PUT. -/
def execThreadPut (m : Master) (i : InstId) (tag : Fin 65536) (s : State) : Out := instCommand 0x16 m i tag s
/-- INST_RESET. -/
def execInstReset (m : Master) (i : InstId) (tag : Fin 65536) (s : State) : Out := instCommand 0x20 m i tag s
/-- INST_RELEASE. -/
def execInstRelease (m : Master) (i : InstId) (tag : Fin 65536) (s : State) : Out := instCommand 0x21 m i tag s

end Sys2Proof.Machine
end

