-- ==== Sys2Proof/Machine/Mailbox.lean ====
section
/-! DEFINITION. The mailbox of an instance (R274 to R278), and MBSEND (R194). -/

namespace Sys2Proof.Machine

/-! ## Doorbells (R274, R275) -/

/-- The landing record (Table 13-5). -/
def State.landingRecord (s : State) (i tag n : Nat) : List Byte :=
  leBytes 8 (tag + n * 2 ^ 16 + s.instId i * 2 ^ 32) ++ leBytes 8 s.now ++ List.replicate 48 0 ++ padTo 128 (s.rd (spMbx i) 0x140 (8 * n))

/-- A doorbell accepted: the landing record is written, and the server is told. -/
def State.mbxAccept (s : State) (i tag n : Nat) : State :=
  let tid := s.g MBX_CFG_SERVER_TID i
  let l := s.landingRecord i tag n
  let s := s.wr (spShared (thH (tid % 2048))) (s.g MBX_CFG_LAND i * 64) l
  ((s.setF MBX_STATUS_BUSY i).ixMod i (fun x => { x with cmdTag := tag, due := s.now + s.g MBX_CFG_MBX_TMO_MS i * 1000000, land := l, left := none,
                                                         timedOut := x.timedOut.filter (· != tag) })).signal tid 6

/-- A doorbell, in the order of R274. A FREE instance refuses as in its second case. -/
def mbxDoorbellOp (i tag n : Nat) (s : State) : State × Nat :=
  let st := s.instState i
  let busy := s.on MBX_STATUS_BUSY i
  if st = 2 || st = 3 then (s, ST_FROZEN)
  else if st ≠ 1 || n < 1 || n > 16 || !(s.on MBX_CFG_SERVER_VALID i) then (s, ST_ACCESS_DENIED)
  else if !busy && (s.ix i).answered && s.g MBX_STATUS_LAST_TAG i = tag then
    (((s.setF MBX_STATUS_RESP_VALID i).respVec i).inc MBX_STATUS_DUP_COUNT i, ST_OK)
  else if busy && (s.ix i).cmdTag = tag then (s.inc MBX_STATUS_DUP_COUNT i, ST_OK)
  else if busy then (s, ST_RETRY)
  else (s.mbxAccept i tag n, ST_OK)

/-- MBX_DOORBELL. -/
def execMbxDoorbell (m : Master) (i : InstId) (tag : Fin 65536) (len : Fin 32) (s : State) : Out :=
  whenUp s fun s => s.cmdBy m .MBX_DB i (fun s => let r := mbxDoorbellOp i tag len s; (r.1.p MBX_STATUS_DB_STATUS r.2 i).reply m r.2)

/-- What ties the record of a stray answer to that of its command's timeout (R276). -/
def mbxKey (i tag : Nat) : Nat × Nat := (0x40000 + i, tag)

/-- MBX_TIMEOUT (R278): the command's timer runs while it is in progress and the instance is not frozen. -/
def execMbxTimeout (i : InstId) (s : State) : Out :=
  whenUp s fun s =>
    if !(s.on MBX_STATUS_BUSY i) || s.instState i = 2 || s.instState i = 3 then s
    else
      let tag := (s.ix i).cmdTag
      ((s.instFault i INST_ERR_MBX_TMO NC ST_TIMEOUT [] [mbxKey i tag]).storeAnswer i tag (deviceAnswer tag ST_TIMEOUT)).ixMod i
        (fun x => { x with timedOut := tag :: x.timedOut.filter (· != tag) })

/-! ## Answers and notes (R276, R277) -/

/-- An answer from a sender: only from the server, and only to the command in progress. -/
def State.mbxAnswer (s : State) (i from_ : Nat) (msg : List Byte) : State × Nat :=
  let tag := fieldOf msg 8 2
  if s.g MBX_CFG_SERVER_TID i ≠ from_ then (s, ST_ACCESS_DENIED)
  else if s.on MBX_STATUS_BUSY i && (s.ix i).cmdTag = tag then (s.storeAnswer i tag msg, ST_OK)
  else (s.instFault i INST_ERR_MBX_STRAY CE ST_NO_MATCH (if (s.ix i).timedOut.contains tag then [mbxKey i tag] else []), ST_NO_MATCH)

/-- A note placed in the ring. -/
def State.mbxNote (s : State) (i : Nat) (msg : List Byte) : State × Nat :=
  let p := s.g MBX_NOTE_IDX_PROD i
  if (p + 2 ^ 32 - s.g MBX_NOTE_IDX_CONS i) % 2 ^ 32 ≥ 8 then (s, ST_RETRY)
  else
    let s := (s.wr (spMbx i) (0x200 + 64 * (p % 8)) msg).p MBX_NOTE_IDX_PROD (p + 1) i
    (if s.on MBX_HCFG_NOTE_MSIX_EN i then s.send (.msix i (s.g MBX_HCFG_NOTE_VEC i)) else s, ST_OK)

/-- A message to an instance's mailbox. A frozen instance answers FROZEN, one that is FREE does not exist. -/
def State.toMailbox (s : State) (i from_ : Nat) (answer : Bool) (msg : List Byte) : State × Nat :=
  match s.instState i with
  | 0 => (s, ST_NO_MATCH)
  | 2 | 3 => (s, ST_FROZEN)
  | _ => if answer then s.mbxAnswer i from_ msg else s.mbxNote i msg

/-- A message that a thread sends to an endpoint (R194): to one on another device it goes over Sirfin. -/
def State.mbsend (s : State) (t : Nat) (i : Issued) (ep : Nat) (msg : List Byte) : State :=
  let p2 := s.priv t == 2
  let mine := (s.th t).inst
  let fin (r : State × Nat) : State := r.1.retireS t i r.2 0
  match ep / 2 ^ 62 with
  | 0 =>
    let tid := ep % 2 ^ 13
    if bits ep 13 49 ≠ 0 then fin (s, ST_NO_MATCH)
    else if !(s.inStack (tid / 2048)) then fin (s, ST_LINK_DOWN)
    else match s.thrOf tid with
      | none => s.farSend t i (tid / 2048) 7 tid 0 msg false
      | some u =>
        if p2 && (s.th u).inst ≠ mine then fin (s, ST_ACCESS_DENIED)
        else match s.rxPush u msg with
          | some s => fin (s, ST_OK)
          | none => fin (s, ST_RETRY)
  | 1 =>
    let id := ep % 2 ^ 14
    if bits ep 14 47 ≠ 0 then fin (s, ST_NO_MATCH)
    else if !(s.inStack (id / 4096)) then fin (s, ST_LINK_DOWN)
    else if p2 && id ≠ mine then fin (s, ST_ACCESS_DENIED)
    else if id / 4096 ≠ s.dev then s.farSend t i (id / 4096) 8 id 0 msg (bit ep 61)
    else fin (s.toMailbox (id % 4096) (s.tidOf t) (bit ep 61) msg)
  | _ => fin (s, ST_NO_MATCH)

/-- MBSEND: the payload at RB is checked and read; with none of it nothing is read. -/
def execMbsend (t : ThrId) (s : State) : Out :=
  runPlv .mbsend t (fun s i =>
    let n := wFn i.word
    let a := s.gr t (wRb i.word)
    let go (s : State) (bs : List Byte) : State :=
      let dws := (List.range n).map (fun k => leNat ((bs.drop (8 * k)).take 8))
      s.mbsend t i (s.gr t (wRa i.word)) (msgBytes (s.tidOf t) (s.th t).inst (s.priv t) dws)
    some (
      if a % 8 ≠ 0 then s.refuseAcc t i 3 a none
      else if n = 0 then go s []
      else match s.engCheck t a (8 * n) 0 false with
        | .bad code arg g => s.refuseAcc t i code arg g
        | .ok pl => go s (s.rd pl.sp pl.off (8 * n)))) s

/-! ## Registers of the mailbox (Tables 13-13, 13-14) -/

/-- MBX_CFG: only while no command is in progress; the server a thread of this device at P0 or P1, or at P2 of this instance; the landing record
within the server's shared memory. -/
def mbxCfgOp (i : Nat) (w : RegW) (s : State) : State × Nat :=
  let tid := s.after w MBX_CFG_SERVER_TID i
  let ok := match s.thrOf tid with
    | some t => s.basePriv t ≤ 1 || (s.basePriv t == 2 && s.p2Inst t == s.instId i)
    | none => false
  if s.on MBX_STATUS_BUSY i || !ok || s.after w MBX_CFG_MBX_TMO_MS i = 0 || s.after w MBX_CFG_LAND i * 64 + 192 > 0x800000 then (s, ST_ACCESS_DENIED)
  else (s.putAll w [MBX_CFG_SERVER_TID, MBX_CFG_SERVER_VALID, MBX_CFG_LAND, MBX_CFG_MBX_TMO_MS] i, ST_OK)

/-- MBX_NOTE_IDX.CONS: neither beyond PROD nor below the last CONS. -/
def mbxConsOp (i : Nat) (w : RegW) (s : State) : State × Nat :=
  let c := s.g MBX_NOTE_IDX_CONS i
  let v := s.after w MBX_NOTE_IDX_CONS i
  if (v + 2 ^ 32 - c) % 2 ^ 32 ≤ (s.g MBX_NOTE_IDX_PROD i + 2 ^ 32 - c) % 2 ^ 32 then (s.p MBX_NOTE_IDX_CONS v i, ST_OK) else (s, ST_ACCESS_DENIED)

/-- INST_POOL, INST_OVF and INST_DC_CFG: only while FREE, and within their ranges (R270, Table 13-12). -/
def instQuotaOp (i : Nat) (r : RegName) (w : RegW) (s : State) : State × Nat :=
  let a (f : Fld) : Nat := if f.reg = r then s.after w f i else s.g f i
  if s.instState i ≠ 0 || a INST_POOL_THREAD_QUOTA > 64 || a INST_POOL_FLUE_QUOTA > 64 || a INST_POOL_WQ_QUOTA > 128 || a INST_POOL_CSET_QUOTA > 16 ||
     a INST_OVF_OVF_QUOTA > 67108864 || a INST_DC_CFG_REGIONS < 1 || a INST_DC_CFG_REGIONS > 8 then (s, ST_ACCESS_DENIED)
  else (s.putAll w r.fields i, ST_OK)

end Sys2Proof.Machine
end

