-- ==== Sys2Proof/Machine/Faults.lean ====
section
/-! DEFINITION. The fault unit: taking a report, its reaction, the log, its commands, EMBER and injection (R300 to R314). -/

namespace Sys2Proof.Machine

/-! ## The fault unit and its pins -/

/-- The fault unit is out of reset from the first self-test stage on, and is unreachable in pilot-light state with cause RAIL (R395, R398). -/
def State.fuUp (s : State) : Bool := s.g PU_STATUS_STAGE != 0 && !(s.on PU_STATUS_PILOT && s.g PU_STATUS_CAUSE == 0x01)

/-- What the fault unit does, while it runs. -/
def whenFu (s : State) (f : State → State) : Out := .next (if s.fuUp then f s else s)

/-- EMBER stops, low (R312). -/
def State.emberStop (s : State) : State := { s.p FU_STATUS_EMBER_RUN 0 with pins := { s.pins with ember := false } }

/-- EMBER toggles. -/
def State.emberStart (s : State) : State := s.p FU_STATUS_EMBER_RUN 1

/-- The management alert: PEND is set and the pin driven low (R390). -/
def State.alertNow (s : State) : State := { s.setF BR_ALERT_PEND with pins := { s.pins with mgmtAlertN := false } }

/-- EMBER_TOGGLE: while it runs, EMBER inverts. -/
def execEmberToggle (s : State) : Out :=
  whenFu s fun s => if s.on FU_STATUS_EMBER_RUN then { s with pins := { s.pins with ember := !s.pins.ember } } else s

/-! ## Records (Table 15-4) -/

/-- A record's 128 bytes. -/
def Record.bytes (r : Record) : List Byte :=
  let x := r.rpt
  leBytes 8 x.time ++ leBytes 8 (r.seq + r.primarySeq * 2 ^ 32) ++
  leBytes 8 (x.source % 2 ^ 12 + x.cls * 2 ^ 12 + r.level * 2 ^ 14 + b2n r.escalated * 2 ^ 16 + b2n r.conseq * 2 ^ 17 + b2n x.injected * 2 ^ 18 +
    b2n r.already * 2 ^ 19 + x.status % 2 ^ 8 * 2 ^ 24 + x.scope % 2 ^ 16 * 2 ^ 32 + x.rep * 2 ^ 48) ++
  leBytes 8 ((match x.addr with | some a => a.2 % 2 ^ 53 + a.1 % 4 * 2 ^ 53 + 2 ^ 55 | none => 0) + x.access % 8 * 2 ^ 56) ++
  leBytes 8 ((match x.inst with | some i => i % 2 ^ 14 + 2 ^ 14 | none => 0) + x.core % 2 ^ 12 * 2 ^ 16 +
    (match x.tid with | some t => t % 2 ^ 13 * 2 ^ 32 + 2 ^ 45 | none => 0) + x.dev % 4 * 2 ^ 46) ++
  padTo 32 x.header ++ leBytes 8 x.aux ++ List.replicate 48 0

/-- The bank that counts what the block of a report reports (Table 21-1). -/
def Report.bank (r : Report) : Option Nat :=
  match r.source / 64 with
  | 0x01 => some 157
  | 0x03 => some (r.scope % 128)
  | 0x04 | 0x05 => some 128
  | 0x06 => some 129
  | 0x07 => some (130 + (if r.scope / 4096 = 6 then r.scope % 2 else 0))
  | 0x08 => some 132
  | 0x09 => some (133 + (if r.scope / 4096 = 4 then r.scope % 4096 / 128 else if r.scope / 4096 = 9 then r.scope % 16 else (r.core - 0x80) % 16))
  | 0x0A => some (149 + (if r.core - 0x800 < 1024 then 0 else 1))
  | 0x0B => some 151
  | 0x0D => some (160 + dieOf r.core % 2)
  | 0x0E => some (if r.scope / 4096 = 7 then 152 + r.scope % 4 else 159)
  | 0x0F => some 156
  | 0x11 => some 158
  | _ => none

/-! ## Containment (Table 15-3) -/

/-- Whether a scope is of a kind that L2 contains. -/
def containable (sc : Nat) : Bool := [1, 2, 3, 4].contains (sc / 4096)

/-- A flue contained: the queues bound to it are DISABLED with ERR_STOP, their started entry aborted, and it is reset. -/
def State.fluContain (s : State) (f : Nat) : State :=
  let qs := if s.g FLU_CFG_MODE f = 2 then s.wqOf f else []
  let s := qs.foldl (fun s q => s.wqReset q true) s
  s.fluReset f

/-- A scope contained. A port that its own recovery already resets is not reset again. -/
def State.contain (s : State) (sc : Nat) : State :=
  let id := sc % 4096
  if sc / 4096 = 1 && s.instState id = 0 then s else
  let s := { s with fu := { s.fu with contained := sc :: s.fu.contained } }
  match sc / 4096 with
  | 1 => s.instContain id
  | 2 => (if (s.port id).resetting then s else s.portReset id).setF PC_QUIESCE_STATUS_ISOLATED id
  | 3 => s.fluContain id
  | _ => (stopOp id s).1

/-- Reports that arise in a step carry its record as their cause. -/
def State.causedBy (s : State) (old : List Report) (c : Nat × Nat) : State :=
  { s with fu := { s.fu with waiting := s.fu.waiting.map (fun r => if old.contains r then r else { r with causes := c :: r.causes }) } }

/-! ## Reaction (R304, R305) -/

/-- The level of a source's entry for a class. -/
def State.entryLevel (s : State) (source cls : Nat) : Nat :=
  s.g (match cls with | 0 => FU_SRC_LEVEL_CE | 1 => FU_SRC_LEVEL_NC | 2 => FU_SRC_LEVEL_PF | _ => FU_SRC_LEVEL_DF) source

/-- Event 7 for the targets of a class; a target of this device without a P0 or P1 image counts as missed. -/
def State.irqs (s : State) (cls : Nat) : State :=
  (List.range 4).foldl (fun s j =>
    if s.on FU_IRQ_CFG_EN j && bit (s.g FU_IRQ_CFG_CLASS_MASK j) cls then
      let tid := s.g FU_IRQ_CFG_TID j
      match s.thrOf tid with
      | some t => if s.loaded t && s.basePriv t ≤ 1 then s.setEvent t 7 else s.inc FU_STATUS_IRQ_MISS
      | none => s.eventTo tid 7
    else s) s

/-- A level applied to a primary record: each includes those below it. -/
def State.react (s : State) (r : Report) (level : Nat) (already : Bool) : State :=
  let s := if level ≥ 1 then s.irqs r.cls else s
  let s := if level ≥ 1 && bit (s.g BR_ALERT_ALERT_MASK) r.cls then s.alertNow else s
  let s := if level ≥ 2 && containable r.scope && !already then (s.contain r.scope).causedBy s.fu.waiting (r.source, r.scope) else s
  if level ≥ 3 then { s.setF FU_STATUS_FAULT_ASSERTED with pins := { s.pins with faultN := false } }.emberStop else s

/-! ## The log (R310, R311) -/

/-- A record that exists in neither level is counted. -/
def State.logLost (s : State) (b : Bool) : State := if b then s.inc FU_LOG_STATUS_LOST_CNT else s

/-- Whether a record's slot of the ring is not yet consumed. -/
def State.slotHeld (s : State) (seq : Nat) : Bool := (seq + 2 ^ 32 - s.g FU_LOG_IDX_CONS) % 2 ^ 32 ≥ 2 ^ 20

/-- A record enters the on-die log, over the one of its place, and waits for its copy in the ring. Before stage 0x0A a record whose on-die entry
is overwritten is not copied and not counted as lost (R397). -/
def State.logRecord (s : State) (r : Record) : State :=
  let n := r.seq % 128
  let skip := s.fu.skipped.contains n
  let hbm := s.on FU_LOG_STATUS_HBM_FAIL
  let waits (q : Nat) : Bool := s.fu.ringWait.any (fun x => x.seq == q)
  let lost := match nget? n s.fu.odl with
    | some o => !skip && hbm && !o.copied && !(waits o.seq)
    | none => false
  let s := s.logLost lost
  let old := match nget? n s.fu.odl with | some o => if s.up then none else some o.seq | none => none
  let s := { s with fu := { s.fu with odl := if skip then s.fu.odl else nset n r s.fu.odl,
                                      ringWait := s.fu.ringWait.filter (fun x => some x.seq != old) } }
  if hbm || (skip && !(s.on FU_LOG_CFG_WRAP) && s.slotHeld r.seq) then s.logLost skip
  else { s with fu := { s.fu with ringWait := s.fu.ringWait ++ [r] } }

/-- A failure of the log's memory: LOG_LOST and its part latch, a backstop register is filled while one is free, EMBER stops, and a DF report
follows (R311). -/
def State.logFail (s : State) (part : Nat) (r : Record) (syndrome : Nat) : State :=
  let s := (s.setF FU_LOG_STATUS_LOG_LOST).setF (if part = 0 then FU_LOG_STATUS_ODL_FAIL else FU_LOG_STATUS_HBM_FAIL)
  let s := match (List.range 4).find? (fun b => !(s.on FU_BACKSTOP1_VALID b)) with
    | none => s
    | some b => (((((s.p FU_BACKSTOP0_TIME_NS s.now b).p FU_BACKSTOP1_VALID 1 b).p FU_BACKSTOP1_PART part b).p FU_BACKSTOP1_SOURCE r.rpt.source b).p
        FU_BACKSTOP1_SYNDROME syndrome b).p FU_BACKSTOP1_SEQ r.seq b
  s.emberStop.fault (src 0x01 0) DF 0

/-- LOG_RING_WRITE: the oldest record that waits is copied, or its write fails and no further one is tried. While an HBM stack has no clock it waits
(R36). -/
def execLogRingWrite (ok : Bool) (s : State) : Out :=
  whenUp s fun s =>
    match s.fu.ringWait with
    | [] => s
    | r :: rs =>
      if (!(s.on FU_LOG_CFG_WRAP) && s.slotHeld r.seq) || (ok && !s.hbmUp) then s
      else if ok then
        let s := if s.slotHeld r.seq then s.inc FU_LOG_STATUS_OVERWRITTEN else s
        let s := (s.wr spHbm (0x30000000 + r.seq % 2 ^ 20 * 128) r.bytes).p FU_LOG_IDX_PROD (r.seq + 1)
        let n := r.seq % 128
        let odl := match nget? n s.fu.odl with | some o => if o.seq = r.seq then nset n { o with copied := true } s.fu.odl else s.fu.odl | none => s.fu.odl
        { s with fu := { s.fu with ringWait := rs, odl := odl } }
      else
        let gone := (r :: rs).filter (fun x => !(s.fu.odl.any (fun e => e.2.seq == x.seq)))
        let s := gone.foldl (fun s _ => s.logLost true) { s with fu := { s.fu with ringWait := [] } }
        s.logFail 1 r 0

/-- ODL_CHECK_FAIL: an on-die entry fails its check when it is read; it is skipped, and a record that the ring does not hold is lost. -/
def execOdlCheckFail (n : Fin 128) (syndrome : Fin 65536) (s : State) : Out :=
  whenFu s fun s =>
    match nget? n.val s.fu.odl with
    | none => s
    | some r =>
      let s := { s with fu := { s.fu with odl := nerase n.val s.fu.odl, skipped := n.val :: s.fu.skipped,
                                          ringWait := s.fu.ringWait.filter (fun x => x.seq != r.seq) } }
      (s.logLost (!r.copied)).logFail 0 r syndrome

/-! ## Taking a report (R303, R306 to R308) -/

/-- A report is held while a condition that caused it, or the very report it follows from (R43), has not been taken. -/
def State.heldReport (s : State) (r : Report) : Bool :=
  r.causes.any (fun c => (s.cond c.1 c.2 && s.fu.waiting.any (fun w => w.source == c.1 && w.scope == c.2)) || s.fu.waiting.any (fun w => w.keys.contains c))

/-- The oldest primary of a report's causes. -/
def State.primaryOf (s : State) (r : Report) : Option Nat :=
  (r.causes.filterMap (fun c => (s.fu.lastRec.find? (fun e => e.1 == c)).map (·.2))).foldl (fun b q =>
    match b with
    | none => some q
    | some p => some (if q < p then q else p)) none

/-- The first-error capture of a class (R308). -/
def State.capture (s : State) (cls : Nat) (bs : List Byte) : State :=
  if s.on FU_FIRST5_VALID cls then s.inc FU_FIRST5_MORE cls
  else ((List.range 5).foldl (fun s w => s.p FU_FIRST_RECORD (fieldOf bs (8 * w) 8) cls w) s).p FU_FIRST5_VALID 1 cls

/-- A report is taken as one step: its number, LATCHED and COUNT, its record, and for a primary the capture, the pending bit and the reaction. -/
def State.takeReport (s : State) (r : Report) : State :=
  let s := { s with fu := { s.fu with waiting := s.fu.waiting.erase r } }
  let s := (s.setF FU_SRC_LATCHED r.source).add FU_SRC_CNT_COUNT (1 + r.rep) r.source
  let s := match r.bank with | some b => s.event b 0x00A (1 + r.rep) r.inst | none => s
  let full := !(s.on FU_LOG_CFG_WRAP) && s.fu.ringWait.length ≥ 128 && s.fu.ringWait.head?.any (fun x => s.slotHeld x.seq)
  let seq := s.fu.seq
  let s := if full then (s.inc FU_LOG_STATUS_DROPPED).setF FU_LOG_STATUS_RING_FULL else { s with fu := { s.fu with seq := (seq + 1) % 2 ^ 32 } }
  let log (s : State) (x : Record) : State := if full then s else s.logRecord x
  let keyed (s : State) (q : Nat) : State := { s with fu := { s.fu with lastRec := r.keys.map (fun k => (k, q)) ++ s.fu.lastRec.filter (fun e => !(r.keys.contains e.1)) } }
  match s.primaryOf r with
  | some p =>
    log (keyed (s.inc FU_STATUS_CONSEQ_CNT) p) { rpt := r, seq := seq, primarySeq := p, level := 0, escalated := false, conseq := true, already := false }
  | none =>
    let base := s.entryLevel r.source r.cls
    let up := s.fu.pend.contains (r.cls, r.scope) && base < s.g FU_CTRL_ESC_CAP
    let level := if up then base + 1 else base
    let already := level ≥ 2 && s.fu.contained.contains r.scope
    let x : Record := { rpt := r, seq := seq, primarySeq := 0, level := level, escalated := up, conseq := false, already := already }
    let s := (log s x).capture r.cls x.bytes
    let key := (r.source, r.scope)
    let s := { s with fu := { s.fu with pend := if s.fu.pend.contains (r.cls, r.scope) then s.fu.pend else (r.cls, r.scope) :: s.fu.pend,
                                        lastRec := if full then s.fu.lastRec else (key, seq) :: s.fu.lastRec.filter (fun e => e.1 != key) } }
    let s := if full then s else keyed s seq
    let s := if r.cls = DF then s.emberStop else s
    s.react r level already

/-- REPORT_TAKE: the oldest report that no untaken cause holds is taken. -/
def execReportTake (s : State) : Out :=
  whenFu s fun s =>
    match s.fu.waiting.find? (fun r => !(s.heldReport r)) with
    | some r => s.takeReport r
    | none => s

/-! ## FU_CMD (Table 15-8) -/

/-- ACK. -/
def ackOp (s : State) : State × Nat :=
  let key := (s.g FU_CMD_ARG_CLASS, s.g FU_CMD_ARG_SCOPE)
  if s.fu.pend.contains key then ({ s with fu := { s.fu with pend := s.fu.pend.filter (· != key) } }, ST_OK) else (s, ST_LATE)

/-- ACK_CLASS. -/
def ackClassOp (s : State) : State × Nat :=
  let c := s.g FU_CMD_ARG_CLASS
  if s.fu.pend.any (fun p => p.1 == c) then ({ s with fu := { s.fu with pend := s.fu.pend.filter (fun p => p.1 != c) } }, ST_OK) else (s, ST_LATE)

/-- RELEASE: a port trains again. -/
def fuReleaseOp (s : State) : State × Nat :=
  let sc := s.g FU_CMD_ARG_SCOPE
  if !([2, 3, 4].contains (sc / 4096)) then (s, ST_NO_MATCH)
  else if !(s.fu.contained.contains sc) then (s, ST_LATE)
  else
    let s := { s with fu := { s.fu with contained := s.fu.contained.filter (· != sc) } }
    (match sc / 4096 with
     | 2 => (s.p PC_QUIESCE_STATUS_ISOLATED 0 (sc % 4096)).trainFromDetect (sc % 4096)
     | 3 => s.fluWake (sc % 4096)
     | _ => s, ST_OK)

/-- FAULT_CLR: only P0 threads and Hjelvon (R313). -/
def faultClrOp (m : Master) (s : State) : State × Nat :=
  if !(s.p0 m || m == .hjelvon) then (s, ST_ACCESS_DENIED)
  else if !(s.on FU_STATUS_FAULT_ASSERTED) then (s, ST_LATE)
  else ({ s.p FU_STATUS_FAULT_ASSERTED 0 with pins := { s.pins with faultN := true } }, ST_OK)

/-- The sources that report in class DF: LOG_LOST, a slice in full broadcast, a late flush, and Hjelvon's error state (Table 15-1 and its chapters). -/
def dfSources : List Nat := [src 0x01 0, src 0x07 6, src 0x0F 33, src 0x10 1]

/-- EMBER_REARM (R312). -/
def emberRearmOp (m : Master) (s : State) : State × Nat :=
  if !(s.p0 m || m == .hjelvon) || dfSources.any (fun n => s.on FU_SRC_PRESENT n) || s.on FU_LOG_STATUS_LOG_LOST || s.on PU_STATUS_PILOT || !s.up
  then (s, ST_ACCESS_DENIED)
  else if s.on FU_STATUS_EMBER_RUN then (s, ST_LATE)
  else (s.emberStart, ST_OK)

/-- A write of FU_CMD: the tag last completed answers its stored status, and an opcode of no command NO_MATCH. -/
def fuCmdOp (m : Master) (op tag : Nat) (s : State) : State × Nat :=
  if s.fu.cmdDone && s.g FU_CMD_STATUS_TAG = tag then (s, s.g FU_CMD_STATUS_STATUS)
  else
    let r := match op with
      | 0x01 => ackOp s
      | 0x02 => ackClassOp s
      | 0x10 => fuReleaseOp s
      | 0x20 => faultClrOp m s
      | 0x21 => emberRearmOp m s
      | _ => (s, ST_NO_MATCH)
    let s := { r.1 with fu := { r.1.fu with cmdDone := true } }
    ((s.p FU_CMD_STATUS_STATUS r.2).p FU_CMD_STATUS_TAG tag, r.2)

/-- A command of the fault unit: where it is unreachable the access answers NO_MATCH (R398). -/
def fuCommand (r : RegName) (op : State → State × Nat) (m : Master) (s : State) : Out :=
  .next (if s.fuUp then s.cmdBy m r 0 (fun s => let q := op s; q.1.reply m q.2) else s.reply m ST_NO_MATCH)

/-- ACK. -/
def execAck (m : Master) (tag : Fin 65536) (s : State) : Out := fuCommand .FU_CMD (fuCmdOp m 0x01 tag) m s
/-- ACK_CLASS. -/
def execAckClass (m : Master) (tag : Fin 65536) (s : State) : Out := fuCommand .FU_CMD (fuCmdOp m 0x02 tag) m s
/-- FU_RELEASE. -/
def execFuRelease (m : Master) (tag : Fin 65536) (s : State) : Out := fuCommand .FU_CMD (fuCmdOp m 0x10 tag) m s
/-- FAULT_CLR. -/
def execFaultClr (m : Master) (tag : Fin 65536) (s : State) : Out := fuCommand .FU_CMD (fuCmdOp m 0x20 tag) m s
/-- EMBER_REARM. -/
def execEmberRearm (m : Master) (tag : Fin 65536) (s : State) : Out := fuCommand .FU_CMD (fuCmdOp m 0x21 tag) m s

/-! ## Injection and the other registers (R300, R314) -/

/-- Whether the unit of a scope may hold the checker of a source: the scope kinds in which each block reports (Tables 15-1, 15-2). -/
def scopeHolds (source sc : Nat) : Bool :=
  let k := sc / 4096
  let id := sc % 4096
  let kinds := match source / 64 with
    | 0x02 => [0, 5]
    | 0x03 => [2]
    | 0x04 => [0, 1]
    | 0x05 => [0, 1, 2]
    | 0x06 | 0x0C => [1]
    | 0x07 => [0, 1, 6]
    | 0x08 => [0, 1]
    | 0x09 => [1, 4, 9]
    | 0x0A => [1, 3]
    | 0x0B => [0, 1]
    | 0x0D => [0, 1, 3, 4]
    | 0x0E => [0, 7]
    | 0x0F => [0, 8]
    | _ => [0]
  let count := match k with | 0 => 1 | 1 => 4096 | 2 => 128 | 3 => 2048 | 4 => 2048 | 5 => 40 | 6 => 2 | 7 => 4 | 8 => 32 | 9 => 16 | _ => 0
  kinds.contains k && id < count

/-- A write of FU_INJ. -/
def fuInjOp (w : RegW) (s : State) : State × Nat :=
  let n := s.after w FU_INJ_SOURCE
  if !(sourceDefined n) || !(scopeHolds n (s.after w FU_INJ_SCOPE)) then (s, ST_ACCESS_DENIED)
  else (s.putAll w [FU_INJ_SOURCE, FU_INJ_SCOPE, FU_INJ_INV_MASK, FU_INJ_MODE, FU_INJ_ARMED], ST_OK)

/-- FAULT_INJECT. -/
def execFaultInject (m : Master) (v : Word) (s : State) : Out := fuCommand .FU_INJ (fuInjOp { v := v.toNat }) m s

/-- A write of FU_LOG_STATUS: LOG_LOST cleared clears LOST_CNT and the backstop (R311). -/
def fuLogStatusOp (w : RegW) (s : State) : State × Nat :=
  let clr := w.has FU_LOG_STATUS_LOG_LOST && w.val FU_LOG_STATUS_LOG_LOST == 1
  let s := [FU_LOG_STATUS_LOG_LOST, FU_LOG_STATUS_HBM_FAIL, FU_LOG_STATUS_ODL_FAIL, FU_LOG_STATUS_RING_FULL].foldl (fun s f => s.w1c w f) s
  (if clr then (List.range 4).foldl (fun s b => (s.clrReg .FU_BACKSTOP0 b).clrReg .FU_BACKSTOP1 b) (s.p FU_LOG_STATUS_LOST_CNT 0) else s, ST_OK)

/-- A write of a reaction entry: one of an undefined source changes nothing (R300). -/
def fuSrcOp (n : Nat) (w : RegW) (s : State) : State × Nat :=
  if !(sourceDefined n) then (s, ST_OK)
  else ((s.putAll w [FU_SRC_LEVEL_CE, FU_SRC_LEVEL_NC, FU_SRC_LEVEL_PF, FU_SRC_LEVEL_DF] n).w1c w FU_SRC_LATCHED n, ST_OK)

/-- A write of the first-error capture: VALID cleared clears MORE with it (Table 15-10). -/
def fuFirstOp (k : Nat) (w : RegW) (s : State) : State × Nat :=
  if w.has FU_FIRST5_VALID && w.val FU_FIRST5_VALID = 1 then ((s.p FU_FIRST5_VALID 0 k).p FU_FIRST5_MORE 0 k, ST_OK) else (s, ST_OK)

end Sys2Proof.Machine
end

