-- ==== Sys2Proof/Machine/Damper.lean ====
section
/-! DEFINITION. Damper: slot power, the breaker, warnings, capture and the power-fail response (R338 to R355). -/

namespace Sys2Proof.Machine

/-- A channel. -/
def State.dm (s : State) (c : Nat) : Damper := ngetD s.dmp c {}

/-- A channel changed. -/
def State.dmMod (s : State) (c : Nat) (f : Damper → Damper) : State := { s with dmp := nput {} c (f (s.dm c)) s.dmp }

/-- A channel in RAMP or ON. -/
def State.powered (s : State) (c : Nat) : Bool := s.g DMP_STATUS_STATE c == 1 || s.g DMP_STATUS_STATE c == 2

/-- The condition of a bit of DMP_ERR. -/
def dmpCond (b : Fld) (c : Nat) : Nat × Nat := (src 0x0F b.lsb, scope 8 c)

/-- A fault of a channel: its bit set, and recorded (R355). -/
def State.dmpFault (s : State) (b : Fld) (c cls : Nat) (aux : Nat := 0) : State :=
  (s.setF b c).report { source := src 0x0F b.lsb, cls := cls, scope := scope 8 c, aux := aux }

/-! ## Curves (R345, R346) -/

/-- The enabled points of a curve: number, current and time. -/
def State.curve (s : State) (n : Nat) : List (Nat × Nat × Nat) :=
  ((List.range 8).filter (fun k => s.on DMP_CURVE_EN n k)).map (fun k => (k, s.g DMP_CURVE_I_MA n k, s.g DMP_CURVE_T_US n k))

/-- Over points in order, the current rises and the time falls. -/
def curveRuns : List (Nat × Nat × Nat) → Bool
  | a :: b :: r => decide (a.2.1 < b.2.1) && decide (b.2.2 < a.2.2) && curveRuns (b :: r)
  | _ => true

/-- A valid curve (R346). -/
def State.curveValid (s : State) (n : Nat) : Bool := s.curve n != [] && curveRuns (s.curve n)

/-! ## PWRWARN_N (R349) -/

/-- A point of the channel's curve has counted WARN_PCT of its time. -/
def State.pointWarns (s : State) (c : Nat) : Bool :=
  (s.curve (s.g DMP_CFG_CURVE_SEL c)).any (fun p => ngetD (s.dm c).counts p.1 0 * 100 ≥ s.g DMP_LIM_WARN_PCT c * p.2.2)

/-- Whether a condition of R349 holds. -/
def State.warns (s : State) (c : Nat) : Bool :=
  s.on DMP_CTRL_FORCE_WARN c ||
  (s.powered c && ((s.dm c).belowVin || s.pointWarns c || (s.on DMP_GSTATUS_PF_ACTIVE && s.on DMP_PFAIL_CFG_PF_WARN)))

/-- PWRWARN_N asserted where a condition holds, and released where none does and its 100 µs have passed. -/
def State.warnRefresh (s : State) (c : Nat) : State :=
  if s.warns c then (if s.on DMP_STATUS_PWRWARN c then s else (s.setF DMP_STATUS_PWRWARN c).dmMod c (fun x => { x with hold := true }))
  else if (s.dm c).hold then s
  else s.p DMP_STATUS_PWRWARN 0 c

/-- Every channel's PWRWARN_N. -/
def State.warnAll (s : State) : State := (List.range 32).foldl (fun s c => s.warnRefresh c) s

/-! ## States (Table 17-2) -/

/-- BUDGET_USED_W (R351). -/
def State.budgetRefresh (s : State) : State :=
  s.p DMP_GSTATUS_BUDGET_USED_W ((List.range 32).foldl (fun n c => if s.powered c then n + s.g DMP_CFG_BUDGET_W c else n) 0)

/-- A channel enters a state; in all but RAMP and ON its gate is low, and the time it has been low runs on from one such state to the next. -/
def State.dmpSet (s : State) (c v : Nat) : State :=
  let s := s.p DMP_STATUS_STATE v c
  let s := if v = 1 then s.dmMod c (fun x => { x with counts := [], overdrive := false, low := 0 }) else s
  s.budgetRefresh.warnRefresh c

/-- A trip: the winner sets the cause and its one record, whose AUX is the last current sample; a gate that is low does not trip (R348, Table 17-6). -/
def State.trip (s : State) (c cause point : Nat) (b : Fld) : State :=
  if !(s.powered c) then s
  else
    let s := ((s.p DMP_STATUS_TRIP_CAUSE cause c).p DMP_STATUS_TRIP_POINT point c).inc DMP_STATUS_TRIPS c
    ((s.dmpFault b c PF (s.g DMP_MEAS_I_MA c)).condBegin (dmpCond b c).1 (dmpCond b c).2).dmpSet c 3

/-- A channel enters FAULT. -/
def State.dmpFail (s : State) (c cause : Nat) (b : Fld) : State :=
  (((s.p DMP_STATUS_TRIP_CAUSE cause c).dmpFault b c PF).condBegin (dmpCond b c).1 (dmpCond b c).2).dmpSet c 4

/-- A channel that is neither tripped nor failed any more: OFF, its conditions over. -/
def State.dmpOff (s : State) (c : Nat) : State :=
  let s := [DMP_ERR_TRIP_CURVE, DMP_ERR_TRIP_FAST, DMP_ERR_GATE_FAIL, DMP_ERR_PG_FAIL, DMP_ERR_FET_SHORT].foldl
    (fun s b => if s.cond (dmpCond b c).1 (dmpCond b c).2 then s.condEnd (dmpCond b c).1 (dmpCond b c).2 else s) s
  (s.p DMP_STATUS_TRIP_CAUSE 0 c).dmpSet c 0

/-! ## Commands (Table 17-3) -/

/-- POWER_ON. -/
def powerOnOp (c : Nat) (s : State) : State × Nat :=
  if s.powered c then (s, ST_LATE)
  else if s.g DMP_STATUS_STATE c ≠ 0 || s.on PU_STATUS_PILOT || s.g DMP_LIM_FAST_MA c = 0 || !(s.curveValid (s.g DMP_CFG_CURVE_SEL c)) ||
     s.on DMP_STATUS_SHORT_NOW c then (s, ST_ACCESS_DENIED)
  else if s.g DMP_CFG_BUDGET_W c + s.g DMP_GSTATUS_BUDGET_USED_W > s.g DMP_GCFG_TOTAL_W then (s, ST_RESOURCE_EXHAUSTED)
  else (s.dmpSet c 1, ST_OK)

/-- POWER_OFF: the mapped port is reset first (R354). -/
def powerOffOp (c : Nat) (force : Bool) (s : State) : State × Nat :=
  let port := s.g DMP_CFG_PORT c
  let valid := s.on DMP_CFG_PORT_VALID c
  if !(s.powered c) then (s, ST_LATE)
  else if valid && !force && s.up && (s.portState port == 0 || s.portState port == 1) then (s, ST_ACCESS_DENIED)
  else
    let s := if valid && s.up then (portResetOp port s).1 else s
    (s.dmpSet c 0, ST_OK)

/-- CLEAR. -/
def dmpClearOp (c : Nat) (s : State) : State × Nat :=
  match s.g DMP_STATUS_STATE c with
  | 3 => (s.dmpOff c, ST_OK)
  | 4 => if s.on DMP_STATUS_SHORT_NOW c then (s, ST_ACCESS_DENIED) else (s.dmpOff c, ST_OK)
  | _ => (s, ST_LATE)

/-- A channel command with its status held. -/
def dmpDo (op : Nat → State → State × Nat) (c : Nat) (s : State) : State × Nat :=
  let r := op c s
  (r.1.p DMP_STATUS_CMD_STATUS r.2 c, r.2)

/-- A command of the always-on domain, by a master, that answers a status. -/
def aonCommand (m : Master) (r : RegName) (i : Nat) (op : State → State × Nat) (s : State) : Out :=
  .next (s.cmdBy m r i (fun s => let q := op s; q.1.reply m q.2))

/-- POWER_ON. -/
def execPowerOn (m : Master) (c : SlotId) (s : State) : Out := aonCommand m .DMP_CTRL c (dmpDo powerOnOp c) s
/-- POWER_OFF. -/
def execPowerOff (m : Master) (c : SlotId) (force : Bool) (s : State) : Out := aonCommand m .DMP_CTRL c (dmpDo (powerOffOp · force) c) s
/-- DAMPER_CLEAR. -/
def execDamperClear (m : Master) (c : SlotId) (s : State) : Out := aonCommand m .DMP_CTRL c (dmpDo dmpClearOp c) s

/-- CURVE_SEL written: refused where it names an invalid curve while the channel is in RAMP or ON; otherwise every counter restarts (R346). -/
def curveSelOp (c n : Nat) (s : State) : State × Nat :=
  if s.powered c && !(s.curveValid n) then (s, ST_ACCESS_DENIED)
  else (((s.p DMP_CFG_CURVE_SEL n c).dmMod c (fun x => { x with counts := [] })).warnRefresh c, ST_OK)

/-- CURVE_SELECT_WRITE. -/
def execCurveSelectWrite (m : Master) (c : SlotId) (n : Fin 8) (s : State) : Out := aonCommand m .DMP_CFG c (curveSelOp c n) s

/-! ## Register writes (Tables 17-8 to 17-11) -/

/-- Whether a field that a write carries lies in its range. -/
def RegW.within (w : RegW) (f : Fld) (lo hi : Nat) : Bool := !(w.has f) || (lo ≤ w.val f && w.val f ≤ hi)

/-- DMP_CTRL: FORCE_WARN, and at most one command. -/
def dmpCtrlOp (c : Nat) (w : RegW) (s : State) : State × Nat :=
  let set (f : Fld) : Bool := w.has f && w.val f == 1
  if w.commands [DMP_CTRL_POWER_ON, DMP_CTRL_POWER_OFF, DMP_CTRL_CLEAR] > 1 then (s.p DMP_STATUS_CMD_STATUS ST_ACCESS_DENIED c, ST_ACCESS_DENIED)
  else
    let r := if set DMP_CTRL_POWER_ON then dmpDo powerOnOp c s
      else if set DMP_CTRL_POWER_OFF then dmpDo (powerOffOp · (set DMP_CTRL_FORCE)) c s
      else if set DMP_CTRL_CLEAR then dmpDo dmpClearOp c s
      else (s, ST_OK)
    if r.2 ≠ ST_OK then r else ((r.1.putW w DMP_CTRL_FORCE_WARN c).warnRefresh c, ST_OK)

/-- DMP_CFG: fields marked OFF only change in OFF. -/
def dmpCfgOp (c : Nat) (w : RegW) (s : State) : State × Nat :=
  let off := [DMP_CFG_PORT, DMP_CFG_PORT_VALID, DMP_CFG_RAMP_VMS, DMP_CFG_GATE_TMO_MS, DMP_CFG_BUDGET_W]
  let sel := s.after w DMP_CFG_CURVE_SEL c
  if !(w.within DMP_CFG_RAMP_VMS 1 24 && w.within DMP_CFG_GATE_TMO_MS 1 255 && w.within DMP_CFG_BUDGET_W 1 150) ||
     (s.g DMP_STATUS_STATE c ≠ 0 && off.any (fun f => s.changes w f c)) ||
     (w.has DMP_CFG_CURVE_SEL && s.powered c && !(s.curveValid sel)) then (s, ST_ACCESS_DENIED)
  else
    let s := s.putAll w (off ++ [DMP_CFG_AUTO_ON, DMP_CFG_AUTO_OFF]) c
    if w.has DMP_CFG_CURVE_SEL then curveSelOp c sel s else (s, ST_OK)

/-- DMP_LIM. -/
def dmpLimOp (c : Nat) (w : RegW) (s : State) : State × Nat :=
  if !((w.within DMP_LIM_FAST_MA 1000 40000 || w.val DMP_LIM_FAST_MA = 0) && w.within DMP_LIM_PG_MV 8000 12000 && w.within DMP_LIM_SHORT_MV 500 11000 &&
     w.within DMP_LIM_SHORT_DLY_MS 1 255 && w.within DMP_LIM_WARN_PCT 50 100) then (s, ST_ACCESS_DENIED)
  else (s.putAll w [DMP_LIM_FAST_MA, DMP_LIM_PG_MV, DMP_LIM_SHORT_MV, DMP_LIM_SHORT_DLY_MS, DMP_LIM_WARN_PCT] c, ST_OK)

/-- A point of a curve, while no channel in RAMP or ON selects it (R346). -/
def dmpCurveOp (n k : Nat) (w : RegW) (s : State) : State × Nat :=
  if (List.range 32).any (fun c => s.powered c && s.g DMP_CFG_CURVE_SEL c == n) || !(w.within DMP_CURVE_I_MA 1 40000) || !(w.within DMP_CURVE_T_US 1 16777215)
  then (s, ST_ACCESS_DENIED)
  else (s.putAll w [DMP_CURVE_I_MA, DMP_CURVE_EN, DMP_CURVE_T_US] n k, ST_OK)

/-- DMP_GCFG. -/
def dmpGcfgOp (w : RegW) (s : State) : State × Nat :=
  if !(w.within DMP_GCFG_TOTAL_W 1 2400 && w.within DMP_GCFG_WIN_MS 1 60000 && w.within DMP_GCFG_WARN_VIN_MV 8000 13000) then (s, ST_ACCESS_DENIED)
  else (s.putAll w [DMP_GCFG_TOTAL_W, DMP_GCFG_WIN_MS, DMP_GCFG_WARN_VIN_MV], ST_OK)

/-- DMP_PFAIL_CFG. -/
def dmpPfailOp (w : RegW) (s : State) : State × Nat :=
  if !(w.within DMP_PFAIL_CFG_HOLDUP_US 100 65535) then (s, ST_ACCESS_DENIED)
  else ((s.putAll w [DMP_PFAIL_CFG_PF_EN, DMP_PFAIL_CFG_PF_MSC_OFF, DMP_PFAIL_CFG_PF_FLUSH, DMP_PFAIL_CFG_PF_REFLUSH, DMP_PFAIL_CFG_PF_WARN,
    DMP_PFAIL_CFG_HOLDUP_US]).warnAll, ST_OK)

/-! ## Samples -/

/-- DAMPER_CURRENT_SAMPLE (R345): each enabled point counts the sample or restarts, and a counter that reaches its time trips the channel. Where several
do in one sample, which point is named is a free choice (log 1). -/
def execDamperCurrentSample (c : SlotId) (ma : Fin 40001) (s : State) : Out :=
  let s := (s.p DMP_MEAS_I_MA ma c).hwm DMP_CAP_PEAK_HOLD_MA ma c
  let s := s.dmMod c (fun x => { x with peak := max x.peak ma })
  if !(s.powered c) then .next s
  else
    let ps := s.curve (s.g DMP_CFG_CURVE_SEL c)
    let n (k i : Nat) : Nat := if ma.val ≥ i then ngetD (s.dm c).counts k 0 + 1 else 0
    let hit := ps.filter (fun p => n p.1 p.2.1 ≥ p.2.2)
    let s := (s.dmMod c (fun x => { x with counts := (ps.filter (fun p => n p.1 p.2.1 != 0)).map (fun p => (p.1, n p.1 p.2.1)) })).warnRefresh c
    match hit with
    | [] => .next s
    | [p] => .next (s.trip c 1 p.1 DMP_ERR_TRIP_CURVE)
    | ps => let r := s.fresh
      .next (r.2.trip c 1 ((ps.map (·.1)).getD (r.1.toNat % ps.length) 0) DMP_ERR_TRIP_CURVE)

/-- FAST_TRIP (R347). -/
def execFastTrip (c : SlotId) (s : State) : Out := .next (s.trip c 2 (s.g DMP_STATUS_TRIP_POINT c) DMP_ERR_TRIP_FAST)

/-- GATE_TIMEOUT (R343). -/
def execGateTimeout (c : SlotId) (s : State) : Out :=
  .next (if s.g DMP_STATUS_STATE c ≠ 1 then s
    else if (s.dm c).overdrive then s.dmpFail c 4 DMP_ERR_PG_FAIL else s.dmpFail c 3 DMP_ERR_GATE_FAIL)

/-- VIN against its warning level: recorded once for each entry (R349). -/
def State.vinCheck (s : State) (c vin : Nat) : State :=
  let low := vin < s.g DMP_GCFG_WARN_VIN_MV
  let was := (s.dm c).belowVin
  let s := s.dmMod c (fun x => { x with belowVin := low })
  let k := dmpCond DMP_ERR_WARN_VIN c
  let s := if low && !was then (s.dmpFault DMP_ERR_WARN_VIN c CE).condBegin k.1 k.2 else if was && !low then s.condEnd k.1 k.2 else s
  s.warnRefresh c

/-- The gate check of RAMP (R342). -/
def State.rampCheck (s : State) (c vout : Nat) (ov : Int) : State :=
  if s.g DMP_STATUS_STATE c ≠ 1 then s
  else
    let s := s.dmMod c (fun x => { x with overdrive := x.overdrive || decide (ov > 4000) })
    if vout ≥ s.g DMP_LIM_PG_MV c && ov > 4000 then s.dmpSet c 2 else s

/-- Short detection (R344): samples of 8 µs with the gate low are counted up to SHORT_DLY_MS. -/
def State.shortCheck (s : State) (c vout : Nat) : State :=
  let s := if s.powered c then s else s.dmMod c (fun x => { x with low := min (x.low + 1) (s.g DMP_LIM_SHORT_DLY_MS c * 125) })
  if vout < s.g DMP_LIM_SHORT_MV c then
    if !(s.on DMP_STATUS_SHORT_NOW c) then s
    else
      let k := dmpCond DMP_ERR_FET_SHORT c
      let s := (s.p DMP_STATUS_SHORT_NOW 0 c).condEnd k.1 k.2
      if s.on PU_STATUS_PILOT then s.dmpOff c else s
  else if s.powered c || s.on DMP_STATUS_SHORT_NOW c || (s.dm c).low < s.g DMP_LIM_SHORT_DLY_MS c * 125 then s
  else (s.setF DMP_STATUS_SHORT_NOW c).dmpFail c 5 DMP_ERR_FET_SHORT

/-- DAMPER_VOLTAGE_SAMPLE. -/
def execDamperVoltageSample (c : SlotId) (vin : Fin 16001) (vout : Fin 16001) (overdrive : BitVec 16) (s : State) : Out :=
  let s := ((s.p DMP_MEAS_VIN_MV vin c).p DMP_MEAS_VOUT_MV vout c).p DMP_MEAS_GATE_OV_MV overdrive.toNat c
  let s := s.dmMod c (fun x => { x with minVout := some (min (x.minVout.getD vout) vout), minVin := some (min (x.minVin.getD vin) vin) })
  .next ((((s.rampCheck c vout (sext overdrive.toNat 16)).shortCheck c vout).vinCheck c vin))

/-- CAPTURE_WINDOW_END (R350). -/
def execCaptureWindowEnd (s : State) : Out :=
  .next ((List.range 32).foldl (fun s c =>
    let x := s.dm c
    let s := s.p DMP_CAP_PEAK_MA x.peak c
    let s := match x.minVout with | some v => s.p DMP_CAP_MIN_VOUT_MV v c | none => s
    let s := match x.minVin with | some v => s.p DMP_CAP_MIN_VIN_MV v c | none => s
    s.dmMod c (fun x => { x with peak := 0, minVout := none, minVin := none })) s)

/-- PWRWARN_HOLD_END (R349). -/
def execPwrwarnHoldEnd (c : SlotId) (s : State) : Out := .next ((s.dmMod c (fun x => { x with hold := false })).warnRefresh c)

/-- A slot's presence as the sideband polls it, with what a change of it does (R354). -/
def State.presence (s : State) (c : Nat) (b : Bool) : State :=
  if s.on DMP_STATUS_PRESENT c == b then s
  else
    let s := s.pb DMP_STATUS_PRESENT b c
    if b then (if s.on DMP_CFG_AUTO_ON c && s.g DMP_STATUS_STATE c == 0 then (dmpDo powerOnOp c s).1 else s)
    else if s.powered c then
      let s := s.dmpFault DMP_ERR_PRESENCE_LOST c CE
      if s.on DMP_CFG_AUTO_OFF c then (dmpDo (powerOffOp · true) c s).1 else s
    else s

/-! ## Line-card power failure (R352, R353) -/

/-- The source of a bit of DMP_GERR. -/
def gerrSrc (b : Fld) : Nat := src 0x0F (32 + b.lsb)

/-- Dirty lines of both slices. -/
def State.dirtyLines (s : State) : Nat := s.dirtyOf 0 + s.dirtyOf 1

/-- PF_ACTIVE ends once PF_DONE and MSC_EN are 1. -/
def State.pfClear (s : State) : State :=
  if s.on DMP_GSTATUS_PF_ACTIVE && s.on DMP_GSTATUS_PF_DONE && s.on HOME_CFG_MSC_EN then (s.p DMP_GSTATUS_PF_ACTIVE 0).warnAll else s

/-- The response is complete (R352, step 4). -/
def State.pfDone (s : State) : State :=
  let s := (s.setF DMP_GSTATUS_PF_DONE).p DMP_GSTATUS_PF_FLUSH_NS (min (s.now - s.pu.pfStart) (2 ^ 32 - 1))
  let s := if s.cond (gerrSrc DMP_GERR_PF_LATE) 0 then s.condEnd (gerrSrc DMP_GERR_PF_LATE) 0 else s
  s.pfClear

/-- A flush has completed while the response runs: flushed again while lines are dirty, or done. -/
def State.pfFlushDone (s : State) : State :=
  if !(s.on DMP_GSTATUS_PF_ACTIVE) || s.on DMP_GSTATUS_PF_DONE then s
  else if s.dirtyLines ≠ 0 && s.on DMP_PFAIL_CFG_PF_REFLUSH then (flushOp s).1
  else s.pfDone

/-- The response starts. Where no flush is enabled, or the main domain does not run, nothing is left to wait for. -/
def State.pfStart (s : State) : State :=
  let s := { s with pu := { s.pu with pfStart := s.now } }
  let s := ((s.setF DMP_GSTATUS_PF_ACTIVE).p DMP_GSTATUS_PF_DONE 0).setF DMP_GERR_PFAIL
  let s := (s.report { source := gerrSrc DMP_GERR_PFAIL, cls := PF, scope := 0 }).condBegin (gerrSrc DMP_GERR_PFAIL) 0
  let s := if s.up && s.on DMP_PFAIL_CFG_PF_MSC_OFF then s.p HOME_CFG_MSC_EN 0 else s
  let s := s.warnAll
  if s.up && s.on DMP_PFAIL_CFG_PF_FLUSH then (flushOp s).1 else s.pfDone

/-- PFAIL_ASSERT: while a response runs, it runs on. -/
def execPfailAssert (s : State) : Out :=
  let s := { s.setF DMP_GSTATUS_PFAIL_NOW with pins := { s.pins with pfailN := false } }
  .next (if !(s.on DMP_PFAIL_CFG_PF_EN) || (s.on DMP_GSTATUS_PF_ACTIVE && !(s.on DMP_GSTATUS_PF_DONE)) then s else s.pfStart)

/-- PFAIL_RELEASE: the response runs on (R353). -/
def execPfailRelease (s : State) : Out :=
  let s := { s.p DMP_GSTATUS_PFAIL_NOW 0 with pins := { s.pins with pfailN := true } }
  .next (if s.cond (gerrSrc DMP_GERR_PFAIL) 0 then s.condEnd (gerrSrc DMP_GERR_PFAIL) 0 else s)

/-- HOLDUP_TIMEOUT. -/
def execHoldupTimeout (s : State) : Out :=
  .next (if s.on DMP_GSTATUS_PF_ACTIVE && !(s.on DMP_GSTATUS_PF_DONE) && !(s.cond (gerrSrc DMP_GERR_PF_LATE) 0) then
    ((s.setF DMP_GERR_PF_LATE).condBegin (gerrSrc DMP_GERR_PF_LATE) 0).fault (gerrSrc DMP_GERR_PF_LATE) DF 0
  else s)

end Sys2Proof.Machine
end

