-- ==== Sys2Proof/Machine/Clocks.lean ====
section
/-! DEFINITION. The time base, the core voltage and the islands' clocks (R31 to R39, R62, R333, R433). -/

namespace Sys2Proof.Machine

/-- The time base and the islands run from the first self-test stage on (R395). -/
def State.tbUp (s : State) : Bool := s.g PU_STATUS_STAGE != 0

/-- An effect of the time base and the islands. -/
def whenTb (s : State) (f : State → State) : Out := .next (if s.tbUp then f s else s)

/-! ## TB_NOW (R37, R39) -/

/-- SLEW_PPB in force: clamped to ±200,000. -/
def slewClamp (v : Nat) : Int := max (-200000) (min 200000 (sext v 24))

/-- One nanosecond of the island clock: TB_NOW advances at the slewed rate, and in holdover at a rate that lies within ±5 % of it (log 1). -/
def State.tbTick (s : State) : State :=
  if !s.tbUp then s
  else
    let hold := s.on TB_STATUS_HOLDOVER
    let r := s.fresh
    let s := if hold then r.2 else s
    let base := if hold then 950000000 + r.1.toNat % 100000001 else 1000000000
    let n := ((s.clk.frac + base : Nat) + slewClamp (s.g TB_ADJ_SLEW_PPB)).toNat
    let s := { s with clk := { s.clk with frac := n % 1000000000 } }
    s.p TB_NOW_NOW_NS (s.now + n / 1000000000)

/-- TB_NOW steps forward once; a step of 0 is none (R37). -/
def State.tbForward (s : State) (ns : Nat) : State := if ns = 0 then s else (s.p TB_NOW_NOW_NS (s.now + ns)).inc TB_STATUS_STEP_COUNT

/-- A write of TB_STEP. -/
def tbStepOp (ns : Nat) (s : State) : State × Nat := (s.tbForward ns, ST_OK)

/-- A write of TB_ADJ: a larger value is clamped. -/
def tbAdjOp (w : RegW) (s : State) : State × Nat :=
  (s.p TB_ADJ_SLEW_PPB (wrap (slewClamp (s.after w TB_ADJ_SLEW_PPB)) 24), ST_OK)

/-- The condition that PPS edges are absent. -/
def ppsCond : Nat × Nat := (src 0x02 3, 0)

/-- An absence of PPS edges is over (R309, R433). -/
def State.absenceEnd (s : State) : State :=
  let s := if s.clk.absent then s.condEnd ppsCond.1 ppsCond.2 else s
  { s with clk := { s.clk with absent := false } }

/-- A write of TB_CFG: PPS_EN written 0 ends an absence. -/
def tbCfgOp (w : RegW) (s : State) : State × Nat :=
  let s := s.putAll w [TB_CFG_TICK_SEL, TB_CFG_PPS_EN, TB_CFG_PPS_EDGE]
  (if s.on TB_CFG_PPS_EN then s else s.absenceEnd, ST_OK)

/-- A command of the time base block: its registers are reachable in pilot-light state (R398). -/
def tbCommand (m : Master) (r : RegName) (op : State → State × Nat) (s : State) : Out :=
  .next (if s.tbUp then s.cmdBy m r 0 (fun s => let q := op s; q.1.reply m q.2) else s.reply m ST_NO_MATCH)

/-- TB_STEP. -/
def execTbStep (m : Master) (ns : Fin 4294967296) (s : State) : Out := tbCommand m .TB_STEP (tbStepOp ns) s

/-- Whether TB_NOW is disciplined from PPS_IN here: not on a stack member (R333). -/
def State.ppsOn (s : State) : Bool := s.on TB_CFG_PPS_EN && s.g STK_STATUS_STATE != 2

/-- A device that becomes a member: PPS_LOCKED reads 0, and an absence is no longer one of its conditions (R333). -/
def State.ppsOff (s : State) : State := (s.p TB_STATUS_PPS_LOCKED 0).absenceEnd

/-- PPS_EDGE (R37, R433): the offset of the edge from the second boundary is taken, an absence ends, and the rate is disciplined within ±200 ppm; by how
much the spec leaves open (log 1). DESIGN CHOICE (log 123): while PPS_EN is 0, and on a stack member, an edge changes neither PPS_OFFSET nor
PPS_LOCKED. -/
def execPpsEdge (s : State) : Out :=
  whenTb s fun s =>
    if !s.ppsOn then s
    else
      let r := s.now % 1000000000
      let off : Int := if r < 500000000 then r else (r : Int) - 1000000000
      let q := s.fresh
      let s := (q.2.p TB_STATUS_PPS_OFFSET (wrap off 32)).pb TB_STATUS_PPS_LOCKED (decide (off.natAbs ≤ 100))
      (s.p TB_ADJ_SLEW_PPB (wrap (slewClamp q.1.toNat) 24)).absenceEnd

/-- PPS_ABSENCE (R433): recorded once for each absence. -/
def execPpsAbsence (s : State) : Out :=
  whenTb s fun s =>
    if !s.ppsOn || s.clk.absent then s
    else
      let s := (s.setF TB_STATUS_PPS_LOST).p TB_STATUS_PPS_LOCKED 0
      let s := (s.fault ppsCond.1 CE ppsCond.2).condBegin ppsCond.1 ppsCond.2
      { s with clk := { s.clk with absent := true } }

/-- The condition of holdover. -/
def holdCond : Nat × Nat := (src 0x02 2, 0)

/-- HOLDOVER (R39). -/
def execHoldover (s : State) : Out :=
  whenTb s fun s =>
    if s.on TB_STATUS_HOLDOVER then s
    else ((s.setF TB_STATUS_HOLDOVER).fault holdCond.1 CE holdCond.2).condBegin holdCond.1 holdCond.2

/-! ## Core voltage (R33, R34) -/

/-- A target goes to the regulator; it is in force unless AVS_NAK follows. -/
def State.avsSend (s : State) (mv : Nat) : State :=
  ({ s with clk := { s.clk with lastMv := s.g AVS_STATUS_VCMD_MV } }.p AVS_STATUS_VCMD_MV mv).send (.avs mv)

/-- A write of AVS_CTRL. -/
def avsOp (w : RegW) (s : State) : State × Nat :=
  if !(w.within AVS_CTRL_VTARGET_MV (s.g AVS_STATUS_VMIN_FUSE_MV) 850) || !(w.within AVS_CTRL_STEP_MV 1 25) then (s, ST_ACCESS_DENIED)
  else
    let s := s.putAll w [AVS_CTRL_VTARGET_MV, AVS_CTRL_AUTO_RAISE, AVS_CTRL_STEP_MV]
    (if w.has AVS_CTRL_VTARGET_MV then s.avsSend (w.val AVS_CTRL_VTARGET_MV) else s, ST_OK)

/-- AVS_TARGET_WRITE. -/
def execAvsTargetWrite (m : Master) (mv : Fin 1024) (autoRaise : Bool) (step : Fin 256) (s : State) : Out :=
  tbCommand m .AVS_CTRL (avsOp { v := mv + b2n autoRaise * 2 ^ 16 + step * 2 ^ 24 }) s

/-- AVS_NAK: the last accepted value stays in force. -/
def execAvsNak (s : State) : Out :=
  whenTb s fun s => ((s.p AVS_STATUS_VCMD_MV s.clk.lastMv).setF AVS_STATUS_AVS_NAK).fault (src 0x02 1) CE 0

/-- AUTO_RAISE: up to 850 mV, and counted. -/
def execAutoRaise (s : State) : Out :=
  whenTb s fun s =>
    let v := s.g AVS_STATUS_VCMD_MV
    if !(s.on AVS_STATUS_PACE_LOW) || !(s.on AVS_CTRL_AUTO_RAISE) || v ≥ 850 then s
    else (s.avsSend (min 850 (v + s.g AVS_CTRL_STEP_MV))).inc AVS_STATUS_RAISE_COUNT

/-- A pace monitor's window (R34): below PACE_FLOOR it is recorded, with the monitor in AUX. -/
def State.paceTake (s : State) (mon pace tj : Nat) : State :=
  let s := ((s.p PACE_MON_PACE pace mon).p PACE_MON_PACE_MIN (min (s.g PACE_MON_PACE_MIN mon) pace) mon).p PACE_MON_TJ_C tj mon
  let low := pace < s.g AVS_STATUS_PACE_FLOOR
  let rest := s.clk.low.filter (fun k => k != mon)
  let s := { s with clk := { s.clk with low := if low then mon :: rest else rest } }
  let s := s.pb AVS_STATUS_PACE_LOW (low || rest != [])
  let k := src 0x02 0
  if low then ((s.setF AVS_STATUS_PACE_LOW_LATCHED).report { source := k, cls := CE, scope := 0, aux := mon }).condBegin k 0
  else if rest = [] && s.cond k 0 then s.condEnd k 0 else s

/-! ## Islands (R35, R36, R62) -/

/-- The leads of a port group. -/
def State.groupLeads (s : State) (i : Nat) : List Nat := ((List.range 4).map (4 * i + ·)).filter (fun c => !(s.isFollower c))

/-- ISLAND_CLOCK_LOSS: the ports of a port group take a port reset. The time base and the Damper ADC go on from the internal oscillator (R39, R339). -/
def execIslandClockLoss (i : IslandId) (s : State) : Out :=
  whenTb s fun s =>
    let k := clkCond i
    if s.cond k.1 k.2 then s
    else
      let s := s.setF ISL_STATUS_CLK_LOST i
      let s := s.p ISL_STATUS_CLK_PRESENT 0 i
      let s := (s.fault k.1 PF k.2).condBegin k.1 k.2
      if i.val ≥ 32 || !s.up then s
      else (s.groupLeads i).foldl (fun s c => (s.portFault PC_ERR_STATUS_CLK_LOSS c PF [k]).portReset c) s

/-- A write of the device's own that waited for an HBM clock is made (R36). -/
def State.hbmMake (s : State) : HbmJob → State
  | .chimney h bs => s.chimneyPut h bs
  | .move bs => s.movePut bs
  | .slot k v => s.slotPut k v
  | .heat fpa w => s.heatSample fpa w
  | .moved page ms => s.movedPut page ms

/-- An island's clock is back; with both HBM stacks clocked, what waited for them is written in order (R36). -/
def State.clockBack (s : State) (i : Nat) : State :=
  let k := clkCond i
  let s := s.setF ISL_STATUS_CLK_PRESENT i
  let s := if s.cond k.1 k.2 then s.condEnd k.1 k.2 else s
  if s.hbmUp && s.plc.waits != [] then s.plc.waits.foldl (fun s j => s.hbmMake j) { s with plc := { s.plc with waits := [] } } else s

/-- ISLAND_CLOCK_RETURN: the group's ports train again; a port reset still under way is over by then (R62). -/
def execIslandClockReturn (i : IslandId) (s : State) : Out :=
  whenTb s fun s =>
    let s := s.clockBack i
    if i.val ≥ 32 || !s.up then s
    else (s.groupLeads i).foldl (fun s c =>
      let s := if (s.port c).resetting then s.portResetDone c else s
      if s.g PC_QUIESCE_STATUS_STATE c == 3 then s.trainFromDetect c else s) s

/-- REFERENCE_CLOCK_RETURN: only the time base and the Damper ADC run in holdover. -/
def execReferenceClockReturn (i : IslandId) (s : State) : Out :=
  whenTb s fun s =>
    if i.val ≠ 38 && i.val ≠ 39 then s
    else
      let s := s.clockBack i
      if i.val = 38 && s.on TB_STATUS_HOLDOVER then (s.p TB_STATUS_HOLDOVER 0).condEnd holdCond.1 holdCond.2 else s

/-- SYNC_ERR. -/
def execSyncErr (i : IslandId) (s : State) : Out :=
  whenTb s fun s => (s.setF ISL_STATUS_SYNC_ERR i).fault (src 0x02 5) PF (scope 5 i)

end Sys2Proof.Machine
end

