-- ==== Sys2Proof/Machine/Hjelvon.lean ====
section
/-! DEFINITION. Hjelvon: channels, key slots, the DRBG, tally words and rollback counters, gates, pages and SPDM (R358, R361 to R376). -/

namespace Sys2Proof.Machine

/-! ## Key slots (R363 to R365) -/

/-- A key slot. -/
def State.slot (s : State) (n : Nat) : KeySlot := ngetD s.hj.slots n {}

/-- A key slot set. -/
def State.keySet (s : State) (n : Nat) (x : KeySlot) : State := { s with hj := { s.hj with slots := nput {} n x s.hj.slots } }

/-- A slot zeroised: EMPTY, its generation kept. -/
def State.keyZero (s : State) (n : Nat) : State := s.keySet n { gen := (s.slot n).gen }

/-- A key installed: its generation advances, and every operation started after uses it. -/
def State.slotInstall (s : State) (n type usage owner key : Nat) : State :=
  s.keySet n { state := 1, type := type, usage := usage, owner := owner, gen := ((s.slot n).gen + 1) % 2 ^ 16, key := key }

/-- The usages a type allows (Table 18-4). -/
def typeUsage (type : Nat) : Nat := match type with | 1 => 3 | 2 | 3 | 4 => 4 | 5 => 8 | _ => 0

/-- The bytes of a key of a type (log 24). -/
def keyLen (type : Nat) : Nat := match type with | 1 | 5 => 32 | 2 | 3 => 48 | _ => 4896

/-- The bytes of a public key of a type (Table 18-1). -/
def pubLen (type : Nat) : Nat := if type = 3 then 97 else if type = 4 then 2592 else 0

/-- A fault of Hjelvon (R376). -/
def State.hjFault (s : State) (b : Fld) (cls : Nat) : State := (s.setF b).report { source := src 0x10 b.lsb, cls := cls, scope := 0 }

/-! ## Channels (R361, R362) -/

/-- A channel's command, and the commands that run. -/
def State.hjOp (s : State) (k : Nat) : Option HjOp := nget? k s.hj.ops
def State.hjSet (s : State) (k : Nat) (o : HjOp) : State := { s with hj := { s.hj with ops := nset k o s.hj.ops } }
def State.hjRunning (s : State) : List (Nat × HjOp) := s.hj.ops.filter (fun e => e.2.running)

/-- The operations that hold a slot. -/
def State.users (s : State) (n : Nat) : List (Nat × HjOp) := s.hjRunning.filter (fun e => e.2.slot == some n)

/-- A command ends: its status and tag are stored. -/
def State.hjEnd (s : State) (k : Nat) (o : HjOp) (st : Nat) : State :=
  let s := o.reads.foldl (fun s j => s.jobDrop j) s
  let s := { s with hj := { s.hj with ops := nerase k s.hj.ops, done := if s.hj.done.contains k then s.hj.done else k :: s.hj.done } }
  (((s.p HJ_RESP_STATUS st k).p HJ_RESP_TAG o.tag k).p HJ_RESP_BUSY 0 k).pb HJ_RESP_TAG_FAIL o.tagFail k

/-- An argument of a command. -/
def HjOp.arg (o : HjOp) (a : Nat) : Nat := o.args.getD a 0

/-- The AAD length and the length of AAD and text of a GCM command. -/
def HjOp.aadLen (o : HjOp) : Nat := bits (o.arg 3) 32 10
def HjOp.gcmLen (o : HjOp) : Nat := o.arg 3 % 2 ^ 21

/-- The level a command's master has at Hjelvon: 0 P0, 1 P1, 2 the bridge. -/
def State.hjLevel (s : State) : Master → Nat
  | .thread t => s.priv t
  | .bridge => 2
  | _ => 0

/-- Whether an opcode is one of Table 18-3. -/
def hjKnown (op : Nat) : Bool := [0x01, 0x02, 0x03, 0x04, 0x05, 0x10, 0x11, 0x12, 0x13, 0x14, 0x15, 0x20, 0x30, 0x31, 0x40, 0x41].contains op

/-- Whether a master may use an opcode. -/
def State.hjMay (s : State) (m : Master) (op : Nat) : Bool :=
  let l := s.hjLevel m
  match op with
  | 0x04 | 0x13 | 0x14 | 0x20 | 0x40 => true
  | 0x05 | 0x31 => l == 0
  | 0x30 => l == 0 || (l == 2 && (s.g TALLY_VALUE 0 == 0 || s.g TALLY_VALUE 0 == 2))
  | 0x41 => l != 1
  | _ => l ≤ 1

/-- A slot that an operation of a master is to use with a usage: OK, or why not. A slot that never held a key has none to be zeroised. -/
def State.slotUse (s : State) (m : Master) (n usage : Nat) (types : List Nat) : Nat :=
  let x := s.slot n
  if n < 8 || n > 255 then ST_NO_MATCH
  else if x.state = 2 then ST_KEY_ZEROISED
  else if x.state = 0 then (if x.gen = 0 then ST_NO_MATCH else ST_KEY_ZEROISED)
  else if s.hjLevel m = 1 && x.owner = 0 then ST_ACCESS_DENIED
  else if !(bit x.usage usage) || !(types.contains x.type) then ST_ACCESS_DENIED
  else ST_OK

/-- The slot record of KEY_GEN and KEY_IMPORT: OK, or why it is refused. -/
def State.recordOk (s : State) (m : Master) (a : Nat) : Nat :=
  let n := a % 2 ^ 8
  let type := bits a 12 4
  let usage := bits a 16 4
  if n < 8 then ST_NO_MATCH
  else if (s.hjLevel m = 1 && (bits a 20 1 = 0 || ((s.slot n).state = 1 && (s.slot n).owner = 0))) || type = 0 || type > 5 || usage &&& typeUsage type ≠ usage then ST_ACCESS_DENIED
  else if (s.slot n).state = 2 then ST_RETRY
  else ST_OK

/-- Random output is drawn only while the DRBG can generate (R366, R367). -/
def State.drbgOk (s : State) : Bool := s.on HJ_DRBG_STATUS_INSTANTIATED

/-- Whether an opcode needs random output. -/
def needsRandom (op : Nat) : Bool := [0x01, 0x10, 0x12, 0x20].contains op

/-- One draw of the DRBG for a request. -/
def State.draw (s : State) : Nat × State := (Config.random s.hj.draws, { s with hj := { s.hj with draws := s.hj.draws + 1 } })

/-- What a command reads: address words and lengths. -/
def HjOp.inputs (o : HjOp) : List (Nat × Nat) :=
  match o.opcode with
  | 0x02 => [(o.arg 2, keyLen (bits (o.arg 0) 12 4) + 28)]
  | 0x05 => if o.arg 2 = 0 then [] else [(o.arg 1, o.arg 2)]
  | 0x10 => [(o.arg 1, o.gcmLen)]
  | 0x11 => [(o.arg 1, o.gcmLen + 28)]
  | 0x12 => [(o.arg 1, 48)]
  | 0x13 => [(o.arg 1, 2816), (o.arg 2, 48), (o.arg 3, 4736)]
  | 0x14 | 0x15 => [(o.arg 1, o.arg 2)]
  | _ => []

/-- The slot a command uses and its usage bit and types, where it uses one. -/
def HjOp.uses (o : HjOp) : Option (Nat × Nat × List Nat) :=
  match o.opcode with
  | 0x02 => some (o.arg 1, 3, [5])
  | 0x10 => some (o.arg 0, 0, [1])
  | 0x11 => some (o.arg 0, 1, [1])
  | 0x12 => some (o.arg 0, 2, [3, 4])
  | 0x15 => some (o.arg 0, 2, [2])
  | _ => none

/-- The checks of a command's start beside those of its slot and its reads. -/
def State.hjStartStatus (s : State) (o : HjOp) : Nat :=
  let m := o.master
  match o.opcode with
  | 0x01 | 0x02 => s.recordOk m (o.arg 0)
  | 0x03 =>
    let x := s.slot (o.arg 0)
    if o.arg 0 < 8 || o.arg 0 > 255 then ST_NO_MATCH
    else if x.state ≠ 1 then ST_LATE
    else if s.hjLevel m = 1 && x.owner = 0 then ST_ACCESS_DENIED else ST_OK
  | 0x04 => if o.arg 0 > 255 then ST_NO_MATCH else ST_OK
  | 0x05 => if o.arg 0 > 7 || o.arg 2 > 4096 then ST_ACCESS_DENIED else ST_OK
  | 0x10 | 0x11 => if o.gcmLen > 2 ^ 20 || o.aadLen > o.gcmLen then ST_ACCESS_DENIED else ST_OK
  | 0x20 => if o.arg 2 = 0 || o.arg 2 > 4096 then ST_ACCESS_DENIED else ST_OK
  | _ => ST_OK

/-- Every IDE key cleared: every keyed stream becomes Insecure (R374, R375). -/
def State.ideClear (s : State) : State :=
  s.ports.foldl (fun s e => (e.2.streams.filter (fun x => x.2 == 1)).foldl (fun s x => s.insecure e.1 x.1) s) s

/-- The DRBG state zeroised. -/
def State.drbgZero (s : State) : State := s.p HJ_DRBG_STATUS_INSTANTIATED 0

/-- APPROVED (R373). -/
def State.approve (s : State) : State :=
  s.pb HJ_STATUS_APPROVED (s.g TALLY_VALUE 0 == 1 && s.g TALLY_VALUE 1 ≤ 1 && s.on HJ_STATUS_SELFTEST_OK)

/-- Destinations of an aborted or failed GCM command filled with zeros: what it has written on die at once, what is in fabric memory by
writes of zeros that end before its status is returned (Table 18-3). -/
def zeroJob (j : Job) : Job :=
  { write := true, parts := (j.parts.filter (fun p => p.fin || p.txn.isSome)).map (fun p => { p with data := List.replicate p.len 0, txn := none, fin := false, status := 0 }) }

/-- A command in progress aborted with a status. One that has written part of a GCM destination zero-fills it first, and holds its slot no more. -/
def State.hjAbort (s : State) (k : Nat) (o : HjOp) (st : Nat) : State :=
  match o.out with
  | some j =>
    if o.opcode = 0x10 || o.opcode = 0x11 then
      let s := s.jobDrop j
      s.hjSet k { o with out := some (zeroJob j), status := if o.status = ST_OK then st else o.status, slot := none, key := 0 }
    else (s.jobDrop j).hjEnd k o st
  | none => s.hjEnd k o st

/-- Every command in progress but one is aborted with a status. -/
def State.hjAbortAll (s : State) (k st : Nat) : State :=
  s.hjRunning.foldl (fun s e => if e.1 = k then s else s.hjAbort e.1 e.2 st) s

/-- ZEROISE_ALL (R375). -/
def State.zeroiseAll (s : State) (k : Nat) : State :=
  let s := s.hjAbortAll k ST_KEY_ZEROISED
  let s := (List.range 255).foldl (fun s n => if (s.slot (n + 1)).state = 0 then s else s.keyZero (n + 1)) s
  s.ideClear.drbgZero

/-! ## Starting a command -/

/-- A command starts: its checks, its slot's key captured (R364), and what it reads issued; or the status it ends with at once. -/
def State.hjStart (s : State) (k : Nat) (o : HjOp) : State :=
  let m := o.master
  let st := if !(hjKnown o.opcode) then ST_NO_MATCH else if !(s.hjMay m o.opcode) then ST_ACCESS_DENIED else s.hjStartStatus o
  let st := if st ≠ ST_OK then st else match o.uses with | some u => s.slotUse m u.1 u.2.1 u.2.2 | none => ST_OK
  let st := if st = ST_OK && needsRandom o.opcode && !s.drbgOk then ST_ENTROPY_FAIL else st
  if st ≠ ST_OK then s.hjEnd k o st
  else
    let gate := o.inputs.foldl (fun (q : State × Bool) x => if q.2 then q.1.rangeCheck m x.1 x.2 0 else q) (s, true)
    let pub := if o.opcode = 0x01 then pubLen (bits (o.arg 0) 12 4) else 0
    let gate := if gate.2 && pub ≠ 0 then gate.1.rangeCheck m (o.arg 1) pub 1 else gate
    let s := gate.1
    if !gate.2 then s.hjEnd k o ST_ACCESS_DENIED
    else
      let o := match o.uses with | some u => { o with slot := some u.1, key := (s.slot u.1).key } | none => o
      let s := s.hjSet k { o with running := true, reads := o.inputs.map (fun x => jobRead x.1 x.2) }
      match o.opcode with
      | 0x03 => s.keySet (o.arg 0) { s.slot (o.arg 0) with state := 2 }
      | 0x41 => s.zeroiseAll k
      | _ => s

/-- The waiting channel that starts next: the first after the one started last (R361). -/
def State.hjNext (s : State) : Option (Nat × HjOp) :=
  (List.range 32).findSome? (fun d =>
    let k := (s.hj.last + 1 + d) % 32
    match s.hjOp k with
    | some o => if o.running then none else some (k, o)
    | none => none)

/-- Waiting commands start while fewer than eight run. -/
def State.hjSchedule (s : State) : State :=
  (List.range 32).foldl (fun s _ =>
    if s.hjRunning.length ≥ 8 then s
    else match s.hjNext with
      | some (k, o) => ({ s with hj := { s.hj with last := k } }).hjStart k o
      | none => s) s

/-- A write of HJ_CMD. -/
def hjCmdOp (m : Master) (k op tag : Nat) (s : State) : State × Nat :=
  if s.on HJ_RESP_BUSY k then (s, ST_RESOURCE_EXHAUSTED)
  else if s.hj.done.contains k && s.g HJ_RESP_TAG k = tag then (s, s.g HJ_RESP_STATUS k)
  else
    let o : HjOp := { master := m, opcode := op, tag := tag, args := (List.range 4).map (fun a => s.g HJ_ARG_ARG k a) }
    if s.on HJ_STATUS_ERROR_STATE then (s.hjEnd k o ST_INTERNAL, ST_INTERNAL)
    else
      let s := (((s.hjSet k o).p HJ_RESP_BUSY 1 k).p HJ_RESP_TAG_FAIL 0 k).hjSchedule
      (s, if (s.hjOp k).isSome then ST_OK else s.g HJ_RESP_STATUS k)

/-- A command of a channel. -/
def hjCommand (op : Nat) (m : Master) (k tag : Nat) (s : State) : Out := aonCommand m .HJ_CMD k (hjCmdOp m k op tag) s

/-- KEY_GEN. -/
def execKeyGen (m : Master) (k : ChanId) (tag : Fin 65536) (s : State) : Out := hjCommand 0x01 m k tag s
/-- KEY_IMPORT. -/
def execKeyImport (m : Master) (k : ChanId) (tag : Fin 65536) (s : State) : Out := hjCommand 0x02 m k tag s
/-- KEY_ERASE. -/
def execKeyErase (m : Master) (k : ChanId) (tag : Fin 65536) (s : State) : Out := hjCommand 0x03 m k tag s
/-- KEY_INFO. -/
def execKeyInfo (m : Master) (k : ChanId) (tag : Fin 65536) (s : State) : Out := hjCommand 0x04 m k tag s
/-- ANCHOR_SET. -/
def execAnchorSet (m : Master) (k : ChanId) (tag : Fin 65536) (s : State) : Out := hjCommand 0x05 m k tag s
/-- GCM_ENC. -/
def execGcmEnc (m : Master) (k : ChanId) (tag : Fin 65536) (s : State) : Out := hjCommand 0x10 m k tag s
/-- GCM_DEC. -/
def execGcmDec (m : Master) (k : ChanId) (tag : Fin 65536) (s : State) : Out := hjCommand 0x11 m k tag s
/-- SIGN. -/
def execSign (m : Master) (k : ChanId) (tag : Fin 65536) (s : State) : Out := hjCommand 0x12 m k tag s
/-- VERIFY_DUAL. -/
def execVerifyDual (m : Master) (k : ChanId) (tag : Fin 65536) (s : State) : Out := hjCommand 0x13 m k tag s
/-- HASH. -/
def execHash (m : Master) (k : ChanId) (tag : Fin 65536) (s : State) : Out := hjCommand 0x14 m k tag s
/-- HMAC. -/
def execHmac (m : Master) (k : ChanId) (tag : Fin 65536) (s : State) : Out := hjCommand 0x15 m k tag s
/-- RANDOM. -/
def execRandom (m : Master) (k : ChanId) (tag : Fin 65536) (s : State) : Out := hjCommand 0x20 m k tag s
/-- TALLY_WRITE. -/
def execTallyWrite (m : Master) (k : ChanId) (tag : Fin 65536) (s : State) : Out := hjCommand 0x30 m k tag s
/-- RB_ADVANCE. -/
def execRbAdvance (m : Master) (k : ChanId) (tag : Fin 65536) (s : State) : Out := hjCommand 0x31 m k tag s
/-- SELFTEST. -/
def execSelftest (m : Master) (k : ChanId) (tag : Fin 65536) (s : State) : Out := hjCommand 0x40 m k tag s
/-- ZEROISE_ALL. -/
def execZeroiseAll (m : Master) (k : ChanId) (tag : Fin 65536) (s : State) : Out := hjCommand 0x41 m k tag s

/-! ## Tally words and rollback counters (R10, R370, Table 18-6) -/

/-- Whether a tally word takes a value. -/
def State.tallyTakes (s : State) (w v : Nat) : Bool :=
  match w with
  | 0 => decide (s.g TALLY_VALUE 0 < v) && decide (v ≤ 3)
  | 1 => v ≤ 2 || (v == 3 && (s.g TALLY_VALUE 0 == 0 || s.g TALLY_VALUE 0 == 2))
  | 3 => !(bit v (s.g HJ_STATUS_ROOT_IDX)) || bit (s.g TALLY_VALUE 3) (s.g HJ_STATUS_ROOT_IDX)
  | _ => true

/-- TALLY_WRITE's effect and status. -/
def State.tallyWrite (s : State) (k w v : Nat) : State × Nat :=
  if w > 63 || v ≥ 2 ^ 32 then (s.hjFault HJ_ERR_TALLY_REFUSED CE, ST_ACCESS_DENIED)
  else if s.g TALLY_VALUE w = v then (s, ST_LATE)
  else if s.g TALLY_REMAIN w = 0 || !(s.tallyTakes w v) then (s.hjFault HJ_ERR_TALLY_REFUSED CE, ST_ACCESS_DENIED)
  else
    let s := (s.p TALLY_VALUE v w).p TALLY_REMAIN (s.g TALLY_REMAIN w - 1) w
    let s := match w with
      | 0 => let s := s.p HJ_STATUS_LIFECYCLE v
        if v ≥ 2 then (s.zeroiseAll k).keyZero 0 else s
      | 1 => s.p HJ_STATUS_DEBUG_LEVEL v
      | _ => s
    (s.approve, ST_OK)

/-- The version of the P0 image running in hearth 15. -/
def State.p0Version (s : State) : Nat := if s.g TH_STATUS_LOADED 15 0 = 1 then (s.th 1920).version else 0

/-- RB_ADVANCE's effect and status. -/
def State.rbAdvance (s : State) (n v : Nat) : State × Nat :=
  if n ≤ 3 && v ≤ s.g RBC_COUNT n then (s, ST_LATE)
  else if n > 3 || v > 128 || (n = 0 && v > s.hj.svn) || (n = 1 && v > s.p0Version / 2 ^ 24) then (s.hjFault HJ_ERR_TALLY_REFUSED CE, ST_ACCESS_DENIED)
  else (s.p RBC_COUNT v n, ST_OK)

/-! ## Finishing a command -/

/-- The error state (R374). -/
def State.errorState (s : State) (k : Nat) : State :=
  let s := (s.hjFault HJ_ERR_KAT_FAIL DF).condBegin (src 0x10 1) 0
  let s := (s.setF HJ_STATUS_ERROR_STATE).p HJ_STATUS_SELFTEST_OK 0
  let s := (s.hjAbortAll k ST_INTERNAL).ideClear.drbgZero
  let s := (s.hj.ops.filter (fun e => e.1 != k && !e.2.running)).foldl (fun s e => s.hjEnd e.1 e.2 ST_INTERNAL) s
  ({ s with hj := { s.hj with slots := [] } }).approve

/-- The entropy source passes: the DRBG is instantiated again. -/
def State.drbgUp (s : State) : State :=
  let s := (s.setF HJ_DRBG_STATUS_HEALTHY).setF HJ_DRBG_STATUS_INSTANTIATED
  if s.cond (src 0x10 0) 0 then s.condEnd (src 0x10 0) 0 else s

/-- The record of KEY_INFO. -/
def State.slotRecord (s : State) (n : Nat) : Nat :=
  let x := s.slot n
  x.state * 2 ^ 8 + x.type * 2 ^ 12 + x.usage * 2 ^ 16 + x.owner * 2 ^ 20 + x.gen * 2 ^ 32 + min (s.users n).length 255 * 2 ^ 48

/-- What a command's work gives: a status to end with, or bytes to write at an address word. -/
inductive HjWork
  | ends (st : Nat)
  | tagFail
  | writes (w : Nat) (bs : List Byte)
deriving DecidableEq, Repr

/-- The work of a command whose reads have ended OK; `pass` is the outcome of the self-tests it runs (Table 18-7). -/
def State.hjWork (s : State) (k : Nat) (o : HjOp) (pass : Bool) : State × HjWork :=
  let data (i : Nat) : List Byte := (o.reads.getD i {}).bytes
  let a := o.arg 0
  let n := a % 2 ^ 8
  let type := bits a 12 4
  match o.opcode with
  | 0x01 =>
    if (s.slot n).state = 2 then (s, .ends ST_RETRY)
    else if !s.drbgOk then (s, .ends ST_ENTROPY_FAIL)
    else if !pass && pubLen type ≠ 0 then (s, .ends ST_INTERNAL)
    else
      let d := s.draw
      let s := d.2.slotInstall n type (bits a 16 4) (bits a 20 1) d.1
      if pubLen type = 0 then (s, .ends ST_OK) else (s, .writes (o.arg 1) (padTo (pubLen type) (Config.publicKey type d.1)))
  | 0x02 =>
    if (s.slot n).state = 2 then (s, .ends ST_RETRY)
    else match Config.unwrapKey o.key (data 0) with
      | none => (s, .ends ST_ACCESS_DENIED)
      | some key => (s.slotInstall n type (bits a 16 4) (bits a 20 1) key, .ends ST_OK)
  | 0x03 => (s.keyZero a, .ends ST_OK)
  | 0x04 => (s.p HJ_RES_RES (s.slotRecord a) k 0, .ends ST_OK)
  | 0x05 =>
    if o.arg 2 = 0 then ({ s with hj := { s.hj with anchors := nerase a s.hj.anchors } }, .ends ST_OK)
    else if Config.validCert (data 0) then ({ s with hj := { s.hj with anchors := nset a (data 0) s.hj.anchors } }, .ends ST_OK)
    else (s, .ends ST_ACCESS_DENIED)
  | 0x10 =>
    if !s.drbgOk then (s, .ends ST_ENTROPY_FAIL)
    else
      let d := s.draw
      let iv := d.1 % 2 ^ 96
      let aad := (data 0).take o.aadLen
      let text := (data 0).drop o.aadLen
      let ct := Config.gcmEncrypt o.key iv aad text
      (d.2, .writes (o.arg 2) (aad ++ padTo text.length ct ++ leBytes 12 iv ++ padTo 16 (ct.drop text.length)))
  | 0x11 =>
    let body := (data 0).take o.gcmLen
    let aad := body.take o.aadLen
    let iv := leNat (((data 0).drop o.gcmLen).take 12)
    match Config.gcmDecrypt o.key iv aad (body.drop o.aadLen ++ (data 0).drop (o.gcmLen + 12)) with
    | none => (s, .tagFail)
    | some text => (s, .writes (o.arg 2) (aad ++ padTo (o.gcmLen - o.aadLen) text))
  | 0x12 =>
    if !s.drbgOk then (s, .ends ST_ENTROPY_FAIL)
    else let d := s.draw; (d.2, .writes (o.arg 2) (Config.sign o.key d.1 (data 0)))
  | 0x13 => (s, .ends (if dualVerify (data 0) (data 1) (data 2) then ST_OK else ST_ACCESS_DENIED))
  | 0x14 => (s, .writes (o.arg 3) (digest (data 0)))
  | 0x15 => (s, .writes (o.arg 3) (leBytes 48 (Config.hmac384 o.key (data 0))))
  | 0x20 =>
    if !s.drbgOk then (s, .ends ST_ENTROPY_FAIL)
    else
      let q := (List.range ((o.arg 2 + 15) / 16)).foldl (fun (q : State × List Byte) _ => let d := q.1.draw; (d.2, q.2 ++ leBytes 16 d.1)) (s, [])
      (q.1, .writes (o.arg 1) (q.2.take (o.arg 2)))
  | 0x30 => let r := s.tallyWrite k a (o.arg 1); (r.1, .ends r.2)
  | 0x31 => let r := s.rbAdvance a (o.arg 1); (r.1, .ends r.2)
  | 0x40 => if pass then (((s.setF HJ_STATUS_SELFTEST_OK).drbgUp).approve, .ends ST_OK) else (s.errorState k, .ends ST_INTERNAL)
  | _ => (s, .ends ST_OK)

/-- A job that goes on: answers taken, and what remains issued. -/
def State.jobGo (s : State) (m : Master) (j : Job) : State × Job :=
  let t := s.jobTake j
  let q := t.1.jobIssue 0xC0 (t.1.mInst m) t.2
  (q.1, q.2.1)

/-- The accesses of a running command go on; one whose read fails, or whose writes have ended, ends. -/
def State.hjGo (s : State) (k : Nat) : State :=
  match s.hjOp k with
  | none => s
  | some o =>
    if !o.running then s
    else
      match o.out with
      | none =>
        let q := o.reads.foldl (fun (q : State × List Job) j => let r := q.1.jobGo o.master j; (r.1, q.2 ++ [r.2])) (s, [])
        let o := { o with reads := q.2 }
        match q.2.find? (fun j => j.over && j.status != ST_OK) with
        | some j => q.1.hjEnd k o j.status
        | none => q.1.hjSet k o
      | some j =>
        let q := s.jobGo o.master j
        let o := { o with out := some q.2 }
        let st := q.2.status
        if !q.2.over then q.1.hjSet k o
        else if o.status ≠ ST_OK then q.1.hjEnd k o o.status
        else if st ≠ ST_OK && (o.opcode = 0x10 || o.opcode = 0x11) then q.1.hjSet k { o with status := st, out := some (zeroJob q.2) }
        else q.1.hjEnd k o st

/-- Every running command's accesses go on, and waiting commands start. -/
def State.hjRun (s : State) : State := (s.hjRunning.foldl (fun s e => s.hjGo e.1) s).hjSchedule

/-- A command's work done: it ends, or its results are written under the gate of its master. -/
def State.hjFinish (s : State) (k : Nat) (o : HjOp) (pass : Bool) : State :=
  let q := s.hjWork k o pass
  match q.2 with
  | .ends st => q.1.hjEnd k o st
  | .tagFail => q.1.hjEnd k { o with tagFail := true } ST_POISON
  | .writes w bs =>
    let c := q.1.rangeCheck o.master w bs.length 1
    if !c.2 then c.1.hjEnd k o ST_ACCESS_DENIED
    else (c.1.hjSet k { o with out := some (jobWrite w bs) }).hjGo k

/-- HJ_COMMAND_COMPLETE: a command whose reads have ended does its work; an erase ends once the slot has no users. -/
def execHjCommandComplete (k : ChanId) (pass : Bool) (s : State) : Out :=
  let s := s.hjGo k
  .next (match s.hjOp k with
    | none => s.hjSchedule
    | some o =>
      if !o.running || o.out.isSome || !(o.reads.all (fun j => j.done)) then s
      else if o.opcode = 0x03 && s.users (o.arg 0) ≠ [] then s
      else (s.hjFinish k o pass).hjSchedule)

/-- KEY_ERASE_WAIT_EXPIRY (R365). -/
def execKeyEraseWaitExpiry (k : ChanId) (s : State) : Out :=
  .next (match s.hjOp k with
    | none => s
    | some o =>
      if !o.running || o.opcode ≠ 0x03 then s
      else
        let us := s.users (o.arg 0)
        let s := us.foldl (fun s e => s.hjAbort e.1 e.2 ST_KEY_ZEROISED) s
        let s := if us = [] then s else s.hjFault HJ_ERR_KEY_ABORT CE
        ((s.keyZero (o.arg 0)).hjEnd k o ST_OK).hjSchedule)

/-! ## Pages (R358) -/

/-- PAGE_READ: up to three reads, then PAGE_BAD, and the command that needed the page fails. -/
def execPageRead (k : Option (Fin 32)) (page : Nat) (bytes : List Byte) (s : State) : Out :=
  .next (match s.hj.leaves[page]? with
    | none => s
    | some leaf =>
      let tries := if s.hj.page = page then s.hj.pageTries else 0
      let s := if tries > 0 then s.inc HJ_BOOT_STATUS_PAGES_REREAD else s
      let set (s : State) (n : Nat) : State := { s with hj := { s.hj with page := page, pageTries := n } }
      if Config.sha384 bytes = leaf then set s 0
      else if tries < 2 then set s (tries + 1)
      else
        let s := (set s 0).hjFault HJ_ERR_PAGE_BAD PF
        match k with
        | none => s
        | some k => match s.hjOp k with
          | some o => if o.running then (s.hjAbort k o ST_INTERNAL).hjSchedule else s
          | none => s)

/-! ## Entropy (R366, R367) -/

/-- ENTROPY_HEALTH_FAIL: a generate that has concluded keeps its output; every other request for random numbers fails. A source that has failed and
waits for its restart fails no second time. -/
def execEntropyHealthFail (s : State) : Out :=
  if s.cond (src 0x10 0) 0 && !(s.on HJ_DRBG_STATUS_HEALTHY) then .next s else
  let s := ((s.p HJ_DRBG_STATUS_HEALTHY 0).drbgZero).p HJ_DRBG_STATUS_RECOVERY_TRIES 0
  let s := (s.hjFault HJ_ERR_ENT_FAIL PF).condBegin (src 0x10 0) 0
  .next ((s.hjRunning.foldl (fun s e => if needsRandom e.2.opcode && e.2.out.isNone then s.hjEnd e.1 e.2 ST_ENTROPY_FAIL else s) s).hjSchedule)

/-- DRBG_RECOVERY_ATTEMPT: up to three after a failure. -/
def execDrbgRecoveryAttempt (pass : Bool) (s : State) : Out :=
  let n := s.g HJ_DRBG_STATUS_RECOVERY_TRIES
  .next (if !(s.cond (src 0x10 0) 0) || n ≥ 3 || s.on HJ_STATUS_ERROR_STATE then s
    else
      let s := s.p HJ_DRBG_STATUS_RECOVERY_TRIES (n + 1)
      if pass then s.drbgUp else s)

/-- DRBG_RESEED: from a healthy source; a DRBG whose state ZEROISE_ALL cleared is instantiated by it (log 25). -/
def execDrbgReseed (s : State) : Out :=
  .next (if s.on HJ_DRBG_STATUS_HEALTHY && !(s.on HJ_STATUS_ERROR_STATE) then (s.setF HJ_DRBG_STATUS_INSTANTIATED).inc HJ_DRBG_STATUS_RESEEDS else s)

/-! ## Gates (R372) -/

/-- The units that have a gate. -/
def gateable (g : Nat) : Bool := g < 47 || g = 48 || g = 49

/-- A unit is idle. -/
def State.unitIdle (s : State) (g : Nat) : Bool :=
  if g < 32 then (List.range 4).all (fun j => s.g PC_QUIESCE_STATUS_STATE (4 * g + j) == 3)
  else if g < 47 then (List.range 128).all (fun k => !(s.loaded (128 * (g - 32) + k)))
  else (List.range 2).all (fun j => !(s.on SRF_CFG_EN (2 * (g - 48) + j)))

/-- The requested gates applied: power off takes the clock with it. -/
def State.gateApply (s : State) (g : Nat) : State :=
  (s.pb HJ_GATE_PWR_GATED (s.on HJ_GATE_PWR_OFF g) g).pb HJ_GATE_CLK_GATED (s.on HJ_GATE_CLK_OFF g || s.on HJ_GATE_PWR_OFF g) g

/-- A request ends with a status. -/
def State.gateStatus (s : State) (g st : Nat) : State × Nat := (s.p HJ_GATE_LAST_STATUS st g, st)

/-- A gate requested: refused while the unit is not idle, pending while Hjelvon holds it. -/
def gateOnOp (g : Nat) (clk pwr : Bool) (s : State) : State × Nat :=
  if !(s.unitIdle g) then s.gateStatus g ST_ACCESS_DENIED
  else
    let s := (s.pb HJ_GATE_CLK_OFF clk g).pb HJ_GATE_PWR_OFF pwr g
    if s.on HJ_GATE_HELD g then (((s.p HJ_GATE_PENDING 1 g).hjFault HJ_ERR_HOLD_PENDING CE).gateStatus g ST_RETRY)
    else (s.gateApply g).gateStatus g ST_OK

/-- A gate no longer requested: a pending request is cancelled, and otherwise ungating starts. -/
def gateOffOp (g : Nat) (clk pwr : Bool) (s : State) : State × Nat :=
  let s := (s.pb HJ_GATE_CLK_OFF clk g).pb HJ_GATE_PWR_OFF pwr g
  let still := (clk && !(s.on HJ_GATE_CLK_GATED g)) || (pwr && !(s.on HJ_GATE_PWR_GATED g))
  (if still then s else s.p HJ_GATE_PENDING 0 g).gateStatus g ST_OK

/-- A write of HJ_GATE. -/
def hjGateOp (g : Nat) (w : RegW) (s : State) : State × Nat :=
  let clk := s.after w HJ_GATE_CLK_OFF g == 1
  let pwr := s.after w HJ_GATE_PWR_OFF g == 1
  if (clk && !(s.on HJ_GATE_CLK_OFF g)) || (pwr && !(s.on HJ_GATE_PWR_OFF g)) then gateOnOp g clk pwr s
  else if clk != s.on HJ_GATE_CLK_OFF g || pwr != s.on HJ_GATE_PWR_OFF g then gateOffOp g clk pwr s
  else (s, ST_OK)

/-- A write of a gate register by a master; units 47 and above 49 hold none. -/
def gateCommand (m : Master) (g : Nat) (op : State → State × Nat) (s : State) : Out :=
  if gateable g then aonCommand m .HJ_GATE g op s else .next ((s.strayAccess m (RegName.place .HJ_GATE g) 2).reply m ST_NO_MATCH)

/-- CLK_GATE_REQUEST. -/
def execClkGateRequest (m : Master) (g : Fin 50) (s : State) : Out :=
  gateCommand m g (fun s => gateOnOp g true (s.on HJ_GATE_PWR_OFF g) s) s
/-- PWR_GATE_REQUEST. -/
def execPwrGateRequest (m : Master) (g : Fin 50) (s : State) : Out :=
  gateCommand m g (fun s => gateOnOp g (s.on HJ_GATE_CLK_OFF g) true s) s
/-- UNGATE. -/
def execUngate (m : Master) (g : Fin 50) (power : Bool) (s : State) : Out :=
  gateCommand m g (fun s => gateOffOp g (power && s.on HJ_GATE_CLK_OFF g) (!power && s.on HJ_GATE_PWR_OFF g) s) s

/-- Whether Hjelvon works on a unit: an image load into the hearth, or an authentication over a link of the tile. -/
def State.unitHeld (s : State) (g : Nat) : Bool :=
  if 32 ≤ g && g < 47 then (nget? (g - 32) s.loads).any (fun o => !o.late)
  else match s.stk.join with
    | some (_, l, step) => g == 48 + l / 2 && step == 3
    | none => false

/-- HOLD_RELEASE: a pending request is applied where the unit is still idle, and otherwise dropped. -/
def execHoldRelease (g : Fin 50) (s : State) : Out :=
  .next (if s.unitHeld g then s
    else
      let s := s.p HJ_GATE_HELD 0 g
      if !(s.on HJ_GATE_PENDING g) then s
      else
        let s := s.p HJ_GATE_PENDING 0 g
        if s.unitIdle g then ((s.gateApply g).gateStatus g ST_OK).1
        else (((s.pb HJ_GATE_CLK_OFF (s.on HJ_GATE_CLK_GATED g) g).pb HJ_GATE_PWR_OFF (s.on HJ_GATE_PWR_GATED g) g).gateStatus g ST_ACCESS_DENIED).1)

/-- A unit whose power is back: as after a port reset, or with every thread cleared. -/
def State.unitFresh (s : State) (g : Nat) : State :=
  if g < 32 then (List.range 4).foldl (fun s j => (s.clrReg .PC_LINK_STATUS (4 * g + j)).clrReg .PC_TAG_STATUS (4 * g + j)) s
  else if g < 47 then (List.range 128).foldl (fun s k => s.clearNow (128 * (g - 32) + k)) s
  else s

/-- UNGATE_COMPLETE: the ports of an ungated group train where a partner is there. -/
def execUngateComplete (g : Fin 50) (s : State) : Out :=
  .next (
    let pwr := s.on HJ_GATE_PWR_GATED g && !(s.on HJ_GATE_PWR_OFF g)
    let was := s.on HJ_GATE_CLK_GATED g
    let s := if pwr then (s.p HJ_GATE_PWR_GATED 0 g).unitFresh g else s
    let s := if s.on HJ_GATE_CLK_OFF g || s.on HJ_GATE_PWR_OFF g then s else s.p HJ_GATE_CLK_GATED 0 g
    if was && !(s.on HJ_GATE_CLK_GATED g) && s.up && g.val < 32 then
      (s.groupLeads g).foldl (fun s c => if s.g PC_QUIESCE_STATUS_STATE c == 3 then s.trainFromDetect c else s) s
    else s)

/-! ## SPDM (R368) -/

/-- A measurement the device reports (log 26). -/
def State.measurement (s : State) (n : Nat) : Option (List Byte) :=
  match n with
  | 1 => some (leBytes 2 (s.g HJ_VERSION_KINDLING_REV))
  | 2 => some (leBytes 48 s.hj.fwHash)
  | 3 => some (leBytes 48 s.hj.residentHash)
  | 4 => some (leBytes 48 (s.th 1920).codeHash)
  | 5 => some (leBytes 4 (s.g TALLY_VALUE 0) ++ leBytes 4 (s.g TALLY_VALUE 1))
  | 6 => some ((List.range 5).flatMap (fun w => leBytes 4 (s.g TALLY_VALUE w)))
  | _ => none

/-- Whether a certificate slot has a chain: slot 0, and those whose key slot holds a key. -/
def State.certHere (s : State) (n : Nat) : Bool := n == 0 || (s.slot n).state == 1

/-- A list cut into pieces of `n`, in order; `fuel` bounds their number. -/
def chunks (n : Nat) (bs : List Byte) : (fuel : Nat) → List (List Byte)
  | 0 => []
  | fuel + 1 => if bs.length ≤ n then [bs] else bs.take n :: chunks n (bs.drop n) fuel

/-- An answer leaves a port as DOE objects of up to 1,024 DW (Table 3-4). -/
def State.doeSend (s : State) (c : Nat) (bs : List Byte) : State := (chunks 4096 bs bs.length.succ).foldl (fun s o => s.send (.doe c o)) s

/-- What DOE discovery answers to an index: vendor 1 (PCI-SIG) with discovery, CMA/SPDM and secured CMA/SPDM, and vendor 1E98h (CXL) with CDAT's table access,
each with the number of the next entry (the protocols are Table 3-4's; their numbers are the standards', PRESUMED, log 120). -/
def doeProtocol (index : Nat) : List Byte :=
  match index with
  | 0 => leBytes 2 1 ++ leBytes 1 0 ++ leBytes 1 1
  | 1 => leBytes 2 1 ++ leBytes 1 1 ++ leBytes 1 2
  | 2 => leBytes 2 1 ++ leBytes 1 2 ++ leBytes 1 3
  | 3 => leBytes 2 0x1E98 ++ leBytes 1 2 ++ leBytes 1 0
  | _ => leBytes 2 0xFFFF ++ leBytes 1 0 ++ leBytes 1 0

/-- SPDM_MESSAGE: a responder on a port bound HOST or FABRIC (Table 3-4), at the end of a loop as on a wire (R63), answers from the certificate slots
and the measurements; what the device has not, it does not answer. A key exchange opens the session that IDE_KM needs (R55). DOE discovery and CDAT are
answered beside SPDM. -/
def execSpdmMessage (c : PortId) (r : SpdmRequest) (s : State) : Out :=
  whenUp s fun s =>
    let role := s.g PC_LINK_STATUS_ROLE_BOUND c
    if !(s.linkUp c) || !(role == 1 || role == 3) || s.on HJ_STATUS_ERROR_STATE then s
    else match r with
      | .certificate n => if s.certHere n then s.doeSend c (Config.certChain n) else s
      | .challenge n nonce =>
        if s.certHere n && s.drbgOk then
          let d := s.draw
          d.2.doeSend c (Config.sign (s.slot n).key d.1 nonce)
        else s
      | .measurement n => match s.measurement n with
        | some bs => s.doeSend c bs
        | none => s
      | .keyExchange n opaque_ =>
        if s.certHere n && s.drbgOk then
          let d := s.draw
          (d.2.portMod c (fun x => { x with session := true })).doeSend c (Config.sign (s.slot n).key d.1 opaque_)
        else s
      | .discovery n => s.doeSend c (doeProtocol n)
      | .cdat h => s.doeSend c (Config.cdat c h)

end Sys2Proof.Machine
end

