-- ==== Sys2Proof/Machine/Bridge.lean ====
section
/-! DEFINITION. The sideband bridge beside its SPI side: MCTP over SMBus, notices, the bridge's commits, slot polling (R383 to R390, R439). -/

namespace Sys2Proof.Machine

/-- The bridge changed. -/
def State.brMod (s : State) (f : Bridge → Bridge) : State := { s with br := f s.br }

/-- A fault of the bridge (R391). -/
def State.brFault (s : State) (b : Fld) : State := (s.setF b).fault (src 0x11 b.lsb) CE 0

/-! ## Notices (R385) -/

/-- A notice placed in the queue of NOTICE_TID; none where it has no room, or the threads do not run. -/
def State.noticePut (s : State) (dw : Nat) : Option State :=
  let m := msgBytes 0x00C1 0 0 [dw]
  let tid := s.g BR_CFG_NOTICE_TID
  if !s.up then none
  else match s.thrOf tid with
    | some t => s.rxPush t m
    | none => some (s.messageTo tid m)

/-- An event is reported, in order behind those that wait. -/
def State.brNotice (s : State) (dw : Nat) : State :=
  if !(s.on BR_CFG_NOTICE_EN) then s
  else
    let wait := s.brMod (fun b => { b with notices := b.notices ++ [dw], waits := b.waits + 1 })
    if s.br.notices ≠ [] then wait
    else (s.noticePut dw).getD wait

/-- NOTICE_RETRY: the notice that waits is tried again, and those behind it while there is room. -/
def execNoticeRetry (s : State) : Out :=
  .next (s.br.notices.foldl (fun (q : State × Bool) dw =>
    if q.2 then q
    else match q.1.noticePut dw with
      | some s => (s.brMod (fun b => { b with notices := b.notices.drop 1 }), false)
      | none => (q.1.brMod (fun b => { b with waits := b.waits + 1 }), true)) (s, false)).1

/-! ## MCTP messages (R383, R384, R399) -/

/-- The commands the stage responder serves: MCTP control 1 Set Endpoint ID, 2 Get Endpoint ID, 4 Get MCTP Version Support, 5 Get Message Type Support,
and the vendor-defined commands of Table 20-5 as 0x100 and up. The layout of a message is the family's (log 27). -/
def mctpKind (bs : List Byte) : Option Nat :=
  let b (k : Nat) : Nat := (bs.getD k 0).toNat
  if b 0 % 128 = 0 && [1, 2, 4, 5].contains (b 2) && bs.length ≥ 3 then some (b 2)
  else if b 0 % 128 = 0x7F && b 1 = 0 && b 2 = 0 && b 3 = 0x06 && b 4 = 0x47 && 1 ≤ b 5 && b 5 ≤ 4 && bs.length ≥ 6 then some (0x100 + b 5)
  else none

/-- Receive buffers held; RX_HELD follows. -/
def State.rxSet (s : State) (rx : NMap RxBuf) : State :=
  (s.brMod (fun b => { b with rx := rx })).p BR_STATUS_RX_HELD (rx.foldl (fun n e => n ||| 2 ^ e.1) 0)

/-- A buffer freed. -/
def State.rxFree (s : State) (b : Nat) : State := s.rxSet (nerase b s.br.rx)

/-- A partial message discarded. -/
def State.rxDrop (s : State) (b : Nat) : State := ((s.rxFree b).inc BR_CNT_REASM_DROP).brFault BR_ERR_MCTP_REASM

/-- The bytes a buffer holds. -/
def State.rxBytes (s : State) (b : Nat) (x : RxBuf) : List Byte := s.rd (spRx b) 0 x.len

/-- An answer of the stage responder to the sender of a buffer's message; the buffer is freed. -/
def State.respond (s : State) (b : Nat) (x : RxBuf) (bs : List Byte) : State := (s.rxFree b).send (.mctp x.src x.tag bs)

/-- ERROR_UNSUPPORTED_CMD, as MCTP numbers it (log 27). -/
abbrev mctpUnsupported : Byte := 0x05

/-- How an answer begins: as its request does, with the request bit of a control message 0 (log 27). -/
def mctpHead (bs : List Byte) : List Byte :=
  let b (k : Nat) : Nat := (bs.getD k 0).toNat
  if b 0 % 128 = 0 then [0, BitVec.ofNat 8 (b 1 % 32), bs.getD 2 0]
  else if b 0 % 128 = 0x7F then (bs ++ List.replicate 6 0).take 6
  else [bs.getD 0 0]

/-- A complete message: to the stage responder while it answers, which refuses what it does not serve, and otherwise to control firmware. -/
def State.rxWhole (s : State) (b : Nat) (x : RxBuf) : State :=
  if s.br.responder then
    if (mctpKind (s.rxBytes b x)).isNone then s.respond b x (mctpHead (s.rxBytes b x) ++ [mctpUnsupported]) else s
  else s.brNotice (1 + b * 2 ^ 8 + x.len % 2 ^ 13 * 2 ^ 16 + x.src * 2 ^ 40)

/-- A packet's payload added to a buffer. -/
def State.rxAdd (s : State) (b : Nat) (x : RxBuf) (p : MctpPacket) : State :=
  let n := x.len + p.payload.length
  if n > 4096 then s.rxDrop b
  else
    let y : RxBuf := { x with len := n, seq := (p.seq.val + 1) % 4, whole := p.eom }
    let s := (s.wr (spRx b) x.len p.payload).rxSet (nset b y s.br.rx)
    if p.eom then s.rxWhole b y else s

/-- The message in progress that a packet belongs to. -/
def State.rxOf (s : State) (p : MctpPacket) : Option (Nat × RxBuf) :=
  s.br.rx.find? (fun e => !e.2.whole && e.2.src == p.src.val && e.2.tag == p.tag.val && e.2.owner == p.owner)

/-- SMBUS_PACKET: a start of message takes the lowest free buffer, and is not acknowledged while all eight are held: nothing of it is taken then. -/
def execSmbusPacket (p : MctpPacket) (s : State) : Out :=
  .next (
    if !(s.on BR_CFG_SMB_EN) || (p.som && s.br.rx.length ≥ 8) then s
    else if !p.pecOk then (s.inc BR_CNT_PEC_BAD).brFault BR_ERR_SMB_PEC
    else if p.som then
      let s := match s.rxOf p with | some (b, _) => s.rxDrop b | none => s
      match (List.range 8).find? (fun b => (nget? b s.br.rx).isNone) with
      | none => s
      | some b => s.rxAdd b { src := p.src, dst := p.dst, tag := p.tag, owner := p.owner, len := 0, seq := p.seq, whole := false } p
    else match s.rxOf p with
      | none => s
      | some (b, x) => if p.seq.val ≠ x.seq then s.rxDrop b else s.rxAdd b x p)

/-- REASSEMBLY_TIMEOUT. -/
def execReassemblyTimeout (b : Fin 8) (s : State) : Out :=
  .next (match nget? b.val s.br.rx with
    | some x => if x.whole then s else s.rxDrop b
    | none => s)

/-- SMB_RX_REL. -/
def rxRelOp (v : Nat) (s : State) : State × Nat := ((List.range 8).foldl (fun s b => if bit v b then s.rxFree b else s) s, ST_OK)

/-- RX_BUFFER_RELEASE. -/
def execRxBufferRelease (m : Master) (v : Fin 256) (s : State) : Out := aonCommand m .SMB_RX_REL 0 (rxRelOp v) s

/-- A field of a command word that a write carries; a WO field it does not carry is 0. -/
def RegW.sent (w : RegW) (f : Fld) : Nat := if w.has f then w.val f else 0

/-- Transmit buffers in use; TX_BUSY follows. -/
def State.txSet (s : State) (tx : NMap Nat) : State :=
  (s.brMod (fun b => { b with tx := tx })).p BR_STATUS_TX_BUSY (tx.foldl (fun n e => n ||| 2 ^ e.1) 0)

/-- SMB_TX_CMD (R386). -/
def smbTxOp (w : RegW) (s : State) : State × Nat :=
  let b := w.sent SMB_TX_CMD_BUF
  let len := w.sent SMB_TX_CMD_LEN
  if (w.has SMB_TX_CMD_LEN || w.sent SMB_TX_CMD_GO = 1) && (len = 0 || len > 4096) then (s, ST_ACCESS_DENIED)
  else if w.sent SMB_TX_CMD_GO = 0 then (s, ST_OK)
  else if (nget? b s.br.tx).isSome then (s, ST_RESOURCE_EXHAUSTED)
  else (s.txSet (nset b ((if w.hi then bits w.v 32 32 * 2 ^ 32 else 0) + (if w.lo then w.v % 2 ^ 32 else 0)) s.br.tx), ST_OK)

/-- MCTP_TRANSMIT. -/
def execMctpTransmit (m : Master) (v : Word) (s : State) : Out := aonCommand m .SMB_TX_CMD 0 (smbTxOp { v := v.toNat }) s

/-- The packets of a transmit command: 64 bytes each, in order; the first sequence number is a free choice (log 1). -/
def State.txPackets (s : State) (b w : Nat) : State × List Msg :=
  let f (x : Fld) : Nat := bits w x.lsb x.width
  let len := f SMB_TX_CMD_LEN
  let bs := s.rd (spTx b) 0 len
  let n := (len + 63) / 64
  let q := s.fresh
  (q.2, (List.range n).map (fun k => .smbus (f SMB_TX_CMD_DEST_ADDR) (f SMB_TX_CMD_DEST_EID) (f SMB_TX_CMD_SRC_EID) (k == 0) (k + 1 == n)
    ((q.1.toNat + k) % 4) (f SMB_TX_CMD_TO == 1) (f SMB_TX_CMD_MSG_TAG) ((bs.drop (64 * k)).take 64)))

/-- A transmission ends: packets sent, the buffer free, the notice with its status. -/
def State.txEnd (s : State) (b : Nat) (sent : Option Nat) (st : Nat) : State :=
  match nget? b s.br.tx with
  | none => s
  | some w =>
    let q := s.txPackets b w
    let ms := match sent with | some n => q.2.take (min n (q.2.length - 1)) | none => q.2
    let s := { q.1 with outbox := q.1.outbox ++ ms }
    (s.txSet (nerase b s.br.tx)).brNotice (2 + b * 2 ^ 8 + bits w 8 13 * 2 ^ 16 + st * 2 ^ 32)

/-- MCTP_TRANSMIT_DONE. -/
def execMctpTransmitDone (b : Fin 4) (s : State) : Out := .next (s.txEnd b none ST_OK)

/-- MCTP_TRANSMIT_TIMEOUT: the message is abandoned part-way. -/
def execMctpTransmitTimeout (b : Fin 4) (sent : Nat) (s : State) : Out := .next (s.txEnd b (some sent) ST_TIMEOUT)

/-! ## Staging through the bridge (R439) -/

/-- A write of BR_CMT. -/
def brCmtOp (w : RegW) (s : State) : State × Nat :=
  let tag := w.sent BR_CMT_TAG
  let go := w.sent BR_CMT_GO == 1
  let abort := w.sent BR_CMT_ABORT == 1
  if s.on BR_CMT_STATUS_BUSY then (s, ST_RESOURCE_EXHAUSTED)
  else if go && abort then (s.p BR_CMT_STATUS_STATUS ST_ACCESS_DENIED, ST_ACCESS_DENIED)
  else if (go || abort) && s.cmt.bridgeDone && s.g BR_CMT_STATUS_TAG = tag then (s, s.g BR_CMT_STATUS_STATUS)
  else if go then
    let expect := if w.sent BR_CMT_EXPECT_EN = 1 then some (w.sent BR_CMT_EXPECT_EPOCH) else none
    (((s.submit .bridge s.cmt.bridge expect true).p BR_CMT_STATUS_TAG tag).p BR_CMT_STATUS_BUSY 1, ST_OK)
  else if abort then
    let s := s.bridgeSet []
    ((({ s with cmt := { s.cmt with bridgeDone := true } }).p BR_CMT_STATUS_TAG tag).p BR_CMT_STATUS_STATUS ST_OK, ST_OK)
  else (s, ST_OK)

/-- The word of a BR_CMT command. -/
def cmtWord (cmd : Nat) (tag : Nat) (expect : Option Nat) : RegW :=
  { v := cmd + (match expect with | some e => 4 + e * 2 ^ 32 | none => 0) + tag * 2 ^ 16 }

/-- BRIDGE_COMMIT_GO. -/
def execBridgeCommitGo (m : Master) (tag : Fin 65536) (expect : Option (Fin 4294967296)) (s : State) : Out :=
  aonCommand m .BR_CMT 0 (brCmtOp (cmtWord 1 tag (expect.map (·.val)))) s

/-- BRIDGE_COMMIT_ABORT. -/
def execBridgeCommitAbort (m : Master) (tag : Fin 65536) (s : State) : Out := aonCommand m .BR_CMT 0 (brCmtOp (cmtWord 2 tag none)) s

/-! ## Slot side-band polling (R387 to R389) -/

/-- A sweep starts with the valid expanders, in order; with none it is over at once. -/
def State.sweepStart (s : State) : State :=
  let xs := (List.range 8).filter (fun x => s.on SB_EXP_VALID x)
  let s := s.brMod (fun b => { b with sweep := if xs = [] then none else some xs, sweepUs := 0, due := false })
  match xs with
  | x :: _ => s.send (.expanderRead x)
  | [] => s.p SB_STATUS_SWEEP_US 0

/-- SIDEBAND_SWEEP: one that falls due during a sweep waits for its end. -/
def execSidebandSweep (s : State) : Out :=
  .next (if !(s.on SB_CFG_SB_EN) then s
    else if s.br.sweep.isNone then s.sweepStart
    else ((s.inc SB_STATUS_OVERRUNS).brFault BR_ERR_SWEEP_OVERRUN).brMod (fun b => { b with due := true }))

/-- A signal of a slot that follows each sweep: its change sets its change bit. -/
def State.slotSignal (s : State) (f chg : Fld) (n : Nat) (v : Bool) : State × Bool :=
  if s.on f n == v then (s, false) else ((s.pb f v n).setF chg n, true)

/-- PRESENT changes after DEBOUNCE consecutive sweeps agree. -/
def State.slotPresent (s : State) (n : Nat) (v : Bool) : State × Bool :=
  let k := if s.on SB_SLOT_PRESENT n == v then 0 else ngetD s.br.agree n 0 + 1
  let s' (m : Nat) : State := s.brMod (fun b => { b with agree := nput 0 n m b.agree })
  if k ≥ s.g SB_CFG_DEBOUNCE && k ≠ 0 then (((s' 0).pb SB_SLOT_PRESENT v n).setF SB_SLOT_PRESENT_CHG n, true) else (s' k, false)

/-- A slot's four signals as an expander reads them: the first three active low. -/
def State.slotTake (s : State) (n bs : Nat) : State :=
  let p := s.slotPresent n (!(bit bs 0))
  let a := p.1.slotSignal SB_SLOT_ATTN SB_SLOT_ATTN_CHG n (!(bit bs 1))
  let l := a.1.slotSignal SB_SLOT_ALERT SB_SLOT_ALERT_CHG n (!(bit bs 2))
  let g := l.1.slotSignal SB_SLOT_PWRGD SB_SLOT_PWRGD_CHG n (bit bs 3)
  let s := g.1
  let chg := s.g SB_SLOT_PRESENT_CHG n + 2 * s.g SB_SLOT_ATTN_CHG n + 4 * s.g SB_SLOT_ALERT_CHG n + 8 * s.g SB_SLOT_PWRGD_CHG n
  let s := if p.2 || a.2 || l.2 || g.2 then s.brNotice (3 + n * 2 ^ 8 + chg * 2 ^ 40) else s
  if p.2 then s.presence n (!(bit bs 0)) else s

/-- The condition that an expander does not acknowledge. -/
def nakCond : Nat × Nat := (src 0x11 4, 0)

/-- An expander read: its slots follow, or it did not acknowledge and they keep their values (R389). -/
def State.expanderTake (s : State) (x : Nat) (data : Option Nat) : State :=
  match data with
  | none => (((s.setF SB_EXP_NAK x).brFault BR_ERR_EXP_NAK).condBegin nakCond.1 nakCond.2)
  | some d =>
    let s := s.p SB_EXP_NAK 0 x
    let s := if s.cond nakCond.1 nakCond.2 && (List.range 8).all (fun y => !(s.on SB_EXP_NAK y)) then s.condEnd nakCond.1 nakCond.2 else s
    (List.range 4).foldl (fun s j => s.slotTake (4 * x + j) (bits d (4 * j) 4)) s

/-- EXPANDER_READ_DONE: the read took `us`; the next expander is read, or the sweep is over. -/
def execExpanderReadDone (data : Option (Fin 65536)) (us : Fin 65536) (s : State) : Out :=
  .next (match s.br.sweep with
    | some (x :: rest) =>
      let s := s.expanderTake x (data.map (·.val))
      let n := min (s.br.sweepUs + us) (2 ^ 16 - 1)
      match rest with
      | y :: _ => (s.brMod (fun b => { b with sweep := some rest, sweepUs := n })).send (.expanderRead y)
      | [] =>
        let s := ((s.brMod (fun b => { b with sweep := none })).p SB_STATUS_SWEEP_US n).hwm SB_STATUS_SWEEP_MAX_US n
        if s.br.due && s.on SB_CFG_SB_EN then s.sweepStart else s
    | _ => s)

/-! ## Register writes (Tables 19-5 to 19-7) -/

/-- BR_CFG: NOTICE_EN written 1 by control firmware ends the stage responder (R399). -/
def brCfgOp (m : Master) (w : RegW) (s : State) : State × Nat :=
  if !(w.within BR_CFG_ACC_TMO_US 1 65535) || !(w.within BR_CFG_SMB_SPEED 0 2) then (s, ST_ACCESS_DENIED)
  else
    let s := s.putAll w (RegName.BR_CFG).fields
    let fw := match m with | .thread _ => true | _ => false
    (if fw && w.sent BR_CFG_NOTICE_EN = 1 then s.brMod (fun b => { b with responder := false }) else s, ST_OK)

/-- BR_ALERT: PEND written 1 clears it, and the pin is released (R390). -/
def brAlertOp (w : RegW) (s : State) : State × Nat :=
  let s := (s.putW w BR_ALERT_ALERT_MASK).w1c w BR_ALERT_PEND
  (if s.on BR_ALERT_PEND then s else { s with pins := { s.pins with mgmtAlertN := true } }, ST_OK)

/-- SB_CFG. -/
def sbCfgOp (w : RegW) (s : State) : State × Nat :=
  if !(w.within SB_CFG_POLL_US 250 100000) || !(w.within SB_CFG_DEBOUNCE 1 8) || !(w.within SB_CFG_SB_SPEED 1 2) then (s, ST_ACCESS_DENIED)
  else (s.putAll w (RegName.SB_CFG).fields, ST_OK)

end Sys2Proof.Machine
end

