-- ==== Sys2Proof/Machine/Frame.lean ====
section
/-! DEFINITION. The Sirfin frame: header, scrambler, CRC, forward error correction, and the payloads of CTRL, TRAIN and unit streams
(R316 to R319, R321, R328, Tables 16-1 to 16-6). -/

namespace Sys2Proof.Machine

/-! ## Forward error correction (R317) -/

/-- A product in GF(2^8) over x^8 + x^4 + x^3 + x^2 + 1. -/
def gfMul (a b : Nat) : Nat :=
  ((List.range 8).foldl (fun (q : Nat × Nat) k =>
    (if bit b k then q.1 ^^^ q.2 else q.1, if q.2 ≥ 128 then (q.2 * 2 % 256) ^^^ 0x1D else q.2 * 2)) (0, a)).1

/-- α to a power, and an inverse: the 254th power. -/
def gfExp (n : Nat) : Nat := (List.range (n % 255)).foldl (fun v _ => gfMul v 2) 1
def gfInv (a : Nat) : Nat := (List.range 253).foldl (fun v _ => gfMul v a) a

/-- The value of a polynomial, its highest coefficient first. -/
def gfEval (cs : List Nat) (x : Nat) : Nat := cs.foldl (fun v c => gfMul v x ^^^ c) 0

/-- The generator (x − α^0) … (x − α^5) without its leading 1, highest coefficient first. -/
def rsGen : List Nat :=
  ((List.range 6).foldl (fun (g : List Nat) k => List.zipWith (fun a b => a ^^^ b) (g ++ [0]) (0 :: g.map (gfMul (gfExp k)))) [1]).drop 1

/-- The six parity symbols of 122 data symbols, the first the highest coefficient (log 30). -/
def rsParity (data : List Nat) : List Nat :=
  data.foldl (fun r d =>
    let f := d ^^^ r.getD 0 0
    List.zipWith (fun a g => a ^^^ gfMul f g) (r.drop 1 ++ [0]) rsGen) (List.replicate 6 0)

/-- The syndromes of a codeword. -/
def rsSyn (cw : List Nat) : List Nat := (List.range 6).map (fun k => gfEval cw (gfExp k))

/-- The error locator Λ1, Λ2, Λ3 of syndromes: for three errors, two, or one. -/
def rsLocator (s : List Nat) : List Nat :=
  let S (k : Nat) : Nat := s.getD k 0
  let det3 (a b c d e f g h i : Nat) : Nat :=
    gfMul a (gfMul e i ^^^ gfMul f h) ^^^ gfMul b (gfMul d i ^^^ gfMul f g) ^^^ gfMul c (gfMul d h ^^^ gfMul e g)
  let d3 := det3 (S 0) (S 1) (S 2) (S 1) (S 2) (S 3) (S 2) (S 3) (S 4)
  let d2 := gfMul (S 0) (S 2) ^^^ gfMul (S 1) (S 1)
  if d3 ≠ 0 then
    let v := gfInv d3
    [gfMul v (det3 (S 0) (S 1) (S 3) (S 1) (S 2) (S 4) (S 2) (S 3) (S 5)),
     gfMul v (det3 (S 0) (S 3) (S 2) (S 1) (S 4) (S 3) (S 2) (S 5) (S 4)),
     gfMul v (det3 (S 3) (S 1) (S 2) (S 4) (S 2) (S 3) (S 5) (S 3) (S 4))]
  else if d2 ≠ 0 then
    let v := gfInv d2
    [gfMul v (gfMul (S 0) (S 3) ^^^ gfMul (S 1) (S 2)), gfMul v (gfMul (S 1) (S 3) ^^^ gfMul (S 2) (S 2))]
  else if S 0 ≠ 0 then [gfMul (S 1) (gfInv (S 0))]
  else []

/-- A codeword corrected, with how many symbols were; none where more than three are in error. -/
def rsDecode (cw : List Nat) : Option (List Nat × Nat) :=
  let s := rsSyn cw
  if s.all (· == 0) then some (cw, 0)
  else
    let l := rsLocator s
    let loc := 1 :: l
    let omega := (List.range 6).map (fun k => (List.range (k + 1)).foldl (fun v j => v ^^^ gfMul (loc.getD j 0) (s.getD (k - j) 0)) 0)
    let ev (c : List Nat) (x : Nat) : Nat := gfEval c.reverse x
    let errs := (List.range 128).filterMap (fun i =>
      let X := gfExp (127 - i)
      let Y := gfInv X
      if ev loc Y = 0 then
        let d := l.getD 0 0 ^^^ gfMul (l.getD 2 0) (gfMul Y Y)
        some (i, gfMul X (gfMul (ev omega Y) (gfInv d)))
      else none)
    let fixed := (List.range 128).map (fun i => cw.getD i 0 ^^^ ((errs.find? (fun e => e.1 == i)).map (·.2)).getD 0)
    if errs.length = l.length && !l.isEmpty && (rsSyn fixed).all (· == 0) then some (fixed, errs.length) else none

/-! ## Scrambler and CRC (R318, R319) -/

/-- The next output bit of the scrambler and its state after: the feedback of x^31 + x^28 + 1 (log 30). -/
def scrBit (s : Nat) : Nat × Nat :=
  let b := (s / 2 ^ 30 + s / 2 ^ 27) % 2
  (b, (s * 2 + b) % 2 ^ 31)

/-- A payload scrambled or descrambled under a SEQ: each byte with the next eight output bits, least significant first. -/
def scramble (seq : Nat) (bs : List Byte) : List Byte :=
  (bs.foldl (fun (q : List Byte × Nat) b =>
    let r := (List.range 8).foldl (fun (x : Nat × Nat) k => let o := scrBit x.2; (x.1 + o.1 * 2 ^ k, o.2)) (0, q.2)
    (q.1 ++ [b ^^^ BitVec.ofNat 8 r.1], r.2)) ([], 0x7FFFFFFF ^^^ seq)).1

/-- CRC-64 of header and payload, inverted at the end. -/
def frameCrc (bs : List Byte) : Nat := crcBytes (crcPoly 2) (2 ^ 64 - 1) bs ^^^ (2 ^ 64 - 1)

/-! ## Frames (Tables 16-1, 16-2) -/

/-- A frame header: TYPE, VC, SEQ, ACK, NAK and LEN. -/
structure FrameHdr where
  type : Nat
  vc : Nat := 0
  seq : Nat := 0
  ack : Nat := 0
  nak : Bool := false
  len : Nat := 0
deriving DecidableEq, Repr

def FrameHdr.word (h : FrameHdr) : Nat :=
  0x5EC9 + h.type % 8 * 2 ^ 16 + h.vc % 4 * 2 ^ 19 + h.seq % 4096 * 2 ^ 21 + h.ack % 4096 * 2 ^ 33 + b2n h.nak * 2 ^ 45 + h.len % 64 * 2 ^ 46

def hdrOfWord (w : Nat) : FrameHdr :=
  { type := bits w 16 3, vc := bits w 19 2, seq := bits w 21 12, ack := bits w 33 12, nak := bit w 45, len := bits w 46 6 }

/-- Two lists interleaved, and the symbols of each codeword taken apart. -/
def interleave (a b : List Nat) : List Nat := (List.zip a b).flatMap (fun p => [p.1, p.2])
def everyOther (k : Nat) (l : List Nat) : List Nat := (List.range (l.length / 2)).map (fun i => l.getD (2 * i + k) 0)

/-- The 256 bytes of a frame. -/
def frameBytes (h : FrameHdr) (payload : List Byte) : List Byte :=
  let pl := (payload ++ List.replicate 228 0).take 228
  let hd := leBytes 8 h.word
  let data := hd ++ scramble h.seq pl ++ leBytes 8 (frameCrc (hd ++ pl))
  let ns := data.map BitVec.toNat
  data ++ (interleave (rsParity (everyOther 0 ns)) (rsParity (everyOther 1 ns))).map (BitVec.ofNat 8)

/-- What a receiver makes of 256 bytes: an uncorrectable codeword, a failed CRC with the symbols corrected, or a frame with them, its header and its
payload. A header R316 does not allow fails as the CRC does, and so does a wrong MARKER (log 30). -/
inductive FrameIn
  | uncorr
  | badCrc (fixed : Nat)
  | good (fixed : Nat) (h : FrameHdr) (payload : List Byte)
deriving DecidableEq, Repr

def readFrame (bs : List Byte) : FrameIn :=
  let ns := ((bs ++ List.replicate 256 0).take 256).map BitVec.toNat
  match rsDecode (everyOther 0 ns), rsDecode (everyOther 1 ns) with
  | some (a, n), some (b, m) =>
    let d := (interleave a b).map (BitVec.ofNat 8)
    let w := leNat (d.take 8)
    let h := hdrOfWord w
    let pl := scramble h.seq ((d.drop 8).take 228)
    if leNat ((d.drop 236).take 8) = frameCrc (d.take 8 ++ pl) && w / 2 ^ 52 == 0 && w % 2 ^ 16 == 0x5EC9 && h.type < 4 && h.len ≤ 57 &&
       (if h.type = 1 then h.vc != 3 else h.vc == 0 && h.len == 0) then
      .good (n + m) h pl
    else .badCrc (n + m)
  | _, _ => .uncorr

/-! ## Units on a channel (R321, log 31) -/

/-- The header and payload of a unit: 48 bytes of header. -/
def StackUnit.bytes (u : StackUnit) : List Byte :=
  leBytes 8 (u.kind % 4 + u.code % 256 * 2 ^ 2 + u.cls % 8 * 2 ^ 10 + u.src % 4096 * 2 ^ 13 + u.sdev % 4 * 2 ^ 25 + u.inst % 16384 * 2 ^ 27 +
    b2n u.poison * 2 ^ 41 + b2n u.flag * 2 ^ 42 + u.data.length % 8192 * 2 ^ 43 + u.ddev % 4 * 2 ^ 56 + b2n u.tracked * 2 ^ 58 + u.priv % 4 * 2 ^ 59) ++
  leBytes 8 u.addr ++ leBytes 8 (u.tag % 2 ^ 32 + u.epoch % 2 ^ 32 * 2 ^ 32) ++ leBytes 8 u.mask ++ leBytes 8 u.loc ++ leBytes 8 u.tAcc ++ u.data ++
  List.replicate ((4 - u.data.length % 4) % 4) 0

/-- The length of the unit a header begins, and the unit. -/
def unitLen (bs : List Byte) : Nat := 48 + (bits (leNat (bs.take 8)) 43 13 + 3) / 4 * 4
def unitOf (bs : List Byte) : StackUnit :=
  let w := leNat (bs.take 8)
  let t := leNat ((bs.drop 16).take 8)
  { kind := bits w 0 2, code := bits w 2 8, cls := bits w 10 3, src := bits w 13 12, sdev := bits w 25 2, inst := bits w 27 14,
    poison := bit w 41, flag := bit w 42, ddev := bits w 56 2, tracked := bit w 58, priv := bits w 59 2, addr := leNat ((bs.drop 8).take 8),
    tag := t % 2 ^ 32, epoch := t / 2 ^ 32, mask := leNat ((bs.drop 24).take 8), loc := leNat ((bs.drop 32).take 8), tAcc := leNat ((bs.drop 40).take 8),
    data := (bs.drop 48).take (bits w 43 13) }

/-- The whole units at the front of a stream, and what is left of it. -/
def unitsOf : Nat → List Byte → List StackUnit × List Byte
  | 0, bs => ([], bs)
  | n + 1, bs =>
    if bs.length < 48 || bs.length < unitLen bs then ([], bs)
    else let r := unitsOf n (bs.drop (unitLen bs)); (unitOf bs :: r.1, r.2)

/-! ## TRAIN and CTRL payloads (Tables 16-4, 16-6) -/

/-- A field of a payload. -/
def plField (bs : List Byte) (at_ n : Nat) : Nat := leNat ((bs.drop at_).take n)

end Sys2Proof.Machine
end

