-- ==== Sys2Proof/Machine/Sirfin.lean ====
section
/-! DEFINITION. Sirfin links: training, receiving and sending frames, credits, replay, retraining and loss (R315 to R328). -/

namespace Sys2Proof.Machine

/-! ## Registers and faults -/

/-- The state of a link: 0 DOWN, 1 EQ, 2 SEARCH, 3 TRAIN, 4 UP, 5 RETRAIN, 6 REFUSED. -/
def State.linkState (s : State) (l : Nat) : Nat := s.g SRF_STATUS_STATE l

/-- A fault of a link, scoped to it (R337). -/
def State.linkFault (s : State) (f : Fld) (l cls : Nat) : State := (s.setF f l).fault (src 0x0E f.lsb) cls (scope 7 l)

/-- A fault of the stack (R337). -/
def State.stackFault (s : State) (f : Fld) (cls : Nat) : State := (s.setF f).fault (src 0x0E (32 + f.lsb)) cls 0

/-- The frames a receive buffer holds (Table 16-3). -/
def vcSize (vc : Nat) : Nat := if vc = 1 then 128 else 512

/-- LIMIT as this device gives it for a channel, and the credit it has on one (R323). -/
def LinkX.ours (x : LinkX) (vc : Nat) : Nat := (ngetD x.taken vc 0 + vcSize vc) % 2 ^ 32
def LinkX.avail (x : LinkX) (vc : Nat) : Nat := (ngetD x.limit vc (vcSize vc) + 2 ^ 32 - ngetD x.sent vc 0) % 2 ^ 32

/-- The link's registers that follow its counts. -/
def State.linkRegs (s : State) (l : Nat) : State :=
  let x := s.link l
  (((s.p SRF_CREDIT_REQ_AVAIL (x.avail 0) l).p SRF_CREDIT_SNP_AVAIL (x.avail 1) l).p SRF_CREDIT_RSP_AVAIL (x.avail 2) l).p SRF_STATUS_UNACKED x.replay.length l

/-- The links that are UP to a device, as STK_PEER shows them, and whether traffic to it goes through the master (R330). -/
def State.peerRegs (s : State) : State :=
  (List.range 4).foldl (fun s d =>
    let up := (List.range 4).filter (fun l => s.linkState l == 4 && s.g SRF_PEER_DEV l == d)
    let s := s.p STK_PEER_LINKS (up.foldl (fun v l => v + 2 ^ l) 0) d
    let m := bit (s.g STK_STATUS_MEMBERS) d && d != s.dev
    s.pb STK_PEER_RELAY (m && up == [] && d != s.g STK_STATUS_MASTER_DEV) d) s

/-- The state of a link changed. -/
def State.linkGo (s : State) (l st : Nat) : State := (s.p SRF_STATUS_STATE st l).peerRegs

/-- The condition of a link that is DOWN. -/
def srfDown (l : Nat) : Nat × Nat := (src 0x0E 4, scope 7 l)

/-! ## Membership -/

/-- The membership a device sees: MEMBERS, the marks of each peer, and the size of the stack (R30). -/
def State.membersSet (s : State) (ms : Nat) : State :=
  let s := s.p STK_STATUS_MEMBERS ms
  let s := (List.range 4).foldl (fun s d => s.pb STK_PEER_MEMBER (bit ms d) d) s
  let s := { s with stk := { s.stk with telling := s.stk.telling.filter (fun e => bit ms e.1) } }
  (s.p ID_STACK_STACK_SIZE (max 1 ((List.range 4).filter (fun d => bit ms d)).length)).peerRegs

/-- Links that carry traffic: those UP to a member of a stack this device is in (R328, R330). -/
def State.serve (s : State) : State :=
  let inn := s.g STK_STATUS_STATE == 2 || s.g STK_STATUS_STATE == 3
  (List.range 4).foldl (fun s l =>
    s.pb SRF_STATUS_IN_SERVICE (inn && (s.linkState l == 4 || (s.linkState l == 5 && s.on SRF_STATUS_IN_SERVICE l)) &&
      bit (s.g STK_STATUS_MEMBERS) (s.g SRF_PEER_DEV l) && s.g SRF_PEER_DEV l != s.dev) l) s

/-- Whether a unit is a request that its originator waits for: a snoop or answer is none, nor is an event, a message or a register told that is not
answered. -/
def StackUnit.awaited (u : StackUnit) : Bool := u.kind == 0 && !(u.tag == 0 && decide (6 ≤ u.code) && u.code != 9)

/-- Units of other devices, snoops and answers that a link or a device takes with it (R326): a request is concluded at its originator with LINK_DOWN,
any other is discarded and recorded as a consequence. -/
def State.unitsLost (s : State) (us : List StackUnit) (causes : List (Nat × Nat)) : State :=
  us.foldl (fun s u =>
    if u.awaited then s.stackPush { kind := 2, code := ST_LINK_DOWN, cls := 2, src := u.src, sdev := s.dev, ddev := u.sdev, inst := u.inst, addr := u.addr, tag := u.tag }
    else s.report { source := src 0x0E 63, cls := CE, scope := (causes.map (·.2)).headD 0, causes := causes }) s

/-- A device departed: snoops outstanding to its holders lose at once (R134), what waits for it is concluded (R336). -/
def State.departs (s : State) (d : Nat) : State :=
  if s.hm.departed.contains d then s else
  let s := { s with hm := { s.hm with departed := d :: s.hm.departed } }
  let s := ((s.p STK_STATUS_DEPARTED (s.g STK_STATUS_DEPARTED ||| 2 ^ d)).setF STK_PEER_DEPARTED d).condBegin splitCond.1 splitCond.2
  let outs := s.hm.reqs.flatMap (fun e => (e.2.snoops.filter (fun x => x.holder / 4096 == d)).map (fun x => (x.holder, x.line)))
  let s := outs.foldl (fun s x =>
    match s.snoopOwner x.1 x.2 with
    | some (r, sn) => let q := s.snoopLost r sn [splitCond]; q.1.homeGo q.2 sn.line
    | none => s) s
  let s := s.concludeAll ((s.sw.txns.filter (fun e => match e.2.place with | .stack x => x == d | .remote _ x => x == d | _ => false)).map (·.1)) ST_LINK_DOWN
  let stay (us : List StackUnit) : List StackUnit := us.filter (fun u => u.ddev != d)
  let kept := s.stk.held
  let s := ({ s with stk := { s.stk with held := stay kept } }).unitsLost (kept.filter (fun u => u.ddev == d)) [splitCond]
  ((List.range 4).foldl (fun s l =>
    let x := s.link l
    let s := s.linkMod l (fun x => { x with req := stay x.req, snp := stay x.snp, rsp := stay x.rsp })
    s.unitsLost ((x.req ++ x.snp ++ x.rsp).filter (fun u => u.ddev == d)) [splitCond]) s).stackGo

/-- A device is back: its mark goes. -/
def State.returns (s : State) (d : Nat) : State :=
  if !(s.hm.departed.contains d) then s else
  let s := { s with hm := { s.hm with departed := s.hm.departed.filter (· != d) } }
  let s := (s.p STK_STATUS_DEPARTED (s.g STK_STATUS_DEPARTED &&& (15 - 2 ^ d))).p STK_PEER_DEPARTED 0 d
  if s.hm.departed = [] then s.condEnd splitCond.1 splitCond.2 else s

/-! ## Training (R315, R320, R328) -/

/-- STACK_PIN (Table 18-6): its role, and whether it pins another device number than the straps (R371). -/
def State.pinRole (s : State) : Nat := s.g TALLY_VALUE 2 % 4
def State.pinAlone (s : State) : Bool :=
  (s.pinRole == 2 && !(s.on ID_STACK_MASTER_STRAP)) || (bit (s.g TALLY_VALUE 2) 2 && bits (s.g TALLY_VALUE 2) 4 2 != s.dev)
/-- The device is master by its strap, as far as the pin lets it be. -/
def State.masterStrap (s : State) : Bool := s.on ID_STACK_MASTER_STRAP && s.pinRole != 1

/-- The TRAIN payload this device sends on a link (Table 16-6). -/
def State.trainPayload (s : State) (l : Nat) : List Byte :=
  let st := s.g STK_STATUS_STATE
  let inStack := st == 2 || (st == 3 && decide (s.g ID_STACK_STACK_SIZE > 1))
  leBytes 1 (s.dev + 4 * b2n s.masterStrap + 8 * b2n inStack) ++ leBytes 1 l ++ leBytes 2 (s.g ID_REV_MINOR + s.g ID_REV_MAJOR * 256) ++
  leBytes 4 s.p0Version ++ leBytes 4 (s.g CMT_STATUS_GENERATION) ++ leBytes 4 (s.g STK_STATUS_STACK_ID) ++
  leBytes 4 (s.g PLC_EPOCH_STATUS_CUR_EPOCH) ++ leBytes 8 (s.g ID_SERIAL_UNIQUE_ID)

/-- A link enters equalisation. -/
def State.linkStart (s : State) (l : Nat) : State :=
  if s.on HJ_GATE_CLK_GATED (48 + l / 2) || s.on HJ_GATE_PWR_GATED (48 + l / 2) || !(s.on SRF_CFG_EN l) then s
  else ((s.p SRF_STATUS_CAUSE 0 l).p SRF_STATUS_LOCKED 0 l).linkGo l 1

/-- SIRFIN_FAR_END_PRESENCE: training begins on a DOWN link. -/
def execSirfinFarEndPresence (l : LinkId) (s : State) : Out :=
  .next (
    let s := s.linkMod l (fun x => { x with present := true })
    if s.up && s.linkState l == 0 then s.linkStart l else s)

/-- SIRFIN_EQUALISATION_DONE: the receiver searches for a frame boundary. -/
def execSirfinEqualisationDone (l : LinkId) (s : State) : Out :=
  whenUp s fun s => if s.linkState l ≠ 1 then s else (s.linkMod l (fun x => { x with good := 0, bad := 0, train := [], trainCnt := 0 })).linkGo l 2

/-- SIRFIN_LANE_FAIL. -/
def execSirfinLaneFail (l : LinkId) (s : State) : Out :=
  whenUp s fun s => if s.linkState l ≠ 1 then s else ((s.p SRF_STATUS_CAUSE 6 l).linkGo l 0).linkFault SRF_ERR_LANE_FAIL l CE

/-- A link is REFUSED with a cause. -/
def State.linkRefuse (s : State) (l cause : Nat) : State := ((s.p SRF_STATUS_CAUSE cause l).linkGo l 6).linkFault SRF_ERR_PEER_BAD l CE

/-- SIRFIN_REFUSED_RETRY: training is repeated. -/
def execSirfinRefusedRetry (l : LinkId) (s : State) : Out :=
  whenUp s fun s => if s.linkState l ≠ 6 then s else s.linkStart l

/-! ## Joins: the checks of the master (R331) -/

/-- A join starts over a link: the next steps are authentication's, and Hjelvon holds the tile (R372). -/
def State.joinStart (s : State) (d l : Nat) : State :=
  { s.p HJ_GATE_HELD 1 (48 + l / 2) with stk := { s.stk with join := some (d, l, 3) } }

/-- The master's checks of a joiner (JOIN_CHECK): JOIN_EN, DEV, silicon and firmware. -/
def State.joinCheck (s : State) (l : Nat) : State :=
  let d := s.g SRF_PEER_DEV l
  let refuse (s : State) (cause : Nat) : State := s.p SRF_STATUS_CAUSE cause l
  if s.stk.drawFailed then s
  else if !(s.on STK_CTRL_JOIN_EN) then refuse s 8
  else if bit (s.g STK_STATUS_MEMBERS) d then (refuse s 3).stackFault STK_ERR_DEV_ID_DUP CE
  else if s.g SRF_PEER_SI_REV l / 256 ≠ s.g ID_REV_MAJOR || s.g SRF_PEER_FW_VERSION l ≠ s.p0Version then (refuse s 2).stackFault STK_ERR_VERSION_MISMATCH CE
  else (s.p SRF_STATUS_CAUSE 0 l).joinStart d l

/-- Whether a link's far end is in this device's own stack: a member that says so under the same identity. -/
def State.peerInside (s : State) (l : Nat) : Bool :=
  s.on SRF_PEER_IN_STACK l && bit (s.g STK_STATUS_MEMBERS) (s.g SRF_PEER_DEV l) && plField (s.link l).train 12 4 == s.g STK_STATUS_STACK_ID

/-- A link that is UP over which a device could join, tried by the master; a device ALONE or ISOLATED starts to join its master,
unless the pin holds it ALONE (R371). -/
def State.joinTry (s : State) (l : Nat) : State :=
  if s.stk.join.isSome || s.linkState l ≠ 4 || s.on SRF_STATUS_IN_SERVICE l then s
  else
    let st := s.g STK_STATUS_STATE
    if s.pinAlone && st = 0 && (s.on SRF_PEER_MASTER_STRAP l || s.masterStrap) then (s.setF HJ_ERR_STACK_PIN).fault (src 0x10 7) CE 0
    else if st = 3 && !(s.on SRF_PEER_MASTER_STRAP l) then (if s.peerInside l then s.serve else s.joinCheck l)
    else if (st = 0 || st = 4) && s.on SRF_PEER_MASTER_STRAP l then
      (s.joinStart (s.g SRF_PEER_DEV l) l).p STK_STATUS_STATE 1
    else s.serve

/-- Every link is tried. -/
def State.joinNext (s : State) : State := (List.range 4).foldl (fun s l => s.joinTry l) s

/-- A join ends without its last step: a joiner goes back to ALONE or ISOLATED on its own tables (R332). -/
def State.joinEnd (s : State) : State :=
  match s.stk.join with
  | none => s
  | some (_, l, _) =>
    let s := { s.p HJ_GATE_HELD 0 (48 + l / 2) with stk := { s.stk with join := none, copy := none, queued := [] } }
    if s.g STK_STATUS_STATE = 1 then s.p STK_STATUS_STATE (if s.hm.departed = [] then 0 else 4) else s

/-- A join abandoned. -/
def State.joinAbort (s : State) : State := if s.stk.join.isSome then s.joinEnd.stackFault STK_ERR_JOIN_ABORT CE else s

/-- A link is UP: the units that waited for a path take one (R85, R87). -/
def State.pathFound (s : State) : State :=
  let s := s.stackGo
  (s.sw.txns.filter (fun e => match e.2.place with | .stack _ => e.2.path / 16 == 0 | _ => false)).foldl (fun s e => s.route e.1 e.2) s

/-- Training ends: the checks of R328, and the link is REFUSED or UP with nothing sent or received on it. -/
def State.trainingDone (s : State) (l : Nat) (pl : List Byte) : State :=
  let b0 := plField pl 0 1
  let s := ((s.p SRF_PEER_DEV (b0 % 4) l).pb SRF_PEER_MASTER_STRAP (bit b0 2) l).pb SRF_PEER_IN_STACK (bit b0 3) l
  let s := ((s.p SRF_PEER_LINK (plField pl 1 1 % 4) l).p SRF_PEER_SI_REV (plField pl 2 2) l).p SRF_PEER_FW_VERSION (plField pl 4 4) l
  if plField pl 20 8 = s.g ID_SERIAL_UNIQUE_ID then s.linkRefuse l 5
  else if bit b0 2 && s.masterStrap then (s.linkRefuse l 1).stackFault STK_ERR_MASTER_CONFLICT CE
  else
    let s := s.p STK_PEER_FW_VERSION (plField pl 4 4) (b0 % 4)
    let s := s.linkMod l (fun x => { present := true, req := x.req, snp := x.snp, rsp := x.rsp, rx := x.rx, train := pl, replayAt := x.replayAt, downAt := x.downAt })
    let s := (((s.p SRF_STATUS_TX_SEQ 0 l).p SRF_STATUS_RX_EXP 0 l).linkRegs l).linkGo l 4
    let k := srfDown l
    ((if s.cond k.1 k.2 then s.condEnd k.1 k.2 else s).serve.joinTry l).pathFound

/-! ## Loss (R326) -/

/-- The whole units at the front of a channel's received bytes. -/
def wholeUnits : (fuel : Nat) → List Byte → List Byte
  | 0, _ => []
  | fuel + 1, bs => if bs.length < 48 || bs.length < unitLen bs then [] else bs.take (unitLen bs) ++ wholeUnits fuel (bs.drop (unitLen bs))

/-- What a link keeps when it is lost: its receive buffers' whole units, which the far end has seen accepted. -/
def LinkX.lost (x : LinkX) (now : Nat) : LinkX :=
  { present := x.present, replayAt := x.replayAt, downAt := some now,
    rx := (x.rx.map (fun e => (e.1, wholeUnits 300 e.2))).filter (fun e => e.2 != []) }

/-- A link goes DOWN: requests in frames not acknowledged are concluded with LINK_DOWN, snoops and responses in them are discarded and
recorded, what is not sent goes to another link, and a join over the link is abandoned. -/
def State.linkLost (s : State) (l cls : Nat) : State :=
  let x := s.link l
  let s := (s.p SRF_STATUS_LOCKED 0 l).p SRF_STATUS_IN_SERVICE 0 l
  let s := (s.linkGo l 0).linkFault SRF_ERR_LINK_DOWN l cls
  let s := s.condBegin (srfDown l).1 (srfDown l).2
  let parts := x.part.map (·.2)
  let reqs := (x.replay.flatMap (·.reqs) ++ parts.filterMap (·.req)).dedup
  let units := (x.replay.flatMap (·.units) ++ parts.filterMap (·.unit)).dedup
  let s := s.linkMod l (fun x => x.lost s.now)
  let s : State := { s.linkRegs l with stk := { (s.linkRegs l).stk with telling := [] } }
  let s := s.concludeAll reqs ST_LINK_DOWN
  let s := s.unitsLost units [srfDown l]
  let s := ((x.rsp ++ x.snp ++ x.req).foldl (fun s u => s.stackPush u) s).stackGo
  let s := (s.sw.txns.filter (fun e => match e.2.place with | .stack _ => e.2.path / 16 == l + 1 | _ => false)).foldl (fun s e => s.route e.1 e.2) s
  match s.stk.join with
  | some (_, l', _) => if l' = l then s.joinAbort else s
  | none => s

/-- A retrain is entered: the receiver realigns; replay buffers, sequence numbers and credit counts are kept (R325). -/
def State.retrain (s : State) (l : Nat) : State :=
  if s.linkState l ≠ 4 then s
  else ((s.linkMod l (fun x => { x with good := 0, bad := 0, train := x.train, trainCnt := 0, resend := none })).p SRF_STATUS_LOCKED 0 l).linkGo l 5
    |>.linkFault SRF_ERR_RETRAIN l CE

/-- SIRFIN_LINK_LOSS. -/
def execSirfinLinkLoss (l : LinkId) (s : State) : Out :=
  whenUp s fun s =>
    if s.linkState l = 0 then s.linkMod l (fun x => { x with present := false })
    else (s.linkMod l (fun x => { x with present := false })).linkLost l PF

/-- RETRAIN_TIMEOUT. -/
def execRetrainTimeout (l : LinkId) (s : State) : Out :=
  whenUp s fun s => if s.linkState l = 5 then s.linkLost l PF else s

/-- A write of SRF_CFG: values out of range are refused, EN written 0 takes the link down, EN written 1 lets it train, and RETRAIN
retrains it. -/
def srfCfgOp (l : Nat) (w : RegW) (s : State) : State × Nat :=
  let a := sext (s.after w SRF_CFG_ASYM_PS l) 16
  if !(w.within SRF_CFG_REPLAY_TMO_NS 100 4000) || !(w.within SRF_CFG_REPLAY_RETRAIN 1 15) || !(w.within SRF_CFG_CTRL_PERIOD 8 255) ||
     !(w.within SRF_CFG_RETRAIN_TMO_US 10 4000) || (w.has SRF_CFG_ASYM_PS && (decide (a < -10000) || decide (a > 10000))) then (s, ST_ACCESS_DENIED)
  else
    let was := s.on SRF_CFG_EN l
    let s := [SRF_CFG_EN, SRF_CFG_REPLAY_TMO_NS, SRF_CFG_REPLAY_RETRAIN, SRF_CFG_CTRL_PERIOD, SRF_CFG_ASYM_PS, SRF_CFG_RETRAIN_TMO_US].foldl
      (fun s f => s.putW w f l) s
    let s := if was && !(s.on SRF_CFG_EN l) && s.linkState l != 0 then s.linkLost l CE
      else if !was && s.on SRF_CFG_EN l && (s.link l).present && s.linkState l == 0 then s.linkStart l else s
    (if w.has SRF_CFG_RETRAIN && w.val SRF_CFG_RETRAIN == 1 then s.retrain l else s, ST_OK)

/-- SIRFIN_RETRAIN. -/
def execSirfinRetrain (m : Master) (l : LinkId) (s : State) : Out :=
  command m .SRF_CFG l (fun s => (s.retrain l, ST_OK)) s

/-- SIRFIN_LINK_DISABLE. -/
def execSirfinLinkDisable (m : Master) (l : LinkId) (s : State) : Out :=
  command m .SRF_CFG l (fun s =>
    let s := s.p SRF_CFG_EN 0 l
    (if s.linkState l != 0 then s.linkLost l CE else s, ST_OK)) s

/-! ## Replay (R324, R325) -/

/-- A replay from a place in the buffer: it is counted and recorded, and too many without progress retrain the link. -/
def State.replay (s : State) (l k : Nat) : State :=
  let x := s.link l
  let s := s.linkMod l (fun x => { x with resend := some k, stall := x.stall + 1, replayAt := some s.now })
  let s := (s.inc SRF_CNT_REPLAYS l).linkFault SRF_ERR_REPLAY l CE
  if x.stall + 1 ≥ s.g SRF_CFG_REPLAY_RETRAIN l then (s.linkMod l (fun x => { x with stall := 0 })).retrain l else s

/-- Frames up to a SEQ are acknowledged: they leave the replay buffer. -/
def State.acked (s : State) (l ack : Nat) : State :=
  let x := s.link l
  let n := x.replay.findIdx (fun f => f.seq == ack)
  if n ≥ x.replay.length then s
  else ((s.linkMod l (fun x => { x with replay := x.replay.drop (n + 1), stall := 0,
                                        resend := match x.resend with | some k => (if k - (n + 1) < x.replay.length - (n + 1) then some (k - (n + 1)) else none) | none => none })).linkRegs l).stackGo

/-- The ACK and NAK of a frame: the first NAK that names an ACK replays, further ones are ignored for REPLAY_TMO_NS. -/
def State.ackIn (s : State) (l : Nat) (h : FrameHdr) : State :=
  let s := s.acked l h.ack
  let x := s.link l
  let seen := match x.lastNak with | some (a, t) => a == h.ack && decide (s.now < t + s.g SRF_CFG_REPLAY_TMO_NS l) | none => false
  if !h.nak || seen || x.replay = [] then s
  else (s.linkMod l (fun x => { x with lastNak := some (h.ack, s.now) })).replay l 0

/-- REPLAY_TIMEOUT: with a replay under way it finds the work done (Table 16-8). -/
def execReplayTimeout (l : LinkId) (s : State) : Out :=
  whenUp s fun s =>
    let x := s.link l
    match x.replay with
    | [] => s
    | f :: _ => if s.linkState l ≠ 4 || x.resend.isSome then s
                else (s.linkMod l (fun x => { x with lastNak := some ((f.seq + 4095) % 4096, s.now) })).replay l 0

/-- RETRAIN_COMPLETE: both ends are aligned and have exchanged TRAIN frames; the link resends from the far end's RX_EXP. -/
def execRetrainComplete (l : LinkId) (s : State) : Out :=
  whenUp s fun s =>
    if s.linkState l ≠ 5 || !(s.on SRF_STATUS_LOCKED l) || (s.link l).trainCnt = 0 then s
    else (((s.linkMod l (fun x => { x with resend := if x.replay = [] then none else some 0, nak := false, lastNak := none, stall := 0 })).linkGo l 4).serve.joinTry l).pathFound

/-! ## Units received (R321) -/

/-- The slice, die and cells a request from another device takes: of its home slice, or of the die its egress port lies on (R77, R88, R92). -/
def State.farSlice (s : State) (u : StackUnit) : Nat := if u.code = 9 then dieOf (s.pbrOut u.mask) else homeSlice u.addr
def StackUnit.cells (u : StackUnit) : Nat := (u.data.length + 255) / 256

/-- What ties the record of an answer that comes too late to that of its timeout (R43, R327). -/
def xtKey (id : Nat) : Nat × Nat := (0x30000, id)

/-- Whether a hearth of another device has asked for a line again, so that its notice that it dropped the line has been overtaken (R117, R120). -/
def State.asksAgain (s : State) (line holder : Nat) : Bool :=
  s.sw.txns.any (fun e => e.2.dev * 4096 + e.2.src == holder && (e.2.kind == .rdS || e.2.kind == .rdA) && e.2.addr / 64 == line)

/-- Whether a unit can leave its receive buffer: a request for this home waits there for a tracker entry of its slice and for its cells (R88, R93, R113);
one of another device has no reserve there and takes a shared entry (log 86). -/
def State.canTake (s : State) (u : StackUnit) : Bool :=
  u.ddev != s.dev || u.kind != 0 || u.sdev == s.dev || (decide (6 ≤ u.code) && u.code != 9) ||
  (s.trkShares (s.farSlice u) (kindOf u.code == .wb) && decide (u.cells ≤ s.freeFor (s.farSlice u) 0))

/-- The requester a snoop names for a hearth's data, as its mask gives it. -/
def StackUnit.dst (u : StackUnit) : Option (Nat × Nat) := if u.mask = 0 then none else some ((u.mask - 1) % 4, (u.mask - 1) / 4)

/-- A snoop from the home of another device: one to a port that is no HOST port is answered as by a holder of nothing (R119). -/
def State.snoopIn (s : State) (u : StackUnit) : State :=
  let c := u.tag % 4096
  if c < 0x80 && (s.isFollower c || s.g PC_LINK_STATUS_ROLE_BOUND c != 1) then
    s.stackPush { kind := 3, cls := 2, src := c, sdev := s.dev, ddev := u.sdev, inst := u.inst, addr := u.addr, tag := u.tag }
  else s.snoopHere { holder := u.tag, kind := u.code, owner := false, line := u.addr / 64, dst := u.dst, after := if u.epoch = 0 then none else some (u.epoch - 1) }

/-- A register field that another member tells (log 133): at the offset of its register and its first bit. The first tale of a device begins with the copy
of its registers, where there is one. -/
def State.toldIn (s : State) (u : StackUnit) : State :=
  match regAt (u.addr / 64) with
  | some (r, i, j) =>
    match toldFields.find? (fun f => f.reg == r && f.lsb == u.addr % 64) with
    | some f =>
      let old := (nget? u.sdev s.stk.told).getD ((ngetD s.stk.copies u.sdev []).filter (fun e => (fldIds toldFields).contains (Nat.unpair e.1).1))
      { s with stk := { s.stk with told := nset u.sdev ((s.asDev old).p f u.mask i j).regs s.stk.told } }
    | none => s
  | none => s

/-- The registers that this device tells every other member: those that changed since it last told it (log 133). -/
def State.tellPeers (s : State) : State :=
  let mine := s.regs.filter (fun e => (fldIds toldFields).contains (Nat.unpair e.1).1)
  let members := (List.range 4).filter (fun d => d != s.dev && bit (s.g STK_STATUS_MEMBERS) d)
  members.foldl (fun s d =>
    let old := ngetD s.stk.telling d []
    if old == mine then s
    else
      let keys := ((mine.map (·.1)) ++ (old.map (·.1))).dedup.filter (fun k => nget? k mine != nget? k old)
      let s := keys.foldl (fun s k =>
        let ij := Nat.unpair (Nat.unpair k).2
        match toldFields.find? (fun f => f.key ij.1 ij.2 == k) with
        | some f => s.stackPush { kind := 0, code := 10, cls := 2, sdev := s.dev, ddev := d, addr := f.reg.place ij.1 ij.2 * 64 + f.lsb, mask := s.g f ij.1 ij.2 }
        | none => s) s
      { s with stk := { s.stk with telling := nset d mine s.stk.telling } }) s

/-- An event or message of a thread of another device, for a thread or a mailbox of this one (R193, R194): the state after it, and its status. -/
def State.farTake (s : State) (u : StackUnit) : State × Nat :=
  let p2 := bits u.mask 5 2 == 2
  if u.code = 8 then s.toMailbox (u.addr % 4096) u.epoch u.flag u.data
  else match s.thrOf u.addr with
    | none => (s, ST_NO_MATCH)
    | some t =>
      if p2 && (s.th t).inst ≠ u.inst then (s, ST_ACCESS_DENIED)
      else if u.code = 6 then (s.setEvent t (u.mask % 32), ST_OK)
      else match s.rxPush t u.data with
        | some s => (s, ST_OK)
        | none => (s, ST_RETRY)

/-- Such a unit is answered, where its sender waits; what a member tells and a PBR response that answers no request are not answered. -/
def State.farIn (s : State) (u : StackUnit) : State :=
  if u.code = 10 then s.toldIn u
  else if u.code = 12 then s.toPort (s.pbrOut u.mask) (.pbrOut s.dev (s.pbrOut u.mask) true u.data)
  else
  let r := s.farTake u
  if u.tag = 0 then r.1
  else r.1.stackPush { kind := 2, code := r.2, cls := 2, src := u.src, sdev := s.dev, ddev := u.sdev, inst := u.inst, addr := u.addr, tag := u.tag }

/-- A request from another device as it was decoded under its epoch (R78, R225): it is at the home, or waits at the port a PBR request leaves through. -/
def State.requestIn (s : State) (u : StackUnit) : State :=
  let k := kindOf u.code
  let t : Txn := { src := u.src, tag := u.tag, dev := u.sdev, inst := u.inst, cls := k.cls, kind := k, addr := u.addr, len := 64, data := u.data,
                   mask := u.mask, poison := u.poison, keepS := u.flag, tracked := u.tracked, epoch := u.epoch, priv := u.priv, tAcc := u.tAcc, tQueue := s.now,
                   place := .home, hdev := s.dev, die := s.farSlice u, slice := some (s.farSlice u), cells := u.cells }
  if k = .pbr then
    let e := s.pbrOut u.mask
    (s.take { t with addr := 0, host := u.addr, mod := 16 * e, place := .egress e (s.sgOf u.inst) }).1
  else
    let l := s.locUnder u.epoch (u.loc % 2 ^ 10) (u.loc / 2 ^ 10)
    (s.take { t with set := l.set, so := l.so, mod := l.mod, dpa := l.dpa }).1

/-- A request of this device that its home sends back, since a commit has placed its page here: it goes to its slice (R159). -/
def State.homeAgain (s : State) (u : StackUnit) : State :=
  match s.txn u.tag, s.resolve u.addr with
  | some t, some l => s.route u.tag (s.txnAt t l)
  | some t, none => (s.unbacked t (t.addr - s.g IW_BASE_FPA_BASE (t.inst % 4096) * 2 ^ 30)).conclude u.tag (if t.kind.writes then ST_NO_MATCH else ST_POISON) []
  | none, _ => s

/-- A unit from another device: passed on over Sirfin, or a request for this home, a snoop of a holder here, an answer, or a snoop answer. -/
def State.unitIn (s : State) (u : StackUnit) : State :=
  if u.ddev ≠ s.dev then s.stackPush u
  else if u.kind = 0 && 6 ≤ u.code && u.code ≠ 9 then s.farIn u
  else match u.kind with
    | 0 => if u.sdev = s.dev then s.homeAgain u else s.requestIn u
    | 1 => s.snoopIn u
    | 2 =>
      match s.txn u.tag with
      | some t => (match t.place with
        | .remote _ _ => s.farAnswer u.tag t u
        | _ => s)
      | none =>
        if s.stk.late.contains u.tag then
          ({ s with stk := { s.stk with late := s.stk.late.filter (· != u.tag) } }).report
            { source := src 0x0E 63, cls := CE, scope := 0, causes := [xtKey u.tag] }
        else s
    | _ =>
      if u.code = 1 then (if s.asksAgain (u.addr / 64) u.tag then s else s.sfRemove (u.addr / 64) u.tag)
      else s.snoopAnswered u.tag (u.addr / 64) u.flag (if u.data = [] then none else some (u.data, u.poison))

/-- Whole units leave a receive buffer, as far as they can be taken; its frames leave it with the last of them (R323). -/
def State.rxTake (s : State) (l vc : Nat) : Nat → State
  | 0 => s
  | n + 1 =>
    let bs := ngetD (s.link l).rx vc []
    if bs.length < 48 || bs.length < unitLen bs then s.linkMod l (fun x => { x with taken := nset vc (ngetD x.rcvd vc 0) x.taken })
    else if !(s.canTake (unitOf bs)) then s
    else State.rxTake ((s.linkMod l (fun x => { x with rx := nput [] vc (bs.drop (unitLen bs)) x.rx })).unitIn (unitOf bs)) l vc n

/-- A DATA frame accepted: its bytes join the channel, and whole units are taken. -/
def State.dataTake (s : State) (l vc : Nat) (bs : List Byte) : State :=
  (s.linkMod l (fun x => { x with rx := nput [] vc (ngetD x.rx vc [] ++ bs) x.rx, rcvd := nset vc ((ngetD x.rcvd vc 0 + 1) % 2 ^ 32) x.rcvd })).rxTake l vc 300

/-! ## Frames received (R317, R320, R323 to R325, R335) -/

/-- A frame that is lost: counted and recorded, a replay is asked for, and the fourth in a row loses lock (LOCK_LOSS). -/
def State.frameBad (s : State) (l : Nat) (crc : Bool) : State :=
  let s := if crc then (s.inc SRF_CNT_CRC_FAIL l).linkFault SRF_ERR_CRC_FAIL l CE else (s.inc SRF_CNT_UNCORR l).linkFault SRF_ERR_UNCORR l CE
  let n := (s.link l).bad + 1
  let s := s.linkMod l (fun x => { x with bad := n, nak := x.nak || s.linkState l == 4 })
  if n < 4 then s
  else
    let s := (s.p SRF_STATUS_LOCKED 0 l).linkFault SRF_ERR_LOCK_LOST l CE
    let s := s.linkMod l (fun x => { x with bad := 0, good := 0 })
    match s.linkState l with
    | 4 => s.retrain l
    | 3 => s.linkGo l 2
    | _ => s

/-- A frame seen while the receiver searches: the fourth in a row without a correction locks. -/
def State.frameSearch (s : State) (l : Nat) (r : FrameIn) : State :=
  match r with
  | .good 0 _ _ =>
    let n := (s.link l).good + 1
    let s := s.linkMod l (fun x => { x with good := if n = 4 then 0 else n, bad := 0 })
    if n < 4 then s
    else
      let s := s.p SRF_STATUS_LOCKED 1 l
      if s.linkState l = 2 then s.linkGo l 3 else s
  | _ => s.linkMod l (fun x => { x with good := 0 })

/-- A DATA frame in order, a duplicate of a replay, or one that is discarded (R324); one beyond LIMIT retrains the link (R323). -/
def State.dataIn (s : State) (l : Nat) (h : FrameHdr) (pl : List Byte) : State :=
  let e := s.g SRF_STATUS_RX_EXP l
  let x := s.link l
  let behind := (e + 4096 - h.seq) % 4096
  if h.seq = e then
    if ngetD x.rcvd h.vc 0 + 2 ^ 32 - ngetD x.taken h.vc 0 ≥ 2 ^ 32 + vcSize h.vc then (s.linkFault SRF_ERR_CREDIT_ERR l PF).retrain l
    else ((s.p SRF_STATUS_RX_EXP ((e + 1) % 4096) l).linkMod l (fun x => { x with nak := false })).dataTake l h.vc (pl.take (4 * h.len))
  else if 1 ≤ behind && behind ≤ 2048 then s
  else s.linkMod l (fun x => { x with nak := true })

/-- A split as this device sees it, recorded once (R335). -/
def State.splits (s : State) (d : Nat) : State :=
  if s.hm.departed.contains d then s else ((s.stackFault STK_ERR_SPLIT PF).departs d).serve

/-- A CTRL frame: LIMIT counts whole, time samples, and the marks of the master (R323, R333, R335). -/
def State.ctrlIn (s : State) (l : Nat) (pl : List Byte) : State :=
  let s := s.linkMod l (fun x => { x with limit := nset 0 (plField pl 0 4) (nset 1 (plField pl 4 4) (nset 2 (plField pl 8 4) x.limit)),
                                          ctrlTx := plField pl 12 8, ctrlRx := s.now, echoTx := plField pl 20 8, echoRx := plField pl 28 8, sampled := true })
  let s := s.linkRegs l
  if s.g STK_STATUS_STATE ≠ 2 || s.g SRF_PEER_DEV l ≠ s.g STK_STATUS_MASTER_DEV then s
  else
    let ms := plField pl 36 1 % 16
    let ds := plField pl 37 1 % 16
    let s := (List.range 4).foldl (fun s d => if d ≠ s.dev && bit ds d && !(bit ms d) then s.splits d else s) s
    let s := (List.range 4).foldl (fun s d => if bit ms d then s.returns d else s) s
    if bit ms s.dev then (s.membersSet ms).serve else s

/-- A TRAIN frame: eight in a row that are the same end training; in a retrain it tells the far end's RX_EXP; in a link that is UP it
is the far end's retrain. -/
def State.trainIn (s : State) (l : Nat) (h : FrameHdr) (pl : List Byte) : State :=
  match s.linkState l with
  | 3 =>
    let x := s.link l
    let n := if x.train = pl then x.trainCnt + 1 else 1
    let s := s.linkMod l (fun x => { x with train := pl, trainCnt := n })
    if n ≥ 8 then s.trainingDone l pl else s
  | 4 => s.retrain l
  | 5 => (s.acked l ((h.seq + 4095) % 4096)).linkMod l (fun x => { x with trainCnt := x.trainCnt + 1 })
  | _ => s

/-- A frame of a type received on a link; a good frame of another type than the command's is no such event. -/
def State.frameIn (s : State) (l type : Nat) (bs : List Byte) : State :=
  let st := s.linkState l
  let r := readFrame bs
  if (match r with | .good _ h _ => h.type != type | _ => false) || st = 0 || st = 1 then s
  else if !(s.on SRF_STATUS_LOCKED l) then s.frameSearch l r
  else match r with
    | .uncorr => s.frameBad l false
    | .badCrc n => (s.add SRF_CNT_CORR_SYM n l).frameBad l true
    | .good n h pl =>
      let s := (s.add SRF_CNT_CORR_SYM n l).linkMod l (fun x => { x with bad := 0 })
      if type = 3 then s.trainIn l h pl
      else if st ≠ 4 then s
      else
        let s := if type = 1 then s.dataIn l h pl else if type = 2 then s.ctrlIn l pl else s
        if s.linkState l = 4 then s.ackIn l h else s

/-- SIRFIN_DATA_FRAME. -/
def execSirfinDataFrame (l : LinkId) (bytes : List Byte) (s : State) : Out := whenUp s fun s => s.frameIn l 1 bytes
/-- SIRFIN_CTRL_FRAME. -/
def execSirfinCtrlFrame (l : LinkId) (bytes : List Byte) (s : State) : Out := whenUp s fun s => s.frameIn l 2 bytes
/-- SIRFIN_IDLE_FRAME. -/
def execSirfinIdleFrame (l : LinkId) (bytes : List Byte) (s : State) : Out := whenUp s fun s => s.frameIn l 0 bytes
/-- SIRFIN_TRAIN_FRAME. -/
def execSirfinTrainFrame (l : LinkId) (bytes : List Byte) (s : State) : Out := whenUp s fun s => s.frameIn l 3 bytes

/-! ## Frames sent (R322 to R324) -/

/-- The unit a request is as it crosses. -/
def State.unitFor (s : State) (id : Nat) (t : Txn) : StackUnit := s.unitOfTxn t id

/-- The next unit of a channel of a link, taken from its queue: a request of this device departs (R94, R327). -/
def State.nextUnit (s : State) (l vc : Nat) : Option (TxPart × State) :=
  let x := s.link l
  match vc with
  | 0 =>
    match x.req with
    | u :: rest => some ({ bytes := u.bytes, unit := some u }, s.linkMod l (fun x => { x with req := rest }))
    | [] =>
      match s.headOf (fun t => match t.place with | .stack _ => t.path / 16 == l + 1 | _ => false) with
      | some (id, t) => if t.spilled = 0 then some ({ bytes := (s.unitFor id t).bytes, req := some id }, s.txnSet id { t with place := .remote l t.hdev, tQueue := s.now })
                        else none
      | none => none
  | 1 => match x.snp with | u :: rest => some ({ bytes := u.bytes, unit := some u }, s.linkMod l (fun x => { x with snp := rest })) | [] => none
  | _ => match x.rsp with | u :: rest => some ({ bytes := u.bytes, unit := some u }, s.linkMod l (fun x => { x with rsp := rest })) | [] => none

/-- What a frame carries so far: its bytes, this device's requests, its other units, and what is left of its last unit. -/
structure Filling where
  bytes : List Byte := []
  reqs : List Nat := []
  units : List StackUnit := []
  left : TxPart := {}
deriving DecidableEq, Repr

/-- A unit, or what is left of one, put into a frame of 228 bytes. -/
def Filling.put (f : Filling) (p : TxPart) : Filling :=
  let room := 228 - f.bytes.length
  { bytes := f.bytes ++ p.bytes.take room,
    reqs := f.reqs ++ p.req.toList, units := f.units ++ p.unit.toList,
    left := if p.bytes.length ≤ room then {} else { p with bytes := p.bytes.drop room } }

/-- A channel's units put into a frame until it is full or none waits. -/
def State.fill (s : State) (l vc : Nat) : Nat → Filling → State × Filling
  | 0, f => (s, f)
  | n + 1, f =>
    if f.bytes.length ≥ 228 then (s, f)
    else match s.nextUnit l vc with
      | some (p, s') => State.fill s' l vc n (f.put p)
      | none => (s, f)

/-- Whether a channel has something to send. -/
def State.vcReady (s : State) (l vc : Nat) : Bool := (ngetD (s.link l).part vc {}).bytes != [] || (s.nextUnit l vc).isSome

/-- The header every frame carries back: ACK, and NAK while a replay is asked for. -/
def State.hdr (s : State) (l type : Nat) : FrameHdr :=
  { type := type, seq := s.g SRF_STATUS_TX_SEQ l, ack := (s.g SRF_STATUS_RX_EXP l + 4095) % 4096, nak := (s.link l).nak && s.linkState l == 4 }

/-- A frame leaves; frames since the last CTRL frame are counted. -/
def State.frameOut (s : State) (l : Nat) (h : FrameHdr) (pl : List Byte) : State :=
  (s.send (.frame l (frameBytes h pl))).linkMod l (fun x => { x with sinceCtrl := if h.type = 2 then 0 else x.sinceCtrl + 1 })

/-- The CTRL payload (Table 16-4). -/
def State.ctrlPayload (s : State) (l : Nat) : List Byte :=
  let x := s.link l
  let m := s.g STK_STATUS_STATE == 3
  leBytes 4 (x.ours 0) ++ leBytes 4 (x.ours 1) ++ leBytes 4 (x.ours 2) ++ leBytes 8 s.now ++ leBytes 8 x.ctrlTx ++ leBytes 8 x.ctrlRx ++
  leBytes 1 (if m then s.g STK_STATUS_MEMBERS else 0) ++ leBytes 1 (if m then s.g STK_STATUS_DEPARTED else 0)

/-- Whether a CTRL frame is due: CTRL_PERIOD frames since the last, or a LIMIT 64 beyond the one it carried. -/
def State.ctrlDue (s : State) (l : Nat) : Bool :=
  let x := s.link l
  x.sinceCtrl + 1 ≥ s.g SRF_CFG_CTRL_PERIOD l || [0, 1, 2].any (fun v => (x.ours v + 2 ^ 32 - ngetD x.lastLimit v (vcSize v)) % 2 ^ 32 ≥ 64)

/-- A new DATA frame of a channel. -/
def State.dataOut (s : State) (l vc : Nat) : State :=
  let part := ngetD (s.link l).part vc {}
  let f0 : Filling := if part.bytes = [] then {} else ({} : Filling).put part
  let r := s.fill l vc 16 f0
  let f := r.2
  let s := r.1
  let seq := s.g SRF_STATUS_TX_SEQ l
  let fr : TxFrame := { seq := seq, vc := vc, payload := f.bytes, reqs := f.reqs, units := f.units }
  let h := { s.hdr l 1 with vc := vc, len := f.bytes.length / 4 }
  let s := s.frameOut l h f.bytes
  let s := s.linkMod l (fun x => { x with part := nput {} vc f.left x.part, replay := x.replay ++ [fr], sent := nset vc ((ngetD x.sent vc 0 + 1) % 2 ^ 32) x.sent })
  (s.p SRF_STATUS_TX_SEQ ((seq + 1) % 4096) l).linkRegs l

/-- SIRFIN_FRAME_SEND: a CTRL frame that is due, a replay, a new DATA frame in the order RSP, SNP, REQ, or IDLE; TRAIN in training
and in a retrain once aligned. A tile without its clock sends nothing (R36); requests that waited in a receive buffer are taken as there is room, whatever
has become of the link since. -/
def execSirfinFrameSend (l : LinkId) (s : State) : Out :=
  whenUp s fun s =>
    let s := [0, 1, 2].foldl (fun s vc => if ngetD (s.link l).rx vc [] = [] then s else s.rxTake l vc 300) s
    let s := if s.on SRF_STATUS_IN_SERVICE l then s.tellPeers else s
    let st := s.linkState l
    if st = 0 || st = 1 || !(s.on ISL_STATUS_CLK_PRESENT (34 + l / 2)) then s
    else if st = 3 then s.frameOut l { s.hdr l 3 with seq := s.g SRF_STATUS_RX_EXP l } (s.trainPayload l)
    else if st = 5 && s.on SRF_STATUS_LOCKED l then s.frameOut l { s.hdr l 3 with seq := s.g SRF_STATUS_RX_EXP l } (s.trainPayload l)
    else if st ≠ 4 then s.frameOut l (s.hdr l 0) []
    else if s.ctrlDue l then
      let x := s.link l
      (s.frameOut l (s.hdr l 2) (s.ctrlPayload l)).linkMod l (fun y => { y with lastLimit := [(0, x.ours 0), (1, x.ours 1), (2, x.ours 2)] })
    else
      let x := s.link l
      match x.resend.bind (fun k => (x.replay[k]?).map (fun f => (k, f))) with
      | some (k, f) =>
        (s.frameOut l { s.hdr l 1 with vc := f.vc, seq := f.seq, len := f.payload.length / 4 } f.payload).linkMod l
          (fun x => { x with resend := if k + 1 < x.replay.length then some (k + 1) else none })
      | none =>
        let can (vc : Nat) : Bool := decide (0 < x.avail vc) && decide (x.avail vc ≤ vcSize vc) && s.vcReady l vc
        if !(s.on SRF_STATUS_IN_SERVICE l) || x.replay.length ≥ 256 then s.frameOut l (s.hdr l 0) []
        else if can 2 then s.dataOut l 2
        else if can 1 then s.dataOut l 1
        else if can 0 then s.dataOut l 0
        else s.frameOut l (s.hdr l 0) []

/-! ## The timeout of remote requests (R327) -/

/-- XT_TIMEOUT: the request is answered with TIMEOUT; the record is consequential to what the links to its home, or to the master that it goes through,
met during the wait. -/
def execXtTimeout (id : Nat) (s : State) : Out :=
  whenUp s fun s =>
    match s.txn id with
    | none => s
    | some t =>
      match t.place with
      | .remote k d =>
        if t.dev ≠ s.dev then s else
        let after (o : Option Nat) : Bool := match o with | some a => decide (t.tQueue ≤ a) | none => false
        let causes := (List.range 4).flatMap (fun l =>
          if s.g SRF_PEER_DEV l ≠ d && s.g SRF_PEER_DEV l ≠ s.g SRF_PEER_DEV k then []
          else (if after (s.link l).replayAt then [(src 0x0E 2, scope 7 l)] else []) ++ (if after (s.link l).downAt then [srfDown l] else []))
        let s := (s.setF STK_ERR_XT_TMO).inc STK_CNT_XT_TIMEOUTS
        let s := s.report { source := src 0x0E 39, cls := NC, scope := scope 1 (t.inst % 4096), status := ST_TIMEOUT, addr := some (0, t.addr),
                            access := if t.kind.writes then 2 else 1, inst := some t.inst, core := t.src, dev := s.dev, causes := causes, keys := [xtKey id] }
        ({ s with stk := { s.stk with late := id :: s.stk.late } }).conclude id ST_TIMEOUT []
      | _ => s

end Sys2Proof.Machine
end

