-- ==== Sys2Proof/Machine/Stacks.lean ====
section
/-! DEFINITION. Stacks: joining, time, splits and the stack's own registers (R329 to R336, R369, R371). -/

namespace Sys2Proof.Machine

/-! ## The device's role (R329) -/

/-- The master's stack identity drawn. -/
def State.drawStackId (s : State) : State :=
  if s.drbgOk then
    let d := s.draw
    ({ d.2 with stk := { d.2.stk with drawFailed := false } }.p STK_STATUS_STACK_ID d.1).joinNext
  else { s with stk := { s.stk with drawFailed := true } }

/-- STACK_ID_DRAW_RETRY. -/
def execStackIdDrawRetry (s : State) : Out := whenUp s fun s => if s.stk.drawFailed then s.drawStackId else s

/-- The end of self-test: a strapped device becomes MASTER of a stack of one, any other ALONE (R329, R371). -/
def State.stackStart (s : State) : State :=
  let s := if s.masterStrap && !s.pinAlone then
      (((s.p STK_STATUS_STATE 3).p STK_STATUS_MASTER_DEV s.dev).membersSet (2 ^ s.dev)).drawStackId
    else s
  (List.range 4).foldl (fun s l => if (s.link l).present then s.linkStart l else s) s

/-! ## Registers -/

/-- A write of STK_CTRL: JOIN_EN written 1 tries refused joins again (R331). -/
def stkCtrlOp (w : RegW) (s : State) : State × Nat :=
  let s := s.putAll w [STK_CTRL_JOIN_EN, STK_CTRL_TIME_FWD_EN]
  (if w.has STK_CTRL_JOIN_EN && w.val STK_CTRL_JOIN_EN == 1 && s.up then s.joinNext else s, ST_OK)

/-- A write of STK_CFG: values outside the ranges are refused. -/
def stkCfgOp (w : RegW) (s : State) : State × Nat :=
  if !(w.within STK_CFG_SPLIT_TMO_US 10 10000) || !(w.within STK_CFG_XT_TMO_US 10 1000000) || !(w.within STK_CFG_TS_PERIOD_US 100 4000) then (s, ST_ACCESS_DENIED)
  else (s.putAll w [STK_CFG_SPLIT_TMO_US, STK_CFG_XT_TMO_US, STK_CFG_TS_PERIOD_US], ST_OK)

/-! ## Joining (Table 16-7) -/

/-- Which RWE field a key of the register file belongs to. -/
def rweIds : List Nat := regMap.flatMap (fun l => l.reg.rwe.map (fun f => Nat.pair f.reg.ctorIdx f.lsb))
def rweKey (k : Nat) : Bool := rweIds.contains (Nat.unpair k).1

/-- The image of a segment entry (Table 8-1). -/
def imageOfSeg (e : SegEntry) : Nat := b2n e.valid + 2 * b2n e.pin + e.set % 2 ^ 10 * 2 ^ 4 + e.dev % 4 * 2 ^ 14 + e.soGib % 2 ^ 24 * 2 ^ 16

/-- What the master copies to a joiner, or skips where it is up to date (R332). -/
def State.joinImage (s : State) (d l : Nat) : JoinImage :=
  let pl := (s.link l).train
  { skip := plField pl 12 4 == s.g STK_STATUS_STACK_ID && (nget? d s.stk.ackGen) == some (plField pl 8 4),
    regs := (ngetD s.stk.copies d []).filter (fun (e : Nat × Nat) => rweKey e.1),
    segs := s.plc.segs.map (fun e => (e.1, imageOfSeg e.2)),
    pages := s.plc.pages.map (fun e => (e.1, imageOfPage e.2)),
    epoch := s.g PLC_EPOCH_STATUS_CUR_EPOCH,
    generation := s.g CMT_STATUS_GENERATION,
    stackId := s.g STK_STATUS_STACK_ID }

/-- The join under way moves to a step. -/
def State.joinStep (s : State) (d l step : Nat) : State := { s with stk := { s.stk with join := some (d, l, step) } }

/-- A join that authentication or time refuses (R331, R334): the link stays UP with the cause; a joiner is back on its own tables. -/
def State.joinRefused (s : State) (l cause : Nat) (f : Fld) (cls : Nat) : State :=
  let s := (s.p SRF_STATUS_CAUSE cause l).stackFault f cls
  if s.g STK_STATUS_STATE = 1 then s.joinAbort else s.joinEnd

/-- An authentication that its timeout ended answers after all: the answer is discarded and recorded (R43, R44). -/
def State.joinAuthLate (s : State) : State :=
  if s.stk.authLate then
    ({ s with stk := { s.stk with authLate := false } }).report
      { source := src 0x0E 63, cls := CE, scope := 0, causes := [(src 0x0E (32 + STK_ERR_AUTH_FAIL.lsb), 0)] }
  else s

/-- JOIN_AUTH_DONE (R369, R334): time is aligned and the master copies its configuration. A member steps forward with its master. -/
def execJoinAuthDone (ok : Bool) (ahead : Int) (s : State) : Out :=
  whenUp s fun s =>
    match s.stk.join with
    | none =>
      if s.g STK_STATUS_STATE = 2 then (if ok && decide (0 < ahead) && decide (ahead ≤ 1000000) then s.tbForward ahead.toNat else s)
      else s.joinAuthLate
    | some (d, l, step) =>
      if step ≠ 3 then s.joinAuthLate
      else
        let s := s.p HJ_GATE_HELD 0 (48 + l / 2)
        let joiner := s.g STK_STATUS_STATE == 1
        if !ok then s.joinRefused l 4 STK_ERR_AUTH_FAIL PF
        else if ahead > 1000000 || (!joiner && decide (0 < ahead) && !(s.on STK_CTRL_TIME_FWD_EN)) then s.joinRefused l 7 STK_ERR_TIME_AHEAD CE
        else if joiner then (if ahead < 0 then s.tbForward (-ahead).toNat else s).joinStep d l 5
        else
          let s := if ahead > 0 then s.tbForward ahead.toNat else s
          (s.send (.joinCopy d (s.joinImage d l))).joinStep d l 5

/-- JOIN_AUTH_TIMEOUT. -/
def execJoinAuthTimeout (s : State) : Out :=
  whenUp s fun s =>
    match s.stk.join with
    | some (_, l, 3) =>
      let s : State := s.joinRefused l 4 STK_ERR_AUTH_FAIL PF
      { s with stk := { s.stk with authLate := true } }
    | _ => s

/-- JOIN_COPY_DONE: the joiner has the copy, and holds new requests while its own drain (Table 16-7, step 6). -/
def execJoinCopyDone (x : JoinImage) (s : State) : Out :=
  whenUp s fun s =>
    match s.stk.join with
    | some (d, l, 5) =>
      let s := s.joinStep d l 6
      if s.g STK_STATUS_STATE = 1 then { s with stk := { s.stk with copy := some x } } else s
    | _ => s

/-- The master's copy put in place of the joiner's RWE state and placement map (R332); migrations that have not switched are abandoned. -/
def State.copyApply (s : State) (x : JoinImage) : State :=
  if x.skip then s
  else
    let s := s.plc.migs.foldl (fun s m => s.abandon m.1 ST_STALE_EPOCH 4) s
    let s := s.clrWhere rweKey
    let s := { s with regs := (x.regs.filter (fun (e : Nat × Nat) => rweKey e.1)).foldl (fun (m : NMap Nat) (e : Nat × Nat) => nset e.1 e.2 m) s.regs }
    { s with plc := { s.plc with segs := x.segs.foldl (fun (m : NMap SegEntry) (e : Nat × Nat) => nset e.1 (segOfImage e.2 x.epoch) m) [],
                                 pages := x.pages.foldl (fun (m : NMap PageEntry) (e : Nat × Nat) => nset e.1 (pageOfImage e.2 x.epoch) m) [] } }

/-- A commit queued at the joiner is applied. -/
def State.queuedApply (s : State) (q : Nat × Bool × List Staged) : State :=
  let s := (s.applyEntries q.1 q.2.2).p PLC_EPOCH_STATUS_CUR_EPOCH q.1
  if q.2.1 then s.p CMT_STATUS_GENERATION (s.g CMT_STATUS_GENERATION + 1) else s

/-- The joiner takes the stack's configuration and identity (Table 16-7, step 6); its hearth caches start empty (R134). -/
def State.joined (s : State) (d : Nat) (x : JoinImage) : State :=
  let qs := s.stk.queued
  let s := { s with flc := [] }.copyApply x
  let s := (s.p PLC_EPOCH_STATUS_CUR_EPOCH x.epoch).p CMT_STATUS_GENERATION x.generation
  let s := qs.foldl (fun s q => s.queuedApply q) s
  let s := { s with cmt := { s.cmt with tagEpoch := s.g PLC_EPOCH_STATUS_CUR_EPOCH }, stk := { s.stk with join := none, copy := none, queued := [] } }
  let s := (((s.p STK_STATUS_STATE 2).p STK_STATUS_MASTER_DEV d).p STK_STATUS_STACK_ID x.stackId).ppsOff
  let s := (List.range 4).foldl (fun s k => s.returns k) s
  let s := (s.cmt.queue.filter (fun x => !x.lost)).foldl (fun s x => s.toMaster x) s
  ((s.membersSet (2 ^ s.dev ||| 2 ^ d)).serve).inc STK_CNT_JOINS

/-- JOIN_COMPLETE (R330): a joiner with none of its own requests in flight becomes a member; the master adds it to MEMBERS. -/
def execJoinComplete (s : State) : Out :=
  whenUp s fun s =>
    match s.stk.join with
    | some (d, _, 6) =>
      if s.g STK_STATUS_STATE = 1 then
        match s.stk.copy with
        | some x => if s.sw.txns.any (fun e => e.2.dev == s.dev && e.2.kind.composed) then s else s.joined d x
        | none => s
      else
        let s := { s with stk := { s.stk with join := none, ackGen := nset d (s.g CMT_STATUS_GENERATION) s.stk.ackGen,
                                              copies := nset d (ngetD s.stk.copies d []) s.stk.copies } }
        let s := (s.returns d).membersSet (s.g STK_STATUS_MEMBERS ||| 2 ^ d)
        (s.serve.inc STK_CNT_JOINS).joinNext
    | _ => s

/-! ## Splits (R335, R336) -/

/-- The device has no link UP to another. -/
def State.cutOff (s : State) (d : Nat) : Bool := (List.range 4).all (fun l => !(s.linkState l == 4 && s.g SRF_PEER_DEV l == d))

/-- A member becomes ISOLATED: every other device is departed, a commit that was not decided is lost to it, its own among them, which only their expiry
ends (R224), and it goes on as a stack of one. -/
def State.isolate (s : State) : State :=
  let s := { s with cmt := { s.cmt with shadow := [], queue := s.cmt.queue.map (fun (x : Commit) => { x with lost := true }) } }
  let s := (s.stackFault STK_ERR_SPLIT PF).p STK_STATUS_STATE 4
  let s := (List.range 4).foldl (fun s d => if d = s.dev then s else s.departs d) s
  let s := { s with stk := { s.stk with held := [] } }
  let s := (List.range 4).foldl (fun s l => s.linkMod l (fun x => { x with req := [], snp := [], rsp := [] })) s
  let s := (s.membersSet (2 ^ s.dev)).serve
  s.p STK_TIME_LOCKED 0

/-- SPLIT_TIMEOUT. -/
def execSplitTimeout (d : DevId) (s : State) : Out :=
  whenUp s fun s =>
    let st := s.g STK_STATUS_STATE
    if !(s.cutOff d) || d.val = s.dev then s
    else if st = 2 && d.val = s.g STK_STATUS_MASTER_DEV then s.isolate
    else if st = 3 && bit (s.g STK_STATUS_MEMBERS) d then ((s.membersSet (s.g STK_STATUS_MEMBERS &&& (15 - 2 ^ d.val))).splits d).commitSettle
    else s

/-! ## Time (R333) -/

/-- The condition that a member is unlocked. -/
def unlockCond : Nat × Nat := (src 0x0E 37, 0)

/-- TIME_MEASURE: the offset of the lowest link UP to the master; a member far behind steps forward, and otherwise slews by what the spec
leaves open within ±200 ppm (log 1). -/
def execTimeMeasure (s : State) : Out :=
  whenUp s fun s =>
    match (List.range 4).find? (fun l => s.linkState l == 4 && s.g SRF_PEER_DEV l == s.g STK_STATUS_MASTER_DEV) with
    | none => s
    | some l =>
      let x := s.link l
      if s.g STK_STATUS_STATE ≠ 2 || !x.sampled then s
      else
        let num : Int := (((x.ctrlRx : Int) - x.ctrlTx) - ((x.echoRx : Int) - x.echoTx)) * 1000 - sext (s.g SRF_CFG_ASYM_PS l) 16
        let ns := num / 2000
        let s := s.p STK_TIME_OFFSET_NS (wrap ns 32)
        let near : Bool := decide (num.natAbs ≤ 20000)
        let i := if near then min (s.stk.inTol + 1) 4 else 0
        let o := if near then 0 else min (s.stk.outTol + 1) 2
        let s := { s with stk := { s.stk with inTol := i, outTol := o } }
        let k := unlockCond
        let s := if i ≥ 4 && !(s.on STK_TIME_LOCKED) then
            (let s := s.setF STK_TIME_LOCKED; if s.cond k.1 k.2 then s.condEnd k.1 k.2 else s)
          else if o ≥ 2 && s.on STK_TIME_LOCKED then ((s.p STK_TIME_LOCKED 0).stackFault STK_ERR_TIME_UNLOCK CE).condBegin k.1 k.2
          else s
        if ns < -1000 then s.tbForward (-ns).toNat
        else let q := s.fresh; q.2.p TB_ADJ_SLEW_PPB (wrap (slewClamp q.1.toNat) 24)

end Sys2Proof.Machine
end

