-- ==== Sys2Proof/Machine/Power.lean ====
section
/-! DEFINITION. Resets, self-test stages, Kindling and pilot-light state (R7, R356 to R360, R392 to R403, R428). -/

namespace Sys2Proof.Machine

/-! ## What a reset leaves (Table 0-4, R7, R401) -/

/-- Registers that keep their values through every reset but the always-on one: those of the power-up controller, the fuses, and the SPI tag
(R370, R380). -/
def coldKeepRegs : List RegName := [.PU_STATUS, .PU_DIAG, .PU_CFG, .PU_CMD_STATUS, .PU_RAIL, .PU_STAGE_US, .TALLY, .RBC, .FU_BACKSTOP0, .FU_BACKSTOP1]
def coldKeepFlds : List Fld := [FU_LOG_STATUS_LOG_LOST, FU_LOG_STATUS_HBM_FAIL, FU_LOG_STATUS_ODL_FAIL, FU_LOG_STATUS_LOST_CNT, BR_STATUS_LAST_TAG, BR_STATUS_LAST_STATUS, BR_STATUS_SPI_BUSY]

/-- Registers that a warm reset leaves beside these: the always-on domain's, RWS fields, TB_NOW and its steps, PROD, and the straps. -/
def warmKeepRegs : List RegName :=
  [.DMP_GCFG, .DMP_PFAIL_CFG, .DMP_GSTATUS, .DMP_GERR, .DMP_CURVE, .DMP_CFG, .DMP_LIM, .DMP_CTRL, .DMP_STATUS, .DMP_MEAS, .DMP_CAP, .DMP_ERR,
   .HJ_STATUS, .HJ_VERSION, .HJ_BOOT_STATUS, .HJ_ERR, .HJ_DRBG_STATUS, .HJ_GATE, .HJ_CMD, .HJ_ARG, .HJ_RESP, .HJ_RES,
   .BR_CFG, .BR_STATUS, .BR_CNT, .BR_ERR, .BR_ALERT, .BR_CMT, .BR_CMT_STATUS, .SMB_TX_CMD, .SMB_RX_REL, .SB_CFG, .SB_STATUS, .SB_EXP, .SB_SLOT,
   .TB_NOW]
def warmKeepFlds : List Fld := [TB_STATUS_STEP_COUNT, TB_STATUS_HOLDOVER, FU_LOG_IDX_PROD, ID_STACK_DEV_IN_STACK, ID_STACK_MASTER_STRAP]

def coldIds : List Nat := fldIds (coldKeepRegs.flatMap (·.fields) ++ coldKeepFlds)
def warmIds : List Nat :=
  coldIds ++ fldIds (warmKeepRegs.flatMap (·.fields) ++ warmKeepFlds ++
    (regMap.flatMap (fun l => l.reg.fields.filter (fun f => f.acc == .rws || f.acc == .rwsW1c))))

/-- Conditions that outlast a reset, for their cause lies in what the reset does not touch: a lost clock, holdover, and, on a warm one, Damper's and the
entropy source's. -/
def condStays (warm : Bool) (c : Nat × Nat) : Bool :=
  c.1 == src 0x02 2 || c.1 == src 0x02 4 || (warm && (c.1 / 64 == 0x0F || c.1 == src 0x10 0))

/-- Dirty lines that a reset discards are counted (R401). -/
def State.lostDirty (s : State) : State := s.add PU_DIAG_LOST_DIRTY s.dirtyLines

/-- The main domain returned to its reset values: what is cabled and powered outside stays. -/
def State.mainReset (s : State) (ids : List Nat) (warm : Bool) : State :=
  let conds := s.fu.conds.filter (condStays warm)
  let fu : FaultUnit := if warm then
      { waiting := s.fu.waiting.filter (fun r => [0x0F, 0x10, 0x11].contains (r.source / 64)), conds := [], seq := s.fu.seq, odl := s.fu.odl,
        lastRec := s.fu.lastRec.filter (fun e => conds.contains e.1) }
    else {}
  let s := { s with
             regs := s.regs.filter (fun e => ids.contains (Nat.unpair e.1).1),
             mem := s.mem.filter (fun c => warm && decide (0x600 ≤ c.1 / 2 ^ 64) && decide (c.1 / 2 ^ 64 ≤ 0x620)),
             pins := { s.pins with faultN := true, ember := false, dackLow := [] },
             fu := fu, sw := {}, ports := (s.ports.filter (fun e => e.2.partner)).map (fun e => (e.1, { partner := true })),
             thr := [], flc := [], cnt := {}, hm := {}, plc := {},
             stk := { links := (s.stk.links.filter (fun e => e.2.present)).map (fun e => (e.1, { present := true })) },
             cmt := { bridgeDone := warm && s.cmt.bridgeDone }, loads := [], loadTags := [],
             hj := { s.hj with ops := [], page := 0, pageTries := 0 }, fl := {}, inst := [],
             clk := { s.clk with absent := false, low := [] } }
  conds.foldl (fun s c => s.condBegin c.1 c.2) s

/-- Hjelvon restarts: its commands are gone, the error state is left (R374), and no unit is held. -/
def State.hjRestart (s : State) : State :=
  let s := (List.range 32).foldl (fun s k => s.p HJ_RESP_BUSY 0 k) s
  let s := (List.range 50).foldl (fun s g => (s.p HJ_GATE_HELD 0 g).p HJ_GATE_PENDING 0 g) s
  ((s.p HJ_STATUS_ERROR_STATE 0).p HJ_STATUS_SELFTEST_OK 0).approve

/-- A run of self-test begins at a stage: what the last run measured is cleared, and the islands have their clocks (R36, R395). -/
def State.runStart (s : State) (stage last : Nat) : State :=
  let s := ((s.p PU_STATUS_STAGE stage).p PU_STATUS_PILOT 0).p PU_STATUS_LAST_RESET last
  let s := (List.range 10).foldl (fun s n => s.p PU_STAGE_US_US 0 n) s
  let s := ((s.p PU_DIAG_SRAM_REPAIRS 0).p PU_DIAG_HBM_REPAIRS 0).p PU_DIAG_TOTAL_MS 0
  (List.range 40).foldl (fun s i => if i = 37 || s.cond (clkCond i).1 (clkCond i).2 then s else s.setF ISL_STATUS_CLK_PRESENT i) s

/-! ## Pilot-light state (R397 to R400, Table 20-4) -/

/-- Entry to pilot-light state. -/
def State.pilotEnter (s : State) (cause detail : Nat) : State :=
  let s := (((s.p PU_STATUS_STAGE 0x0F).p PU_STATUS_PILOT 1).p PU_STATUS_CAUSE cause).p PU_STATUS_DETAIL detail
  let s := ((s.inc PU_STATUS_PILOT_ENTRIES).emberStop).alertNow
  let s := (List.range 32).foldl (fun s c =>
    if s.g DMP_STATUS_STATE c == 4 && s.on DMP_STATUS_SHORT_NOW c then s else if s.g DMP_STATUS_STATE c == 0 then s else s.dmpOff c) s
  { s with br := { s.br with responder := true } }

/-! ## Cold and warm reset (R393, R394, Table 20-6) -/

/-- ALWAYS_ON_RESET: fuses keep their values, and so does what lies outside the device. -/
def execAlwaysOnReset (s : State) : Out :=
  .next { State.reset with
          regs := s.regs.filter (fun e => (fldIds (RegName.TALLY.fields ++ RegName.RBC.fields)).contains (Nat.unpair e.1).1),
          pending := s.pending, ans := s.ans, free := s.free, outbox := s.outbox,
          ports := (s.ports.filter (fun e => e.2.partner)).map (fun e => (e.1, { partner := true })),
          stk := { links := (s.stk.links.filter (fun e => e.2.present)).map (fun e => (e.1, { present := true })) },
          pins := { resetN := s.pins.resetN, pfailN := s.pins.pfailN },
          hj := { slots := s.hj.slots.filter (fun e => e.1 == 0), rootHash := s.hj.rootHash } }

/-- PWRGOOD_RISE: the straps are sampled and a cold reset begins (R30, R393). -/
def execPwrgoodRise (dev : DevId) (master octal : Bool) (s : State) : Out :=
  .next (if s.pins.pwrgood then s
    else
      let s := s.mainReset coldIds false
      let s := { s with dmp := [], clk := {}, hj := { slots := s.hj.slots.filter (fun e => e.1 == 0), rootHash := s.hj.rootHash },
                        br := { s.br with rx := [], tx := [], notices := [], sweep := none, due := false, agree := [] },
                        pins := { s.pins with pwrgood := true, strapDev := dev, strapMaster := master, bootSel := b2n octal, mgmtAlertN := true } }
      let s := (s.p ID_STACK_DEV_IN_STACK dev).pb ID_STACK_MASTER_STRAP master
      s.hjRestart.runStart 0x01 1)

/-- PWRGOOD_FALL: the main domain stops, nothing is flushed; THERMTRIP_N is released (R393, R428). -/
def execPwrgoodFall (s : State) : Out :=
  .next (if !s.pins.pwrgood then s
    else
      let s := s.lostDirty.mainReset warmIds true
      let s := { s with pins := { s.pins with pwrgood := false, thermtrip := false }, pu := { s.pu with flushing := none, held := false } }
      (s.hjRestart.p PU_STATUS_STAGE 0).p PU_STATUS_PILOT 0)

/-- Steps 3 to 5 of Table 20-6: ports and links are down with the main domain, and the run starts at stage 0x02; RESET_N low holds it. -/
def State.warmGo (s : State) (last : Nat) (held : Bool) : State :=
  let s := (s.lostDirty.mainReset warmIds true).p BR_CMT_STATUS_BUSY 0
  let s := { s with pu := { s.pu with flushing := none, held := held } }
  s.hjRestart.runStart 0x02 last

/-- RESET_N_ASSERT: a warm reset, held at step 4; a flush under way stops. While PWRGOOD is low the cold path wins (Table 20-8). -/
def execResetNAssert (s : State) : Out :=
  let s := { s with pins := { s.pins with resetN := false } }
  .next (if s.g PU_STATUS_STAGE = 0 then s else s.warmGo 2 true)

/-- RESET_N_RELEASE. -/
def execResetNRelease (s : State) : Out :=
  .next { s with pins := { s.pins with resetN := true }, pu := { s.pu with held := false } }

/-- PU_CMD WARM_RESET with a tag (R403): OK is stored, and the reset starts, after a flush where FLUSH_ON_RESET asks for one. -/
def warmOp (tag : Nat) (s : State) : State × Nat :=
  if s.on PU_CMD_STATUS_BUSY then (s, ST_RESOURCE_EXHAUSTED)
  else if s.pu.cmdDone && s.g PU_CMD_STATUS_TAG == tag then (s, s.g PU_CMD_STATUS_STATUS)
  else
    let s := ({ s with pu := { s.pu with cmdDone := true } }.p PU_CMD_STATUS_TAG tag).p PU_CMD_STATUS_STATUS ST_OK
    if s.g PU_STATUS_STAGE = 0 || s.pu.held || s.pu.flushing.isSome then (s, ST_OK)
    else if s.up && s.on PU_CFG_FLUSH_ON_RESET then
      let s := { (flushOp s).1 with pu := { s.pu with flushing := some 3 } }
      (s, ST_OK)
    else (s.warmGo 3 false, ST_OK)

/-- A write of PU_CMD (R403, R431). -/
def puCmdOp (op tag : Nat) (s : State) : State × Nat :=
  if op = 0x01 then warmOp tag s
  else if s.on PU_CMD_STATUS_BUSY then (s, ST_RESOURCE_EXHAUSTED)
  else if s.pu.cmdDone && s.g PU_CMD_STATUS_TAG == tag then (s, s.g PU_CMD_STATUS_STATUS)
  else (({ s with pu := { s.pu with cmdDone := true } }.p PU_CMD_STATUS_TAG tag).p PU_CMD_STATUS_STATUS ST_NO_MATCH, ST_NO_MATCH)

/-- PU_WARM_RESET. -/
def execPuWarmReset (m : Master) (tag : Fin 65536) (s : State) : Out := aonCommand m .PU_CMD 0 (warmOp tag) s

/-- RESET_FLUSH_TIMEOUT: the lines left count as lost. -/
def execResetFlushTimeout (s : State) : Out :=
  .next (match s.pu.flushing with | some k => s.warmGo k false | none => s)

/-- MSC_FLUSH_DONE (R136): the last line of a flush is written; a power-fail response and a warm reset go on from there. -/
def execMscFlushDone (s : State) : Out :=
  whenUp s fun s =>
    match s.flushEnd with
    | some s =>
      let s := s.pfFlushDone
      match s.pu.flushing with
      | some k => if s.on MSC_CTRL_FLUSH_BUSY then s else s.warmGo k false
      | none => s
    | none => s

/-- A write of PU_CFG. -/
def puCfgOp (w : RegW) (s : State) : State × Nat :=
  if w.has PU_CFG_FLUSH_TMO_US && decide (w.val PU_CFG_FLUSH_TMO_US < 100) then (s, ST_ACCESS_DENIED)
  else (s.putAll w [PU_CFG_FLUSH_ON_RESET, PU_CFG_FLUSH_TMO_US], ST_OK)

/-- THERMTRIP: the pin is asserted until PWRGOOD falls; no register shows it (R428). -/
def execThermtrip (s : State) : Out :=
  .next (if s.pins.pwrgood then { s with pins := { s.pins with thermtrip := true } } else s)

/-! ## Kindling (R356 to R359, Tables 18-1 and 18-2) -/

/-- What a slot that boots gives: its resident part and its header. -/
structure Booted where
  header : List Byte
  resident : List Byte
deriving DecidableEq, Repr

/-- The checks of a slot, on the copy of its bytes: the step that failed, or what it gives. -/
def State.slotCheck (s : State) (flash : List Byte) : Nat ⊕ Booted :=
  let hd := (flash ++ List.replicate 0x3000 0).take 0x3000
  let idx := fieldOf hd 6 1
  let len := fieldOf hd 0x10 4
  let root := (hd.drop 0x100).take 2816
  if fieldOf hd 0 4 ≠ 0x4B424A48 || fieldOf hd 4 2 ≠ 1 || idx > 3 || bit (s.g TALLY_VALUE 3) idx || Config.sha384 root ≠ s.hj.rootHash.getD idx 0 then .inl 2
  else if !(dualVerify root (digest (hd.take 0x1700)) ((hd.drop 0x1700).take 4736)) || decide (fieldOf hd 0x0C 1 < s.g RBC_COUNT 0) then .inl 3
  else
    let res := ((flash.drop 0x3000) ++ List.replicate (len - (flash.length - 0x3000)) 0).take len
    if 0x3000 + len > 2 ^ 24 || Config.sha384 res ≠ fieldOf hd 0x20 48 then .inl 4
    else .inr ⟨hd, res⟩

/-- Digests of 48 bytes, one after another. -/
def digestsOf (n : Nat) (bs : List Byte) : List Nat := (List.range n).map (fun k => leNat ((bs.drop (48 * k)).take 48))

/-- A slot boots: the boot SRAM holds its header and resident part, and Hjelvon's firmware runs. -/
def State.boots (s : State) (slot : Nat) (b : Booted) : State :=
  let s := (s.wr spBoot 0 b.header).wr spBoot 0x3000 b.resident
  let fw := Config.bundlePart b.resident 0
  let s := { s with hj := { s.hj with
                            keyBlock := (b.header.drop 0xC00).take 2816, svn := fieldOf b.header 0x0C 1, residentHash := fieldOf b.header 0x20 48,
                            residentLen := fieldOf b.header 0x10 4, fwHash := Config.sha384 fw,
                            leaves := if bit (fieldOf b.header 7 1) 0 then digestsOf (fieldOf b.header 0x18 4) (Config.bundlePart b.resident 2) else [] } }
  ((s.p HJ_STATUS_ROOT_IDX (fieldOf b.header 6 1)).p HJ_STATUS_BOOT_SLOT slot).p HJ_VERSION_FW_VERSION (Config.firmwareVersion fw)

/-- The end of stage 0x02 for what the two slots hold. A lifecycle of SCRAPPED refuses to boot (log 32). -/
def State.kindling (s : State) (a b : List Byte) : State × Option (Nat × Nat) :=
  if s.g TALLY_VALUE 0 = 3 then (s, some (0x03, 0))
  else
    let s := (s.p HJ_BOOT_STATUS_FAIL_A 0).p HJ_BOOT_STATUS_FAIL_B 0
    match s.slotCheck a with
    | .inr x => (s.boots 0 x, none)
    | .inl fa =>
      let s := s.p HJ_BOOT_STATUS_FAIL_A fa
      match s.slotCheck b with
      | .inr x => ((s.boots 1 x).hjFault HJ_ERR_BOOT_FALLBACK CE, none)
      | .inl fb => (s.p HJ_BOOT_STATUS_FAIL_B fb, some (0x02, fa + fb * 2 ^ 8))

/-! ## Stages (R395, Table 20-2) -/

/-- The windows of Table 20-1 in tenths of a millivolt. -/
def railWindows : List (Nat × Nat) :=
  [(7760, 8240), (31350, 34650), (17100, 18900), (10670, 11330), (11640, 12360), (7275, 7725), (7250, 7750)]

/-- The rails measured (R392): the first out of its window fails the stage. -/
def State.rails (s : State) (mv : List Nat) : State × Option (Nat × Nat) :=
  let low (r : Nat) : Bool := decide (mv.getD r 0 * 10 < (railWindows.getD r (0, 0)).1)
  let high (r : Nat) : Bool := decide (mv.getD r 0 * 10 > (railWindows.getD r (0, 0)).2)
  let s := (List.range 7).foldl (fun s r => ((s.p PU_RAIL_MV (mv.getD r 0) r).pb PU_RAIL_LOW (low r) r).pb PU_RAIL_HIGH (high r) r) s
  (s, ((List.range 7).find? (fun r => low r || high r)).map (fun r => (0x01, r)))

/-- Known-answer tests and the entropy source's start-up test (R367, R374). -/
def State.hjTested (s : State) (kat : Option Nat) (attempts : Nat) (entropy : Bool) : State × Option (Nat × Nat) :=
  match kat with
  | some k => (s.errorState 32, some (0x04, k))
  | none =>
    let s := s.p HJ_DRBG_STATUS_RECOVERY_TRIES (if entropy then attempts - 1 else attempts)
    let s := if entropy && attempts ≤ 1 then s
      else ((s.p HJ_DRBG_STATUS_HEALTHY 0).hjFault HJ_ERR_ENT_FAIL PF).condBegin (src 0x10 0) 0
    if entropy then ((s.setF HJ_STATUS_SELFTEST_OK).approve.drbgUp, none) else (s, some (0x05, attempts))

/-- The P0 image of the bundle loaded into hearth 15 and started (R220): the checks of Table 10-3. -/
def State.firmwareLoad (s : State) : State × Option (Nat × Nat) :=
  let bundle := s.rd spBoot 0x3000 s.hj.residentLen
  let img := Config.bundlePart bundle 1
  let hd := (img ++ List.replicate 256 0).take 256
  let len := fieldOf hd 8 4
  let st := s.headerStatus 1920 0 hd
  if st ≠ ST_OK || fieldOf hd 6 1 ≠ 0 then (s, some (0x0B, if st = ST_OK then ST_ACCESS_DENIED else st))
  else
    let body := (img.drop 256).take len
    let hash := Config.sha384 body
    if !(s.imageValid s.hj.keyBlock hd ((img.drop (256 + len)).take 4736) hash) then (s, some (0x0B, ST_ACCESS_DENIED))
    else
      let q := s.writeSections .device 1920 img (sectionsOf hd)
      ((startOp 1920 (q.1.imageSet 1920 0 hd hash)).1, none)

/-- Stage 0x0A (R329, R402): EMBER toggles, every port trains, Sirfin links train, and the device takes its role in a stack. -/
def State.operational (s : State) : State :=
  let us := (List.range 10).foldl (fun n k => n + s.g PU_STAGE_US_US k) 0
  let s := (s.p PU_DIAG_TOTAL_MS (min (us / 1000) 1023)).emberStart
  let s := (List.range 128).foldl (fun s c => if s.isFollower c then s else s.trainFromDetect c) s
  s.stackStart

/-- The work of a stage as it ends: a state, and the cause and detail where it failed; none where the result is not one of this stage. -/
def State.stageWork (s : State) (n : Nat) (r : StageResult) : Option (State × Option (Nat × Nat)) :=
  match n, r with
  | 1, .rails mv => some (s.rails (mv.map (·.val)))
  | 2, .kindling a b => some (s.kindling a b)
  | 3, .hjTest kat attempts entropy => some (s.hjTested (kat.map (·.val)) attempts entropy)
  | 4, .pass k => some (s.p PU_DIAG_SRAM_REPAIRS (min k 0xFFFF), none)
  | 6, .pass k => some (s.p PU_DIAG_HBM_REPAIRS (min k 0xFFFF), none)
  | 5, .pass _ | 7, .pass _ | 8, .pass _ => some (s, none)
  | 9, .pass _ => some s.firmwareLoad
  | n, .fail d => if 4 ≤ n && n ≤ 9 then some (s, some (n + 2, d)) else none
  | _, _ => none

/-- SELF_TEST_STAGE_DONE. -/
def execSelfTestStageDone (r : StageResult) (us : Fin 4294967296) (s : State) : Out :=
  let n := s.g PU_STATUS_STAGE
  .next (if s.pu.held then s else match s.stageWork n r with
    | none => s
    | some (s, e) =>
      let s := s.p PU_STAGE_US_US us n
      let s := if n = 2 then s.p HJ_BOOT_STATUS_BOOT_US (s.g PU_STAGE_US_US 1 + us) else s
      match e with
      | some (cause, detail) => s.pilotEnter cause detail
      | none =>
        let s := s.p PU_STATUS_STAGE (n + 1)
        if n = 9 then s.operational else s)

/-- STAGE_TIMEOUT. -/
def execStageTimeout (s : State) : Out :=
  let n := s.g PU_STATUS_STAGE
  .next (if 1 ≤ n && n ≤ 9 && !s.pu.held then s.pilotEnter 0x0D n else s)

/-- PACE_WINDOW_END (R34): a monitor's window; above 110 °C before stage 0x0A the device enters pilot-light state. -/
def execPaceWindowEnd (mon : Fin 64) (pace : Fin 65536) (tj : Fin 256) (s : State) : Out :=
  whenTb s fun s =>
    let s := s.paceTake mon pace tj
    let n := s.g PU_STATUS_STAGE
    if tj > 110 && 1 ≤ n && n ≤ 9 then
      s.pilotEnter 0x0C ((List.range 64).foldl (fun m k => max m (s.g PACE_MON_TJ_C k)) 0)
    else s

end Sys2Proof.Machine
end

