-- ==== Sys2Proof/Machine/Counters.lean ====
section
/-! DEFINITION. Counter registers, sweeps, counter sets, and Chimney registers (R404 to R415). -/

namespace Sys2Proof.Machine

/-! ## Events (R404, R405) -/

/-- The directory entries of a bank. -/
def evtList (b : Nat) : List Nat := (List.range 128).map (fun n => (Config.evtEntry b n).toNat)

/-- Whether a bank lists an event that a condition holds for; NONE needs no entry, and carries no instance. -/
def evtListed (b code : Nat) (p : Nat → Bool) : Bool := (evtList b).any (fun e => bit e 15 && e % 2 ^ 12 == code && p e)

/-- Whether SEL may name an event with a mode and INST_EN. -/
def selOk (b code mode instEn : Nat) : Bool :=
  if code = 0 then instEn == 0 else evtListed b code (fun e => bit e (12 + mode) && (instEn == 0 || bit e 14))

/-- A write of CNT_SEL: what the directory does not permit is refused, and so is a change of INST_EN or INST while BOUND. -/
def cntSelOp (b k : Nat) (w : RegW) (s : State) : State × Nat :=
  let a (f : Fld) : Nat := s.after w f b k
  if !(selOk b (a CNT_SEL_EVENT) (a CNT_SEL_MODE) (a CNT_SEL_INST_EN)) then (s, ST_ACCESS_DENIED)
  else if s.on CNT_SEL_BOUND b k && (s.changes w CNT_SEL_INST_EN b k || s.changes w CNT_SEL_INST b k) then (s, ST_ACCESS_DENIED)
  else (s.putAll w [CNT_SEL_EVENT, CNT_SEL_MODE, CNT_SEL_EN, CNT_SEL_INST_EN, CNT_SEL_INST] b k, ST_OK)

/-- A write of CNT_VAL. -/
def cntValOp (b k : Nat) (w : RegW) (s : State) : State × Nat :=
  ((s.putAll w [CNT_VAL_VALUE, CNT_VAL_OVF_NOTE] b k).w1c w CNT_VAL_OVF b k, ST_OK)

/-- The counters that count a level now: those enabled in mode 1. -/
def State.levelCounters (s : State) : List (Nat × Nat) :=
  (s.regs.filter (fun e => (Nat.unpair e.1).1 == Nat.pair RegName.CNT_SEL.ctorIdx 12 && e.2 == 1)).map (fun e => Nat.unpair (Nat.unpair e.1).2)
    |>.filter (fun c => s.on CNT_SEL_EN c.1 c.2 && decide (c.2 < bankCount c.1))

/-- Nanoseconds of the time base pass: a counter of TIME counts them, and one of another level while its condition holds, which the spec names and
does not define for each bank (log 1); a follower's bank sees no traffic (R404). -/
def State.levelTick (s : State) (n : Nat) : State :=
  if n = 0 then s
  else s.levelCounters.foldl (fun s c =>
    let code := s.g CNT_SEL_EVENT c.1 c.2
    if code = 0 then s
    else if code = 1 then (if s.on CNT_SEL_INST_EN c.1 c.2 then s else s.ctrAdd c.1 c.2 n)
    else if c.1 < 128 && s.isFollower c.1 then s
    else let q := s.fresh; if q.1.toNat % 2 = 1 then q.2.ctrAdd c.1 c.2 n else q.2) s

/-! ## Notices (R407) -/

/-- The notices that wait are placed in order while the queue has room. -/
def State.noticesGo (s : State) : List (Nat × Nat × Nat) → State
  | [] => { s with cnt := { s.cnt with notices := [] } }
  | x :: xs =>
    match s.thrOf (s.g CNT_CFG_NOTE_TID) with
    | none => State.noticesGo (s.messageTo (s.g CNT_CFG_NOTE_TID) (msgBytes 0x00C2 0 0 [x.1 + x.2.1 * 256 + x.2.2 * 65536])) xs
    | some t =>
      match s.rxPush t (msgBytes 0x00C2 0 0 [x.1 + x.2.1 * 256 + x.2.2 * 65536]) with
      | some s => State.noticesGo s xs
      | none => { s with cnt := { s.cnt with notices := x :: xs } }

/-- COUNTER_NOTICE_RETRY. -/
def execCounterNoticeRetry (s : State) : Out := whenUp s fun s => s.noticesGo s.cnt.notices

/-! ## The sweep (R408, R409) -/

/-- A fault of the counter block (R415). -/
def State.cntFault (s : State) (f : Fld) : State := (s.setF f).fault (src 0x12 f.lsb) CE 0

/-- A sweep begins. -/
def State.sweepGo (s : State) : State :=
  ({ s with cnt := { s.cnt with startNs := s.now, due := false } }.p CNT_STATUS_SWEEP_SEQ (s.g CNT_STATUS_SWEEP_SEQ + 1)).setF CNT_STATUS_SWEEPING

/-- CNT_CTRL.SWEEP: RETRY during a sweep. -/
def cntSweepOp (s : State) : State × Nat :=
  let st := if s.on CNT_STATUS_SWEEPING then ST_RETRY else ST_OK
  ((if st = ST_OK then s.sweepGo else s).p CNT_STATUS_CMD_STATUS st, st)

/-- COUNTER_SWEEP. -/
def execCounterSweep (m : Master) (s : State) : Out := command m .CNT_CTRL 0 cntSweepOp s

/-- PERIODIC_SWEEP: one that falls due during a sweep waits for its end. -/
def execPeriodicSweep (s : State) : Out :=
  whenUp s fun s =>
    if s.g CNT_CFG_SWEEP_PERIOD_US = 0 then s
    else if s.on CNT_STATUS_SWEEPING then { s with cnt := { s.cnt with due := true } }.inc CNT_STATUS_OVERRUNS
    else s.sweepGo

/-- The counters a sweep reads, in order. -/
def State.swept (s : State) : List (Nat × Nat) :=
  ((List.range 162).filter (fun b => s.g CNT_CFG_BANK_FIRST ≤ b && b ≤ s.g CNT_CFG_BANK_LAST)).flatMap (fun b =>
    (List.range (bankCount b)).map (fun k => (b, k)))

/-- SWEEP_COMPLETE: the snapshot is written (Table 21-3), not while an HBM stack has no clock (R36). One whose writes failed has no SEQ_END, and what it
wrote before is open (log 1). -/
def execSweepComplete (ok : Bool) (s : State) : Out :=
  whenUp s fun s =>
    if !(s.on CNT_STATUS_SWEEPING) || !s.hbmUp then s
    else
      let cs := s.swept
      let base := s.g CNT_SNAP_SNAP_BASE * 64
      let seq := s.g CNT_STATUS_SWEEP_SEQ
      let s := if ok then
          (let hd := leBytes 8 (seq + cs.length * 2 ^ 32) ++ leBytes 8 s.cnt.startNs ++ leBytes 8 s.now ++
             leBytes 8 (s.g CNT_CFG_BANK_FIRST + s.g CNT_CFG_BANK_LAST * 256) ++ List.replicate 24 0 ++ leBytes 8 seq
           let s := s.wr spHbm base (hd ++ cs.flatMap (fun c => leBytes 8 (s.g CNT_VAL_VALUE c.1 c.2 + s.g CNT_VAL_OVF c.1 c.2 * 2 ^ 48)))
           s.cntNotice 2 0 0)
        else
          (let q := s.freshBytes (56 + 8 * cs.length)
           ((q.2.wr spHbm base (q.1.take 56)).wr spHbm (base + 64) (q.1.drop 56)).cntFault CNT_ERR_SNAP_FAIL)
      let s := s.p CNT_STATUS_SWEEPING 0
      if s.cnt.due then s.sweepGo else s

/-! ## Areas of the engine, fault-log and trace region (R409) -/

/-- Whether two ranges meet. -/
def rangesMeet (a n b m : Nat) : Bool := decide (a < b + m) && decide (b < a + n)

/-- The move log, the snapshot and the Chimney rings, but one: 0 the move log, 1 the snapshot, 2 + h a ring. -/
def State.otherAreas (s : State) (self : Nat) : List (Nat × Nat) :=
  let all := (0, s.g PLC_LOG_CFG_LOG_BASE * 64, 64 * 2 ^ s.g PLC_LOG_CFG_LOG_LOG2) :: (1, s.g CNT_SNAP_SNAP_BASE * 64, 64 + 8 * s.swept.length) ::
    (List.range 16).map (fun h => (2 + h, s.g CHM_RING_BASE h * 64, 64 * 2 ^ s.g CHM_RING_LOG2 h))
  (all.filter (fun x => x.1 != self)).map (·.2)

/-- A place for an area: beyond the heat table, slot-state map and fault-log ring, within the region, and apart from the others. -/
def State.areaFree (s : State) (self a n : Nat) : Bool :=
  decide (0x38000000 ≤ a) && decide (a + n ≤ 0x200000000) && !((s.otherAreas self).any (fun x => rangesMeet a n x.1 x.2))

/-- A write of CNT_CFG: values outside the ranges are refused. -/
def cntCfgOp (w : RegW) (s : State) : State × Nat :=
  let a (f : Fld) : Nat := s.after w f
  let per := a CNT_CFG_SWEEP_PERIOD_US
  let t := s.thrOf (a CNT_CFG_NOTE_TID)
  if (per ≠ 0 && (per < 10 || per > 1000000)) || a CNT_CFG_BANK_LAST > 161 || a CNT_CFG_BANK_FIRST > a CNT_CFG_BANK_LAST then (s, ST_ACCESS_DENIED)
  else if w.has CNT_CFG_NOTE_TID && a CNT_CFG_NOTE_EN = 1 && (match t with | some t => s.loaded t && decide (s.basePriv t > 1) | none => false) then (s, ST_ACCESS_DENIED)
  else (s.putAll w [CNT_CFG_SWEEP_PERIOD_US, CNT_CFG_BANK_FIRST, CNT_CFG_BANK_LAST, CNT_CFG_NOTE_TID, CNT_CFG_NOTE_EN], ST_OK)

/-- A write of CNT_SNAP. -/
def cntSnapOp (w : RegW) (s : State) : State × Nat :=
  if !(s.areaFree 1 (s.after w CNT_SNAP_SNAP_BASE * 64) (64 + 8 * s.swept.length)) then (s, ST_ACCESS_DENIED) else (s.putW w CNT_SNAP_SNAP_BASE, ST_OK)

/-! ## Counter sets (R410, R411) -/

/-- The counter of a set's slot, while it is bound. -/
def State.slotCounter (s : State) (c j : Nat) : Option (Nat × Nat) :=
  if s.on CSET_CFG_VALID c && s.on CSET_MAP_USED c j then some (s.g CSET_MAP_BANK c j, s.g CSET_MAP_COUNTER c j) else none

/-- A slot unbound. -/
def State.slotUnbind (s : State) (c j : Nat) : State :=
  match s.slotCounter c j with
  | some (b, k) => (s.p CNT_SEL_BOUND 0 b k).p CSET_MAP_USED 0 c j
  | none => s.p CSET_MAP_USED 0 c j

/-- Sets change only while their instance is not FROZEN. -/
def State.setFrozen (s : State) (c : Nat) : Bool := s.on CSET_CFG_VALID c && s.instState (s.g CSET_CFG_INST c) == 3

/-- A write of CSET_MAP: a slot bound to a counter, or unbound. -/
def csetMapOp (c j : Nat) (w : RegW) (s : State) : State × Nat :=
  let a (f : Fld) : Nat := s.after w f c j
  let b := a CSET_MAP_BANK
  let k := a CSET_MAP_COUNTER
  let same : Bool := s.slotCounter c j == some (b, k)
  if s.setFrozen c then (s, ST_ACCESS_DENIED)
  else if a CSET_MAP_USED = 0 then ((s.slotUnbind c j).putAll w [CSET_MAP_BANK, CSET_MAP_COUNTER, CSET_MAP_USED] c j, ST_OK)
  else if same then (s, ST_OK)
  else if !(s.on CSET_CFG_VALID c) || k ≥ bankCount b || s.on CNT_SEL_BOUND b k || s.on CNT_SEL_EN b k ||
     !(evtListed b (s.g CNT_SEL_EVENT b k) (fun e => bit e 14)) then (s, ST_ACCESS_DENIED)
  else
    let s := (s.slotUnbind c j).putAll w [CSET_MAP_BANK, CSET_MAP_COUNTER, CSET_MAP_USED] c j
    (((s.p CNT_SEL_BOUND 1 b k).p CNT_SEL_INST_EN 1 b k).p CNT_SEL_INST (s.instId (s.g CSET_CFG_INST c)) b k, ST_OK)

/-- COUNTER_SET_BIND. -/
def execCounterSetBind (m : Master) (c : Fin 256) (j : Fin 8) (v : Word) (s : State) : Out :=
  whenUp s fun s => s.cmdBy m .CSET_MAP c (fun s => let q := csetMapOp c j { v := v.toNat } s; q.1.reply m q.2) j

/-- A write of CSET_CFG: assignment under the instance's quota (R271); a set given up or given to another instance is unbound. -/
def csetCfgOp (c : Nat) (w : RegW) (s : State) : State × Nat :=
  let a (f : Fld) : Nat := s.after w f c
  let i := a CSET_CFG_INST
  let owns : Bool := s.on CSET_CFG_VALID c && s.g CSET_CFG_INST c == i
  if s.setFrozen c then (s, ST_ACCESS_DENIED)
  else if a CSET_CFG_VALID = 1 && (s.instState i == 0 || s.instState i == 3) then (s, ST_ACCESS_DENIED)
  else if a CSET_CFG_VALID = 1 && !owns && (s.instSets i).length ≥ s.g INST_POOL_CSET_QUOTA i then (s, ST_RESOURCE_EXHAUSTED)
  else
    let s := if owns && a CSET_CFG_VALID = 1 then s else (List.range 8).foldl (fun s j => s.slotUnbind c j) s
    (s.putAll w [CSET_CFG_VALID, CSET_CFG_INST, CSET_CFG_MSIX_EN, CSET_CFG_MSIX_VEC] c, ST_OK)

/-- A write of CSET_VAL: the bound counter's VALUE and OVF; an unbound slot ignores it. -/
def csetValOp (c j : Nat) (w : RegW) (s : State) : State × Nat :=
  match s.slotCounter c j with
  | none => (s, ST_OK)
  | some (b, k) =>
    let s := if w.has CSET_VAL_VALUE then s.p CNT_VAL_VALUE (w.val CSET_VAL_VALUE) b k
      else if w.lo then s.p CNT_VAL_VALUE (s.g CNT_VAL_VALUE b k / 2 ^ 32 * 2 ^ 32 + w.v % 2 ^ 32) b k
      else if w.hi then s.p CNT_VAL_VALUE (s.g CNT_VAL_VALUE b k % 2 ^ 32 + bits w.v 32 16 * 2 ^ 32) b k else s
    (if w.has CSET_VAL_OVF && w.val CSET_VAL_OVF == 1 then s.p CNT_VAL_OVF 0 b k else s, ST_OK)

/-! ## Chimney (R412 to R414) -/

/-- CHIMNEY_WRITE_CONCLUDE: a record write that failed. -/
def execChimneyWriteConclude (h : HearthId) (ok : Bool) (s : State) : Out :=
  whenUp s fun s => if ok || (nget? h.val s.cnt.chmSeq).isNone then s else s.cntFault CNT_ERR_CHM_FAIL

/-- A write of CHM_CFG. -/
def chmCfgOp (h : Nat) (w : RegW) (s : State) : State × Nat :=
  if !(w.within CHM_CFG_N 1 1048575) || !(w.within CHM_CFG_WMARK 1 (min 1048576 (2 ^ s.g CHM_RING_LOG2 h))) then (s, ST_ACCESS_DENIED)
  else (s.putAll w [CHM_CFG_EN, CHM_CFG_JITTER, CHM_CFG_N, CHM_CFG_WMARK] h, ST_OK)

/-- A write of CHM_RING: only while EN is 0. -/
def chmRingOp (h : Nat) (w : RegW) (s : State) : State × Nat :=
  let base := s.after w CHM_RING_BASE h * 64
  let n := s.after w CHM_RING_LOG2 h
  if s.on CHM_CFG_EN h || n < 6 || n > 20 || base % (64 * 2 ^ n) ≠ 0 || !(s.areaFree (2 + h) base (64 * 2 ^ n)) then (s, ST_ACCESS_DENIED)
  else (s.putAll w [CHM_RING_BASE, CHM_RING_LOG2] h, ST_OK)

/-- A write of CHM_IDX: CONS; WMARK is armed again once the fill is below it. -/
def chmIdxOp (h : Nat) (w : RegW) (s : State) : State × Nat :=
  let s := s.putW w CHM_IDX_CONS h
  let fill := (s.g CHM_IDX_PROD h + 2 ^ 32 - s.g CHM_IDX_CONS h) % 2 ^ 32
  (if fill < s.g CHM_CFG_WMARK h then { s with cnt := { s.cnt with chmOver := s.cnt.chmOver.filter (· != h) } } else s, ST_OK)

end Sys2Proof.Machine
end

