-- ==== Sys2Proof/Machine/Binding.lean ====
section
/-! DEFINITION. Dynamic binding: BIND_CMD and its operations, and what a host answers to them (R67, R73, R74, R78 to R82, R437, R438). -/

namespace Sys2Proof.Machine

/-! ## Arguments (Table 4-11, R437) -/

/-- The bits of BIND_ARG0 and BIND_ARG1 that an operation's fields hold. -/
def bindMasks (op : Nat) : Nat × Nat :=
  if op ≤ 0x03 then (0xFFF, 2 ^ 64 - 1)
  else (0x3F007F, if op = 0x10 then 0x7FF else if op = 0x11 then 1 else if op = 0x20 then 0xFFF else 0)

/-- The operations of Table 4-1. -/
def bindCodes : List Nat := [0x01, 0x02, 0x03, 0x10, 0x11, 0x20, 0x21]

/-- An operation with its arguments as BIND_ARG0 and BIND_ARG1 hold them. -/
def State.bindArgs (s : State) (op tag : Nat) : BindOp :=
  let a := s.g BIND_ARG0_ARG
  let b := s.g BIND_ARG1_ARG
  if op ≤ 0x03 then
    { op := op, tag := tag, inst := a % 2 ^ 12, base := s.g IW_BASE_FPA_BASE (a % 2 ^ 12) * 512, first := b % 2 ^ 32, count := b / 2 ^ 32 }
  else { op := op, tag := tag, p := a % 128, v := bits a 16 6, mod := b % 2 ^ 11, inst := b % 2 ^ 12 }

/-- Whether a bit of an argument outside its fields is set. -/
def State.bindReserved (s : State) (op : Nat) : Bool :=
  let m := bindMasks op
  Nat.land (s.g BIND_ARG0_ARG) (2 ^ 64 - 1 - m.1) != 0 || Nat.land (s.g BIND_ARG1_ARG) (2 ^ 64 - 1 - m.2) != 0

/-- A controller that BIND_CMD accepts as a HOST port (R437). DESIGN CHOICE (log 113): a lead whose link was REFUSED is neither down nor training. -/
def State.hostPort (s : State) (c : Nat) : Bool :=
  !(s.isFollower c) &&
  (s.g PC_LINK_STATUS_ROLE_BOUND c == 1 ||
   (s.g PC_LINK_STATUS_ROLE_BOUND c == 0 && s.g PC_LINK_STATUS_LINK_STATE c ≤ 1 && s.g PC_ROLE_CFG_ROLE_SEL c ≤ 1))

/-- The fabric pages of an operation's range. -/
def BindOp.pages (b : BindOp) : List Nat := (List.range b.count).map (fun k => b.base + b.first + k)

/-- Whether a fabric page is backed (R438). -/
def State.backed (s : State) (page : Nat) : Bool := (s.resolve (page * 2 ^ 21)).isSome

/-! ## Carrying an operation out -/

/-- An operation waits for its host. -/
def State.bindWait (s : State) (b : BindOp) (m : Msg) : State :=
  { s with cmt := { s.cmt with bind := some { b with waiting := true } } }.send m

/-- An operation's change of vPPB bindings is submitted, a control commit (R78). -/
def State.bindControl (s : State) (b : BindOp) : State :=
  ({ s with cmt := { s.cmt with bind := some { b with waiting := false } } }).submit .bind [] none true

/-- The pages an operation unbacks, those backed now, are submitted as a placement commit; with none the operation ends (R69, R78, R142). -/
def State.bindUnback (s : State) (b : BindOp) (pages : List Nat) (status : Nat) : State :=
  let ps := pages.filter (fun p => s.backed p)
  if ps = [] then s.bindEnd b status
  else ({ s with cmt := { s.cmt with bind := some { b with waiting := false, unback := ps, status := status } } }).submit .bind
    (ps.map (fun p => { map := true, key := 2 ^ 62 + p, val := imageOfPage { unbacked := true } })) none false

/-- The checks that Dynamic Capacity operations share (Table 4-1): OK, or the status that ends them. -/
def State.dcCheck (s : State) (b : BindOp) (forced : Bool) : Nat :=
  if s.instState b.inst = 0 || !(s.on IW_BASE_VALID b.inst) then ST_NO_MATCH
  else if !forced && [2, 3].contains (s.instState b.inst) then ST_FROZEN
  else if b.count = 0 || b.first + b.count > s.g IW_LIMIT_SIZE_GIB b.inst * 512 then ST_ACCESS_DENIED
  else if !forced && (s.vppbOfInst b.inst).isNone then ST_NO_MATCH
  else ST_OK

/-- DC_ADD (Table 4-2, R438): the range must be backed; the host is told and the operation waits. -/
def State.dcAddStart (s : State) (b : BindOp) : State :=
  let st := s.dcCheck b false
  if st ≠ ST_OK then s.bindEnd b st
  else if b.pages.any (fun p => !(s.backed p)) then s.bindEnd b ST_RESOURCE_EXHAUSTED
  else s.bindWait b (.dcEvent b.inst true b.first b.count)

/-- DC_RELEASE (Table 4-3): the host is asked for the range and the operation waits. -/
def State.dcReleaseStart (s : State) (b : BindOp) : State :=
  let st := s.dcCheck b false
  if st ≠ ST_OK then s.bindEnd b st
  else if b.pages.all (fun p => !(s.backed p)) then s.bindEnd b ST_LATE
  else s.bindWait b (.dcEvent b.inst false b.first b.count)

/-- DC_FORCE_RELEASE (R80): the range is unbacked at once; the event goes out only where a logical device is attached. -/
def State.dcForceStart (s : State) (b : BindOp) : State :=
  let st := s.dcCheck b true
  if st ≠ ST_OK then s.bindEnd b st
  else if b.pages.all (fun p => !(s.backed p)) then s.bindEnd b ST_LATE
  else
    let s := if (s.vppbOfInst b.inst).isSome then s.send (.dcEvent b.inst false b.first b.count) else s
    s.bindUnback b b.pages ST_OK

/-- PT_BIND (R23, R73). A module whose authentication is asked for and has not passed gets no binding: DEDUCED (log 113), its link counts as down for it
(R51). -/
def State.ptBindStart (s : State) (b : BindOp) : State :=
  let c := b.mod / 16
  let role := s.g PC_LINK_STATUS_ROLE_BOUND c
  if !(s.hostPort b.p) then s.bindEnd b ST_NO_MATCH
  else if s.g VPPB_ENTRY_KIND b.p b.v = 2 && s.g VPPB_ENTRY_MOD b.p b.v = b.mod then s.bindEnd b ST_LATE
  else if s.isFollower c || role = 1 || role = 3 then s.bindEnd b ST_NO_MATCH
  else if s.g PC_LINK_STATUS_LINK_STATE c < 2 || s.g PC_LINK_STATUS_LINK_STATE c = 4 || (s.on PC_ROLE_CFG_AUTH_REQ c && !(s.port c).authDone) then
    s.bindEnd b ST_LINK_DOWN
  else if !(s.on MOD_ENTRY_PRESENT b.mod) then s.bindEnd b ST_NO_MATCH
  else if !(s.bindHolds b) then s.bindEnd b ST_ACCESS_DENIED
  else s.bindControl b

/-- PT_UNBIND (R74): forced at once; managed, the host is asked and the operation waits. -/
def State.ptUnbindStart (s : State) (b : BindOp) : State :=
  if !(s.hostPort b.p) then s.bindEnd b ST_NO_MATCH
  else if s.g VPPB_ENTRY_KIND b.p b.v ≠ 2 then s.bindEnd b ST_LATE
  else if b.mod = 1 then s.bindControl b
  else { s with cmt := { s.cmt with bind := some { b with waiting := true } } }.send (.attention b.p b.v)

/-- LD_ATTACH (R67). -/
def State.ldAttachStart (s : State) (b : BindOp) : State :=
  if !(s.hostPort b.p) || s.instState b.inst = 0 then s.bindEnd b ST_NO_MATCH
  else if [2, 3].contains (s.instState b.inst) then s.bindEnd b ST_FROZEN
  else if (s.vppbOfInst b.inst).isSome || s.g VPPB_ENTRY_KIND b.p b.v ≠ 0 then s.bindEnd b ST_ACCESS_DENIED
  else s.bindControl b

/-- LD_DETACH (R67). -/
def State.ldDetachStart (s : State) (b : BindOp) : State :=
  if !(s.hostPort b.p) then s.bindEnd b ST_NO_MATCH
  else if s.g VPPB_ENTRY_KIND b.p b.v ≠ 1 then s.bindEnd b ST_LATE
  else s.bindControl b

/-- An accepted operation starts: BUSY is set, and its own status shows once BUSY clears (R82). -/
def State.bindStart (s : State) (b : BindOp) : State :=
  let s := s.setF BIND_STATUS_BUSY
  if s.bindReserved b.op then s.bindEnd b ST_ACCESS_DENIED
  else match b.op with
    | 0x01 => s.dcAddStart b
    | 0x02 => s.dcReleaseStart b
    | 0x03 => s.dcForceStart b
    | 0x10 => s.ptBindStart b
    | 0x11 => s.ptUnbindStart b
    | 0x20 => s.ldAttachStart b
    | _ => s.ldDetachStart b

/-- The managed unbind that a forced PT_UNBIND races with, of the vPPB that BIND_ARG0 names: it waits for its host, or the host's power-off has won and
its commit runs (R81, R82). -/
def State.bindRace (s : State) (op : Nat) : Option BindOp :=
  match s.cmt.bind with
  | some b =>
    let a := s.bindArgs op 0
    if op = 0x11 && b.op = 0x11 && b.mod = 0 && b.raced.isNone && !(s.bindReserved op) && a.mod = 1 && a.p = b.p && a.v = b.v then some b else none
  | none => none

/-- A write of BIND_CMD (R82): accepted with OK, refused while BUSY but for the forced unbind that races a managed one, or answered with the
stored status of the TAG last completed. -/
def bindCmdOp (op tag : Nat) (s : State) : State × Nat :=
  if s.cmt.bind.isSome then
    match s.bindRace op with
    | some b =>
      if b.waiting then (s.bindControl { b with tag := tag, mod := 1 }, ST_OK)
      else ({ s with cmt := { s.cmt with bind := some { b with raced := some tag } } }, ST_OK)
    | none => (s, ST_RESOURCE_EXHAUSTED)
  else if s.cmt.bindDone && s.g BIND_STATUS_TAG = tag then (s, s.g BIND_STATUS_STATUS)
  else if !(bindCodes.contains op) then (s, ST_NO_MATCH)
  else (s.bindStart (s.bindArgs op tag), ST_OK)

/-- A BIND_CMD command from a master. -/
def bindCommand (op : Nat) (m : Master) (tag : Nat) (s : State) : Out := command m .BIND_CMD 0 (bindCmdOp op tag) s

/-- DC_ADD. -/
def execDcAdd (m : Master) (tag : Fin 65536) (s : State) : Out := bindCommand 0x01 m tag s
/-- DC_RELEASE. -/
def execDcRelease (m : Master) (tag : Fin 65536) (s : State) : Out := bindCommand 0x02 m tag s
/-- DC_FORCE_RELEASE. -/
def execDcForceRelease (m : Master) (tag : Fin 65536) (s : State) : Out := bindCommand 0x03 m tag s
/-- PT_BIND. -/
def execPtBind (m : Master) (tag : Fin 65536) (s : State) : Out := bindCommand 0x10 m tag s
/-- PT_UNBIND. -/
def execPtUnbind (m : Master) (tag : Fin 65536) (s : State) : Out := bindCommand 0x11 m tag s
/-- LD_ATTACH. -/
def execLdAttach (m : Master) (tag : Fin 65536) (s : State) : Out := bindCommand 0x20 m tag s
/-- LD_DETACH. -/
def execLdDetach (m : Master) (tag : Fin 65536) (s : State) : Out := bindCommand 0x21 m tag s

/-! ## What a host answers, and what it does not (Tables 4-2, 4-3; R80, R81) -/

/-- A response that follows its timeout is ignored and recorded, consequential to the timeout's record (R81). -/
def State.dcLateAnswer (s : State) (i : Nat) (add : Bool) : State :=
  if s.cmt.dcLate.contains (i, add) then
    { s with cmt := { s.cmt with dcLate := s.cmt.dcLate.erase (i, add) } }.report
      { source := src 0x05 63, cls := CE, scope := scope 1 i, inst := some (s.dev * 4096 + i), dev := s.dev, causes := [(src 0x05 5, scope 1 i)] }
  else s

/-- The Dynamic Capacity operation that waits for an instance's host. -/
def State.dcWaiting (s : State) (op i : Nat) : Option BindOp :=
  match s.cmt.bind with
  | some b => if b.op = op && b.waiting && b.inst = i then some b else none
  | none => none

/-- Whether a response names every page of an operation's range, as pages of the window (R437). -/
def BindOp.whole (b : BindOp) (pages : List Nat) : Bool := (List.range b.count).all (fun k => pages.contains (b.first + k))

/-- ADD_CAPACITY_RESPONSE (Table 4-2, step 4): pages of the window that the host accepts; the others of the range are unbacked. -/
def execAddCapacityResponse (i : InstId) (pages : List Nat) (s : State) : Out :=
  whenUp s fun s =>
    match s.dcWaiting 0x01 i with
    | some b => s.bindUnback b (b.pages.filter (fun p => !(pages.contains (p - b.base)))) (if b.whole pages then ST_OK else ST_PARTIAL)
    | none => s.dcLateAnswer i true

/-- RELEASE_CAPACITY_RESPONSE (Table 4-3, step 3; R80): the pages of the range that the host names are unbacked. -/
def execReleaseCapacityResponse (i : InstId) (pages : List Nat) (s : State) : Out :=
  whenUp s fun s =>
    match s.dcWaiting 0x02 i with
    | some b => s.bindUnback b (b.pages.filter (fun p => pages.contains (p - b.base))) (if b.whole pages then ST_OK else ST_PARTIAL)
    | none => s.dcLateAnswer i false

/-- DC_TIMEOUT (R80, R81): no response within DC_TMO_MS. DC_ADD unbacks its whole range, DC_RELEASE keeps it; both return TIMEOUT. -/
def execDcTimeout (s : State) : Out :=
  whenUp s fun s =>
    match s.cmt.bind with
    | some b =>
      if !b.waiting || b.op > 0x02 then s
      else
        let s := { s with cmt := { s.cmt with dcLate := (b.inst, b.op == 0x01) :: s.cmt.dcLate } }
        let s := s.report { source := src 0x05 5, cls := CE, scope := scope 1 b.inst, status := ST_TIMEOUT, inst := some (s.dev * 4096 + b.inst), dev := s.dev }
        s.bindUnback b (if b.op = 0x01 then b.pages else []) ST_TIMEOUT
    | none => s

/-- VSLOT_POWER_OFF (R74): the host powers the virtual slot off, and a managed unbind that waits for it goes on. -/
def execVslotPowerOff (p : PortId) (v : Fin 64) (s : State) : Out :=
  whenUp s fun s =>
    match s.cmt.bind with
    | some b => if b.op = 0x11 && b.waiting && b.p = p.val && b.v = v.val then s.bindControl b else s
    | none => s

/-- UNBIND_TIMEOUT (R74): the managed unbind expires; the binding is kept. -/
def execUnbindTimeout (s : State) : Out :=
  whenUp s fun s =>
    match s.cmt.bind with
    | some b => if b.op = 0x11 && b.waiting then s.bindEnd b ST_TIMEOUT else s
    | none => s

end Sys2Proof.Machine
end

