-- ==== Sys2Proof/Machine/Placement.lean ====
section
/-! DEFINITION. Autonomous placement: move requests, migrations pass by pass, the heat table's decay, pins, slots, the probe and the
commits of switches (R139 to R166). -/

namespace Sys2Proof.Machine

/-! ## Admission (R148, R149) -/

/-- A move request (Table 8-5). -/
structure MoveReq where
  page : Nat
  tag : Nat
  auto : Bool
  dev : Nat
  set : Nat
  so : Nat
  expect : Nat
  check : Bool
  bad : Bool
deriving DecidableEq, Repr

/-- The request at an offset of the policy hearth's shared memory. -/
def State.moveReqAt (s : State) (a : Nat) : MoveReq :=
  let h := spShared (s.g PLC_CFG_POLICY_HEARTH)
  let w0 := s.rdN h a 8
  let w1 := s.rdN h (a + 8) 8
  let w2 := s.rdN h (a + 16) 8
  let w3 := s.rdN h (a + 24) 8
  { page := w0 % 2 ^ 32, tag := bits w0 32 16, auto := bit w0 48, dev := bits w1 0 2, set := bits w1 4 10, so := bits w1 16 35,
    expect := w2 % 2 ^ 32, check := bit w2 32,
    bad := bits w0 49 15 != 0 || bits w1 2 2 != 0 || bits w1 14 2 != 0 || bits w1 51 13 != 0 || bits w2 33 31 != 0 || w3 != 0 }

/-- The lowest FREE slot of a set. -/
def State.freeSlot (s : State) (set : Nat) : Option Nat := (List.range (s.slotCount set)).find? (fun n => s.slotState set n == 0)

/-- A new override would exceed the table (R140). -/
def State.ovrFull (s : State) (page : Nat) : Bool := s.plc.pages.length ≥ 67108864 && (nget? page s.plc.pages).isNone

/-- The first check of Table 8-6 that a request fails; OK when it passes every one. The page's instance may be another device's, whose registers are
then those it told (log 133). A page that lies on another device moves to no set of this one, nor is it this device's to move (R142, R143). DESIGN CHOICE
(log 114): a request with a reserved bit set is refused before the first check. -/
def State.admitCheck (s : State) (r : MoveReq) : Nat :=
  if r.bad then ST_ACCESS_DENIED else
  match s.resolve (r.page * 2 ^ 21), s.windowAt (r.page * 2 ^ 21) with
  | some l, some (d, i) =>
    let v := s.peer d
    let tier := s.g PLC_SET_TIER r.set
    if r.check && s.entEpoch r.page != r.expect then ST_STALE_EPOCH
    else if s.pinned r.page then ST_ACCESS_DENIED
    else if v.instState i == 2 || v.instState i == 3 then ST_FROZEN
    else if !(v.on PLC_INST_MOVE_EN i) then ST_ACCESS_DENIED
    else if !r.auto && l.dev = r.dev && l.set = r.set && l.so / 2 ^ 21 = r.so then ST_LATE
    else if !(s.placeable r.set) || r.dev ≠ s.dev || l.dev ≠ s.dev || bit (s.g PLC_CFG_TIER_FORBID) tier || bit (v.g PLC_INST_FORBID i) tier ||
        (!r.auto && (r.so ≥ s.slotCount r.set || s.slotState r.set r.so != 0)) then ST_ACCESS_DENIED
    else if (s.migOf r.page).isSome ||
        (s.lastMoveMs r.page != 0 && (s.now / 1000000 + 2 ^ 32 - s.lastMoveMs r.page) % 2 ^ 32 < s.g PLC_LIMIT_MIN_RESIDENCY_MS) then ST_RETRY
    else if s.plc.migs.length ≥ s.g PLC_LIMIT_MAX_ACTIVE ||
        (s.plc.migs.filter (fun e => e.2.inst == d * 4096 + i)).length ≥ v.g PLC_INST_MAX_ACTIVE_I i || s.ovrFull r.page ||
        (r.auto && (s.freeSlot r.set).isNone) then ST_RESOURCE_EXHAUSTED
    else ST_OK
  | _, _ => ST_NO_MATCH

/-- The lowest free migration slot. -/
def State.freeMig (s : State) : Nat := ((List.range 4096).find? (fun k => (nget? k s.plc.migs).isNone)).getD 0

/-- MOVE_REQUEST_TAKE (R147 to R149): the next request of the ring is admitted or refused, while the log has room for its record and
one for every active migration, and the HBM stacks have their clocks (R36). A ring that its program has run past holds no request that may be executed. -/
def execMoveRequestTake (s : State) : Out :=
  whenUp s fun s =>
    let prod := s.g PLC_REQ_IDX_PROD
    let cons := s.g PLC_REQ_IDX_CONS
    if !(s.on PLC_CTRL_RUN) || !s.hbmUp || prod == cons || (prod + 2 ^ 32 - cons) % 2 ^ 32 > 2 ^ s.g PLC_REQ_RING_REQ_LOG2 then s
    else
      let used := (s.g PLC_LOG_IDX_PROD + 2 ^ 32 - s.g PLC_LOG_IDX_CONS) % 2 ^ 32
      if used + s.plc.migs.length + 1 > 2 ^ s.g PLC_LOG_CFG_LOG_LOG2 then
        if s.plc.backpressure then s
        else ({ s with plc := { s.plc with backpressure := true } }.setF PLC_ERR_STATUS_LOG_BACKPRESSURE).fault (src 0x08 2) CE 0
      else
        let s := { s with plc := { s.plc with backpressure := false } }
        let r := s.moveReqAt (s.g PLC_REQ_RING_REQ_BASE * 32 + cons % 2 ^ s.g PLC_REQ_RING_REQ_LOG2 * 32)
        let s := s.p PLC_REQ_IDX_CONS ((cons + 1) % 2 ^ 32)
        let st := s.admitCheck r
        let inst := s.instOf (r.page * 2 ^ 21)
        let l := (s.resolve (r.page * 2 ^ 21)).getD ⟨s.dev, 0, 0⟩
        if st = ST_OK then
          let dst := if r.auto then (s.freeSlot r.set).getD 0 else r.so
          let s := s.slotSet r.set dst 3
          s.migSet s.freeMig { page := r.page, tag := r.tag, inst := inst, state := 1, srcSet := l.set, srcSo := l.so / 2 ^ 21,
                               dstSet := r.set, dstSo := dst, startNs := s.now }
        else
          let s := if st = ST_RESOURCE_EXHAUSTED && s.ovrFull r.page then (s.setF PLC_ERR_STATUS_OVR_FULL).fault (src 0x08 4) CE 0 else s
          s.moveLog r.page r.tag st 1 (l.dev, l.set, l.so / 2 ^ 21) (r.dev, r.set, r.so) 0 inst 0 0 0 0 0

/-! ## Passes (R150 to R155) -/

/-- What a copy met: poisoned lines copied as poisoned, and lines that failed their check (R151), each counted (R302). -/
def State.copyFaults (s : State) (m : Migration) (poison ue : Nat) : State :=
  let s := if poison = 0 then s else (s.setF PLC_ERR_STATUS_COPY_POISON).report { source := src 0x08 0, cls := CE, scope := 0, rep := min (poison - 1) 0xFFFF }
  if ue = 0 then s
  else (s.setF PLC_ERR_STATUS_COPY_UE).report { source := src 0x08 1, cls := NC, scope := scope 1 (m.inst % 4096), status := ST_POISON, rep := min (ue - 1) 0xFFFF,
                                                addr := some (0, m.page * 2 ^ 21), inst := some m.inst }

/-- A migration goes on after a pass: into SYNC when few enough sub-granules are dirty and a place is free, to another pass, or
abandoned as TOO_HOT (R152, R155). -/
def State.nextPass (s : State) (k : Nat) (m : Migration) : State :=
  if popcount32 m.dirty ≤ s.g PLC_SYNC_CFG_SYNC_SG then
    if s.g PLC_STATUS_SYNCING < s.g PLC_SYNC_CFG_SYNC_MAX then
      s.migSet k { m with state := 3, taken := 0, syncs := m.syncs + 1, drained := false, ready := false }
    else s.migSet k { m with state := 2, taken := 0 }
  else if m.pass ≥ s.g PLC_SYNC_CFG_MAX_PASSES then (s.migSet k m).abandon k ST_RETRY 2
  else s.migSet k { m with state := 2, taken := m.dirty, dirty := 0, mark := s.sw.nextId }

/-- FIRST_COPY_DONE (Table 8-8, step 2). -/
def execFirstCopyDone (k : Fin 4096) (poison ue : Nat) (s : State) : Out :=
  whenUp s fun s =>
    match nget? k.val s.plc.migs with
    | some m => if m.state = 1 then (s.copyFaults m poison ue).nextPass k { m with copiedKib := 2048 } else s
    | none => s

/-- RECOPY_PASS_DONE (Table 8-8, step 3): not before the writes to its sub-granules that were issued before it have completed (R150). -/
def execRecopyPassDone (k : Fin 4096) (poison ue : Nat) (s : State) : Out :=
  whenUp s fun s =>
    match nget? k.val s.plc.migs with
    | some m =>
      if m.state ≠ 2 || s.passBlocked m then s
      else
        let m' := if m.taken = 0 then m else { m with pass := m.pass + 1, copiedKib := m.copiedKib + 64 * popcount32 m.taken, taken := 0 }
        (s.copyFaults m poison ue).nextPass k m'
    | none => s

/-- SYNC_WRITES_DRAINED (R153): every write issued to the old location has completed; the final pass takes what is dirty. -/
def execSyncWritesDrained (k : Fin 4096) (s : State) : Out :=
  whenUp s fun s =>
    match nget? k.val s.plc.migs with
    | some m =>
      if m.state = 3 && !m.drained && s.outstanding m.page = 0 then s.migSet k { m with drained := true, taken := m.dirty, dirty := 0 }
      else s
    | none => s

/-- FINAL_PASS_DONE (R154): with no dirty bit and no write outstanding the switch is ready for its commit; otherwise another final pass. -/
def execFinalPassDone (k : Fin 4096) (poison ue : Nat) (s : State) : Out :=
  whenUp s fun s =>
    match nget? k.val s.plc.migs with
    | some m =>
      if m.state ≠ 3 || !m.drained || m.ready then s
      else
        let s := s.copyFaults m poison ue
        let m := { m with copiedKib := m.copiedKib + 64 * popcount32 m.taken, taken := 0 }
        if m.dirty = 0 && s.outstanding m.page = 0 then s.migSet k { m with ready := true, readyNs := s.now }
        else s.migSet k { m with drained := false }
    | none => s

/-- PLACEMENT_COMMIT (R142): one commit that carries the switch that has been ready longest, and those that became ready within 100 ns of it. -/
def execPlacementCommit (s : State) : Out :=
  whenUp s fun s =>
    let busy (k : Nat) : Bool :=
      let has (c : Commit) : Bool := match c.owner with | .switch ks => ks.contains k | _ => false
      s.cmt.queue.any has || (match s.cmt.cur with | some c => has c | none => false)
    let ms := s.plc.migs.filter (fun e => e.2.state == 3 && e.2.ready && !(busy e.1))
    let first := ms.foldl (fun (n : Nat) e => min n e.2.readyNs) s.now
    let ms := ms.filter (fun e => decide (e.2.readyNs ≤ first + 100))
    if ms.isEmpty then s else s.submit (.switch (ms.map (·.1))) (ms.map (fun e => switchEntry s.dev e.2)) none false

/-- SYNC_DEADLINE (R155): the sync is abandoned before its switch; the migration returns to RECOPY, or is abandoned. -/
def execSyncDeadline (k : Fin 4096) (s : State) : Out :=
  whenUp s fun s =>
    match nget? k.val s.plc.migs with
    | some m =>
      if m.state ≠ 3 then s
      else
        let m := { m with holdNs := max m.holdNs (s.heldNs m.page), dirty := m.dirty ||| m.taken, taken := 0, ready := false, drained := false }
        let s := (s.setF PLC_ERR_STATUS_SYNC_ABANDON).fault (src 0x08 3) CE 0
        let s := (s.migSet k { m with state := 2 }).releaseHeld m.page
        if m.syncs ≥ s.g PLC_SYNC_CFG_SYNC_TRIES then s.abandon k ST_TIMEOUT 3
        else if popcount32 m.dirty > s.g PLC_SYNC_CFG_SYNC_SG && m.pass < s.g PLC_SYNC_CFG_MAX_PASSES then
          s.migSet k { m with state := 2, taken := m.dirty, dirty := 0, mark := s.sw.nextId }
        else s
    | none => s

/-- OLD_LOCATION_RELEASE (R158): once no request of an epoch before the switch is in flight, the old slot goes to ZEROING and the
migration concludes with its record. -/
def execOldLocationRelease (r : MigrationEnd) (s : State) : Out :=
  whenUp s fun s =>
    let s := s.tellOldest r.peers
    match nget? r.k.val s.plc.migs with
    | some m =>
      if m.state ≠ 4 || epochBefore s.oldestStack m.switchEpoch then s
      else ((s.slotZero m.srcSet m.srcSo).migDel r.k).migLog m ST_OK 0
    | none => s

/-- A committed entry places a slot. -/
def State.slotPlaced (s : State) (set n : Nat) : Bool :=
  s.plc.pages.any (fun e => !e.2.unbacked && e.2.dev == s.dev && e.2.set == set && e.2.so2m == n) ||
  s.plc.segs.any (fun e => e.2.valid && e.2.dev == s.dev && e.2.set == set && e.2.soGib == n / 512 &&
    (nget? (e.1 * 512 + n % 512) s.plc.pages).isNone)

/-- A slot is the old location of a page in TRAIL, which is not reused while TRAIL lasts (R158). -/
def State.slotTrails (s : State) (set n : Nat) : Bool := s.plc.migs.any (fun e => e.2.state == 4 && e.2.srcSet == set && e.2.srcSo == n)

/-- ZERO_FILL_DONE (R69, R144): the slot becomes FREE, or USED where an entry places it (Table 8-3). The fill is not done while a request of an earlier
epoch, or a module write to the slot, is in flight (R78), or while the slot is an old location in TRAIL (R158). -/
def execZeroFillDone (set : Fin 1024) (slot : ZeroedSlot) (s : State) : Out :=
  whenUp s fun s =>
    let s := s.tellOldest slot.peers
    let slot := slot.slot
    match s.plc.zeroing.find? (fun x => x.1 == set.val && x.2.1 == slot) with
    | some x =>
      if (match x.2.2 with | some e => epochBefore s.oldestStack e | none => false) || s.slotTrails set slot ||
          s.sw.txns.any (fun e => e.2.kind == .modWrite && e.2.set == set.val && e.2.so / 2 ^ 21 == slot) then s
      else ({ s with plc := { s.plc with zeroing := s.plc.zeroing.filter (· != x) } }).slotSet set slot (b2n (s.slotPlaced set slot))
    | none => s

/-- HEAT_DECAY (R146): both counts of every entry halved, its SUBMAP cleared; while an HBM stack has no clock it waits (R36). -/
def execHeatDecay (s : State) : Out :=
  whenUp s fun s =>
    if !s.hbmUp then s else
    let lo := memKey spHbm 0
    let bases := ((s.mem.filter (fun c => lo ≤ c.1 && c.1 < lo + 0x20000000)).map (fun c => (c.1 - lo) / 16)).dedup
    bases.foldl (fun s b =>
      let e := s.rdN spHbm (b * 16) 16
      s.wrN spHbm (b * 16) 16 (e % 2 ^ 32 + bits e 32 16 / 2 * 2 ^ 32 + bits e 48 16 / 2 * 2 ^ 48 + bits e 96 32 * 2 ^ 96)) s

/-! ## Run, pins and slots (R144, R162 to R165) -/

/-- A write of PLC_CTRL (R164): RUN written 0 with STOP_ABORT abandons every migration that has not switched. -/
def plcCtrlOp (w : RegW) (s : State) : State :=
  let s := (s.putW w PLC_CTRL_RUN).putW w PLC_CTRL_STOP_ABORT
  if w.has PLC_CTRL_RUN && w.val PLC_CTRL_RUN = 0 && s.on PLC_CTRL_STOP_ABORT then
    s.plc.migs.foldl (fun s e => s.abandon e.1 ST_RETRY 6) s
  else s

/-- PIN in a page's override (R162), created at the present placement when there is none. -/
def pinPage (page : Nat) (s : State) : State × Nat :=
  match s.placed page with
  | none => (s, ST_NO_MATCH)
  | some l =>
    let o := nget? page s.plc.pages
    if (match o with | some o => o.pin | none => false) then (s, ST_LATE)
    else if s.ovrFull page then ((s.setF PLC_ERR_STATUS_OVR_FULL).fault (src 0x08 4) CE 0, ST_RESOURCE_EXHAUSTED)
    else
      let s := match s.migOf page with | some (k, m) => if m.state = 4 then s else s.abandon k ST_ACCESS_DENIED 5 | none => s
      let e := match o with
        | some o => { o with pin := true, set := l.set, dev := l.dev, so2m := l.so / 2 ^ 21 }
        | none => { pin := true, set := l.set, dev := l.dev, so2m := l.so / 2 ^ 21, epoch := s.g PLC_EPOCH_STATUS_CUR_EPOCH }
      (s.pageSet page e, ST_OK)

/-- PIN cleared in a page's override; one left equal to its segment entry goes (R140, R162). -/
def unpinPage (page : Nat) (s : State) : State × Nat :=
  match nget? page s.plc.pages with
  | some o => if o.pin then (s.pageSet page { o with pin := false }, ST_OK) else (s, if o.unbacked then ST_NO_MATCH else ST_LATE)
  | none => (s, if (s.resolve (page * 2 ^ 21)).isSome then ST_LATE else ST_NO_MATCH)

/-- PIN in a segment entry (R162). -/
def pinSeg (on_ : Bool) (seg : Nat) (s : State) : State × Nat :=
  match nget? seg s.plc.segs with
  | some e =>
    if !e.valid then (s, ST_NO_MATCH)
    else if e.pin == on_ then (s, ST_LATE)
    else
      let s := if on_ then s.plc.migs.foldl (fun s m => if m.2.page / 512 = seg && m.2.state ≠ 4 then s.abandon m.1 ST_ACCESS_DENIED 5 else s) s else s
      ({ s with plc := { s.plc with segs := nset seg { e with pin := on_ } s.plc.segs } }, ST_OK)
  | none => (s, ST_NO_MATCH)

/-- SLOT_CLAIM. -/
def slotClaim (set n : Nat) (s : State) : State × Nat :=
  if !(s.placeable set) || n ≥ s.slotCount set then (s, ST_NO_MATCH)
  else if s.slotState set n = 0 then (s.slotSet set n 1, ST_OK) else (s, ST_ACCESS_DENIED)

/-- SLOT_FREE. DEDUCED (log 132): the old slot of a page in TRAIL, which R158 keeps from reuse, is refused as a placed one is. -/
def slotFree (set n : Nat) (s : State) : State × Nat :=
  if !(s.placeable set) || n ≥ s.slotCount set then (s, ST_NO_MATCH)
  else match s.slotState set n with
    | 1 => if s.slotPlaced set n || s.slotTrails set n then (s, ST_ACCESS_DENIED) else (s.slotZero set n (some s.curEpoch), ST_OK)
    | 3 => (s, ST_ACCESS_DENIED)
    | _ => (s, ST_LATE)

/-- ABORT_MIG. DESIGN CHOICE (log 131): the record of a migration it ends has the status RETRY and the reason STOPPED. -/
def abortMig (page : Nat) (s : State) : State × Nat :=
  match s.migOf page with
  | none => (s, ST_NO_MATCH)
  | some (k, m) => if m.state = 4 then (s, ST_LATE) else (s.abandon k ST_RETRY 6, ST_OK)

/-- The operations of Table 8-10 on the argument register. -/
def plcRun (op : Nat) (s : State) : Option (State × Nat) :=
  let x := s.g PLC_CMD_ARG_INDEX
  let set := s.g PLC_CMD_ARG_SET
  match op with
  | 0x01 => some (pinPage (x % 2 ^ 32) s)
  | 0x02 => some (unpinPage (x % 2 ^ 32) s)
  | 0x03 => some (pinSeg true (x % 2 ^ 23) s)
  | 0x04 => some (pinSeg false (x % 2 ^ 23) s)
  | 0x10 => some (slotClaim set x s)
  | 0x11 => some (slotFree set x s)
  | 0x20 => some (abortMig (x % 2 ^ 32) s)
  | _ => none

/-- A write of PLC_CMD (R165, R431): one while BUSY is 1 is refused, though every command here ends within its write; a repeated TAG returns the stored status; any other OPCODE returns NO_MATCH. DESIGN CHOICE (log 131): such an
OPCODE is no command, so that the stored status and TAG stand. -/
def plcCmdOp (op tag : Nat) (s : State) : State × Nat :=
  if s.on PLC_CMD_STATUS_BUSY then (s, ST_RESOURCE_EXHAUSTED)
  else if s.plc.cmdDone && s.g PLC_CMD_STATUS_TAG == tag then (s, s.g PLC_CMD_STATUS_STATUS)
  else match plcRun op s with
    | none => (s, ST_NO_MATCH)
    | some (s, st) => (({ s with plc := { s.plc with cmdDone := true } }.p PLC_CMD_STATUS_STATUS st).p PLC_CMD_STATUS_TAG tag, st)

/-- A PLC_CMD command from a master. -/
def plcCommand (op : Nat) (m : Master) (tag : Nat) (s : State) : Out :=
  command m .PLC_CMD 0 (plcCmdOp op tag) s

/-- PLACEMENT_RUN_STOP (R164). -/
def execPlacementRunStop (m : Master) (s : State) : Out :=
  command m .PLC_CTRL 0 (fun s => (plcCtrlOp { v := s.g PLC_CTRL_STOP_ABORT * 2 } s, ST_OK)) s

/-- PIN_PAGE (R162). -/
def execPinPage (m : Master) (tag : Fin 65536) (s : State) : Out := plcCommand 0x01 m tag s
/-- UNPIN_PAGE (R162). -/
def execUnpinPage (m : Master) (tag : Fin 65536) (s : State) : Out := plcCommand 0x02 m tag s
/-- PIN_SEG (R162). -/
def execPinSeg (m : Master) (tag : Fin 65536) (s : State) : Out := plcCommand 0x03 m tag s
/-- UNPIN_SEG (R162). -/
def execUnpinSeg (m : Master) (tag : Fin 65536) (s : State) : Out := plcCommand 0x04 m tag s
/-- SLOT_CLAIM (R144). -/
def execSlotClaim (m : Master) (tag : Fin 65536) (s : State) : Out := plcCommand 0x10 m tag s
/-- SLOT_FREE (R144). -/
def execSlotFree (m : Master) (tag : Fin 65536) (s : State) : Out := plcCommand 0x11 m tag s
/-- ABORT_MIG (R165). -/
def execAbortMig (m : Master) (tag : Fin 65536) (s : State) : Out := plcCommand 0x20 m tag s

/-- PLC_PROBE_CTRL.GO (Table 8-18): one snapshot of the page's placement. -/
def plcProbeOp (s : State) : State :=
  let page := s.g PLC_PROBE_CTRL_PAGE
  let s := s.setF PLC_PROBE_CTRL_DONE
  let ovr := nget? page s.plc.pages
  let s := match s.resolve (page * 2 ^ 21) with
    | some l => (((s.p PLC_PROBE_DATA0_SOURCE (if ovr.isSome then 2 else 1)).p PLC_PROBE_DATA0_DEV l.dev).p PLC_PROBE_DATA0_SET l.set).p
        PLC_PROBE_DATA0_SO_2M (l.so / 2 ^ 21)
    | none => (((s.p PLC_PROBE_DATA0_SOURCE 0).p PLC_PROBE_DATA0_DEV 0).p PLC_PROBE_DATA0_SET 0).p PLC_PROBE_DATA0_SO_2M 0
  let s := (s.pb PLC_PROBE_DATA0_PINNED (s.pinned page)).p PLC_PROBE_DATA1_ENT_EPOCH (s.entEpoch page)
  match s.migOf page with
  | some (k, m) => (s.p PLC_PROBE_DATA1_MIG_STATE m.state).p PLC_PROBE_DATA1_MIG_SLOT k
  | none => (s.p PLC_PROBE_DATA1_MIG_STATE 0).p PLC_PROBE_DATA1_MIG_SLOT 0

/-- PLC_PROBE (R139). -/
def execPlcProbe (m : Master) (s : State) : Out := command m .PLC_PROBE_CTRL 0 (fun s => (plcProbeOp s, ST_OK)) s

end Sys2Proof.Machine
end

