-- ==== Sys2Proof/Machine/Access.lean ====
section
/-! DEFINITION. Accesses to the Device Control Space: what each offset names, what a read returns, what a write does, and the rows that make an
access (R8 to R13, R24 to R28, R398, R432, R434). -/

namespace Sys2Proof.Machine

/-! ## What an offset names (R24, R25) -/

/-- What an offset of the Device Control Space names: a register copy, the on-die log (record and byte), an instance's mailbox area, a queue's
inline window, a receive buffer, or a transmit buffer. -/
inductive Target
  | reg (r : RegName) (i j : Nat)
  | log (n o : Nat)
  | mbx (i o : Nat)
  | inl (q o : Nat)
  | rx (b o : Nat)
  | tx (b o : Nat)
deriving DecidableEq, Repr

/-- The register copy at an offset. A bank holds no counter beyond its own, and unit 47 has no gate register. -/
def regTarget (a : Nat) : Option Target :=
  match regAt a with
  | some (r, i, j) =>
    if cqRegs.contains r then some (.reg r (2 * i + j) 0)
    else if (r = .CNT_SEL || r = .CNT_VAL) && bankCount i ≤ j then none
    else if r = .HJ_GATE && !(gateable i) then none
    else some (.reg r i j)
  | none => none

/-- What an aligned offset names. -/
def targetAt (a : Nat) : Option Target :=
  if 0x104000 ≤ a && a < 0x108000 then some (.log ((a - 0x104000) / 128) (a % 128))
  else if 0x1800000 ≤ a && a < 0x1C00000 && 0x140 ≤ a % 1024 then some (.mbx (a / 1024 % 4096) (a % 1024))
  else if 0x1600000 ≤ a && a < 0x1800000 then some (.inl (a / 256 % 8192) (a % 256))
  else if 0x3A10000 ≤ a && a < 0x3A18000 then some (.rx (a / 4096 % 8) (a % 4096))
  else if 0x3A20000 ≤ a && a < 0x3A24000 then some (.tx (a / 4096 % 4) (a % 4096))
  else regTarget a

/-- Registers of the power block, which lie in the always-on domain. -/
def puRegs : List RegName := [.PU_STATUS, .PU_DIAG, .PU_CFG, .PU_CMD, .PU_CMD_STATUS, .PU_RAIL, .PU_STAGE_US]

/-- Whether an offset can be reached now: the main domain only while it runs, and in pilot-light state what R398 lists. -/
def State.reaches (s : State) (a : Nat) : Bool :=
  if a < 0x100000 || (0x3800000 ≤ a && a < 0x3C00000) then true
  else if a < 0x200000 then s.fuUp
  else if a < 0x400000 then !(s.on PU_STATUS_PILOT) || a < 0x200100 || (0x211C00 ≤ a && a < 0x212000)
  else if 0x3E00000 ≤ a then s.tbUp || (0x3E03000 ≤ a && a < 0x3E04000)
  else s.up

/-- Whether the view of an instance's host shows a target (R28). -/
def State.hostTarget (s : State) (k : Nat) : Target → Bool
  | .reg r i _ => s.hostSees k r i
  | .mbx i _ => i == k
  | .inl q _ => s.on WQ_CFG_VALID q && s.g WQ_CFG_INST q == k
  | _ => false

/-- Whether a master sees a target at all. -/
def State.sees (s : State) (m : Master) (t : Target) : Bool :=
  match m with
  | .host k => s.hostTarget k t
  | _ => true

/-- An access of a width or alignment that R26 does not permit: refused and recorded. -/
def State.badWidth (s : State) (m : Master) (a kind : Nat) : State :=
  s.report { source := src 0x01 9, cls := CE, scope := 0, status := ST_ACCESS_DENIED, addr := some (3, a), access := kind,
             inst := (match m with | .host i => some (s.dev * 4096 + i.val) | .thread t => some (s.th t).inst | _ => none), core := masterCore m,
             tid := (match m with | .thread t => some (s.tidOf t) | _ => none), dev := s.dev }

/-! ## Reads -/

/-- The age in microseconds of the oldest unit held for a port. -/
def State.oldestUs (s : State) (c : Nat) : Nat :=
  (s.sw.txns.filter (fun e => match e.2.place with | .egress d _ => d == c | _ => false)).foldl (fun n e => max n ((s.now - e.2.tAcc) / 1000)) 0

/-- Whether a tracker share holds traffic back: a port's, or the internal one, in either slice (Table 5-5). -/
def State.atTrkBound (s : State) : Bool :=
  (List.range 2).any (fun sl => !(s.trkRoom sl 0x80 false) || (List.range 128).any (fun c => !(s.isFollower c) && !(s.trkRoom sl c false)))
/-- Whether a commit of this device is under way, queued or taken (CMT_STATUS.BUSY). -/
def State.ownCommit (s : State) : Bool :=
  (s.cmt.cur.toList ++ s.cmt.queue).any (fun c => match c.owner with | .remote _ _ => false | _ => true)
/-- The threads of a hearth in RUN or HANDLER. -/
def State.threadsRun (s : State) (h : Nat) : Nat := ((List.range 128).filter (fun k => !(s.halted (128 * h + k)))).length

/-- The value a field of a register copy shows now. Fields that follow other state are taken from it; a WO field reads 0. -/
def State.fieldNow (s : State) (f : Fld) (i j : Nat) : Nat :=
  let top (n : Nat) : Nat := min n (2 ^ f.width - 1)
  if f.acc = .wo then 0 else
  match f.reg, f.lsb with
  | .PC_LINK_STATUS, _ => if s.isFollower i then 0 else s.g f i
  | .PC_TAG_STATUS, b => if s.isFollower i then 0 else if b = 0 then top (s.inOut i) else if b = 32 then top (s.outOut i) else s.g f i
  | .PC_QUIESCE_STATUS, 0 => s.portState i
  | .SW_STATUS, 0 => top s.trkUsed
  | .SW_STATUS, 40 => top (s.cellsDie 0 + s.cellsDie 1)
  | .SW_STATUS, 60 => b2n s.atTrkBound
  | .SW_STATUS, 61 => b2n ((List.range 2).any s.dieBound)
  | .SW_OVF_STATUS, 0 => top s.ovfCells
  | .EGQ_STATUS, 0 => if s.isFollower i then 0 else top (s.egDepth i)
  | .EGQ_STATUS, 40 => top (s.oldestUs i)
  | .MTR_STATUS, 0 => b2n (s.sw.txns.any (fun e => e.2.place == .penalty && e.2.meter == some i))
  | .PG_LO, _ | .PG_HI, _ | .PG_VIOL_ADDR, _ | .PG_VIOL_INFO, _ | .PG_VIOL_CNT, _ => if s.isFollower i then 0 else s.g f i j
  | .EQ_SHP, _ => if s.isFollower i then 0 else s.g f i j
  | .EQ_WRR, _ => if s.isFollower i then 0 else s.g f i j
  | .EQ_LAT, _ => if s.isFollower i then 0 else s.g f i j
  | .EQ_STATUS, b =>
    if s.isFollower i then 0 else if b = 0 then top (s.egDepthQ i j) else if b = 20 then b2n (s.eligible i j)
    else (ngetD s.sw.credit (16 * i + j) 0 / 1000 % 2 ^ 32).toNat
  | .HOME_SLICE_STATUS, 0 => top (s.trkSlice i)
  | .MSC_STATUS, 0 => top (s.dirtyOf i)
  | .PLC_EPOCH_STATUS, 32 => s.oldestStack
  | .HTH_STATUS, 0 => s.threadsRun i
  | .TH_PC, _ => if s.halted (128 * i + j) then (s.th (128 * i + j)).pc else 0
  | .RQL_CFG, _ => if i < 1024 then s.g f i else 0
  | .CMT_STATUS, 32 => b2n s.ownCommit
  | .CMT_STATUS, 40 => top s.cmt.queue.length
  | .STG_STATUS, 0 => top s.storeUsed
  | .FLU_ASSIGN, 7 => b2n (s.fluPlacement i)
  | .INST_USE, 0 => top (s.instThreads (s.instId i)).length
  | .INST_USE, 8 => top (s.instFlues i).length
  | .INST_USE, 16 => top (s.instQueues i).length
  | .INST_USE, 24 => top (s.instSets i).length
  | .INST_USE, 32 => top (s.ovfInst (s.instId i))
  | .FU_SRC, _ => if sourceDefined i then s.g f i else 0
  | .CSET_VAL, 0 => match s.slotCounter i j with | some (b, k) => s.g CNT_VAL_VALUE b k | none => 0
  | .CSET_VAL, _ => match s.slotCounter i j with | some (b, k) => s.g CNT_VAL_OVF b k | none => 0
  | .CNT_EVT, b => bits (Config.evtEntry i j).toNat b f.width
  | _, _ => s.g f i j

/-- The staging set that a master reads and fills by direct accesses (R9, R434). -/
def State.stagingOf (s : State) : Master → List Staged
  | .thread t => (s.th t).staging
  | .bridge => s.cmt.bridge
  | _ => []

/-- The value a master reads in a field: an RWE field shows what its own staging set holds for it (R9). -/
def State.fieldFor (s : State) (m : Master) (a : Nat) (f : Fld) (i j : Nat) : Nat :=
  if f.acc = .rwe then
    match (s.stagingOf m).find? (fun e => !e.map && e.key == a) with
    | some e => bits e.val f.lsb f.width
    | none => s.fieldNow f i j
  else s.fieldNow f i j

/-- The word of a register as a master reads it. -/
def State.wordFor (s : State) (m : Master) (a : Nat) (r : RegName) (i j : Nat) : Nat :=
  r.fields.foldl (fun n f => n + s.fieldFor m a f i j * 2 ^ f.lsb) 0

/-- What a read of one half leaves of the value `v` of a field: the bits in the half that is not read (R12). -/
def Fld.unread (f : Fld) (v : Nat) (lo hi : Bool) : Nat :=
  let k := 32 - f.lsb
  (if lo then 0 else v % 2 ^ k) + (if hi then 0 else v / 2 ^ k * 2 ^ k)

/-- The bits of RC fields that a read takes are cleared (R12): in a field that both halves hold, those of the half that is read. -/
def State.readClear (s : State) (r : RegName) (i j : Nat) (lo hi : Bool) : State :=
  r.fields.foldl (fun s f =>
    if f.acc == .rc && ({ v := 0, lo := lo, hi := hi } : RegW).has f then
      (if lo && hi || f.lsb ≥ 32 || f.lsb + f.width ≤ 32 then s.clr f i j else s.p f (f.unread (s.g f i j) lo hi) i j)
    else s) s

/-- The bytes of a window. -/
def State.windowRead (s : State) (t : Target) (n : Nat) : Nat :=
  match t with
  | .log k o => match nget? k s.fu.odl with | some r => leNat ((r.bytes.drop o).take n) | none => 0
  | .mbx i o => s.rdN (spMbx i) o n
  | .rx b o => s.rdN (spRx b) o n
  | .tx b o => s.rdN (spTx b) o n
  | _ => 0

/-- A read of 4 or 8 bytes at an aligned offset. -/
def State.targetRead (s : State) (m : Master) (a width : Nat) (t : Target) : State × Nat :=
  match t with
  | .reg r i j =>
    let w := s.wordFor m (a / 8 * 8) r i j
    let lo := width = 64 || a % 8 = 0
    let hi := width = 64 || a % 8 = 4
    (s.readClear r i j lo hi, if width = 64 then w else bits w (8 * (a % 8)) 32)
  | .log n o => (s, s.windowRead (.log n (o + a % 8)) (width / 8))
  | .mbx i o => (s, s.windowRead (.mbx i (o + a % 8)) (width / 8))
  | .rx b o => (s, s.windowRead (.rx b (o + a % 8)) (width / 8))
  | .tx b o => (s, s.windowRead (.tx b (o + a % 8)) (width / 8))
  | .inl _ _ => (s, 0)

/-! ## Writes: what each register accepts -/

/-- The ranges of a register's RW fields that its table gives: a write of a value outside is refused. -/
def RegName.ranges : RegName → List (Fld × Nat × Nat)
  | .PC_LINK_CFG => [(PC_LINK_CFG_RATE_MAX, 0, 6), (PC_LINK_CFG_CLK_MODE, 0, 2), (PC_LINK_CFG_REPLAY_THR, 1, 4095)]
  | .PC_QUIESCE_CTRL => [(PC_QUIESCE_CTRL_QUIESCE_TMO_US, 10, 100000)]
  | .BIND_CFG => [(BIND_CFG_DC_TMO_MS, 10, 60000), (BIND_CFG_UNBIND_TMO_MS, 10, 60000)]
  | .SW_OVF_CFG => [(SW_OVF_CFG_SPILL_THR_U, 1, 512), (SW_OVF_CFG_OVF_CAP_GBPS, 100, 1600)]
  | .SW_AGE_CFG => [(SW_AGE_CFG_AGE_MREQ_US, 1, 1000000), (SW_AGE_CFG_AGE_IO_US, 1, 1000000)]
  | .MIR_CFG => [(MIR_CFG_N, 16, 1048576)]
  | .MIR_MATCH => [(MIR_MATCH_CLASS, 0, 5)]
  | .MIR_DEST => [(MIR_DEST_RING_LOG2, 4, 15)]
  | .MS_CFG => [(MS_CFG_YEL_FLOOR_U, 0, 512), (MS_CFG_LAT_THR_NS, 1, 4000000000)]
  | .MTR_RATE => [(MTR_RATE_CIR_MBPS, 1, 16000000), (MTR_RATE_PIR_MBPS, 1, 16000000)]
  | .MTR_BURST => [(MTR_BURST_CBS_U, 16, 1048575)]
  | .INST_MS => [(INST_MS_PEN_MAX, 1, 4096)]
  | .EQ_SHP => [(EQ_SHP_RATE_MBPS, 0, 16000000), (EQ_SHP_MAX_CREDIT_U, 16, 65535)]
  | .EQ_WRR => [(EQ_WRR_WEIGHT, 1, 255), (EQ_WRR_BURST, 1, 64)]
  | .HOME_TMO_CFG => [(HOME_TMO_CFG_SNOOP_TMO_US, 1, 1000000), (HOME_TMO_CFG_MEM_TMO_US, 1, 1000000)]
  | .PLC_CFG => [(PLC_CFG_FLUE_COUNT, 1, 128), (PLC_CFG_POLICY_HEARTH, 0, 14)]
  | .PLC_LIMIT => [(PLC_LIMIT_MAX_ACTIVE, 0, 4096), (PLC_LIMIT_BW_CAP_GBPS, 1, 512), (PLC_LIMIT_MIN_RESIDENCY_MS, 0, 4000000000)]
  | .PLC_SYNC_CFG => [(PLC_SYNC_CFG_HOLD_MAX_NS, 200, 1600), (PLC_SYNC_CFG_SYNC_SG, 0, 4), (PLC_SYNC_CFG_MAX_PASSES, 1, 15),
      (PLC_SYNC_CFG_SYNC_TRIES, 1, 15), (PLC_SYNC_CFG_SYNC_MAX, 1, 64)]
  | .PLC_HEAT_CFG => [(PLC_HEAT_CFG_HEAT_N, 1, 65535), (PLC_HEAT_CFG_DECAY_MS, 1, 4000000000)]
  | .PLC_REQ_RING => [(PLC_REQ_RING_REQ_LOG2, 4, 16)]
  | .PLC_LOG_CFG => [(PLC_LOG_CFG_LOG_LOG2, 13, 24)]
  | .PLC_INST => [(PLC_INST_MAX_ACTIVE_I, 0, 4096)]
  | .CMT_CFG => [(CMT_CFG_COMMIT_TMO_US, 10, 1000000), (CMT_CFG_STG_MAX, 1, 16384)]
  | _ => []

/-- Whether an area of the engine, fault-log and trace region meets the heat table, the slot-state map or the fault-log ring, or leaves the
region (R166). -/
def logPlaceBad (a n : Nat) : Bool := decide (a < 0x38000000) || decide (a + n > 0x200000000)

/-- Placement neither runs nor holds a migration slot (Table 8-17). -/
def State.plcStill (s : State) : Bool := !(s.on PLC_CTRL_RUN) && s.on PLC_CTRL_IDLE
/-- What a register refuses beyond its fields' ranges: by its present state, or by two of its fields together. -/
def State.rwOk (s : State) (r : RegName) (i j : Nat) (w : RegW) : Bool :=
  let a (f : Fld) : Nat := s.after w f i j
  r.ranges.all (fun x => w.within x.1 x.2.1 x.2.2) &&
  match r with
  | .PC_ROLE_CFG =>
    !(s.changes w PC_ROLE_CFG_ROLE_SEL i || s.changes w PC_ROLE_CFG_AUTH_REQ i) || s.portState i == 2 || s.portState i == 3
  | .MIR_DEST => !(s.on MIR_CFG_EN i) && decide (a MIR_DEST_RING_BASE * 64 + 2 ^ a MIR_DEST_RING_LOG2 * 128 ≤ 0x800000)
  | .MTR_RATE => s.on MTR_CFG_MODE i || decide (a MTR_RATE_CIR_MBPS ≤ a MTR_RATE_PIR_MBPS)
  | .MTR_BURST => decide (16 ≤ a MTR_BURST_PEBS_U) || (s.on MTR_CFG_MODE i && a MTR_BURST_PEBS_U == 0)
  | .EQ_SHP | .EQ_WRR | .EQ_STATUS | .EQ_LAT | .PG_LO | .PG_HI | .PG_VIOL_ADDR | .PG_VIOL_INFO | .PG_VIOL_CNT => !(s.isFollower i)
  | .PLC_CFG => decide (a PLC_CFG_FLUE_FIRST + a PLC_CFG_FLUE_COUNT ≤ 2048) && (s.plcStill || !(s.changes w PLC_CFG_FLUE_FIRST || s.changes w PLC_CFG_FLUE_COUNT))
  | .PLC_REQ_RING => s.plcStill && decide (a PLC_REQ_RING_REQ_BASE * 32 + 2 ^ a PLC_REQ_RING_REQ_LOG2 * 32 ≤ 0x800000)
  | .PLC_LOG_CFG => s.plcStill && !(logPlaceBad (a PLC_LOG_CFG_LOG_BASE * 64) (2 ^ a PLC_LOG_CFG_LOG_LOG2 * 64))
  | .TH_VEC =>
    let h := a TH_VEC_HANDLER
    s.halted (128 * i + j) && (s.basePriv (128 * i + j) != 2 || (decide (0x1000000 ≤ h) && decide (h < 0x1800000)))
  | _ => true

/-- The RWE fields that a direct write carries are staged as STGR would (R434): the state, and a status other than OK where they are refused. -/
def State.stageDirect (s : State) (m : Master) (r : RegName) (i j a : Nat) (w : RegW) : State × Nat :=
  if !(r.rwe.any (fun f => w.has f)) then (s, ST_OK)
  else
    let may := match m with | .thread _ => s.p01 m | .bridge => true | _ => false
    let v := r.rwe.foldl (fun n f => n + (if w.has f then w.val f else s.fieldFor m a f i j) * 2 ^ f.lsb) 0
    if !may || r.reservedSet w.v || !(s.stageOk r i v) then (s, ST_ACCESS_DENIED)
    else match s.stagePut (s.stagingOf m) ⟨false, a, v⟩ with
      | none => (s, ST_RESOURCE_EXHAUSTED)
      | some l => match m with
        | .thread t => (s.stagingSet t l, ST_OK)
        | _ => (s.bridgeSet l, ST_OK)

/-- What follows a write of a register's fields: buckets are brought up to date, and a queue's remaining weight and its rate up to the next tick are kept
(R111), before; PEN_FULL and PF_ACTIVE follow after. -/
def State.beforeWrite (s : State) (r : RegName) (i j : Nat) : State :=
  match r with
  | .MTR_CFG | .MTR_RATE | .MTR_BURST => s.setBuckets i (s.bucketNow i)
  | .EQ_WRR => { s with sw := { s.sw with wrrLeft := nset (16 * i + j) (s.wrrLeft i j) s.sw.wrrLeft } }
  | .EQ_SHP => { s with sw := { s.sw with shpOld := nset (16 * i + j) (s.shpRate i j) s.sw.shpOld } }
  | _ => s
def State.afterWrite (s : State) (r : RegName) (i : Nat) : State :=
  match r with
  | .INST_MS => s.penRefresh (s.instId i)
  | .HOME_CFG => s.pfClear
  | _ => s

/-- A write of a register's fields by their access codes (Table 0-3): RW and RWS fields take their values, W1C fields are cleared by 1s, RWE
fields are staged, and others are left. A changed ROLE_SEL ends the retries of a role conflict (R49). -/
def State.plainWrite (s : State) (m : Master) (r : RegName) (i j a : Nat) (w : RegW) : State × Nat :=
  if !(s.rwOk r i j w) then (s, ST_ACCESS_DENIED)
  else
    let q := s.stageDirect m r i j a w
    if q.2 ≠ ST_OK then q
    else
      let s := q.1.beforeWrite r i j
      let s := if r = .PC_ROLE_CFG && s.changes w PC_ROLE_CFG_ROLE_SEL i then s.portMod i (fun x => { x with conflict := false }) else s
      let s := r.fields.foldl (fun s f => match f.acc with | .rw | .rws => s.putW w f i j | .w1c => s.w1c w f i j | _ => s) s
      (s.afterWrite r i, ST_OK)

/-- A write with command bits (R432): two of them are refused; one is performed after the other fields, which stay as they were when it is
refused; its status is held. -/
def State.cmdWrite (s : State) (w : RegW) (cmds : List (Fld × (State → State × Nat))) (rest : State → State × Nat) (held : State → Nat → State) : State × Nat :=
  match cmds.filter (fun c => w.sent c.1 == 1) with
  | [] => rest s
  | [c] =>
    let p := rest s
    if p.2 ≠ ST_OK then p
    else
      let t := c.2 p.1
      if t.2 = ST_OK then (held t.1 ST_OK, ST_OK)
      else let u := c.2 s
           (held u.1 u.2, u.2)
  | _ => (held s ST_ACCESS_DENIED, ST_ACCESS_DENIED)

/-- A write of a port's command registers: two command bits are refused first (R432), a follower's write is refused (R46), and a lead's commands hold their status in LAST_STATUS. -/
def portCtlOp (m : Master) (r : RegName) (c a : Nat) (w : RegW) (s : State) : State × Nat :=
  let cmds := if r = .PC_LINK_CFG then [(PC_LINK_CFG_RETRAIN, retrainOp c)]
    else [(PC_QUIESCE_CTRL_QUIESCE, quiesceOp c), (PC_QUIESCE_CTRL_RELEASE, releaseOp c), (PC_QUIESCE_CTRL_PORT_RESET, portResetOp c)]
  let held (s : State) (st : Nat) : State := s.p PC_QUIESCE_STATUS_LAST_STATUS st c
  if 1 < w.commands (cmds.map (·.1)) then (held s ST_ACCESS_DENIED, ST_ACCESS_DENIED)
  else if s.isFollower c && (r = .PC_QUIESCE_CTRL || w.sent PC_LINK_CFG_RETRAIN == 1) then (s, ST_ACCESS_DENIED)
  else s.cmdWrite w cmds (fun s => s.plainWrite m r c 0 a w) held

/-- A write of PC_LOOP_CFG (R57, R63). -/
def loopOp (c : Nat) (w : RegW) (s : State) : State × Nat :=
  loopWriteOp c (s.after w PC_LOOP_CFG_LOOP_EN c) (s.after w PC_LOOP_CFG_PARTNER c) s

/-- A write of one register copy by a master that its block accepts (R26). -/
def State.regWrite (s : State) (m : Master) (r : RegName) (i j a : Nat) (w : RegW) : State × Nat :=
  let plain (s : State) : State × Nat := s.plainWrite m r i j a w
  match r with
  | .TB_CFG => tbCfgOp w s
  | .TB_ADJ => tbAdjOp w s
  | .TB_STEP => if w.has TB_STEP_STEP_NS then tbStepOp (w.val TB_STEP_STEP_NS) s else (s, ST_OK)
  | .AVS_CTRL => avsOp w s
  | .PC_WIDTH_CFG => if w.has PC_WIDTH_CFG_WIDTH then widthOp i (w.val PC_WIDTH_CFG_WIDTH) s else (s, ST_OK)
  | .PC_LINK_CFG | .PC_QUIESCE_CTRL => portCtlOp m r i a w s
  | .PC_LOOP_CFG => loopOp i w s
  | .BIND_CMD => if w.lo then bindCmdOp (w.val BIND_CMD_OPCODE) (w.val BIND_CMD_TAG) s else (s, ST_OK)
  | .SF_PROBE_CTRL => s.cmdWrite w [(SF_PROBE_CTRL_GO, fun s => (probeOp s, ST_OK)), (SF_PROBE_CTRL_REBUILD, rebuildOp)] plain (fun s _ => s)
  | .MSC_CTRL => s.cmdWrite w [(MSC_CTRL_FLUSH, flushOp)] plain (fun s _ => s)
  | .PLC_CTRL => (plcCtrlOp w s, ST_OK)
  | .PLC_CMD => if w.lo then plcCmdOp (w.val PLC_CMD_OPCODE) (w.val PLC_CMD_TAG) s else (s, ST_OK)
  | .PLC_PROBE_CTRL => s.cmdWrite w [(PLC_PROBE_CTRL_GO, fun s => (plcProbeOp s, ST_OK))] plain (fun s _ => s)
  | .HTH_CTRL => s.cmdWrite w [(HTH_CTRL_CLEAR_ALL, clearAllOp i)] plain (fun s _ => s)
  | .HTH_LOAD_CMD =>
    if w.sent HTH_LOAD_CMD_GO = 1 then loadOp m i (w.sent HTH_LOAD_CMD_THREAD) (w.sent HTH_LOAD_CMD_TAG) (w.sent HTH_LOAD_CMD_INST) s else (s, ST_OK)
  | .TH_CTRL =>
    let t := 128 * i + j
    s.cmdWrite w [(TH_CTRL_START, startOp t), (TH_CTRL_STOP, stopOp t), (TH_CTRL_CLEAR, clearOp t)] plain (fun s st => s.tp TH_STATUS_CMD_STATUS st t)
  | .FLU_ASSIGN => fluAssignOp m i w s
  | .FLU_CFG => fluCfgOp i w s
  | .FLU_CTRL =>
    s.cmdWrite w [(FLU_CTRL_STOP, fluStopOp m i), (FLU_CTRL_RESUME, fluResumeOp m i), (FLU_CTRL_ABORT, fluAbortOp m i), (FLU_CTRL_RESET, fluResetOp m i)]
      plain (fun s st => s.p FLU_STATUS_CMD_STATUS st i)
  | .FLU_DOORBELL => let q := doorbellOp m i w.v s; (q.1.p FLU_STATUS_CMD_STATUS q.2 i, q.2)
  | .FLU_DESC | .FLU_SRC | .FLU_DST | .FLU_LEFT | .FLU_ACC | .FLU_RING_IDX => fluProgressOp m i r w s
  | .FLU_RING_BASE => fluRingBaseOp i w s
  | .FLU_RUN_RET => helperOp i (w.sent FLU_RUN_RET_STATUS) (w.sent FLU_RUN_RET_RESULT) s
  | .RQL_CFG => rqlCfgOp i w s
  | .CQ_BASE => cqBaseOp i w s
  | .CQ_CFG => cqCfgOp m i w s
  | .CQ_IDX => if w.has CQ_IDX_HEAD then cqHeadOp i (w.val CQ_IDX_HEAD) s else (s, ST_OK)
  | .WQ_CFG => wqCfgOp i w s
  | .WQ_RING => wqRingOp i w s
  | .WQ_HEAD_ADDR => wqHeadAddrOp i w s
  | .WQ_CTRL => wqCtrlOp i w s
  | .WQ_DB => if w.has WQ_DB_TAIL then (let q := wqTailOp i (w.val WQ_DB_TAIL) s; (q.1.p WQ_STATUS_DB_STATUS q.2 i, q.2)) else (s, ST_OK)
  | .WQ_IDX => wqIdxOp i w s
  | .INST_CMD => if w.lo then instCmdOp m i (w.val INST_CMD_OPCODE) (w.val INST_CMD_TAG) s else (s, ST_OK)
  | .INST_POOL | .INST_OVF | .INST_DC_CFG => instQuotaOp i r w s
  | .MBX_CFG => mbxCfgOp i w s
  | .MBX_DB =>
    if w.lo then (let q := mbxDoorbellOp i (w.val MBX_DB_TAG) (w.val MBX_DB_LEN_DW) s; (q.1.p MBX_STATUS_DB_STATUS q.2 i, q.2)) else (s, ST_OK)
  | .MBX_NOTE_IDX => if w.has MBX_NOTE_IDX_CONS then mbxConsOp i w s else (s, ST_OK)
  | .TG_CTRL => s.cmdWrite w [(TG_CTRL_SWAP, gateSwapOp i)] plain (fun s _ => s)
  | .TG_LO => tgLoOp i j w s
  | .TG_HI => tgHiOp i j w s
  | .FU_CMD => if w.lo then fuCmdOp m (w.val FU_CMD_OPCODE) (w.val FU_CMD_TAG) s else (s, ST_OK)
  | .FU_LOG_STATUS => fuLogStatusOp w s
  | .FU_INJ => fuInjOp w s
  | .FU_FIRST5 => fuFirstOp i w s
  | .FU_SRC => fuSrcOp i w s
  | .STK_CTRL => stkCtrlOp w s
  | .STK_CFG => stkCfgOp w s
  | .SRF_CFG => srfCfgOp i w s
  | .DMP_GCFG => dmpGcfgOp w s
  | .DMP_PFAIL_CFG => dmpPfailOp w s
  | .DMP_CURVE => dmpCurveOp i j w s
  | .DMP_CFG => dmpCfgOp i w s
  | .DMP_LIM => dmpLimOp i w s
  | .DMP_CTRL => dmpCtrlOp i w s
  | .HJ_GATE => hjGateOp i w s
  | .HJ_CMD => if w.lo then hjCmdOp m i (w.val HJ_CMD_OPCODE) (w.val HJ_CMD_TAG) s else (s, ST_OK)
  | .BR_CFG => brCfgOp m w s
  | .BR_ALERT => brAlertOp w s
  | .BR_CMT => brCmtOp w s
  | .SMB_TX_CMD => smbTxOp w s
  | .SMB_RX_REL => if w.has SMB_RX_REL_RELEASE then rxRelOp (w.val SMB_RX_REL_RELEASE) s else (s, ST_OK)
  | .SB_CFG => sbCfgOp w s
  | .PU_CFG => puCfgOp w s
  | .PU_CMD => if w.lo then puCmdOp (w.val PU_CMD_OPCODE) (w.val PU_CMD_TAG) s else (s, ST_OK)
  | .CNT_CFG => cntCfgOp w s
  | .CNT_SNAP => cntSnapOp w s
  | .CNT_CTRL => s.cmdWrite w [(CNT_CTRL_SWEEP, cntSweepOp)] plain (fun s _ => s)
  | .CNT_SEL => cntSelOp i j w s
  | .CNT_VAL => cntValOp i j w s
  | .CHM_CFG => chmCfgOp i w s
  | .CHM_RING => chmRingOp i w s
  | .CHM_IDX => chmIdxOp i w s
  | .CSET_CFG => csetCfgOp i w s
  | .CSET_MAP => csetMapOp i j w s
  | .CSET_VAL => csetValOp i j w s
  | .TALLY =>
    if w.has TALLY_VALUE then (let q := s.tallyWrite 32 i (w.val TALLY_VALUE); (q.1, if q.2 = ST_LATE then ST_OK else q.2)) else (s, ST_OK)
  | _ => plain s

/-- The write of a register as R26 gives it: a write of one half carries that half's fields, and a field that reaches beyond it keeps its other
bits. -/
def State.carry (s : State) (m : Master) (r : RegName) (i j a width v : Nat) : RegW :=
  if width = 64 then { v := v % 2 ^ 64 }
  else
    let hi := a % 8 = 4
    let old := r.fields.foldl (fun n f => if f.acc == .w1c || f.acc == .w1s then n else n + s.fieldFor m (a / 8 * 8) f i j * 2 ^ f.lsb) 0
    { v := if hi then v % 2 ^ 32 * 2 ^ 32 + old % 2 ^ 32 else bits old 32 32 * 2 ^ 32 + v % 2 ^ 32, lo := !hi, hi := hi }

/-- A write of a target; a read-only window is left as it is. -/
def State.targetWrite (s : State) (m : Master) (a width v : Nat) (t : Target) : State × Nat :=
  let o := a % 8
  match t with
  | .reg r i j =>
    if s.mayWrite m r i then s.regWrite m r i j (a / 8 * 8) (s.carry m r i j a width v)
    else if r = .TALLY || r = .RBC then (s.hjFault HJ_ERR_TALLY_REFUSED CE, ST_ACCESS_DENIED)
    else (s, ST_ACCESS_DENIED)
  | .mbx i k => (if k < 0x1C0 then s.wrN (spMbx i) (k + o) (width / 8) v else s, ST_OK)
  | .tx b k => if s.mayWrite m .SMB_TX_CMD 0 then (s.wrN (spTx b) (k + o) (width / 8) v, ST_OK) else (s, ST_ACCESS_DENIED)
  | .inl q k => let r := inlineOp q (k + o) (leBytes (width / 8) v) s; (r.1.p WQ_STATUS_DB_STATUS r.2 q, r.2)
  | .log _ _ | .rx _ _ => (s, ST_OK)

/-- An access, after the gate on the Device Control Space: its status and data. -/
def State.access (s : State) (m : Master) (a width : Nat) (wr : Option Nat) : State × Nat × Nat :=
  let kind := if wr.isSome then 2 else 1
  let inl := match targetAt (a / 8 * 8) with | some (.inl _ _) => wr.isSome | _ => false
  if !(s.reaches a) then (s, ST_NO_MATCH, 0)
  else if !inl && (!(width = 32 || width = 64) || a % (width / 8) ≠ 0) then (s.badWidth m a kind, ST_ACCESS_DENIED, 0)
  else match targetAt (a / 8 * 8) with
    | none => (s.strayAccess m a kind, ST_NO_MATCH, 0)
    | some t =>
      if !(s.sees m t) then (s.strayAccess m a kind, ST_NO_MATCH, 0)
      else match wr with
        | some v => let q := s.targetWrite m a width v t; (q.1, q.2, 0)
        | none => let q := s.targetRead m a width t; (q.1, ST_OK, q.2)

/-- An access that a master's gate checks first (R170, Table 14-1), and its answer. -/
def State.gatedAccess (s : State) (m : Master) (a width : Nat) (wr : Option Nat) : State × Nat × Nat :=
  match s.csGate m a (width / 8) (if wr.isSome then 1 else 0) with
  | some g => (s.csRefuse m g, ST_ACCESS_DENIED, 0)
  | none => s.access m a width wr

/-! ## The rows -/

/-- REGISTER_WRITE (R26, R432, R434): a write of one register, whole or refused. -/
def execRegisterWrite (m : Master) (addr : Fin 67108864) (width : Nat) (v : Word) (s : State) : Out :=
  let q := s.gatedAccess m addr width (some v.toNat)
  .next (q.1.reply m q.2.1)

/-- REGISTER_READ_CLEAR (R12, R27): a read of one register, which clears its RC fields. -/
def execRegisterReadClear (m : Master) (addr : Fin 67108864) (width : Nat) (s : State) : Out :=
  let q := s.gatedAccess m addr width none
  .next (q.1.reply m q.2.1 q.2.2)

/-- RESERVED_ACCESS (R25): an access where no chapter names anything; an offset that names something is no such access. -/
def execReservedAccess (m : Master) (addr : Fin 67108864) (width : Nat) (write : Bool) (s : State) : Out :=
  .next (
    if (targetAt (addr.val / 8 * 8)).isSome then s
    else
      let q := s.gatedAccess m addr width (if write then some 0 else none)
      q.1.reply m q.2.1 q.2.2)

/-- The offset of CLD and CST. -/
def State.csOffset (s : State) (t : Nat) (i : Issued) : Nat := s.ea t i.word

/-- CLD and CST first check the offset and the thread's gate (R170). -/
def State.csChecked (s : State) (t : Nat) (i : Issued) (kind : Nat) (go : State → Nat → State) : State :=
  let a := s.csOffset t i
  if a ≥ 0x4000000 then s.refuseAcc t i 4 a none
  else match s.thGate t 3 a 8 kind with
    | some g => s.refuseAcc t (i.at a (some 3)) 5 g.2.1 (some g)
    | none => go s a

/-- CLD (Table 9-4, R179): a register read. -/
def execCld (t : ThrId) (s : State) : Out :=
  runPlv .cld t (fun s i => some (s.csChecked t i 0 (fun s a =>
    let q := s.access (.thread t) a 64 none
    q.1.retireD t (i.at a (some 3)) q.2.1 a (fun s => s.grSet t (wRd i.word) q.2.2) (fun s => s.grSet t (wRd i.word) 0)))) s

/-- CST (Table 9-4, R179): a register written; the thread waits for the answer (FABRIC_ANSWER). -/
def execCst (t : ThrId) (s : State) : Out :=
  runPlv .cst t (fun s i => some (s.csChecked t i 1 (fun s a =>
    let v := s.gr t (wRd i.word)
    let s := s.thMod t (fun x => { x with waiting := .cst ST_INTERNAL, issued := some (i.at a (some 3)) })
    let q := s.access (.thread t) a 64 (some v)
    q.1.thMod t (fun x => if x.waiting == .cst ST_INTERNAL then { x with waiting := .cst q.2.1 } else x)))) s

end Sys2Proof.Machine
end

