-- ==== Sys2Proof/Machine/Ingress.lean ====
section
/-! DEFINITION. A request of a port's partner (R28, R56, R66, R68, R73, R92, R93, R139, R280, R288, R436). -/

namespace Sys2Proof.Machine

/-- Whether a request is the one that a unit of a loop's other end is, of a kind, address, data and poison (R63). What a host-side end gets for its BAR or
its decoders are accesses by CXL.io. -/
def reqFits (req : IngressReq) (k : ReqKind) (a : Nat) (d : List Byte) (bad : Bool) : Bool :=
  let mem := [ReqKind.modRead, .modWrite, .ptRead, .ptWrite].contains k
  match req with
  | .mem hpa mk data _ poison _ =>
    let w := match mk with | .memWr _ | .wrPtl => true | _ => false
    mem && a == hpa && w == k.writes && (!w || (data == d && poison == bad))
  | .pt _ _ write hpa _ data => mem && a == hpa && write == k.writes && (!write || data == d)
  | .io _ _ posted read addr _ data => k == (if posted then .ioPosted else if read then .ioRead else .ioNp) && a == addr && (read || data == d)
  | .bar _ write _ width data => k == (if write then .ioPosted else .ioRead) && (!write || leBytes (width / 8) data == d)
  | .errMsg _ => k == .ioPosted
  | .decoder _ _ _ _ _ _ _ | .dpc _ _ _ | .margin _ _ _ | .report _ => k == .ioNp || k == .ioRead

/-- The flit that a looped port receives: the unit of a number that the other end sent, taken off the internal link (R63); a port that is not looped
receives from its partner. -/
def State.loopReceive (s : State) (c tag : Nat) (req : IngressReq) : Option State :=
  s.loopTakes c (fun p m => match m with | .unitOut x id k a d bad => x == p && id == tag && reqFits req k a d bad | _ => false)

/-- A request counted in an instance, as it is accepted (Table 5-2, R85). -/
def State.ingressTxn (s : State) (c : Nat) (im : IngressMeta) (inst : Nat) (kind : ReqKind) (addr len : Nat) (data : List Byte) : Txn :=
  { src := c, tag := im.tag, dev := s.dev, inst := inst, cls := kind.cls, kind := kind, addr := addr, host := addr, len := if kind.writes then data.length else len, data := data,
    place := .home, hdev := s.dev, header := im.header, stream := im.stream.map (·.val), priv := 2, ro := im.ro, ido := im.ido }

/-- The request kind of a CXL.mem request (Table 7-3): a read of an HDM-H region is RD_CUR whatever it asks; a full-line MemWr is a WB where its SnpType is
No-Op and the line's region is HDM-DB, and a WR otherwise (R121, R123). -/
def memReq (db : Bool) : MemKind → ReqKind
  | .rdS => if db then .rdS else .rdCur
  | .rdA => if db then .rdA else .rdCur
  | .rdCur => .rdCur
  | .memWr noOp => if noOp && db then .wb else .wr
  | .wrPtl => .wrPtl

/-- Whether a CXL.mem request writes. -/
def memWrites : MemKind → Bool
  | .memWr _ | .wrPtl => true
  | _ => false

/-! ## HDM decoders (R67) -/

/-- Whether a decoder claims a host address, one of its own way, and the offset it gives it once the host's interleave is taken out. -/
def HdmDec.claims (d : HdmDec) (hpa : Nat) : Bool :=
  decide (d.base ≤ hpa) && decide (hpa < d.base + d.size) && (hpa - d.base) / d.gran % d.ways == d.pos
def HdmDec.offset (d : HdmDec) (hpa : Nat) : Nat := (hpa - d.base) / (d.gran * d.ways) * d.gran + (hpa - d.base) % d.gran

/-- A decoder of the logical device at a vPPB of a port. -/
def State.hdmDec (s : State) (c v k : Nat) : Option HdmDec := nget? (4 * v + k) (s.port c).decs

/-- The device address at which a decoder begins: the lower-numbered decoders lie below it, each with its share of its interleave. -/
def State.hdmStart (s : State) (c v k : Nat) : Nat :=
  (List.range k).foldl (fun n j => match s.hdmDec c v j with | some d => n + d.size / d.ways | none => n) 0

/-- The vPPB of a port whose logical device claims a host address, and the DPA its decoder gives (R67, R436). -/
def State.hdmDecode (s : State) (c hpa : Nat) : Option (Nat × Nat) :=
  (s.port c).decs.findSome? (fun e =>
    if s.g VPPB_ENTRY_KIND c (e.1 / 4) = 1 && e.2.claims hpa then some (e.1 / 4, s.hdmStart c (e.1 / 4) (e.1 % 4) + e.2.offset hpa) else none)

/-- Whether a decoder is programmed within the CXL 3.2 HDM decoder rules (R67; log 107): 256 MiB units, up to 16 ways, a granule of 256 B to 16 KiB, and
decoders committed in order of number and address. The host addresses that a logical device's place takes are its alone among those of its port. -/
def State.hdmOk (s : State) (c v k : Nat) (d : HdmDec) : Bool :=
  s.g VPPB_ENTRY_KIND c v == 1 && [1, 2, 3, 4, 6, 8, 12, 16].contains d.ways && [256, 512, 1024, 2048, 4096, 8192, 16384].contains d.gran &&
  decide (d.pos < d.ways) && d.base % 2 ^ 28 == 0 && d.size % (2 ^ 28 * d.ways) == 0 && decide (0 < d.size) && decide (d.base + d.size ≤ 2 ^ 64) &&
  (List.range 4).all (fun j => match s.hdmDec c v j with
    | some x => decide (j < k) && decide (x.base + x.size ≤ d.base)
    | none => decide (k ≤ j))

/-- A host programs a decoder, or withdraws the highest one it has committed (`ways` 0); one outside the rules is refused, and nothing is mapped through
it. -/
def State.hdmProgram (s : State) (c v k : Nat) (d : HdmDec) : State :=
  if d.ways = 0 then
    (if (List.range 4).all (fun j => decide (j ≤ k) || (s.hdmDec c v j).isNone) then s.portMod c (fun x => { x with decs := nerase (4 * v + k) x.decs }) else s)
  else if s.hdmOk c v k d then s.portMod c (fun x => { x with decs := nset (4 * v + k) d x.decs })
  else s

/-- A CXL.mem request to an instance of a logical device, as a unit: the address its DPA has in the instance's window (R68), and a write's line. -/
def State.memUnit (s : State) (c : Nat) (im : IngressMeta) (i hpa dpa : Nat) (kind : MemKind) (data : List Byte) (mask : Nat) (poison keepS : Bool) : Txn :=
  let k := memReq (s.hdmDb i dpa) kind
  let data := if k.writes then (data ++ List.replicate 64 0).take 64 else []
  { s.ingressTxn c im (s.dev * 4096 + i) k hpa 64 data with
    addr := s.g IW_BASE_FPA_BASE i * 2 ^ 30 + dpa, dpa := dpa, mask := mask, poison := poison, keepS := keepS }

/-- A CXL.mem request that no bound vPPB decodes (R436). DESIGN CHOICE (log 134): a mirror samples it as one of the device's instance 0, as it has none. -/
def State.undecoded (s : State) (c : Nat) (im : IngressMeta) (hpa : Nat) (write : Bool) : State :=
  ((s.mirrorAtOnce (s.ingressTxn c im (s.dev * 4096) (if write then .ptWrite else .ptRead) hpa 64 [])).report
    { source := src 0x05 4, cls := CE, scope := scope 2 c, status := ST_NO_MATCH, addr := some (0, hpa), access := if write then 2 else 1,
      core := c, dev := s.dev }).toPort c (.hostAnswer c im.tag (if write then 0 else 1) [])

/-- A CXL.mem request to a logical device: R280, its window (R66, R68), the port's gate at P2 (R288, R293), then its home (R139, R92). -/
def State.ingressMem (s : State) (t : Txn) (i dpa : Nat) : State :=
  let ans (s : State) (o : Nat) : State := (s.mirrorAtOnce t).toPort t.src (.hostAnswer t.src t.tag o [])
  if s.instState i == 4 || s.instState i == 5 then ans s 1
  else if !(s.on IW_BASE_VALID i) || decide (s.g IW_LIMIT_SIZE_GIB i * 2 ^ 30 ≤ dpa) then ans (s.unbacked t dpa) (if t.kind.writes then 0 else 1)
  else
    let x : GateAcc := { space := 0, addr := t.addr, len := t.len, kind := if t.kind.writes then 1 else 0, level := 2, inst := t.inst }
    match s.gateCheck (.port t.src) x with
    | some r => ans (s.gateRefuse (.port t.src) x r.1 r.2 t.src none 0) 1
    | none => s.ingressTaken t (s.admitComposed t)

/-- The module, or for a request of a module the HOST port, that a passthrough binding of a vPPB leads to from a port (R73): as a module number
whose port is that port. The entries of a port that is bound MODULE or FABRIC lead nowhere (R437), nor does a binding that is to be removed (R78). -/
def State.ptDest (s : State) (c v : Nat) : Option Nat :=
  let bound (p : Nat) : Bool := s.g VPPB_ENTRY_KIND p v == 2 && !(s.leaving p v)
  match s.g PC_LINK_STATUS_ROLE_BOUND c with
  | 1 => if bound c then some (s.g VPPB_ENTRY_MOD c v) else none
  | 2 => ((List.range 128).find? (fun p => s.g PC_LINK_STATUS_ROLE_BOUND p != 2 && s.g PC_LINK_STATUS_ROLE_BOUND p != 3 && bound p &&
      s.g VPPB_ENTRY_MOD p v / 16 == c)).map (fun p => 16 * p)
  | _ => none

/-- A passthrough request carried towards the other end of its binding; it meets no gate (R73, R288). One of a CONTAINED or RESETTING instance is
answered without being performed (R280); a host's CXL.mem request whose vPPB is not bound is not decoded (R436). -/
def State.ingressPt (s : State) (c v : Nat) (im : IngressMeta) (t : Txn) : State :=
  match s.ptDest c v with
  | none =>
    if s.g PC_LINK_STATUS_ROLE_BOUND c == 1 && (t.kind == .ptRead || t.kind == .ptWrite) then s.undecoded c im t.host (t.kind == .ptWrite) else s
  | some m =>
    let t := { t with mod := m, dpa := t.addr }
    if s.instIn t.inst [4, 5] then
      (let s := s.mirrorAtOnce t
       if t.kind = .ioPosted then s else s.toPort t.src (.hostAnswer t.src t.tag (hostOutcome t.kind ST_ACCESS_DENIED) []))
    else s.ingressTaken t (s.takeUnit t)

/-- A host's access to the BAR of its instance is made (R28): the state after it, and what a read returns. -/
def State.barAccess (s : State) (t : Txn) : State × List Byte :=
  let i : InstId := Fin.ofNat 4096 t.inst
  let q := s.access (.host i) (t.addr % 0x4000000) t.width (if t.kind.writes then some (leNat t.data) else none)
  (q.1, leBytes (t.width / 8) q.2.2)

/-- A host's access to the BAR of its instance, metered as CXL.io (R28, R100): made at once, or held in its penalty list. A write is posted. -/
def State.ingressBar (s : State) (t : Txn) : State :=
  if s.g PC_LINK_STATUS_ROLE_BOUND t.src ≠ 1 || !((s.vppbOfInst (t.inst % 4096)).any (fun b => b.1 == t.src)) then s
  else
    let m := meterOf t
    let t := s.arriving t
    let behind := s.penList t.inst t.src != []
    let r := s.handled m t.len t.inst 0 t.die
    if !behind && r.1 ≠ 2 then
      let q := ((s.setBuckets m r.2).takenIn t).barAccess t
      if t.kind.writes then q.1 else q.1.toPort t.src (.hostAnswer t.src t.tag 0 q.2)
    else if s.penDepth t.inst ≥ s.g INST_MS_PEN_MAX (t.inst % 4096) then s.penHold t
    else if (t.slice.isSome && !(s.trkRoom t.die t.src false)) || t.cells > s.freeFor t.die t.cls then s
    else
      let s := if behind then s else s.inc MTR_STATUS_RED_CNT m
      ((s.takenIn t).take { t with place := .penalty }).1.penRefresh t.inst

/-- PENALTY_RELEASE (R106): the head of a penalty list is metered again and leaves when it is green or yellow; a BAR access is then made. DESIGN CHOICE
(log 102): each time it colours red counts in RED_CNT. -/
def execPenaltyRelease (inst : Fin 16384) (core : Fin 4096) (s : State) : Out :=
  whenUp s fun s =>
    match s.headOf (fun t => t.place == .penalty && t.inst == inst.val && t.src == core.val && t.dev == s.dev) with
    | none => s
    | some (id, t) =>
      let m := meterOf t
      let r := s.handled m t.len t.inst (if t.spilled = 0 then s.spillOf { t with place := s.destOf t } else 0) t.die
      if r.1 == 2 then s.inc MTR_STATUS_RED_CNT m
      else
        let s := s.setBuckets m r.2
        if t.width ≠ 0 then (let q := s.barAccess t; q.1.conclude id ST_OK q.2)
        else (s.route id t).penRefresh t.inst

/-- A CXL.mem request of a host: decoded by the HDM decoders of its port's vPPBs (R67), to the instance of the logical device that claims it (R436). -/
def State.ingressHost (s : State) (c : Nat) (im : IngressMeta) (hpa : Nat) (kind : MemKind) (data : List Byte) (mask : Nat) (poison keepS : Bool) : State :=
  match s.hdmDecode c hpa with
  | none => s.undecoded c im hpa (memWrites kind)
  | some (v, dpa) =>
    let i := s.g VPPB_ENTRY_INST c v
    s.ingressMem (s.memUnit c im i hpa dpa kind data mask poison keepS) i dpa

/-- What the logical device at a vPPB reports (R67): zero static capacity, its Dynamic Capacity regions, their block size and its decoders. DESIGN CHOICE
(log 107): as one word of 8 bytes each. -/
def State.ldReport (s : State) (c v : Nat) : List Byte :=
  leBytes 8 0 ++ leBytes 8 (min 8 (max 1 (s.g INST_DC_CFG_REGIONS (s.g VPPB_ENTRY_INST c v)))) ++ leBytes 8 (2 ^ 21) ++ leBytes 8 4

/-- Lane margining at the receiver, at rates from 16 GT/s (Table 3-4). -/
def State.marginAt (s : State) (c lane : Nat) (timing : Bool) (offset : Nat) : State :=
  if s.linkUp c && s.portState c != 4 && 3 ≤ s.g PC_LINK_STATUS_RATE c && lane < s.g PC_LINK_STATUS_WIDTH_TRAINED c then
    s.send (.margin c lane timing offset (Config.laneMargin c lane timing offset))
  else s

/-- A request that a port of its class receives, by what it is. -/
def State.ingress (s : State) (c : Nat) (im : IngressMeta) (req : IngressReq) : State :=
  match req with
  | .mem hpa kind data mask poison keepS =>
    if s.g PC_LINK_STATUS_ROLE_BOUND c ≠ 1 then s else s.ingressHost c im hpa kind data mask poison keepS
  | .pt v inst write hpa len data =>
    s.ingressPt c v im (s.ingressTxn c im (s.dev * 4096 + inst.val) (if write then .ptWrite else .ptRead) hpa len (if write then data else []))
  | .io v inst posted read addr len data =>
    s.ingressPt c v im (s.ingressTxn c im (s.dev * 4096 + inst.val) (if posted then .ioPosted else if read then .ioRead else .ioNp) addr len data)
  | .bar inst write offset width data =>
    s.ingressBar { s.ingressTxn c im (s.dev * 4096 + inst.val) (if write then .ioPosted else .ioRead) offset (width / 8)
                     (if write then leBytes (width / 8) data else []) with width := width }
  | .decoder v k base size ways gran pos =>
    if s.g PC_LINK_STATUS_ROLE_BOUND c ≠ 1 then s else s.hdmProgram c v k ⟨base, size, ways, gran, pos⟩
  | .errMsg fatal => s.moduleError c fatal
  | .dpc v enable release => match s.ptDest c v with
    | some m => if s.g PC_LINK_STATUS_ROLE_BOUND c = 1 then s.containSet (m / 16) enable release else s
    | none => s
  | .margin lane timing offset => s.marginAt c lane timing offset
  | .report v =>
    if s.g PC_LINK_STATUS_ROLE_BOUND c = 1 && s.g VPPB_ENTRY_KIND c v = 1 then s.toPort c (.hostAnswer c im.tag 0 (s.ldReport c v)) else s

/-- A flit of a loop stays on the internal link until its unit is taken or answered (R63, R93). -/
def State.loopKeep (s : State) (c : Nat) (s₁ t : State) : State :=
  if (s.loopPeer c).isSome && t.sw.nextId == s₁.sw.nextId && t.sw.loop == s₁.sw.loop then { t with sw := { t.sw with loop := s.sw.loop } } else t

/-- INGRESS_REQUEST (R93): a request is taken at ingress, gated, metered, decoded and queued, answered at once, or held back at a bound. -/
def execIngressRequest (c : PortId) (im : IngressMeta) (req : IngressReq) (s : State) : Out :=
  whenUp s fun s =>
    let io := match req with | .mem _ _ _ _ _ _ | .pt _ _ _ _ _ _ => false | _ => true
    let posted := match req with
      | .io _ _ posted _ _ _ _ => posted
      | .bar _ write _ _ _ => write
      | .decoder _ _ _ _ _ _ _ | .errMsg _ | .dpc _ _ _ | .margin _ _ _ | .report _ => true
      | .mem _ _ _ _ _ _ | .pt _ _ _ _ _ _ => false
    if !(s.ingressOpen c (im.stream.map (·.val)) io posted) then s
    else match s.loopReceive c im.tag req with
      | none => s
      | some s₁ => s.loopKeep c s₁ (s₁.ingress c im req)

end Sys2Proof.Machine
end

