-- ==== Sys2Proof/Machine/Spi.lean ====
section
/-! DEFINITION. The SPI target of the sideband bridge and the stage responder (R377 to R382, R398, R399, Tables 19-1, 19-2 and 20-5). -/

namespace Sys2Proof.Machine

/-! ## Frames (R377, R378, Table 19-1) -/

/-- CRC-16 with polynomial 0x1021, initial value 0xFFFF, most significant bit first. -/
def crc16 (bs : List Byte) : Nat :=
  bs.foldl (fun c b => (List.range 8).foldl (fun c _ => if c ≥ 0x8000 then (c * 2 % 0x10000) ^^^ 0x1021 else c * 2) (c ^^^ (b.toNat * 256))) 0xFFFF

/-- The request of a frame. -/
structure SpiReq where
  op : Nat
  tag : Nat
  addr : Nat
  data : Nat
deriving DecidableEq, Repr

/-- The request in the first 16 bytes of a frame: none where its CRC fails. -/
def spiReq (bs : List Byte) : Option SpiReq :=
  let n (k m : Nat) : Nat := leNat ((bs.drop k).take m)
  if n 14 2 = crc16 (bs.take 14) then some ⟨n 0 1, n 1 1, n 2 4, n 6 8⟩ else none

/-- The opcodes of Table 19-1. -/
def spiOps : List Nat := [0x10, 0x11, 0x20, 0x21]

/-- RESULT, TAG, STATUS and RDATA of the answer to a request, as the bridge fixes them at the end of byte 15 (Table 19-2, R379). -/
def State.spiResult (s : State) (r : Option SpiReq) (tag : Nat) : Nat × Nat × Nat × Nat :=
  match r with
  | none => (3, tag, 0, 0)
  | some r =>
    if !(spiOps.contains r.op) then (3, r.tag, 0, 0)
    else match s.br.spi with
      | some o => if o.tag = r.tag then (1, r.tag, 0, 0) else (2, r.tag, 0, 0)
      | none => if s.br.spiDone && s.g BR_STATUS_LAST_TAG = r.tag then (0, r.tag, s.g BR_STATUS_LAST_STATUS, s.br.spiData) else (1, r.tag, 0, 0)

/-- The bytes the target drives in a frame of so many whole bytes. -/
def State.spiAnswer (s : State) (bs : List Byte) (n : Nat) : List Byte :=
  let a := s.spiResult (spiReq bs) ((bs.getD 1 0).toNat)
  let body := leBytes 1 a.1 ++ leBytes 1 a.2.1 ++ leBytes 1 a.2.2.1 ++ [0] ++ leBytes 8 a.2.2.2
  (List.replicate 18 0xFF ++ body ++ leBytes 2 (crc16 body)).take n

/-- An accepted request: it starts an operation where none is in progress and its tag is not the last one's (R379, R431). -/
def State.spiStart (s : State) (r : SpiReq) : State :=
  if s.br.spi.isSome || (s.br.spiDone && s.g BR_STATUS_LAST_TAG == r.tag) then s
  else (s.brMod (fun b => { b with spi := some { op := r.op, tag := r.tag, addr := r.addr, data := r.data } })).p BR_STATUS_SPI_BUSY 1

/-- SPI_FRAME_END (R378): CS_N rises. A frame of another length is discarded; one whose request CRC fails is discarded and counted; one whose
OPCODE is not listed is discarded. -/
def execSpiFrameEnd (edges : Nat) (bytes : List Byte) (s : State) : Out :=
  let bs := (bytes ++ List.replicate 32 0).take 32
  let a := if edges < 128 then List.replicate (edges / 8) 0xFF else s.spiAnswer bs (min (edges / 8) 32)
  let r := spiReq bs
  let crc (s : State) : State := if edges ≥ 128 && r.isNone then (s.inc BR_CNT_CRC_BAD).brFault BR_ERR_SPI_CRC else s
  let t := s.send (.spi a)
  .next (
    if edges ≠ 256 then crc ((t.inc BR_CNT_FRAME_DISCARDS).brFault BR_ERR_SPI_FRAME)
    else match r with
      | none => crc t
      | some r => if spiOps.contains r.op then t.spiStart r else t)

/-- READ64 (R379). -/
def execRead64 (tag : Fin 256) (addr : Fin 67108864) (s : State) : Out := .next (s.spiStart ⟨0x10, tag, addr, 0⟩)
/-- READ32 (R379). -/
def execRead32 (tag : Fin 256) (addr : Fin 67108864) (s : State) : Out := .next (s.spiStart ⟨0x11, tag, addr, 0⟩)
/-- WRITE64 (R380). -/
def execWrite64 (tag : Fin 256) (addr : Fin 67108864) (data : Fin 18446744073709551616) (s : State) : Out := .next (s.spiStart ⟨0x20, tag, addr, data⟩)
/-- WRITE32 (R380). -/
def execWrite32 (tag : Fin 256) (addr : Fin 67108864) (data : Fin 4294967296) (s : State) : Out := .next (s.spiStart ⟨0x21, tag, addr, data⟩)

/-! ## Issue and conclusion (R380, R381) -/

/-- The operation changed to hold its result. -/
def State.spiHold (s : State) (r : Nat × Nat) : State :=
  s.brMod (fun b => { b with spi := b.spi.map (fun o => { o with result := some r }) })

/-- SPI_ISSUE (R381): the access is made, as the bridge, unless its island has lost its clock (R36). -/
def execSpiIssue (s : State) : Out :=
  .next (match s.br.spi with
    | some o =>
      if o.result.isSome || s.cond (clkCond 36).1 (clkCond 36).2 then s
      else
        let q := s.gatedAccess .bridge o.addr (if o.op % 2 = 0 then 64 else 32) (if o.op ≥ 0x20 then some (if o.op = 0x20 then o.data else o.data % 2 ^ 32) else none)
        q.1.spiHold q.2
    | none => s)

/-- An operation concludes: its result is stored. -/
def State.spiEnd (s : State) (tag st data : Nat) : State :=
  let s := s.brMod (fun b => { b with spi := none, spiDone := true, spiData := data })
  ((s.p BR_STATUS_LAST_TAG tag).p BR_STATUS_LAST_STATUS st).p BR_STATUS_SPI_BUSY 0

/-- SPI_ACCESS_CONCLUDE (R380). -/
def execSpiAccessConclude (s : State) : Out :=
  .next (match s.br.spi with
    | some o => match o.result with
      | some r => s.spiEnd o.tag r.1 r.2
      | none => s
    | none => s)

/-- SPI_ACCESS_TIMEOUT (R381): the access is never issued. -/
def execSpiAccessTimeout (s : State) : Out :=
  .next (match s.br.spi with
    | some o => if o.result.isNone then (s.spiEnd o.tag ST_TIMEOUT 0).brFault BR_ERR_ACC_TMO else s
    | none => s)

/-! ## The stage responder (R399, Table 20-5) -/

/-- A command of the stage responder, while it answers: the whole message of the kind in a buffer, answered and released. -/
def State.responding (s : State) (b : Nat) (kind : Nat) (f : State → List Byte → State × List Byte) : Out :=
  .next (match nget? b s.br.rx with
    | none => s
    | some x =>
      let bs := s.rxBytes b x
      if !(s.br.responder) || !x.whole || mctpKind bs ≠ some kind then s
      else
        let q := f s bs
        q.1.respond b x (mctpHead bs ++ q.2))

/-- GET_ENDPOINT_ID: completion code, endpoint ID, a simple endpoint, no medium-specific information (log 27). -/
def execGetEndpointId (b : Fin 8) (s : State) : Out :=
  s.responding b 2 (fun s _ => (s, [0, BitVec.ofNat 8 s.br.eid, 0, 0]))

/-- SET_ENDPOINT_ID: an ID from 8 to 254 is taken with operations set and force; others are answered ERROR_INVALID_DATA (log 27). -/
def execSetEndpointId (b : Fin 8) (s : State) : Out :=
  s.responding b 1 (fun s bs =>
    let op := (bs.getD 3 0).toNat % 4
    let e := (bs.getD 4 0).toNat
    if bs.length < 5 then (s, [0x03])
    else if 2 ≤ op || e < 8 || e = 255 then (s, [0x02])
    else (s.brMod (fun x => { x with eid := e }), [0, 0, BitVec.ofNat 8 e, 0]))

/-- GET_MCTP_VERSION_SUPPORT: version 1.3.1 of the base, of control messages and of the vendor-defined type (log 27). -/
def execGetMctpVersionSupport (b : Fin 8) (s : State) : Out :=
  s.responding b 4 (fun s bs =>
    if bs.length < 4 then (s, [0x03])
    else if [0xFF, 0x00, 0x7F].contains (bs.getD 3 0).toNat then (s, [0, 1, 0xF1, 0xF3, 0xF1, 0x00]) else (s, [0x80]))

/-- GET_MESSAGE_TYPE_SUPPORT: the one type beside control (R399, log 27). -/
def execGetMessageTypeSupport (b : Fin 8) (s : State) : Out :=
  s.responding b 5 (fun s _ => (s, [0, 1, 0x7F]))

/-- GET_STATE (Table 20-5). -/
def execGetState (b : Fin 8) (s : State) : Out :=
  s.responding b 0x101 (fun s _ => (s, [0] ++ leBytes 8 (s.word .PU_STATUS) ++ leBytes 8 (s.word .PU_DIAG) ++ leBytes 8 (s.word .HJ_BOOT_STATUS)))

/-- READ_LOG (Table 20-5): an on-die record, or NO_MATCH where the fault unit cannot be reached or has no such window. -/
def execReadLog (b : Fin 8) (s : State) : Out :=
  s.responding b 0x102 (fun s bs =>
    let n := (bs.getD 6 0).toNat
    if bs.length < 7 then (s, leBytes 1 ST_ACCESS_DENIED)
    else if !s.fuUp || 128 ≤ n then (s, leBytes 1 ST_NO_MATCH)
    else (s, leBytes 1 ST_OK ++ leBytes 128 (s.windowRead (.log n 0) 128)))

/-- READ_REG (R398, Table 20-5): a read of a register as the bridge makes it. -/
def execReadReg (b : Fin 8) (s : State) : Out :=
  s.responding b 0x103 (fun s bs =>
    if bs.length < 10 then (s, leBytes 1 ST_ACCESS_DENIED)
    else
      let q := s.gatedAccess .bridge (leNat ((bs.drop 6).take 4)) 64 none
      (q.1, leBytes 1 q.2.1 ++ leBytes 8 q.2.2))

/-- RESPONDER_WARM_RESET (R394, Table 20-5): as PU_CMD WARM_RESET with the tag of the message. -/
def execResponderWarmReset (b : Fin 8) (s : State) : Out :=
  s.responding b 0x104 (fun s bs =>
    if bs.length < 8 then (s, leBytes 1 ST_ACCESS_DENIED)
    else let q := warmOp (leNat ((bs.drop 6).take 2)) s; (q.1, leBytes 1 q.2))

end Sys2Proof.Machine
end

