-- ==== Sys2Proof/Machine/Dispatch.lean ====
section
/-! DEFINITION. One arm for each command of the table. -/

namespace Sys2Proof.Machine

/-- The effect of a command on everything but the queue. -/
def exec (i : Instr) (s : State) : Host.Outcome State Fault Refusal :=
  match i with
  | .registerWrite m addr width v => Sys2Proof.Machine.execRegisterWrite m addr width v s
  | .reservedAccess m addr width write => Sys2Proof.Machine.execReservedAccess m addr width write s
  | .registerReadClear m addr width => Sys2Proof.Machine.execRegisterReadClear m addr width s
  | .paceWindowEnd mon pace tj => Sys2Proof.Machine.execPaceWindowEnd mon pace tj s
  | .autoRaise => Sys2Proof.Machine.execAutoRaise s
  | .avsTargetWrite m mv autoRaise step => Sys2Proof.Machine.execAvsTargetWrite m mv autoRaise step s
  | .avsNak => Sys2Proof.Machine.execAvsNak s
  | .islandClockLoss n => Sys2Proof.Machine.execIslandClockLoss n s
  | .islandClockReturn n => Sys2Proof.Machine.execIslandClockReturn n s
  | .syncErr n => Sys2Proof.Machine.execSyncErr n s
  | .holdover => Sys2Proof.Machine.execHoldover s
  | .tbStep m ns => Sys2Proof.Machine.execTbStep m ns s
  | .ppsEdge => Sys2Proof.Machine.execPpsEdge s
  | .ppsAbsence => Sys2Proof.Machine.execPpsAbsence s
  | .partnerPresence c present => Sys2Proof.Machine.execPartnerPresence c present s
  | .trainingSetsReceived c sets flit256 rate => Sys2Proof.Machine.execTrainingSetsReceived c sets flit256 rate s
  | .equalisationFail c => Sys2Proof.Machine.execEqualisationFail c s
  | .linkUp c lanes uses identity caps => Sys2Proof.Machine.execLinkUp c lanes uses identity caps s
  | .trainTimeout c => Sys2Proof.Machine.execTrainTimeout c s
  | .roleConflictRetry c => Sys2Proof.Machine.execRoleConflictRetry c s
  | .moduleAuthentication c shown => Sys2Proof.Machine.execModuleAuthentication c shown s
  | .authTimeout c => Sys2Proof.Machine.execAuthTimeout c s
  | .replayWindowEnd c replays => Sys2Proof.Machine.execReplayWindowEnd c replays s
  | .recoveryComplete c => Sys2Proof.Machine.execRecoveryComplete c s
  | .portRetrain m c => Sys2Proof.Machine.execPortRetrain m c s
  | .quiesce m c => Sys2Proof.Machine.execQuiesce m c s
  | .portRelease m c => Sys2Proof.Machine.execPortRelease m c s
  | .portReset m c => Sys2Proof.Machine.execPortReset m c s
  | .portResetComplete c => Sys2Proof.Machine.execPortResetComplete c s
  | .drainDone c => Sys2Proof.Machine.execDrainDone c s
  | .drainTimeout c => Sys2Proof.Machine.execDrainTimeout c s
  | .linkLoss c => Sys2Proof.Machine.execLinkLoss c s
  | .widthChange m c w => Sys2Proof.Machine.execWidthChange m c w s
  | .loopEnable m c partner => Sys2Proof.Machine.execLoopEnable m c partner s
  | .loopDisable m c => Sys2Proof.Machine.execLoopDisable m c s
  | .ideCheckFail c stream => Sys2Proof.Machine.execIdeCheckFail c stream s
  | .ideKeyInstall c stream => Sys2Proof.Machine.execIdeKeyInstall c stream s
  | .spdmMessage c r => Sys2Proof.Machine.execSpdmMessage c r s
  | .ingressRequest c im req => Sys2Proof.Machine.execIngressRequest c im req s
  | .spillReadback id => Sys2Proof.Machine.execSpillReadback id s
  | .ageExpiry id => Sys2Proof.Machine.execAgeExpiry id s
  | .egressDeparture d => Sys2Proof.Machine.execEgressDeparture d s
  | .shaperTick => Sys2Proof.Machine.execShaperTick s
  | .penaltyRelease inst core => Sys2Proof.Machine.execPenaltyRelease inst core s
  | .pathFenceLift id => Sys2Proof.Machine.execPathFenceLift id s
  | .responseIngress c u => Sys2Proof.Machine.execResponseIngress c u s
  | .pbrFlitArrival c dest u => Sys2Proof.Machine.execPbrFlitArrival c dest u s
  | .bufferEccError id e => Sys2Proof.Machine.execBufferEccError id e s
  | .dcAdd m tag => Sys2Proof.Machine.execDcAdd m tag s
  | .dcRelease m tag => Sys2Proof.Machine.execDcRelease m tag s
  | .dcForceRelease m tag => Sys2Proof.Machine.execDcForceRelease m tag s
  | .ptBind m tag => Sys2Proof.Machine.execPtBind m tag s
  | .ptUnbind m tag => Sys2Proof.Machine.execPtUnbind m tag s
  | .ldAttach m tag => Sys2Proof.Machine.execLdAttach m tag s
  | .ldDetach m tag => Sys2Proof.Machine.execLdDetach m tag s
  | .addCapacityResponse n pages => Sys2Proof.Machine.execAddCapacityResponse n pages s
  | .releaseCapacityResponse n pages => Sys2Proof.Machine.execReleaseCapacityResponse n pages s
  | .dcTimeout => Sys2Proof.Machine.execDcTimeout s
  | .vslotPowerOff p v => Sys2Proof.Machine.execVslotPowerOff p v s
  | .unbindTimeout => Sys2Proof.Machine.execUnbindTimeout s
  | .homeRequestArrival id => Sys2Proof.Machine.execHomeRequestArrival id s
  | .homeRequestActivate line => Sys2Proof.Machine.execHomeRequestActivate line s
  | .snoopAnswer holder line kept => Sys2Proof.Machine.execSnoopAnswer holder line kept s
  | .snoopTimeout holder line => Sys2Proof.Machine.execSnoopTimeout holder line s
  | .moduleAccessComplete id data poison => Sys2Proof.Machine.execModuleAccessComplete id data poison s
  | .memTimeout access => Sys2Proof.Machine.execMemTimeout access s
  | .wbArrival id => Sys2Proof.Machine.execWbArrival id s
  | .cleanEvictionNotice h line => Sys2Proof.Machine.execCleanEvictionNotice h line s
  | .biconflict c tag => Sys2Proof.Machine.execBiconflict c tag s
  | .forwardedData id => Sys2Proof.Machine.execForwardedData id s
  | .homeGrant id => Sys2Proof.Machine.execHomeGrant id s
  | .sfEccError slice set uncorrected => Sys2Proof.Machine.execSfEccError slice set uncorrected s
  | .mscEccError line uncorrected => Sys2Proof.Machine.execMscEccError line uncorrected s
  | .sfProbe m => Sys2Proof.Machine.execSfProbe m s
  | .sfRebuild m => Sys2Proof.Machine.execSfRebuild m s
  | .sfRebuildDone => Sys2Proof.Machine.execSfRebuildDone s
  | .mscFlush m => Sys2Proof.Machine.execMscFlush m s
  | .mscFlushDone => Sys2Proof.Machine.execMscFlushDone s
  | .moveRequestTake => Sys2Proof.Machine.execMoveRequestTake s
  | .firstCopyDone k poison ue => Sys2Proof.Machine.execFirstCopyDone k poison ue s
  | .recopyPassDone k poison ue => Sys2Proof.Machine.execRecopyPassDone k poison ue s
  | .syncWritesDrained k => Sys2Proof.Machine.execSyncWritesDrained k s
  | .finalPassDone k poison ue => Sys2Proof.Machine.execFinalPassDone k poison ue s
  | .syncDeadline k => Sys2Proof.Machine.execSyncDeadline k s
  | .oldLocationRelease r => Sys2Proof.Machine.execOldLocationRelease r s
  | .zeroFillDone set slot => Sys2Proof.Machine.execZeroFillDone set slot s
  | .heatDecay => Sys2Proof.Machine.execHeatDecay s
  | .placementRunStop m => Sys2Proof.Machine.execPlacementRunStop m s
  | .pinPage m tag => Sys2Proof.Machine.execPinPage m tag s
  | .unpinPage m tag => Sys2Proof.Machine.execUnpinPage m tag s
  | .pinSeg m tag => Sys2Proof.Machine.execPinSeg m tag s
  | .unpinSeg m tag => Sys2Proof.Machine.execUnpinSeg m tag s
  | .slotClaim m tag => Sys2Proof.Machine.execSlotClaim m tag s
  | .slotFree m tag => Sys2Proof.Machine.execSlotFree m tag s
  | .abortMig m tag => Sys2Proof.Machine.execAbortMig m tag s
  | .plcProbe m => Sys2Proof.Machine.execPlcProbe m s
  | .placementCommit => Sys2Proof.Machine.execPlacementCommit s
  | .alu t => Sys2Proof.Machine.execAlu t s
  | .addi t => Sys2Proof.Machine.execAddi t s
  | .andi t => Sys2Proof.Machine.execAndi t s
  | .ori t => Sys2Proof.Machine.execOri t s
  | .xori t => Sys2Proof.Machine.execXori t s
  | .shi t => Sys2Proof.Machine.execShi t s
  | .cati t => Sys2Proof.Machine.execCati t s
  | .beq t => Sys2Proof.Machine.execBeq t s
  | .bne t => Sys2Proof.Machine.execBne t s
  | .blt t => Sys2Proof.Machine.execBlt t s
  | .bge t => Sys2Proof.Machine.execBge t s
  | .bltu t => Sys2Proof.Machine.execBltu t s
  | .bgeu t => Sys2Proof.Machine.execBgeu t s
  | .jal t => Sys2Proof.Machine.execJal t s
  | .jalr t => Sys2Proof.Machine.execJalr t s
  | .ldb t e => Sys2Proof.Machine.execLdb t e s
  | .ldh t e => Sys2Proof.Machine.execLdh t e s
  | .ldw t e => Sys2Proof.Machine.execLdw t e s
  | .ldd t e => Sys2Proof.Machine.execLdd t e s
  | .stb t => Sys2Proof.Machine.execStb t s
  | .sth t => Sys2Proof.Machine.execSth t s
  | .stw t => Sys2Proof.Machine.execStw t s
  | .std t => Sys2Proof.Machine.execStd t s
  | .fld t e => Sys2Proof.Machine.execFld t e s
  | .fldu t => Sys2Proof.Machine.execFldu t s
  | .fst t e => Sys2Proof.Machine.execFst t e s
  | .fstu t => Sys2Proof.Machine.execFstu t s
  | .flineLd t e => Sys2Proof.Machine.execFlineLd t e s
  | .flineLdu t => Sys2Proof.Machine.execFlineLdu t s
  | .flineSt t e => Sys2Proof.Machine.execFlineSt t e s
  | .flineStu t => Sys2Proof.Machine.execFlineStu t s
  | .amoLocal t => Sys2Proof.Machine.execAmoLocal t s
  | .amoFabric t e => Sys2Proof.Machine.execAmoFabric t e s
  | .fenceL t => Sys2Proof.Machine.execFenceL t s
  | .fenceF t => Sys2Proof.Machine.execFenceF t s
  | .fenceA t => Sys2Proof.Machine.execFenceA t s
  | .fenceI t => Sys2Proof.Machine.execFenceI t s
  | .crc t => Sys2Proof.Machine.execCrc t s
  | .mix t => Sys2Proof.Machine.execMix t s
  | .fhash t => Sys2Proof.Machine.execFhash t s
  | .cld t => Sys2Proof.Machine.execCld t s
  | .cst t => Sys2Proof.Machine.execCst t s
  | .stgr t => Sys2Proof.Machine.execStgr t s
  | .stgm t => Sys2Proof.Machine.execStgm t s
  | .ecmt t => Sys2Proof.Machine.execEcmt t s
  | .eabort t => Sys2Proof.Machine.execEabort t s
  | .evtwait t => Sys2Proof.Machine.execEvtwait t s
  | .evtsig t => Sys2Proof.Machine.execEvtsig t s
  | .mbsend t => Sys2Proof.Machine.execMbsend t s
  | .mbrecv t => Sys2Proof.Machine.execMbrecv t s
  | .dmal t => Sys2Proof.Machine.execDmal t s
  | .bmove t => Sys2Proof.Machine.execBmove t s
  | .bfill t => Sys2Proof.Machine.execBfill t s
  | .bcmp t => Sys2Proof.Machine.execBcmp t s
  | .blockBeatConclude t k e => Sys2Proof.Machine.execBlockBeatConclude t k e s
  | .mfs t => Sys2Proof.Machine.execMfs t s
  | .mts t => Sys2Proof.Machine.execMts t s
  | .syscall t => Sys2Proof.Machine.execSyscall t s
  | .brk t => Sys2Proof.Machine.execBrk t s
  | .tret t => Sys2Proof.Machine.execTret t s
  | .yield t => Sys2Proof.Machine.execYield t s
  | .halt t => Sys2Proof.Machine.execHalt t s
  | .fabricAnswer t => Sys2Proof.Machine.execFabricAnswer t s
  | .postedStoreConclude t k => Sys2Proof.Machine.execPostedStoreConclude t k s
  | .retryReissue t => Sys2Proof.Machine.execRetryReissue t s
  | .evtwaitTimeout t => Sys2Proof.Machine.execEvtwaitTimeout t s
  | .threadTimerExpiry t => Sys2Proof.Machine.execThreadTimerExpiry t s
  | .interruptTake t => Sys2Proof.Machine.execInterruptTake t s
  | .hearthSnoop h line => Sys2Proof.Machine.execHearthSnoop h line s
  | .threadStart m t => Sys2Proof.Machine.execThreadStart m t s
  | .threadStop m t => Sys2Proof.Machine.execThreadStop m t s
  | .threadClear m t => Sys2Proof.Machine.execThreadClear m t s
  | .clearAll m h => Sys2Proof.Machine.execClearAll m h s
  | .imageLoad m h k tag inst => Sys2Proof.Machine.execImageLoad m h k tag inst s
  | .imageLoadComplete h => Sys2Proof.Machine.execImageLoadComplete h s
  | .imageVerifyTimeout h => Sys2Proof.Machine.execImageVerifyTimeout h s
  | .commitTake c => Sys2Proof.Machine.execCommitTake c s
  | .commitShadowAck d held => Sys2Proof.Machine.execCommitShadowAck d held s
  | .commitDecision => Sys2Proof.Machine.execCommitDecision s
  | .commitApply d epoch control own => Sys2Proof.Machine.execCommitApply d epoch control own s
  | .commitTimeout id => Sys2Proof.Machine.execCommitTimeout id s
  | .fluDoorbell m f addr => Sys2Proof.Machine.execFluDoorbell m f addr s
  | .flueStop m f => Sys2Proof.Machine.execFlueStop m f s
  | .flueResume m f => Sys2Proof.Machine.execFlueResume m f s
  | .flueAbort m f => Sys2Proof.Machine.execFlueAbort m f s
  | .flueReset m f => Sys2Proof.Machine.execFlueReset m f s
  | .fluAssignWrite m f v => Sys2Proof.Machine.execFluAssignWrite m f v s
  | .moverGrant die => Sys2Proof.Machine.execMoverGrant die s
  | .fluePreemption die => Sys2Proof.Machine.execFluePreemption die s
  | .descriptorFetch f => Sys2Proof.Machine.execDescriptorFetch f s
  | .flueBeatReadAnswer f k ue => Sys2Proof.Machine.execFlueBeatReadAnswer f k ue s
  | .flueBeatWriteConclude f k => Sys2Proof.Machine.execFlueBeatWriteConclude f k s
  | .cqAppend f => Sys2Proof.Machine.execCqAppend f s
  | .cqHeadWrite m q head => Sys2Proof.Machine.execCqHeadWrite m q head s
  | .flueRetryReissue f => Sys2Proof.Machine.execFlueRetryReissue f s
  | .requestLineAssert n asserted => Sys2Proof.Machine.execRequestLineAssert n asserted s
  | .rqlSet m n => Sys2Proof.Machine.execRqlSet m n s
  | .helperReturn m f status result => Sys2Proof.Machine.execHelperReturn m f status result s
  | .helperTimeout f => Sys2Proof.Machine.execHelperTimeout f s
  | .wqDoorbell m q tail => Sys2Proof.Machine.execWqDoorbell m q tail s
  | .wqInlineDoorbell m q offset data => Sys2Proof.Machine.execWqInlineDoorbell m q offset data s
  | .wqEnable m q => Sys2Proof.Machine.execWqEnable m q s
  | .wqDisable m q => Sys2Proof.Machine.execWqDisable m q s
  | .wqCfgWrite m q v => Sys2Proof.Machine.execWqCfgWrite m q v s
  | .wqEntryStart f => Sys2Proof.Machine.execWqEntryStart f s
  | .headWriteConclude q => Sys2Proof.Machine.execHeadWriteConclude q s
  | .wqDrainTimeout q => Sys2Proof.Machine.execWqDrainTimeout q s
  | .create m n tag => Sys2Proof.Machine.execCreate m n tag s
  | .destroy m n tag => Sys2Proof.Machine.execDestroy m n tag s
  | .freeze m n tag => Sys2Proof.Machine.execFreeze m n tag s
  | .freezeComplete n => Sys2Proof.Machine.execFreezeComplete n s
  | .thaw m n tag => Sys2Proof.Machine.execThaw m n tag s
  | .save m n tag => Sys2Proof.Machine.execSave m n tag s
  | .restore m n tag => Sys2Proof.Machine.execRestore m n tag s
  | .fluePut m n tag => Sys2Proof.Machine.execFluePut m n tag s
  | .wqPut m n tag => Sys2Proof.Machine.execWqPut m n tag s
  | .threadPut m n tag => Sys2Proof.Machine.execThreadPut m n tag s
  | .instReset m n tag => Sys2Proof.Machine.execInstReset m n tag s
  | .instResetComplete n => Sys2Proof.Machine.execInstResetComplete n s
  | .instRelease m n tag => Sys2Proof.Machine.execInstRelease m n tag s
  | .mbxDoorbell m n tag len => Sys2Proof.Machine.execMbxDoorbell m n tag len s
  | .mbxTimeout n => Sys2Proof.Machine.execMbxTimeout n s
  | .threadGateLoWrite m t set r v => Sys2Proof.Machine.execThreadGateLoWrite m t set r v s
  | .threadGateHiWrite m t set r v => Sys2Proof.Machine.execThreadGateHiWrite m t set r v s
  | .gateSwap m t => Sys2Proof.Machine.execGateSwap m t s
  | .reportTake => Sys2Proof.Machine.execReportTake s
  | .logRingWrite ok => Sys2Proof.Machine.execLogRingWrite ok s
  | .odlCheckFail n syndrome => Sys2Proof.Machine.execOdlCheckFail n syndrome s
  | .ack m tag => Sys2Proof.Machine.execAck m tag s
  | .ackClass m tag => Sys2Proof.Machine.execAckClass m tag s
  | .fuRelease m tag => Sys2Proof.Machine.execFuRelease m tag s
  | .faultClr m tag => Sys2Proof.Machine.execFaultClr m tag s
  | .emberRearm m tag => Sys2Proof.Machine.execEmberRearm m tag s
  | .faultInject m v => Sys2Proof.Machine.execFaultInject m v s
  | .emberToggle => Sys2Proof.Machine.execEmberToggle s
  | .sirfinDataFrame l bytes => Sys2Proof.Machine.execSirfinDataFrame l bytes s
  | .sirfinCtrlFrame l bytes => Sys2Proof.Machine.execSirfinCtrlFrame l bytes s
  | .sirfinIdleFrame l bytes => Sys2Proof.Machine.execSirfinIdleFrame l bytes s
  | .sirfinTrainFrame l bytes => Sys2Proof.Machine.execSirfinTrainFrame l bytes s
  | .sirfinFrameSend l => Sys2Proof.Machine.execSirfinFrameSend l s
  | .sirfinEqualisationDone l => Sys2Proof.Machine.execSirfinEqualisationDone l s
  | .sirfinLaneFail l => Sys2Proof.Machine.execSirfinLaneFail l s
  | .replayTimeout l => Sys2Proof.Machine.execReplayTimeout l s
  | .sirfinRetrain m l => Sys2Proof.Machine.execSirfinRetrain m l s
  | .retrainComplete l => Sys2Proof.Machine.execRetrainComplete l s
  | .retrainTimeout l => Sys2Proof.Machine.execRetrainTimeout l s
  | .sirfinRefusedRetry l => Sys2Proof.Machine.execSirfinRefusedRetry l s
  | .sirfinLinkDisable m l => Sys2Proof.Machine.execSirfinLinkDisable m l s
  | .sirfinLinkLoss l => Sys2Proof.Machine.execSirfinLinkLoss l s
  | .xtTimeout id => Sys2Proof.Machine.execXtTimeout id s
  | .joinAuthDone ok ahead => Sys2Proof.Machine.execJoinAuthDone ok ahead s
  | .joinAuthTimeout => Sys2Proof.Machine.execJoinAuthTimeout s
  | .joinCopyDone x => Sys2Proof.Machine.execJoinCopyDone x s
  | .joinComplete => Sys2Proof.Machine.execJoinComplete s
  | .splitTimeout d => Sys2Proof.Machine.execSplitTimeout d s
  | .timeMeasure => Sys2Proof.Machine.execTimeMeasure s
  | .stackIdDrawRetry => Sys2Proof.Machine.execStackIdDrawRetry s
  | .powerOn m c => Sys2Proof.Machine.execPowerOn m c s
  | .powerOff m c force => Sys2Proof.Machine.execPowerOff m c force s
  | .damperClear m c => Sys2Proof.Machine.execDamperClear m c s
  | .curveSelectWrite m c n => Sys2Proof.Machine.execCurveSelectWrite m c n s
  | .damperCurrentSample c ma => Sys2Proof.Machine.execDamperCurrentSample c ma s
  | .damperVoltageSample c vin vout overdrive => Sys2Proof.Machine.execDamperVoltageSample c vin vout overdrive s
  | .fastTrip c => Sys2Proof.Machine.execFastTrip c s
  | .gateTimeout c => Sys2Proof.Machine.execGateTimeout c s
  | .captureWindowEnd => Sys2Proof.Machine.execCaptureWindowEnd s
  | .pwrwarnHoldEnd c => Sys2Proof.Machine.execPwrwarnHoldEnd c s
  | .pfailAssert => Sys2Proof.Machine.execPfailAssert s
  | .pfailRelease => Sys2Proof.Machine.execPfailRelease s
  | .holdupTimeout => Sys2Proof.Machine.execHoldupTimeout s
  | .keyGen m k tag => Sys2Proof.Machine.execKeyGen m k tag s
  | .keyImport m k tag => Sys2Proof.Machine.execKeyImport m k tag s
  | .keyErase m k tag => Sys2Proof.Machine.execKeyErase m k tag s
  | .keyInfo m k tag => Sys2Proof.Machine.execKeyInfo m k tag s
  | .anchorSet m k tag => Sys2Proof.Machine.execAnchorSet m k tag s
  | .gcmEnc m k tag => Sys2Proof.Machine.execGcmEnc m k tag s
  | .gcmDec m k tag => Sys2Proof.Machine.execGcmDec m k tag s
  | .sign m k tag => Sys2Proof.Machine.execSign m k tag s
  | .verifyDual m k tag => Sys2Proof.Machine.execVerifyDual m k tag s
  | .hash m k tag => Sys2Proof.Machine.execHash m k tag s
  | .hmac m k tag => Sys2Proof.Machine.execHmac m k tag s
  | .random m k tag => Sys2Proof.Machine.execRandom m k tag s
  | .tallyWrite m k tag => Sys2Proof.Machine.execTallyWrite m k tag s
  | .rbAdvance m k tag => Sys2Proof.Machine.execRbAdvance m k tag s
  | .selftest m k tag => Sys2Proof.Machine.execSelftest m k tag s
  | .zeroiseAll m k tag => Sys2Proof.Machine.execZeroiseAll m k tag s
  | .hjCommandComplete k pass => Sys2Proof.Machine.execHjCommandComplete k pass s
  | .keyEraseWaitExpiry k => Sys2Proof.Machine.execKeyEraseWaitExpiry k s
  | .pageRead k page bytes => Sys2Proof.Machine.execPageRead k page bytes s
  | .entropyHealthFail => Sys2Proof.Machine.execEntropyHealthFail s
  | .drbgRecoveryAttempt pass => Sys2Proof.Machine.execDrbgRecoveryAttempt pass s
  | .drbgReseed => Sys2Proof.Machine.execDrbgReseed s
  | .clkGateRequest m g => Sys2Proof.Machine.execClkGateRequest m g s
  | .pwrGateRequest m g => Sys2Proof.Machine.execPwrGateRequest m g s
  | .ungate m g power => Sys2Proof.Machine.execUngate m g power s
  | .holdRelease g => Sys2Proof.Machine.execHoldRelease g s
  | .ungateComplete g => Sys2Proof.Machine.execUngateComplete g s
  | .spiFrameEnd edges bytes => Sys2Proof.Machine.execSpiFrameEnd edges bytes s
  | .read64 tag addr => Sys2Proof.Machine.execRead64 tag addr s
  | .read32 tag addr => Sys2Proof.Machine.execRead32 tag addr s
  | .write64 tag addr data => Sys2Proof.Machine.execWrite64 tag addr data s
  | .write32 tag addr data => Sys2Proof.Machine.execWrite32 tag addr data s
  | .spiIssue => Sys2Proof.Machine.execSpiIssue s
  | .spiAccessConclude => Sys2Proof.Machine.execSpiAccessConclude s
  | .spiAccessTimeout => Sys2Proof.Machine.execSpiAccessTimeout s
  | .smbusPacket p => Sys2Proof.Machine.execSmbusPacket p s
  | .reassemblyTimeout b => Sys2Proof.Machine.execReassemblyTimeout b s
  | .mctpTransmit m v => Sys2Proof.Machine.execMctpTransmit m v s
  | .mctpTransmitDone b => Sys2Proof.Machine.execMctpTransmitDone b s
  | .mctpTransmitTimeout b sent => Sys2Proof.Machine.execMctpTransmitTimeout b sent s
  | .rxBufferRelease m v => Sys2Proof.Machine.execRxBufferRelease m v s
  | .noticeRetry => Sys2Proof.Machine.execNoticeRetry s
  | .sidebandSweep => Sys2Proof.Machine.execSidebandSweep s
  | .expanderReadDone data us => Sys2Proof.Machine.execExpanderReadDone data us s
  | .bridgeCommitGo m tag expect => Sys2Proof.Machine.execBridgeCommitGo m tag expect s
  | .bridgeCommitAbort m tag => Sys2Proof.Machine.execBridgeCommitAbort m tag s
  | .getEndpointId b => Sys2Proof.Machine.execGetEndpointId b s
  | .setEndpointId b => Sys2Proof.Machine.execSetEndpointId b s
  | .getMctpVersionSupport b => Sys2Proof.Machine.execGetMctpVersionSupport b s
  | .getMessageTypeSupport b => Sys2Proof.Machine.execGetMessageTypeSupport b s
  | .getState b => Sys2Proof.Machine.execGetState b s
  | .readLog b => Sys2Proof.Machine.execReadLog b s
  | .readReg b => Sys2Proof.Machine.execReadReg b s
  | .responderWarmReset b => Sys2Proof.Machine.execResponderWarmReset b s
  | .alwaysOnReset => Sys2Proof.Machine.execAlwaysOnReset s
  | .pwrgoodRise dev master octal => Sys2Proof.Machine.execPwrgoodRise dev master octal s
  | .pwrgoodFall => Sys2Proof.Machine.execPwrgoodFall s
  | .resetNAssert => Sys2Proof.Machine.execResetNAssert s
  | .resetNRelease => Sys2Proof.Machine.execResetNRelease s
  | .puWarmReset m tag => Sys2Proof.Machine.execPuWarmReset m tag s
  | .resetFlushTimeout => Sys2Proof.Machine.execResetFlushTimeout s
  | .selfTestStageDone r us => Sys2Proof.Machine.execSelfTestStageDone r us s
  | .stageTimeout => Sys2Proof.Machine.execStageTimeout s
  | .thermtrip => Sys2Proof.Machine.execThermtrip s
  | .counterSweep m => Sys2Proof.Machine.execCounterSweep m s
  | .periodicSweep => Sys2Proof.Machine.execPeriodicSweep s
  | .sweepComplete ok => Sys2Proof.Machine.execSweepComplete ok s
  | .counterSetBind m c j v => Sys2Proof.Machine.execCounterSetBind m c j v s
  | .counterNoticeRetry => Sys2Proof.Machine.execCounterNoticeRetry s
  | .chimneyWriteConclude h ok => Sys2Proof.Machine.execChimneyWriteConclude h ok s
  | .sirfinFarEndPresence l => Sys2Proof.Machine.execSirfinFarEndPresence l s
  | .referenceClockReturn n => Sys2Proof.Machine.execReferenceClockReturn n s

end Sys2Proof.Machine
end

