-- ==== Sys2Proof/Machine/Tick.lean ====
section
/-! DEFINITION. What happens with no command waiting: a nanosecond of the island clock passes (R37, R404), and the work that goes on by itself moves
on as far as it can (R284, R285, R362). -/

namespace Sys2Proof.Machine

/-- SAVE and RESTORE under way take the answers that have come (R284, R285). -/
def State.instRun (s : State) : State :=
  s.inst.foldl (fun s e => if e.2.master.isSome && (e.2.op == 0x12 || e.2.op == 0x13) then s.instWork e.1 else s) s

/-- One idle step (log 40). -/
def State.tick (s : State) : State :=
  let t := s.tbTick
  let t := t.levelTick (t.now - s.now)
  if t.up then t.instRun.hjRun else t

end Sys2Proof.Machine
end

