-- ==== Sys2Proof/Safety.lean ====
section
/-! DEFINITION. The terms that statements about the machine use: what it is for a command to complete, to be accepted from a master, and to leave a
report behind. -/

namespace Sys2Proof.Machine

/-- A command, run in a state, completes: it answers a next state of which `P` holds. -/
def Completes (c : Instr) (s : State) (P : State → Prop) : Prop := ∃ t, exec c s = .next t ∧ P t

/-- A step answers a next state of which `P` holds, if it answers one. -/
def StepKeeps (P : State → Prop) : Prop := ∀ s t, P s → step s = .next t → P t

/-- Whether a master's write of a register is let through by its gate, by its view and by the masters of the block (R26, R28, Table 14-1). -/
def State.accepts (s : State) (m : Master) (r : RegName) (i : Nat) (j : Nat := 0) : Bool :=
  (s.csGate m (r.place i j) 8 1).isNone && (match m with | .host k => s.hostSees k r i | _ => true) && s.mayWrite m r i

/-- The answer of a command on the path that returns a status (R13). -/
def State.answered (s : State) (m : Master) (status : Nat) : Prop := s.ans = some ⟨m, status, 0⟩

/-- Whether a report of a source, class and scope waits at the fault unit (R302). -/
def State.reported (s : State) (source cls sc : Nat) : Bool := s.fu.waiting.any (fun r => r.source == source && r.cls == cls && r.scope == sc)

/-- A thread is ready and fetches a word of a row of Table 9-4 that its level admits (R167 to R171). -/
def State.runs (s : State) (t : Nat) (p : Plv) (w : Nat) : Bool :=
  s.ready t && (match s.fetchCheck t with
    | .ok e => leNat (s.fetchBytes t e (s.th t).pc) == w && plvOf w == some p && plvAllowed p w (s.priv t)
    | .bad _ _ _ => false)

/-- A thread whose hearth does not sample (R412) and for which no STOP or CLEAR waits (R204, R205): an instruction has its own effect only. -/
def State.quiet (s : State) (t : Nat) : Bool := !(s.on CHM_CFG_EN (thH t)) && !(s.th t).clearAsked && !(s.th t).stopAsked

/-- The state with a thread's instruction completed: its PC at the next one, ICOUNT advanced by one, and nothing waited for. -/
def State.goesTo (s : State) (t next : Nat) : State :=
  s.thMod t (fun x => { x with pc := next % 2 ^ 64, icount := (x.icount + 1) % 2 ^ 64, waiting := .none, issued := none })

/-- The state with a class S instruction completed: STATUS in RD[7:0] and LSTAT, its result in RD[63:32], PC at the next one (R187). -/
def State.concludesS (s : State) (t w st hi : Nat) : State :=
  ((s.grSet t (wRd w) (st + hi * 2 ^ 32)).thMod t (fun x => { x with lstat := st })).goesTo t ((s.th t).pc + 4)

/-- The state of a thread that has taken a trap (R212): its trap registers, IN_TRAP, HANDLER at the handler's level, PC at TH_VEC, its registers
as they were. -/
def State.trapped (s t : State) (th code arg st : Nat) : Prop :=
  (t.th th).trapCode = code ∧ (t.th th).trapPc = (s.th th).pc ∧ (t.th th).trapArg = arg % 2 ^ 64 ∧ (t.th th).trapStat = st ∧
  t.g TH_STATUS_LAST_TRAP (thH th) (thI th) = code % 2 ^ TH_STATUS_LAST_TRAP.width ∧ t.inTrap th = true ∧ t.tState th = 2 ∧ t.priv th = s.handlerLevel th ∧
  (t.th th).pc = s.g TH_VEC_HANDLER (thH th) (thI th) / 4 * 4 ∧ (t.th th).gpr = (s.th th).gpr ∧
  t.tgActive th = (if s.priv th = s.handlerLevel th then s.tgActive th else (1 - s.tgActive th) % 2 ^ TG_CTRL_ACTIVE.width)

/-- Nothing but the register file, the waiting reports, the answer and the messages out differs (the frame of a command of registers). -/
def sameButRegs (s t : State) : Prop :=
  t.mem = s.mem ∧ t.pending = s.pending ∧ t.thr = s.thr ∧ t.flc = s.flc ∧ t.sw = s.sw ∧ t.hm = s.hm ∧ t.plc = s.plc ∧ t.cmt = s.cmt ∧ t.fl = s.fl ∧
  t.inst = s.inst ∧ t.hj = s.hj ∧ t.stk = s.stk ∧ t.loads = s.loads

/-- The registers with fields that software writes or clears and no operation of their own on a write: Table 0-3 says what a write does. -/
def plainRegs : List RegName :=
  [.TB_STATUS, .AVS_STATUS, .ISL_STATUS, .PC_ERR_STATUS, .BIND_ARG0, .BIND_ARG1, .BIND_STATUS, .BIND_CFG, .SW_OVF_CFG, .SW_AGE_CFG,
   .SW_ERR_STATUS, .MIR_CFG, .MIR_MATCH, .MIR_DEST, .MIR_STATUS, .MS_CFG, .MTR_RATE, .MTR_BURST, .EQ_SHP, .EQ_WRR, .HOME_TMO_CFG,
   .HOME_ERR_STATUS, .PLC_CFG, .PLC_LIMIT, .PLC_SYNC_CFG, .PLC_HEAT_CFG, .PLC_ERR_STATUS, .PLC_CMD_ARG, .PLC_REQ_RING, .PLC_REQ_IDX,
   .PLC_LOG_CFG, .PLC_LOG_IDX, .PLC_INST, .HTH_LOAD_SRC, .TH_VEC, .CMT_CFG, .FLU_ERR, .WQ_ERR, .INST_ARG0, .INST_ARG1, .INST_ERR,
   .MBX_HCFG, .PG_VIOL_INFO, .TG_VIOL_INFO, .FU_CTRL, .FU_IRQ_CFG, .FU_CMD_ARG, .FU_LOG_CFG, .FU_LOG_IDX, .FU_FIRST, .STK_ERR,
   .SRF_ERR, .DMP_GERR, .DMP_ERR, .HJ_ERR, .HJ_ARG, .BR_ERR, .SB_EXP, .SB_SLOT, .CNT_ERR, .CHM_FILTER]

/-- What a write leaves in a field by its access code (Table 0-3): a value taken, one cleared where the write carries a 1, and any other as it was.
`has` says whether the write carries the field. -/
def Fld.written (f : Fld) (old v : Nat) (has : Bool) : Nat :=
  match f.acc with
  | .rw | .rws => if has then bits v f.lsb f.width else old
  | .w1c => if has && bits v f.lsb f.width != 0 then 0 else old
  | _ => old

/-- The parts of the state that stand beside the register file. -/
inductive StatePart | mem | thr | flc | sw | ports | hm | plc | cmt | loads | loadTags | fl | inst | hj | stk | dmp | pu | br | cnt | fu | pins | clk | ans | free | outbox
deriving DecidableEq, Repr

/-- A part of the state is the same in two states. -/
def StatePart.same : StatePart → State → State → Prop
  | .mem, s, t => t.mem = s.mem
  | .thr, s, t => t.thr = s.thr
  | .flc, s, t => t.flc = s.flc
  | .sw, s, t => t.sw = s.sw
  | .ports, s, t => t.ports = s.ports
  | .hm, s, t => t.hm = s.hm
  | .plc, s, t => t.plc = s.plc
  | .cmt, s, t => t.cmt = s.cmt
  | .loads, s, t => t.loads = s.loads
  | .loadTags, s, t => t.loadTags = s.loadTags
  | .fl, s, t => t.fl = s.fl
  | .inst, s, t => t.inst = s.inst
  | .hj, s, t => t.hj = s.hj
  | .stk, s, t => t.stk = s.stk
  | .dmp, s, t => t.dmp = s.dmp
  | .pu, s, t => t.pu = s.pu
  | .br, s, t => t.br = s.br
  | .cnt, s, t => t.cnt = s.cnt
  | .fu, s, t => t.fu = s.fu
  | .pins, s, t => t.pins = s.pins
  | .clk, s, t => t.clk = s.clk
  | .ans, s, t => t.ans = s.ans
  | .free, s, t => t.free = s.free
  | .outbox, s, t => t.outbox = s.outbox

/-- The parts that a command may change beside the register file, in any state and on any operands: its own unit and those its
rules reach (reports and records in fu, answers in ans, messages in outbox). -/
def partsOf : Instr → List StatePart
  | .registerWrite .. | .reservedAccess .. | .registerReadClear .. | .alwaysOnReset =>
    [.mem, .thr, .flc, .sw, .ports, .hm, .plc, .cmt, .loads, .loadTags, .fl, .inst, .hj, .stk, .dmp, .pu, .br, .cnt, .fu, .pins, .clk, .ans, .free,
    .outbox]
  | .paceWindowEnd .. =>
    [.dmp, .br, .fu, .pins, .clk]
  | .autoRaise =>
    [.clk, .outbox]
  | .avsTargetWrite .. =>
    [.fu, .clk, .ans, .outbox]
  | .avsNak | .syncErr .. | .holdover | .sirfinLaneFail .. | .holdupTimeout | .drbgRecoveryAttempt .. | .chimneyWriteConclude .. =>
    [.fu]
  | .islandClockLoss .. | .linkLoss .. =>
    [.mem, .thr, .sw, .ports, .hm, .plc, .fu, .outbox]
  | .islandClockReturn .. =>
    [.mem, .thr, .sw, .ports, .plc, .stk, .cnt, .fu, .outbox]
  | .tbStep .. | .portRelease .. | .sfProbe .. | .plcProbe .. | .threadStart .. | .cqHeadWrite .. | .gateSwap .. | .faultInject .. | .clkGateRequest ..
  | .pwrGateRequest .. | .ungate .. | .counterSetBind .. =>
    [.fu, .ans]
  | .ppsEdge =>
    [.fu, .clk, .free]
  | .ppsAbsence =>
    [.fu, .clk]
  | .partnerPresence .. | .roleConflictRetry .. | .portResetComplete .. | .drainTimeout .. | .ideCheckFail .. | .ageExpiry .. | .egressDeparture ..
  | .bufferEccError .. | .retrainTimeout .. | .sirfinLinkLoss .. | .xtTimeout .. =>
    [.thr, .sw, .ports, .stk, .cnt, .fu, .outbox]
  | .trainingSetsReceived .. | .equalisationFail .. | .trainTimeout .. | .moduleAuthentication .. | .authTimeout .. | .replayWindowEnd .. =>
    [.ports, .fu]
  | .linkUp .. =>
    [.ports, .cmt, .fu, .outbox]
  | .recoveryComplete .. =>
    [.ports]
  | .portRetrain .. | .loopEnable .. =>
    [.mem, .thr, .sw, .ports, .hm, .plc, .stk, .cnt, .fu, .ans, .outbox]
  | .quiesce .. =>
    [.sw, .ports, .fu, .ans, .outbox]
  | .portReset .. | .widthChange .. | .loopDisable .. =>
    [.mem, .thr, .sw, .ports, .hm, .plc, .fu, .ans, .outbox]
  | .drainDone .. | .sirfinRefusedRetry .. | .drbgReseed | .holdRelease .. =>
    []
  | .ideKeyInstall .. =>
    [.ports, .hj]
  | .spdmMessage .. =>
    [.ports, .hj, .outbox]
  | .ingressRequest .. | .penaltyRelease .. | .cld .. | .cst .. | .spiIssue | .readReg .. =>
    [.mem, .thr, .flc, .sw, .ports, .hm, .plc, .cmt, .loads, .loadTags, .fl, .inst, .hj, .stk, .dmp, .pu, .br, .cnt, .fu, .pins, .clk, .free, .outbox]
  | .spillReadback .. | .shaperTick | .pathFenceLift .. =>
    [.sw]
  | .responseIngress .. | .pbrFlitArrival .. =>
    [.mem, .thr, .sw, .ports, .stk, .cnt, .fu, .free, .outbox]
  | .dcAdd .. | .dcRelease .. | .dcForceRelease .. | .ptBind .. | .ptUnbind .. | .ldAttach .. | .ldDetach .. | .bridgeCommitGo ..
  | .bridgeCommitAbort .. =>
    [.cmt, .fu, .ans, .outbox]
  | .addCapacityResponse .. | .releaseCapacityResponse .. | .dcTimeout =>
    [.cmt, .fu, .outbox]
  | .vslotPowerOff .. | .placementCommit =>
    [.cmt, .outbox]
  | .unbindTimeout =>
    [.cmt]
  | .homeRequestArrival .. =>
    [.sw, .hm]
  | .homeRequestActivate .. | .memTimeout .. =>
    [.mem, .thr, .sw, .ports, .hm, .plc, .stk, .cnt, .fu, .outbox]
  | .snoopAnswer .. | .snoopTimeout .. | .moduleAccessComplete .. | .wbArrival .. | .mscEccError .. =>
    [.thr, .sw, .ports, .hm, .plc, .stk, .cnt, .fu, .outbox]
  | .cleanEvictionNotice .. =>
    [.hm, .stk, .fu]
  | .biconflict .. =>
    [.sw, .outbox]
  | .forwardedData .. | .homeGrant .. =>
    [.thr, .sw, .ports, .hm, .stk, .cnt, .fu, .outbox]
  | .sfEccError .. | .sfRebuildDone =>
    [.hm, .fu]
  | .sfRebuild .. =>
    [.sw, .ports, .hm, .stk, .fu, .ans, .outbox]
  | .mscFlush .. =>
    [.thr, .sw, .ports, .hm, .plc, .stk, .cnt, .fu, .ans, .outbox]
  | .mscFlushDone =>
    [.mem, .thr, .flc, .sw, .ports, .hm, .plc, .cmt, .loads, .loadTags, .fl, .inst, .hj, .stk, .dmp, .pu, .cnt, .fu, .pins, .clk, .outbox]
  | .moveRequestTake =>
    [.mem, .thr, .plc, .fu]
  | .firstCopyDone .. | .recopyPassDone .. | .syncDeadline .. =>
    [.mem, .thr, .sw, .hm, .plc, .fu]
  | .syncWritesDrained .. =>
    [.plc]
  | .finalPassDone .. =>
    [.plc, .fu]
  | .oldLocationRelease .. =>
    [.mem, .thr, .plc, .stk]
  | .zeroFillDone .. =>
    [.mem, .plc, .stk]
  | .heatDecay =>
    [.mem]
  | .placementRunStop .. | .pinPage .. | .unpinPage .. | .pinSeg .. | .unpinSeg .. | .slotClaim .. | .slotFree .. | .abortMig .. =>
    [.mem, .thr, .sw, .hm, .plc, .fu, .ans]
  | .alu .. | .addi .. | .andi .. | .ori .. | .xori .. | .shi .. | .cati .. | .beq .. | .bne .. | .blt .. | .bge .. | .bltu .. | .bgeu .. | .jal ..
  | .jalr .. | .ldb .. | .ldh .. | .ldw .. | .ldd .. | .stb .. | .sth .. | .stw .. | .std .. | .amoLocal .. | .fenceL .. | .fenceF .. | .fenceA ..
  | .fenceI .. | .crc .. | .mix .. | .fhash .. | .stgr .. | .stgm .. | .eabort .. | .evtwait .. | .evtsig .. | .mbrecv .. | .bmove .. | .bfill ..
  | .bcmp .. | .mfs .. | .mts .. | .syscall .. | .brk .. | .tret .. | .yield .. | .halt .. | .fabricAnswer .. | .evtwaitTimeout .. | .interruptTake ..
  =>
    [.mem, .thr, .flc, .sw, .hm, .plc, .stk, .cnt, .fu, .free]
  | .fld .. | .fldu .. | .fst .. | .fstu .. | .flineLd .. | .flineLdu .. | .flineSt .. | .flineStu .. | .amoFabric .. | .blockBeatConclude ..
  | .postedStoreConclude .. | .retryReissue .. =>
    [.mem, .thr, .flc, .sw, .ports, .hm, .plc, .stk, .cnt, .fu, .free, .outbox]
  | .ecmt .. | .commitTake .. | .commitTimeout .. =>
    [.mem, .thr, .flc, .sw, .hm, .plc, .cmt, .stk, .cnt, .fu, .free, .outbox]
  | .mbsend .. =>
    [.mem, .thr, .flc, .sw, .hm, .plc, .inst, .stk, .cnt, .fu, .free, .outbox]
  | .dmal .. =>
    [.mem, .thr, .flc, .sw, .hm, .plc, .fl, .stk, .cnt, .fu, .pins, .free]
  | .threadTimerExpiry .. =>
    [.thr]
  | .hearthSnoop .. =>
    [.flc, .hm]
  | .threadStop .. | .threadClear .. | .clearAll .. =>
    [.mem, .thr, .flc, .sw, .hm, .plc, .stk, .cnt, .fu, .ans, .free]
  | .imageLoad .. =>
    [.mem, .loads, .loadTags, .fu, .ans]
  | .imageLoadComplete .. =>
    [.mem, .thr, .loads, .loadTags, .fu]
  | .imageVerifyTimeout .. =>
    [.mem, .loads, .loadTags]
  | .commitShadowAck .. =>
    [.cmt, .stk]
  | .commitDecision =>
    [.mem, .sw, .hm, .plc, .cmt]
  | .commitApply .. | .splitTimeout .. =>
    [.mem, .thr, .flc, .sw, .ports, .hm, .plc, .cmt, .stk, .cnt, .fu, .free, .outbox]
  | .fluDoorbell .. | .flueResume .. | .fluAssignWrite .. =>
    [.fl, .fu, .pins, .ans]
  | .flueStop .. | .flueAbort .. | .helperReturn .. | .wqDisable .. =>
    [.mem, .thr, .sw, .ports, .hm, .fl, .stk, .cnt, .fu, .pins, .ans, .free, .outbox]
  | .flueReset .. =>
    [.sw, .fl, .fu, .pins, .ans, .free]
  | .moverGrant .. | .fluePreemption .. | .descriptorFetch .. | .flueBeatReadAnswer .. | .flueBeatWriteConclude .. | .cqAppend .. | .helperTimeout ..
  | .wqEntryStart .. | .wqDrainTimeout .. =>
    [.mem, .thr, .sw, .ports, .hm, .fl, .stk, .cnt, .fu, .pins, .free, .outbox]
  | .flueRetryReissue .. | .requestLineAssert .. =>
    [.fl]
  | .rqlSet .. | .wqCfgWrite .. =>
    [.fl, .fu, .ans]
  | .wqDoorbell .. | .wqInlineDoorbell .. =>
    [.thr, .fl, .stk, .fu, .pins, .ans]
  | .wqEnable .. =>
    [.mem, .thr, .sw, .ports, .hm, .fl, .stk, .cnt, .fu, .ans, .free, .outbox]
  | .headWriteConclude .. =>
    [.mem, .thr, .sw, .ports, .hm, .fl, .stk, .cnt, .fu, .free, .outbox]
  | .create .. | .destroy .. | .freeze .. | .thaw .. | .save .. | .restore .. | .fluePut .. | .wqPut .. | .threadPut .. | .instReset ..
  | .instRelease .. =>
    [.mem, .thr, .flc, .sw, .ports, .hm, .plc, .fl, .inst, .stk, .cnt, .fu, .pins, .ans, .free, .outbox]
  | .freezeComplete .. | .reportTake =>
    [.mem, .thr, .flc, .sw, .ports, .hm, .plc, .fl, .inst, .stk, .cnt, .fu, .pins, .free, .outbox]
  | .instResetComplete .. =>
    [.sw, .ports, .inst, .fu]
  | .mbxDoorbell .. =>
    [.mem, .thr, .inst, .stk, .fu, .ans, .outbox]
  | .mbxTimeout .. =>
    [.mem, .inst, .fu, .outbox]
  | .threadGateLoWrite .. | .threadGateHiWrite .. =>
    [.thr, .fu, .ans]
  | .logRingWrite .. =>
    [.mem, .fu, .pins]
  | .odlCheckFail .. | .pfailRelease =>
    [.fu, .pins]
  | .ack .. | .ackClass .. | .fuRelease .. | .faultClr .. | .emberRearm .. =>
    [.thr, .sw, .ports, .fl, .stk, .cnt, .fu, .pins, .ans, .outbox]
  | .emberToggle | .thermtrip =>
    [.pins]
  | .sirfinDataFrame .. | .sirfinCtrlFrame .. | .sirfinIdleFrame .. | .sirfinTrainFrame .. | .sirfinFrameSend .. =>
    [.mem, .thr, .sw, .ports, .hm, .plc, .inst, .stk, .cnt, .fu, .outbox]
  | .sirfinEqualisationDone .. | .joinCopyDone .. | .sirfinFarEndPresence .. =>
    [.stk]
  | .replayTimeout .. | .joinAuthTimeout =>
    [.stk, .fu]
  | .sirfinRetrain .. =>
    [.stk, .fu, .ans]
  | .retrainComplete .. =>
    [.sw, .stk, .fu]
  | .sirfinLinkDisable .. =>
    [.thr, .sw, .ports, .stk, .cnt, .fu, .ans, .outbox]
  | .joinAuthDone .. =>
    [.stk, .fu, .outbox]
  | .joinComplete =>
    [.mem, .thr, .flc, .sw, .hm, .plc, .cmt, .stk, .fu, .clk, .outbox]
  | .timeMeasure =>
    [.stk, .fu, .free]
  | .stackIdDrawRetry =>
    [.hj, .stk, .fu]
  | .powerOn .. | .damperClear .. | .curveSelectWrite .. =>
    [.dmp, .fu, .ans]
  | .powerOff .. =>
    [.mem, .thr, .sw, .ports, .hm, .plc, .dmp, .fu, .ans, .outbox]
  | .damperCurrentSample .. =>
    [.dmp, .fu, .free]
  | .damperVoltageSample .. | .fastTrip .. | .gateTimeout .. =>
    [.dmp, .fu]
  | .captureWindowEnd | .pwrwarnHoldEnd .. =>
    [.dmp]
  | .pfailAssert =>
    [.thr, .sw, .ports, .hm, .plc, .stk, .dmp, .pu, .cnt, .fu, .pins, .outbox]
  | .keyGen .. | .keyImport .. | .keyErase .. | .keyInfo .. | .anchorSet .. | .gcmEnc .. | .gcmDec .. | .sign .. | .verifyDual .. | .hash .. | .hmac ..
  | .random .. | .tallyWrite .. | .rbAdvance .. | .selftest .. | .zeroiseAll .. =>
    [.thr, .sw, .ports, .hj, .stk, .cnt, .fu, .ans, .outbox]
  | .hjCommandComplete .. =>
    [.mem, .thr, .sw, .ports, .hm, .hj, .stk, .cnt, .fu, .free, .outbox]
  | .keyEraseWaitExpiry .. | .pageRead .. | .entropyHealthFail =>
    [.thr, .sw, .ports, .hj, .stk, .cnt, .fu, .outbox]
  | .ungateComplete .. =>
    [.mem, .thr, .flc, .sw, .ports, .hm, .stk, .cnt, .fu, .free, .outbox]
  | .spiFrameEnd .. | .sidebandSweep =>
    [.br, .fu, .outbox]
  | .read64 .. | .read32 .. | .write64 .. | .write32 .. | .spiAccessConclude =>
    [.br]
  | .spiAccessTimeout | .reassemblyTimeout .. =>
    [.br, .fu]
  | .smbusPacket .. =>
    [.mem, .thr, .stk, .br, .fu, .outbox]
  | .mctpTransmit .. | .rxBufferRelease .. =>
    [.br, .fu, .ans]
  | .mctpTransmitDone .. | .mctpTransmitTimeout .. =>
    [.thr, .stk, .br, .fu, .free, .outbox]
  | .noticeRetry =>
    [.thr, .stk, .br, .fu]
  | .expanderReadDone .. =>
    [.mem, .thr, .sw, .ports, .hm, .plc, .stk, .dmp, .br, .fu, .outbox]
  | .getEndpointId .. | .setEndpointId .. | .getMctpVersionSupport .. | .getMessageTypeSupport .. | .getState .. | .readLog .. =>
    [.br, .outbox]
  | .responderWarmReset .. =>
    [.mem, .thr, .flc, .sw, .ports, .hm, .plc, .cmt, .loads, .loadTags, .fl, .inst, .hj, .stk, .pu, .br, .cnt, .fu, .pins, .clk, .outbox]
  | .pwrgoodRise .. =>
    [.mem, .thr, .flc, .sw, .ports, .hm, .plc, .cmt, .loads, .loadTags, .fl, .inst, .hj, .stk, .dmp, .br, .cnt, .fu, .pins, .clk]
  | .pwrgoodFall | .resetNAssert | .resetFlushTimeout =>
    [.mem, .thr, .flc, .sw, .ports, .hm, .plc, .cmt, .loads, .loadTags, .fl, .inst, .hj, .stk, .pu, .cnt, .fu, .pins, .clk]
  | .resetNRelease =>
    [.pu, .pins]
  | .puWarmReset .. =>
    [.mem, .thr, .flc, .sw, .ports, .hm, .plc, .cmt, .loads, .loadTags, .fl, .inst, .hj, .stk, .pu, .cnt, .fu, .pins, .clk, .ans, .outbox]
  | .selfTestStageDone .. =>
    [.mem, .thr, .sw, .ports, .hj, .stk, .dmp, .br, .cnt, .fu, .pins, .outbox]
  | .stageTimeout =>
    [.dmp, .br, .fu, .pins]
  | .counterSweep .. =>
    [.cnt, .fu, .ans]
  | .periodicSweep =>
    [.cnt]
  | .sweepComplete .. =>
    [.mem, .thr, .stk, .cnt, .fu, .free]
  | .counterNoticeRetry =>
    [.thr, .stk, .cnt, .fu]
  | .referenceClockReturn .. =>
    [.mem, .thr, .plc, .stk, .cnt, .fu]

/-- The registers whose fields a command may change, in any state and on any operands; none where a command may reach any
(an access by offset, a commit, a reset) or more than 20. -/
def regsOf : Instr → Option (List RegName)
  | .registerWrite .. | .reservedAccess .. | .registerReadClear .. | .portRetrain .. | .loopEnable .. | .ingressRequest .. | .penaltyRelease ..
  | .mscFlushDone | .fld .. | .fldu .. | .fst .. | .fstu .. | .flineLd .. | .flineLdu .. | .flineSt .. | .flineStu .. | .amoFabric .. | .cld ..
  | .cst .. | .stgr .. | .mbsend .. | .dmal .. | .blockBeatConclude .. | .retryReissue .. | .clearAll .. | .commitApply .. | .flueStop ..
  | .flueAbort .. | .moverGrant .. | .fluePreemption .. | .descriptorFetch .. | .flueBeatReadAnswer .. | .flueBeatWriteConclude .. | .cqAppend ..
  | .helperReturn .. | .helperTimeout .. | .wqEnable .. | .wqDisable .. | .wqEntryStart .. | .wqDrainTimeout .. | .create .. | .destroy .. | .freeze ..
  | .freezeComplete .. | .thaw .. | .save .. | .restore .. | .fluePut .. | .wqPut .. | .threadPut .. | .instReset .. | .instRelease .. | .reportTake
  | .sirfinDataFrame .. | .sirfinCtrlFrame .. | .sirfinIdleFrame .. | .sirfinTrainFrame .. | .sirfinFrameSend .. | .sirfinLinkDisable .. | .joinComplete
  | .splitTimeout .. | .hjCommandComplete .. | .spiIssue | .readReg .. | .responderWarmReset .. | .alwaysOnReset | .pwrgoodRise .. | .pwrgoodFall
  | .resetNAssert | .puWarmReset .. | .resetFlushTimeout | .selfTestStageDone .. =>
    none
  | .paceWindowEnd .. =>
    some [.AVS_STATUS, .PACE_MON, .FU_STATUS, .FU_INJ, .FU_SRC, .DMP_GSTATUS, .DMP_STATUS, .DMP_ERR, .BR_ALERT, .PU_STATUS]
  | .autoRaise =>
    some [.AVS_STATUS]
  | .avsTargetWrite .. =>
    some [.AVS_CTRL, .AVS_STATUS, .PG_VIOL_ADDR, .PG_VIOL_INFO, .PG_VIOL_CNT, .TG_VIOL_ADDR, .TG_VIOL_INFO, .TG_VIOL_CNT, .FU_INJ]
  | .avsNak =>
    some [.AVS_STATUS, .FU_INJ]
  | .islandClockLoss .. =>
    some [.ISL_STATUS, .PC_LINK_STATUS, .PC_QUIESCE_STATUS, .PC_ERR_STATUS, .MOD_ENTRY, .VPPB_ENTRY, .HOME_SLICE_STATUS, .PLC_CTRL, .PLC_STATUS,
    .PLC_LOG_IDX, .PLC_MIG, .FU_INJ, .FU_SRC]
  | .islandClockReturn .. =>
    some [.ISL_STATUS, .PC_LINK_STATUS, .PC_QUIESCE_STATUS, .PC_TAG_STATUS, .MS_STATUS, .INST_MS, .PLC_STATUS, .PLC_LOG_IDX, .FU_INJ, .FU_SRC, .CNT_ERR,
    .CHM_IDX, .CNT_SEL, .CNT_VAL]
  | .syncErr .. =>
    some [.ISL_STATUS, .FU_INJ]
  | .holdover | .ppsAbsence =>
    some [.TB_STATUS, .FU_INJ, .FU_SRC]
  | .tbStep .. =>
    some [.TB_NOW, .TB_STEP, .TB_STATUS, .PG_VIOL_ADDR, .PG_VIOL_INFO, .PG_VIOL_CNT, .TG_VIOL_ADDR, .TG_VIOL_INFO, .TG_VIOL_CNT, .FU_INJ]
  | .ppsEdge =>
    some [.TB_ADJ, .TB_STATUS, .FU_SRC]
  | .partnerPresence .. | .roleConflictRetry .. =>
    some [.PC_LINK_STATUS, .PC_QUIESCE_STATUS, .PC_TAG_STATUS, .MS_STATUS, .INST_MS, .FU_INJ, .CNT_ERR, .CNT_SEL, .CNT_VAL]
  | .trainingSetsReceived .. | .trainTimeout .. | .moduleAuthentication .. | .replayWindowEnd .. =>
    some [.PC_LINK_STATUS, .PC_ERR_STATUS, .FU_INJ]
  | .equalisationFail .. | .authTimeout .. =>
    some [.PC_ERR_STATUS, .FU_INJ]
  | .linkUp .. =>
    some [.PC_LINK_STATUS, .PC_QUIESCE_STATUS, .BIND_STATUS, .MOD_ENTRY, .VPPB_ENTRY, .FU_INJ, .FU_SRC]
  | .recoveryComplete .. | .ideKeyInstall .. =>
    some [.PC_LINK_STATUS]
  | .quiesce .. | .portRelease .. =>
    some [.PC_QUIESCE_CTRL, .PC_QUIESCE_STATUS, .PG_VIOL_ADDR, .PG_VIOL_INFO, .PG_VIOL_CNT, .TG_VIOL_ADDR, .TG_VIOL_INFO, .TG_VIOL_CNT, .FU_INJ]
  | .portReset .. =>
    some [.PC_LINK_STATUS, .PC_QUIESCE_CTRL, .PC_QUIESCE_STATUS, .MOD_ENTRY, .VPPB_ENTRY, .HOME_SLICE_STATUS, .PLC_CTRL, .PLC_STATUS, .PLC_LOG_IDX,
    .PLC_MIG, .PG_VIOL_ADDR, .PG_VIOL_INFO, .PG_VIOL_CNT, .TG_VIOL_ADDR, .TG_VIOL_INFO, .TG_VIOL_CNT, .FU_INJ]
  | .portResetComplete .. =>
    some [.PC_LINK_STATUS, .PC_TAG_STATUS, .MS_STATUS, .INST_MS, .FU_INJ, .CNT_ERR, .CNT_SEL, .CNT_VAL]
  | .drainDone .. =>
    some [.PC_QUIESCE_STATUS]
  | .drainTimeout .. =>
    some [.PC_QUIESCE_STATUS, .PC_ERR_STATUS, .MS_STATUS, .INST_MS, .FU_INJ, .CNT_ERR, .CNT_SEL, .CNT_VAL]
  | .linkLoss .. =>
    some [.PC_LINK_STATUS, .PC_QUIESCE_STATUS, .PC_ERR_STATUS, .MOD_ENTRY, .VPPB_ENTRY, .HOME_SLICE_STATUS, .PLC_CTRL, .PLC_STATUS, .PLC_LOG_IDX,
    .PLC_MIG, .FU_INJ, .FU_SRC]
  | .widthChange .. =>
    some [.PC_WIDTH_CFG, .PC_LINK_STATUS, .PC_QUIESCE_STATUS, .MOD_ENTRY, .VPPB_ENTRY, .HOME_SLICE_STATUS, .PLC_CTRL, .PLC_STATUS, .PLC_LOG_IDX, .PLC_MIG,
    .PG_VIOL_ADDR, .PG_VIOL_INFO, .PG_VIOL_CNT, .TG_VIOL_ADDR, .TG_VIOL_INFO, .TG_VIOL_CNT, .FU_INJ]
  | .loopDisable .. =>
    some [.PC_LINK_STATUS, .PC_QUIESCE_STATUS, .PC_LOOP_CFG, .MOD_ENTRY, .VPPB_ENTRY, .HOME_SLICE_STATUS, .PLC_CTRL, .PLC_STATUS, .PLC_LOG_IDX, .PLC_MIG,
    .PG_VIOL_ADDR, .PG_VIOL_INFO, .PG_VIOL_CNT, .TG_VIOL_ADDR, .TG_VIOL_INFO, .TG_VIOL_CNT, .FU_INJ]
  | .ideCheckFail .. =>
    some [.PC_LINK_STATUS, .PC_ERR_STATUS, .MS_STATUS, .INST_MS, .FU_INJ, .CNT_ERR, .CNT_SEL, .CNT_VAL]
  | .spdmMessage .. | .spillReadback .. | .shaperTick | .vslotPowerOff .. | .biconflict .. | .zeroFillDone .. | .heatDecay | .placementCommit
  | .threadTimerExpiry .. | .hearthSnoop .. | .commitShadowAck .. | .emberToggle | .joinCopyDone .. | .resetNRelease | .thermtrip =>
    some []
  | .ageExpiry .. =>
    some [.SW_AGE_STATUS, .MS_STATUS, .INST_MS, .FU_INJ, .CNT_ERR, .CNT_SEL, .CNT_VAL]
  | .egressDeparture .. =>
    some [.PC_TAG_STATUS, .FU_INJ, .CNT_ERR, .CNT_SEL, .CNT_VAL]
  | .pathFenceLift .. =>
    some [.EGQ_STATUS]
  | .responseIngress .. =>
    some [.PC_TAG_STATUS, .SW_STATUS, .MIR_STATUS, .EGQ_STATUS, .MS_STATUS, .INST_MS, .HOME_SLICE_STATUS, .FU_INJ, .CNT_ERR, .CNT_SEL, .CNT_VAL]
  | .pbrFlitArrival .. =>
    some [.PC_TAG_STATUS, .PBR_STATUS, .SW_STATUS, .MIR_STATUS, .EGQ_STATUS, .MS_STATUS, .MTR_STATUS, .INST_MS, .HOME_SLICE_STATUS, .FU_INJ, .CNT_ERR,
    .CNT_SEL, .CNT_VAL]
  | .bufferEccError .. =>
    some [.SW_ERR_STATUS, .MS_STATUS, .INST_MS, .FU_INJ, .CNT_ERR, .CNT_SEL, .CNT_VAL]
  | .dcAdd .. | .dcRelease .. | .dcForceRelease .. | .ptBind .. | .ptUnbind .. | .ldAttach .. | .ldDetach .. =>
    some [.BIND_CMD, .BIND_STATUS, .PG_VIOL_ADDR, .PG_VIOL_INFO, .PG_VIOL_CNT, .TG_VIOL_ADDR, .TG_VIOL_INFO, .TG_VIOL_CNT, .FU_INJ]
  | .addCapacityResponse .. | .releaseCapacityResponse .. | .dcTimeout =>
    some [.BIND_STATUS, .FU_INJ]
  | .unbindTimeout =>
    some [.BIND_STATUS]
  | .homeRequestArrival .. =>
    some [.HOME_SLICE_STATUS]
  | .homeRequestActivate .. | .snoopTimeout .. | .moduleAccessComplete .. =>
    some [.PC_TAG_STATUS, .SW_STATUS, .EGQ_STATUS, .MS_STATUS, .INST_MS, .HOME_ERR_STATUS, .HOME_SLICE_STATUS, .SF_STATUS, .MSC_STATUS, .PLC_CTRL,
    .PLC_STATUS, .PLC_MIG, .FU_INJ, .CNT_ERR, .CNT_SEL, .CNT_VAL]
  | .snoopAnswer .. =>
    some [.PC_TAG_STATUS, .SW_STATUS, .EGQ_STATUS, .MS_STATUS, .INST_MS, .HOME_ERR_STATUS, .HOME_CNT, .HOME_SLICE_STATUS, .SF_STATUS, .MSC_STATUS,
    .PLC_CTRL, .PLC_STATUS, .PLC_MIG, .FU_INJ, .CNT_ERR, .CNT_SEL, .CNT_VAL]
  | .memTimeout .. =>
    some [.PC_TAG_STATUS, .SW_STATUS, .EGQ_STATUS, .MS_STATUS, .INST_MS, .HOME_ERR_STATUS, .HOME_SLICE_STATUS, .SF_STATUS, .MSC_STATUS, .PLC_CTRL,
    .PLC_STATUS, .PLC_LOG_IDX, .PLC_MIG, .FU_INJ, .CNT_ERR, .CNT_SEL, .CNT_VAL]
  | .wbArrival .. =>
    some [.PC_TAG_STATUS, .SW_STATUS, .EGQ_STATUS, .MS_STATUS, .INST_MS, .HOME_ERR_STATUS, .HOME_CNT, .HOME_SLICE_STATUS, .SF_STATUS, .PLC_CTRL,
    .PLC_STATUS, .PLC_MIG, .FU_INJ, .CNT_ERR, .CNT_SEL, .CNT_VAL]
  | .cleanEvictionNotice .. =>
    some [.SF_STATUS, .FU_INJ]
  | .forwardedData .. | .homeGrant .. =>
    some [.MS_STATUS, .INST_MS, .FU_INJ, .CNT_ERR, .CNT_SEL, .CNT_VAL]
  | .sfEccError .. =>
    some [.HOME_ERR_STATUS, .HOME_SLICE_STATUS, .FU_INJ, .FU_SRC]
  | .mscEccError .. =>
    some [.PC_TAG_STATUS, .SW_STATUS, .EGQ_STATUS, .MS_STATUS, .INST_MS, .HOME_ERR_STATUS, .HOME_SLICE_STATUS, .PLC_CTRL, .PLC_STATUS, .PLC_MIG, .FU_INJ,
    .CNT_ERR, .CNT_SEL, .CNT_VAL]
  | .sfProbe .. =>
    some [.SF_PROBE_CTRL, .SF_PROBE_DATA0, .SF_PROBE_DATA1, .PG_VIOL_ADDR, .PG_VIOL_INFO, .PG_VIOL_CNT, .TG_VIOL_ADDR, .TG_VIOL_INFO, .TG_VIOL_CNT,
    .FU_INJ]
  | .sfRebuild .. =>
    some [.SF_PROBE_CTRL, .PG_VIOL_ADDR, .PG_VIOL_INFO, .PG_VIOL_CNT, .TG_VIOL_ADDR, .TG_VIOL_INFO, .TG_VIOL_CNT, .FU_INJ]
  | .sfRebuildDone =>
    some [.SF_PROBE_CTRL, .HOME_SLICE_STATUS, .SF_STATUS, .FU_SRC]
  | .mscFlush .. =>
    some [.PC_TAG_STATUS, .SW_STATUS, .EGQ_STATUS, .MS_STATUS, .INST_MS, .MSC_CTRL, .HOME_SLICE_STATUS, .PLC_CTRL, .PLC_STATUS, .PLC_MIG, .PG_VIOL_ADDR,
    .PG_VIOL_INFO, .PG_VIOL_CNT, .TG_VIOL_ADDR, .TG_VIOL_INFO, .TG_VIOL_CNT, .FU_INJ, .CNT_ERR, .CNT_SEL, .CNT_VAL]
  | .moveRequestTake =>
    some [.PLC_CTRL, .PLC_STATUS, .PLC_ERR_STATUS, .PLC_REQ_IDX, .PLC_LOG_IDX, .PLC_MIG, .FU_INJ]
  | .firstCopyDone .. | .recopyPassDone .. | .syncDeadline .. =>
    some [.HOME_SLICE_STATUS, .PLC_CTRL, .PLC_STATUS, .PLC_ERR_STATUS, .PLC_LOG_IDX, .PLC_MIG, .FU_INJ]
  | .syncWritesDrained .. =>
    some [.PLC_CTRL, .PLC_STATUS, .PLC_MIG]
  | .finalPassDone .. =>
    some [.PLC_CTRL, .PLC_STATUS, .PLC_ERR_STATUS, .PLC_MIG, .FU_INJ]
  | .oldLocationRelease .. =>
    some [.PLC_CTRL, .PLC_STATUS, .PLC_LOG_IDX, .PLC_MIG]
  | .placementRunStop .. =>
    some [.HOME_SLICE_STATUS, .PLC_CTRL, .PLC_STATUS, .PLC_LOG_IDX, .PLC_MIG, .PG_VIOL_ADDR, .PG_VIOL_INFO, .PG_VIOL_CNT, .TG_VIOL_ADDR, .TG_VIOL_INFO,
    .TG_VIOL_CNT, .FU_INJ]
  | .pinPage .. | .unpinPage .. | .pinSeg .. | .unpinSeg .. | .slotClaim .. | .slotFree .. | .abortMig .. =>
    some [.HOME_SLICE_STATUS, .PLC_CTRL, .PLC_STATUS, .PLC_ERR_STATUS, .PLC_CMD, .PLC_CMD_STATUS, .PLC_LOG_IDX, .PLC_MIG, .PG_VIOL_ADDR, .PG_VIOL_INFO,
    .PG_VIOL_CNT, .TG_VIOL_ADDR, .TG_VIOL_INFO, .TG_VIOL_CNT, .FU_INJ]
  | .plcProbe .. =>
    some [.PLC_PROBE_CTRL, .PLC_PROBE_DATA0, .PLC_PROBE_DATA1, .PG_VIOL_ADDR, .PG_VIOL_INFO, .PG_VIOL_CNT, .TG_VIOL_ADDR, .TG_VIOL_INFO, .TG_VIOL_CNT,
    .FU_INJ]
  | .alu .. | .addi .. | .andi .. | .ori .. | .xori .. | .shi .. | .cati .. | .beq .. | .bne .. | .blt .. | .bge .. | .bltu .. | .bgeu .. | .jal ..
  | .jalr .. | .ldb .. | .ldh .. | .ldw .. | .ldd .. | .stb .. | .sth .. | .stw .. | .std .. | .amoLocal .. | .fenceL .. | .fenceF .. | .fenceA ..
  | .fenceI .. | .crc .. | .mix .. | .fhash .. | .stgm .. | .ecmt .. | .eabort .. | .evtwait .. | .evtsig .. | .mbrecv .. | .bmove .. | .bfill ..
  | .bcmp .. | .mfs .. | .mts .. | .syscall .. | .brk .. | .tret .. | .yield .. | .halt .. | .interruptTake .. | .threadStop .. | .threadClear .. =>
    some [.PC_TAG_STATUS, .SW_STATUS, .MIR_STATUS, .EGQ_STATUS, .HOME_SLICE_STATUS, .HTH_STATUS, .ENG_CFG, .TH_STATUS, .STG_STATUS, .PG_VIOL_ADDR,
    .PG_VIOL_INFO, .PG_VIOL_CNT, .TG_CTRL, .TG_VIOL_ADDR, .TG_VIOL_INFO, .TG_VIOL_CNT, .FU_INJ, .CNT_ERR, .CHM_IDX, .CHM_STAT]
  | .fabricAnswer .. | .evtwaitTimeout .. =>
    some [.PC_TAG_STATUS, .SW_STATUS, .MIR_STATUS, .EGQ_STATUS, .HOME_SLICE_STATUS, .HTH_STATUS, .ENG_CFG, .TH_STATUS, .STG_STATUS, .TG_CTRL, .FU_INJ,
    .CNT_ERR, .CHM_IDX, .CHM_STAT]
  | .postedStoreConclude .. =>
    some [.PC_TAG_STATUS, .SW_STATUS, .MIR_STATUS, .EGQ_STATUS, .MS_STATUS, .MTR_STATUS, .INST_MS, .HOME_SLICE_STATUS, .HTH_STATUS, .FU_INJ, .CNT_ERR,
    .CHM_IDX, .CHM_STAT, .CNT_SEL, .CNT_VAL]
  | .threadStart .. =>
    some [.TH_STATUS, .PG_VIOL_ADDR, .PG_VIOL_INFO, .PG_VIOL_CNT, .TG_VIOL_ADDR, .TG_VIOL_INFO, .TG_VIOL_CNT, .FU_INJ]
  | .imageLoad .. =>
    some [.HTH_LOAD_CMD, .HTH_LOAD_STATUS, .ENG_CFG, .TH_STATUS, .PG_VIOL_ADDR, .PG_VIOL_INFO, .PG_VIOL_CNT, .TG_VIOL_ADDR, .TG_VIOL_INFO, .TG_VIOL_CNT,
    .FU_INJ, .HJ_GATE]
  | .imageLoadComplete .. =>
    some [.HTH_LOAD_STATUS, .ENG_CFG, .TH_VEC, .TH_STATUS, .FU_INJ, .HJ_GATE]
  | .imageVerifyTimeout .. =>
    some [.HTH_LOAD_STATUS, .ENG_CFG, .TH_STATUS, .HJ_GATE]
  | .commitTake .. | .commitTimeout .. =>
    some [.PC_TAG_STATUS, .BIND_STATUS, .SW_STATUS, .MIR_STATUS, .EGQ_STATUS, .HOME_SLICE_STATUS, .HTH_STATUS, .ENG_CFG, .TH_STATUS, .STG_STATUS,
    .TG_CTRL, .FU_INJ, .BR_CMT_STATUS, .CNT_ERR, .CHM_IDX, .CHM_STAT]
  | .commitDecision =>
    some [.HOME_SLICE_STATUS, .PLC_CTRL, .PLC_STATUS, .PLC_EPOCH_STATUS, .PLC_INST, .PLC_MIG, .CMT_STATUS]
  | .fluDoorbell .. =>
    some [.FLU_STATUS, .FLU_DOORBELL, .FLU_DESC, .RQL_CFG, .PG_VIOL_ADDR, .PG_VIOL_INFO, .PG_VIOL_CNT, .TG_VIOL_ADDR, .TG_VIOL_INFO, .TG_VIOL_CNT,
    .FU_INJ]
  | .flueResume .. =>
    some [.FLU_CTRL, .FLU_STATUS, .RQL_CFG, .PG_VIOL_ADDR, .PG_VIOL_INFO, .PG_VIOL_CNT, .TG_VIOL_ADDR, .TG_VIOL_INFO, .TG_VIOL_CNT, .FU_INJ]
  | .flueReset .. =>
    some [.FLU_CFG, .FLU_CTRL, .FLU_STATUS, .FLU_DESC, .FLU_SRC, .FLU_DST, .FLU_LEFT, .FLU_ACC, .FLU_RING_BASE, .FLU_RING_IDX, .FLU_ERR, .RQL_CFG,
    .FLU_LAST_CMPL, .PG_VIOL_ADDR, .PG_VIOL_INFO, .PG_VIOL_CNT, .TG_VIOL_ADDR, .TG_VIOL_INFO, .TG_VIOL_CNT, .FU_INJ]
  | .fluAssignWrite .. =>
    some [.FLU_ASSIGN, .FLU_STATUS, .RQL_CFG, .PG_VIOL_ADDR, .PG_VIOL_INFO, .PG_VIOL_CNT, .TG_VIOL_ADDR, .TG_VIOL_INFO, .TG_VIOL_CNT, .FU_INJ]
  | .cqHeadWrite .. =>
    some [.CQ_IDX, .PG_VIOL_ADDR, .PG_VIOL_INFO, .PG_VIOL_CNT, .TG_VIOL_ADDR, .TG_VIOL_INFO, .TG_VIOL_CNT, .FU_INJ]
  | .flueRetryReissue .. =>
    some [.FLU_STATUS]
  | .requestLineAssert .. =>
    some [.FLU_STATUS, .RQL_CFG]
  | .rqlSet .. =>
    some [.FLU_STATUS, .RQL_CFG, .PG_VIOL_ADDR, .PG_VIOL_INFO, .PG_VIOL_CNT, .TG_VIOL_ADDR, .TG_VIOL_INFO, .TG_VIOL_CNT, .FU_INJ]
  | .wqDoorbell .. | .wqInlineDoorbell .. =>
    some [.FLU_STATUS, .RQL_CFG, .WQ_IDX, .WQ_STATUS, .WQ_ERR, .PG_VIOL_ADDR, .PG_VIOL_INFO, .PG_VIOL_CNT, .TG_VIOL_ADDR, .TG_VIOL_INFO, .TG_VIOL_CNT,
    .FU_INJ]
  | .wqCfgWrite .. =>
    some [.FLU_CFG, .FLU_STATUS, .WQ_CFG, .PG_VIOL_ADDR, .PG_VIOL_INFO, .PG_VIOL_CNT, .TG_VIOL_ADDR, .TG_VIOL_INFO, .TG_VIOL_CNT, .FU_INJ]
  | .headWriteConclude .. =>
    some [.PC_TAG_STATUS, .SW_STATUS, .MIR_STATUS, .EGQ_STATUS, .MS_STATUS, .MTR_STATUS, .INST_MS, .HOME_SLICE_STATUS, .WQ_ERR, .PG_VIOL_ADDR,
    .PG_VIOL_INFO, .PG_VIOL_CNT, .TG_VIOL_ADDR, .TG_VIOL_INFO, .TG_VIOL_CNT, .FU_INJ, .CNT_ERR, .CNT_SEL, .CNT_VAL]
  | .instResetComplete .. =>
    some [.MS_STATUS, .INST_MS, .INST_LAT, .INST_STATUS, .FU_INJ, .CNT_VAL]
  | .mbxDoorbell .. =>
    some [.MBX_STATUS, .PG_VIOL_ADDR, .PG_VIOL_INFO, .PG_VIOL_CNT, .TG_VIOL_ADDR, .TG_VIOL_INFO, .TG_VIOL_CNT, .FU_INJ]
  | .mbxTimeout .. =>
    some [.INST_ERR, .MBX_STATUS, .FU_INJ]
  | .threadGateLoWrite .. =>
    some [.PG_VIOL_ADDR, .PG_VIOL_INFO, .PG_VIOL_CNT, .TG_VIOL_ADDR, .TG_VIOL_INFO, .TG_VIOL_CNT, .TG_LO, .TG_HI, .FU_INJ]
  | .threadGateHiWrite .. =>
    some [.PG_VIOL_ADDR, .PG_VIOL_INFO, .PG_VIOL_CNT, .TG_VIOL_ADDR, .TG_VIOL_INFO, .TG_VIOL_CNT, .TG_HI, .FU_INJ]
  | .gateSwap .. =>
    some [.PG_VIOL_ADDR, .PG_VIOL_INFO, .PG_VIOL_CNT, .TG_CTRL, .TG_VIOL_ADDR, .TG_VIOL_INFO, .TG_VIOL_CNT, .FU_INJ]
  | .logRingWrite .. =>
    some [.FU_STATUS, .FU_LOG_IDX, .FU_LOG_STATUS, .FU_INJ, .FU_BACKSTOP0, .FU_BACKSTOP1]
  | .odlCheckFail .. =>
    some [.FU_STATUS, .FU_LOG_STATUS, .FU_INJ, .FU_BACKSTOP0, .FU_BACKSTOP1]
  | .ack .. | .ackClass .. | .fuRelease .. | .faultClr .. | .emberRearm .. =>
    some [.PC_LINK_STATUS, .PC_QUIESCE_STATUS, .PC_TAG_STATUS, .MS_STATUS, .INST_MS, .FLU_STATUS, .RQL_CFG, .PG_VIOL_ADDR, .PG_VIOL_INFO, .PG_VIOL_CNT,
    .TG_VIOL_ADDR, .TG_VIOL_INFO, .TG_VIOL_CNT, .FU_STATUS, .FU_CMD, .FU_CMD_STATUS, .FU_INJ, .CNT_ERR, .CNT_SEL, .CNT_VAL]
  | .faultInject .. =>
    some [.PG_VIOL_ADDR, .PG_VIOL_INFO, .PG_VIOL_CNT, .TG_VIOL_ADDR, .TG_VIOL_INFO, .TG_VIOL_CNT, .FU_INJ]
  | .sirfinEqualisationDone .. | .sirfinRefusedRetry .. | .sirfinFarEndPresence .. =>
    some [.STK_PEER, .SRF_STATUS]
  | .sirfinLaneFail .. =>
    some [.FU_INJ, .STK_PEER, .SRF_STATUS, .SRF_ERR]
  | .replayTimeout .. =>
    some [.FU_INJ, .STK_PEER, .SRF_STATUS, .SRF_CNT, .SRF_ERR]
  | .sirfinRetrain .. =>
    some [.PG_VIOL_ADDR, .PG_VIOL_INFO, .PG_VIOL_CNT, .TG_VIOL_ADDR, .TG_VIOL_INFO, .TG_VIOL_CNT, .FU_INJ, .STK_PEER, .SRF_CFG, .SRF_STATUS, .SRF_ERR]
  | .retrainComplete .. =>
    some [.EGQ_STATUS, .FU_INJ, .STK_STATUS, .STK_ERR, .STK_PEER, .SRF_STATUS, .HJ_ERR, .HJ_GATE]
  | .retrainTimeout .. | .sirfinLinkLoss .. =>
    some [.EGQ_STATUS, .MS_STATUS, .INST_MS, .FU_INJ, .FU_SRC, .STK_STATUS, .STK_ERR, .STK_PEER, .SRF_STATUS, .SRF_CREDIT, .SRF_ERR, .HJ_GATE, .CNT_ERR,
    .CNT_SEL, .CNT_VAL]
  | .xtTimeout .. =>
    some [.MS_STATUS, .INST_MS, .FU_INJ, .STK_ERR, .STK_CNT, .CNT_ERR, .CNT_SEL, .CNT_VAL]
  | .joinAuthDone .. =>
    some [.TB_NOW, .TB_STATUS, .FU_INJ, .STK_STATUS, .STK_ERR, .SRF_STATUS, .HJ_GATE]
  | .joinAuthTimeout =>
    some [.FU_INJ, .STK_STATUS, .STK_ERR, .SRF_STATUS, .HJ_GATE]
  | .timeMeasure =>
    some [.TB_NOW, .TB_ADJ, .TB_STATUS, .FU_INJ, .FU_SRC, .STK_TIME, .STK_ERR]
  | .stackIdDrawRetry =>
    some [.FU_INJ, .STK_STATUS, .STK_ERR, .SRF_STATUS, .HJ_ERR, .HJ_GATE]
  | .powerOn .. =>
    some [.PG_VIOL_ADDR, .PG_VIOL_INFO, .PG_VIOL_CNT, .TG_VIOL_ADDR, .TG_VIOL_INFO, .TG_VIOL_CNT, .FU_INJ, .DMP_GSTATUS, .DMP_CTRL, .DMP_STATUS]
  | .powerOff .. =>
    some [.PC_LINK_STATUS, .PC_QUIESCE_STATUS, .MOD_ENTRY, .VPPB_ENTRY, .HOME_SLICE_STATUS, .PLC_CTRL, .PLC_STATUS, .PLC_LOG_IDX, .PLC_MIG, .PG_VIOL_ADDR,
    .PG_VIOL_INFO, .PG_VIOL_CNT, .TG_VIOL_ADDR, .TG_VIOL_INFO, .TG_VIOL_CNT, .FU_INJ, .DMP_GSTATUS, .DMP_CTRL, .DMP_STATUS]
  | .damperClear .. =>
    some [.PG_VIOL_ADDR, .PG_VIOL_INFO, .PG_VIOL_CNT, .TG_VIOL_ADDR, .TG_VIOL_INFO, .TG_VIOL_CNT, .FU_INJ, .FU_SRC, .DMP_GSTATUS, .DMP_CTRL, .DMP_STATUS,
    .DMP_ERR]
  | .curveSelectWrite .. =>
    some [.PG_VIOL_ADDR, .PG_VIOL_INFO, .PG_VIOL_CNT, .TG_VIOL_ADDR, .TG_VIOL_INFO, .TG_VIOL_CNT, .FU_INJ, .DMP_CFG, .DMP_STATUS]
  | .damperCurrentSample .. =>
    some [.FU_INJ, .FU_SRC, .DMP_GSTATUS, .DMP_STATUS, .DMP_MEAS, .DMP_CAP, .DMP_ERR]
  | .damperVoltageSample .. =>
    some [.FU_INJ, .FU_SRC, .DMP_GSTATUS, .DMP_STATUS, .DMP_MEAS, .DMP_ERR]
  | .fastTrip .. | .gateTimeout .. =>
    some [.FU_INJ, .FU_SRC, .DMP_GSTATUS, .DMP_STATUS, .DMP_ERR]
  | .captureWindowEnd =>
    some [.DMP_CAP]
  | .pwrwarnHoldEnd .. =>
    some [.DMP_STATUS]
  | .pfailAssert =>
    some [.PC_TAG_STATUS, .SW_STATUS, .EGQ_STATUS, .MS_STATUS, .INST_MS, .HOME_CFG, .MSC_CTRL, .HOME_SLICE_STATUS, .PLC_CTRL, .PLC_STATUS, .PLC_MIG,
    .FU_INJ, .FU_SRC, .DMP_GSTATUS, .DMP_GERR, .DMP_STATUS, .CNT_ERR, .CNT_SEL, .CNT_VAL]
  | .pfailRelease =>
    some [.FU_SRC, .DMP_GSTATUS]
  | .holdupTimeout =>
    some [.FU_INJ, .FU_SRC, .DMP_GERR]
  | .keyGen .. | .keyImport .. | .keyErase .. | .keyInfo .. | .anchorSet .. | .gcmEnc .. | .gcmDec .. | .sign .. | .verifyDual .. | .hash .. | .hmac ..
  | .random .. | .tallyWrite .. | .rbAdvance .. | .selftest .. | .zeroiseAll .. =>
    some [.PC_LINK_STATUS, .MS_STATUS, .INST_MS, .PG_VIOL_ADDR, .PG_VIOL_INFO, .PG_VIOL_CNT, .TG_VIOL_ADDR, .TG_VIOL_INFO, .TG_VIOL_CNT, .FU_INJ,
    .HJ_DRBG_STATUS, .HJ_CMD, .HJ_RESP, .CNT_ERR, .CNT_SEL, .CNT_VAL]
  | .keyEraseWaitExpiry .. =>
    some [.PC_LINK_STATUS, .MS_STATUS, .INST_MS, .PG_VIOL_ADDR, .PG_VIOL_INFO, .PG_VIOL_CNT, .TG_VIOL_ADDR, .TG_VIOL_INFO, .TG_VIOL_CNT, .FU_INJ, .HJ_ERR,
    .HJ_DRBG_STATUS, .HJ_RESP, .CNT_ERR, .CNT_SEL, .CNT_VAL]
  | .pageRead .. =>
    some [.PC_LINK_STATUS, .MS_STATUS, .INST_MS, .PG_VIOL_ADDR, .PG_VIOL_INFO, .PG_VIOL_CNT, .TG_VIOL_ADDR, .TG_VIOL_INFO, .TG_VIOL_CNT, .FU_INJ,
    .HJ_BOOT_STATUS, .HJ_ERR, .HJ_DRBG_STATUS, .HJ_RESP, .CNT_ERR, .CNT_SEL, .CNT_VAL]
  | .entropyHealthFail =>
    some [.PC_LINK_STATUS, .MS_STATUS, .INST_MS, .PG_VIOL_ADDR, .PG_VIOL_INFO, .PG_VIOL_CNT, .TG_VIOL_ADDR, .TG_VIOL_INFO, .TG_VIOL_CNT, .FU_INJ, .FU_SRC,
    .HJ_ERR, .HJ_DRBG_STATUS, .HJ_RESP, .CNT_ERR, .CNT_SEL, .CNT_VAL]
  | .drbgRecoveryAttempt .. =>
    some [.FU_SRC, .HJ_DRBG_STATUS]
  | .drbgReseed =>
    some [.HJ_DRBG_STATUS]
  | .clkGateRequest .. | .pwrGateRequest .. =>
    some [.PG_VIOL_ADDR, .PG_VIOL_INFO, .PG_VIOL_CNT, .TG_VIOL_ADDR, .TG_VIOL_INFO, .TG_VIOL_CNT, .FU_INJ, .HJ_ERR, .HJ_GATE]
  | .ungate .. =>
    some [.PG_VIOL_ADDR, .PG_VIOL_INFO, .PG_VIOL_CNT, .TG_VIOL_ADDR, .TG_VIOL_INFO, .TG_VIOL_CNT, .FU_INJ, .HJ_GATE]
  | .holdRelease .. =>
    some [.HJ_GATE]
  | .ungateComplete .. =>
    some [.PC_LINK_STATUS, .PC_QUIESCE_STATUS, .PC_TAG_STATUS, .SW_STATUS, .MIR_STATUS, .EGQ_STATUS, .MS_STATUS, .INST_MS, .HOME_SLICE_STATUS,
    .HTH_STATUS, .ENG_CFG, .TH_STATUS, .STG_STATUS, .TG_CTRL, .FU_INJ, .HJ_GATE, .CNT_ERR, .CNT_SEL, .CNT_VAL]
  | .spiFrameEnd .. | .smbusPacket .. | .reassemblyTimeout .. =>
    some [.FU_INJ, .BR_STATUS, .BR_CNT, .BR_ERR]
  | .read64 .. | .read32 .. | .write64 .. | .write32 .. | .spiAccessConclude | .getEndpointId .. | .setEndpointId .. | .getMctpVersionSupport ..
  | .getMessageTypeSupport .. | .getState .. | .readLog .. =>
    some [.BR_STATUS]
  | .spiAccessTimeout =>
    some [.FU_INJ, .BR_STATUS, .BR_ERR]
  | .mctpTransmit .. =>
    some [.PG_VIOL_ADDR, .PG_VIOL_INFO, .PG_VIOL_CNT, .TG_VIOL_ADDR, .TG_VIOL_INFO, .TG_VIOL_CNT, .FU_INJ, .BR_STATUS, .SMB_TX_CMD]
  | .mctpTransmitDone .. | .mctpTransmitTimeout .. =>
    some [.FU_INJ, .BR_STATUS]
  | .rxBufferRelease .. =>
    some [.PG_VIOL_ADDR, .PG_VIOL_INFO, .PG_VIOL_CNT, .TG_VIOL_ADDR, .TG_VIOL_INFO, .TG_VIOL_CNT, .FU_INJ, .BR_STATUS, .SMB_RX_REL]
  | .noticeRetry | .counterNoticeRetry =>
    some [.FU_INJ]
  | .sidebandSweep =>
    some [.FU_INJ, .BR_ERR, .SB_STATUS]
  | .expanderReadDone .. =>
    some [.PC_LINK_STATUS, .PC_QUIESCE_STATUS, .MOD_ENTRY, .VPPB_ENTRY, .HOME_SLICE_STATUS, .PLC_CTRL, .PLC_STATUS, .PLC_LOG_IDX, .PLC_MIG, .FU_INJ,
    .FU_SRC, .DMP_GSTATUS, .DMP_STATUS, .DMP_ERR, .BR_ERR, .SB_STATUS, .SB_EXP, .SB_SLOT]
  | .bridgeCommitGo .. | .bridgeCommitAbort .. =>
    some [.STG_STATUS, .PG_VIOL_ADDR, .PG_VIOL_INFO, .PG_VIOL_CNT, .TG_VIOL_ADDR, .TG_VIOL_INFO, .TG_VIOL_CNT, .FU_INJ, .BR_CMT, .BR_CMT_STATUS]
  | .stageTimeout =>
    some [.FU_STATUS, .FU_SRC, .DMP_GSTATUS, .DMP_STATUS, .DMP_ERR, .BR_ALERT, .PU_STATUS]
  | .counterSweep .. =>
    some [.PG_VIOL_ADDR, .PG_VIOL_INFO, .PG_VIOL_CNT, .TG_VIOL_ADDR, .TG_VIOL_INFO, .TG_VIOL_CNT, .FU_INJ, .CNT_CTRL, .CNT_STATUS]
  | .periodicSweep =>
    some [.CNT_STATUS]
  | .sweepComplete .. =>
    some [.FU_INJ, .CNT_STATUS, .CNT_ERR]
  | .counterSetBind .. =>
    some [.PG_VIOL_ADDR, .PG_VIOL_INFO, .PG_VIOL_CNT, .TG_VIOL_ADDR, .TG_VIOL_INFO, .TG_VIOL_CNT, .FU_INJ, .CSET_MAP, .CNT_SEL]
  | .chimneyWriteConclude .. =>
    some [.FU_INJ, .CNT_ERR]
  | .referenceClockReturn .. =>
    some [.TB_STATUS, .ISL_STATUS, .PLC_STATUS, .PLC_LOG_IDX, .FU_INJ, .FU_SRC, .CNT_ERR, .CHM_IDX]

/-- The commands of the main domain, which is without power or held in reset until the device is operational (R393 to R395; log 44). -/
def inMainDomain : Instr → Bool
  | .registerWrite .. | .reservedAccess .. | .registerReadClear .. | .paceWindowEnd .. | .autoRaise | .avsTargetWrite .. | .avsNak | .islandClockLoss ..
  | .islandClockReturn .. | .syncErr .. | .holdover | .tbStep .. | .ppsEdge | .ppsAbsence | .reportTake | .odlCheckFail .. | .ack .. | .ackClass ..
  | .fuRelease .. | .faultClr .. | .emberRearm .. | .faultInject .. | .emberToggle | .powerOn .. | .powerOff .. | .damperClear .. | .curveSelectWrite ..
  | .damperCurrentSample .. | .damperVoltageSample .. | .fastTrip .. | .gateTimeout .. | .captureWindowEnd | .pwrwarnHoldEnd .. | .pfailAssert
  | .pfailRelease | .holdupTimeout | .keyGen .. | .keyImport .. | .keyErase .. | .keyInfo .. | .anchorSet .. | .gcmEnc .. | .gcmDec .. | .sign ..
  | .verifyDual .. | .hash .. | .hmac .. | .random .. | .tallyWrite .. | .rbAdvance .. | .selftest .. | .zeroiseAll .. | .hjCommandComplete ..
  | .keyEraseWaitExpiry .. | .pageRead .. | .entropyHealthFail | .drbgRecoveryAttempt .. | .drbgReseed | .clkGateRequest .. | .pwrGateRequest ..
  | .ungate .. | .holdRelease .. | .ungateComplete .. | .spiFrameEnd .. | .read64 .. | .read32 .. | .write64 .. | .write32 .. | .spiIssue
  | .spiAccessConclude | .spiAccessTimeout | .smbusPacket .. | .reassemblyTimeout .. | .mctpTransmit .. | .mctpTransmitDone .. | .mctpTransmitTimeout ..
  | .rxBufferRelease .. | .noticeRetry | .sidebandSweep | .expanderReadDone .. | .bridgeCommitGo .. | .bridgeCommitAbort .. | .getEndpointId ..
  | .setEndpointId .. | .getMctpVersionSupport .. | .getMessageTypeSupport .. | .getState .. | .readLog .. | .readReg .. | .responderWarmReset ..
  | .alwaysOnReset | .pwrgoodRise .. | .pwrgoodFall | .resetNAssert | .resetNRelease | .puWarmReset .. | .resetFlushTimeout | .selfTestStageDone ..
  | .stageTimeout | .thermtrip | .sirfinFarEndPresence .. | .referenceClockReturn .. => false
  | .partnerPresence .. | .trainingSetsReceived .. | .equalisationFail .. | .linkUp .. | .trainTimeout .. | .roleConflictRetry ..
  | .moduleAuthentication .. | .authTimeout .. | .replayWindowEnd .. | .recoveryComplete .. | .portRetrain .. | .quiesce .. | .portRelease ..
  | .portReset .. | .portResetComplete .. | .drainDone .. | .drainTimeout .. | .linkLoss .. | .widthChange .. | .loopEnable .. | .loopDisable ..
  | .ideCheckFail .. | .ideKeyInstall .. | .spdmMessage .. | .ingressRequest .. | .spillReadback .. | .ageExpiry .. | .egressDeparture .. | .shaperTick
  | .penaltyRelease .. | .pathFenceLift .. | .responseIngress .. | .pbrFlitArrival .. | .bufferEccError .. | .dcAdd .. | .dcRelease ..
  | .dcForceRelease .. | .ptBind .. | .ptUnbind .. | .ldAttach .. | .ldDetach .. | .addCapacityResponse .. | .releaseCapacityResponse .. | .dcTimeout
  | .vslotPowerOff .. | .unbindTimeout | .homeRequestArrival .. | .homeRequestActivate .. | .snoopAnswer .. | .snoopTimeout ..
  | .moduleAccessComplete .. | .memTimeout .. | .wbArrival .. | .cleanEvictionNotice .. | .biconflict .. | .forwardedData .. | .homeGrant ..
  | .sfEccError .. | .mscEccError .. | .sfProbe .. | .sfRebuild .. | .sfRebuildDone | .mscFlush .. | .mscFlushDone | .moveRequestTake
  | .firstCopyDone .. | .recopyPassDone .. | .syncWritesDrained .. | .finalPassDone .. | .syncDeadline .. | .oldLocationRelease .. | .zeroFillDone ..
  | .heatDecay | .placementRunStop .. | .pinPage .. | .unpinPage .. | .pinSeg .. | .unpinSeg .. | .slotClaim .. | .slotFree .. | .abortMig ..
  | .plcProbe .. | .placementCommit | .alu .. | .addi .. | .andi .. | .ori .. | .xori .. | .shi .. | .cati .. | .beq .. | .bne .. | .blt .. | .bge ..
  | .bltu .. | .bgeu .. | .jal .. | .jalr .. | .ldb .. | .ldh .. | .ldw .. | .ldd .. | .stb .. | .sth .. | .stw .. | .std .. | .fld .. | .fldu ..
  | .fst .. | .fstu .. | .flineLd .. | .flineLdu .. | .flineSt .. | .flineStu .. | .amoLocal .. | .amoFabric .. | .fenceL .. | .fenceF .. | .fenceA ..
  | .fenceI .. | .crc .. | .mix .. | .fhash .. | .cld .. | .cst .. | .stgr .. | .stgm .. | .ecmt .. | .eabort .. | .evtwait .. | .evtsig .. | .mbsend ..
  | .mbrecv .. | .dmal .. | .bmove .. | .bfill .. | .bcmp .. | .blockBeatConclude .. | .mfs .. | .mts .. | .syscall .. | .brk .. | .tret .. | .yield ..
  | .halt .. | .fabricAnswer .. | .postedStoreConclude .. | .retryReissue .. | .evtwaitTimeout .. | .threadTimerExpiry .. | .interruptTake ..
  | .hearthSnoop .. | .threadStart .. | .threadStop .. | .threadClear .. | .clearAll .. | .imageLoad .. | .imageLoadComplete .. | .imageVerifyTimeout ..
  | .commitTake .. | .commitShadowAck .. | .commitDecision | .commitApply .. | .commitTimeout .. | .fluDoorbell .. | .flueStop .. | .flueResume ..
  | .flueAbort .. | .flueReset .. | .fluAssignWrite .. | .moverGrant .. | .fluePreemption .. | .descriptorFetch .. | .flueBeatReadAnswer ..
  | .flueBeatWriteConclude .. | .cqAppend .. | .cqHeadWrite .. | .flueRetryReissue .. | .requestLineAssert .. | .rqlSet .. | .helperReturn ..
  | .helperTimeout .. | .wqDoorbell .. | .wqInlineDoorbell .. | .wqEnable .. | .wqDisable .. | .wqCfgWrite .. | .wqEntryStart .. | .headWriteConclude ..
  | .wqDrainTimeout .. | .create .. | .destroy .. | .freeze .. | .freezeComplete .. | .thaw .. | .save .. | .restore .. | .fluePut .. | .wqPut ..
  | .threadPut .. | .instReset .. | .instResetComplete .. | .instRelease .. | .mbxDoorbell .. | .mbxTimeout .. | .threadGateLoWrite ..
  | .threadGateHiWrite .. | .gateSwap .. | .logRingWrite .. | .sirfinDataFrame .. | .sirfinCtrlFrame .. | .sirfinIdleFrame .. | .sirfinTrainFrame ..
  | .sirfinFrameSend .. | .sirfinEqualisationDone .. | .sirfinLaneFail .. | .replayTimeout .. | .sirfinRetrain .. | .retrainComplete ..
  | .retrainTimeout .. | .sirfinRefusedRetry .. | .sirfinLinkDisable .. | .sirfinLinkLoss .. | .xtTimeout .. | .joinAuthDone .. | .joinAuthTimeout
  | .joinCopyDone .. | .joinComplete | .splitTimeout .. | .timeMeasure | .stackIdDrawRetry | .counterSweep .. | .periodicSweep | .sweepComplete ..
  | .counterSetBind .. | .counterNoticeRetry | .chimneyWriteConclude .. => true

end Sys2Proof.Machine
end

