-- ==== Sys2Proof/Certificates/Slice0/Obligations.lean ====
section
/-! DEFINITION. The statements about the machine that are put to the provers. -/

open Sys2Proof Sys2Proof.Machine

/-- A step runs the command at the front of the queue, and with none waiting a nanosecond passes. For every state with a command at the front of its queue, the step answers what exec answers for that command on the state with the rest of the queue. On an empty queue the step answers the idle tick (the model's choice, log 40), and outside holdover and without slew the tick advances TB_NOW by one nanosecond (R37). -/
def Obligations.StepRunsFrontCommand : Prop :=
  (∀ (s : State) (c : Instr) (rest : List Instr), s.pending = c :: rest → step s = exec c { s with pending := rest }) ∧
  (∀ s : State, s.pending = [] → step s = .next s.tick) ∧
  (∀ s : State, s.tbUp = true → s.on TB_STATUS_HOLDOVER = false → s.g TB_ADJ_SLEW_PPB = 0 → s.clk.frac = 0 → s.tbTick.now = (s.now + 1) % 2 ^ 64)

/-- No command ends in a fault or a refusal. For every command and every state exec answers a next state: no fault, no refusal. -/
def Obligations.EveryCommandCompletes : Prop :=
  ∀ (c : Instr) (s : State), ∃ t, exec c s = .next t

/-- The always-on reset leaves every register field at its Reset column. In State.reset every register field reads its reset value, no command waits, no memory byte is listed, no message has left, stage 0x00 is shown and the device is not in service (R7, R393; values the spec leaves open are those of logs 3 to 9). -/
def Obligations.ResetLeavesResetColumns : Prop :=
  (∀ (f : Fld) (i j : Nat), State.reset.g f i j = f.resetVal i) ∧ State.reset.pending = [] ∧ State.reset.mem = [] ∧
  State.reset.outbox = [] ∧ State.reset.g PU_STATUS_STAGE = 0 ∧ State.reset.up = false

/-- A register field reads back what was written, cut to its width, and no other field changes. For every state, writing a field makes it read as the value cut to its width, and every field of another register, place or number reads as before. -/
def Obligations.FieldsReadBack : Prop :=
  (∀ (s : State) (f : Fld) (v i j : Nat), (s.p f v i j).g f i j = v % 2 ^ f.width) ∧
  (∀ (s : State) (f f' : Fld) (v i j i' j' : Nat), f.reg.ctorIdx ≠ f'.reg.ctorIdx ∨ f.lsb ≠ f'.lsb ∨ i ≠ i' ∨ j ≠ j' →
    (s.p f v i j).g f' i' j' = s.g f' i' j')

/-- Every step keeps the canonical form of memory. From every state whose memory has strictly rising addresses and lists no byte equal to what an unlisted one reads as, a step that answers a next state answers one whose memory has that form. -/
def Obligations.MemoryKeepsItsCanonicalForm : Prop :=
  StepKeeps (fun s => memWf s.mem = true)

/-- Memory has its canonical form at reset. State.reset's memory has the canonical form that every step keeps. -/
def Obligations.ResetMemoryIsCanonical : Prop :=
  memWf State.reset.mem = true

/-- Time base, PPS, core voltage and island clocks: what each command leaves. From the first self-test stage on. A TB_STEP that is not 0 and is accepted moves TB_NOW forward by it, counts it in STEP_COUNT and answers OK (R37). A PPS edge, with PPS_EN 1 and the device no member, ends an absence, sets PPS_OFFSET to the signed distance of TB_NOW from the second boundary and PPS_LOCKED where that is at most 100 ns (R433). A PPS absence sets PPS_LOST, clears PPS_LOCKED and is reported CE, and holdover sets HOLDOVER and is reported CE. The reference clock of islands 38 and 39 shows CLK_PRESENT 1 on its return, and holdover ends with island 38 (R39). An AVS target from VMIN_FUSE_MV to 850 mV with a step of 1 to 25 mV is held with AUTO_RAISE and the step, is in force in VCMD_MV, leaves for the regulator and answers OK; a NAK puts the value before back in force, sets AVS_NAK and is reported CE (R33). AUTO_RAISE below 850 mV raises VCMD_MV by STEP_MV up to 850 and counts in RAISE_COUNT. A pace window in service records PACE and TJ_C; below PACE_FLOOR it sets PACE_LOW and PACE_LOW_LATCHED and is reported CE, and at or above it PACE_LOW is 0 where no other monitor reads low (R34). A clock loss not yet noted sets CLK_LOST, clears CLK_PRESENT and is reported PF; a return sets CLK_PRESENT; a synchroniser error sets SYNC_ERR and is reported PF (R35, R36). Each clause concludes that exec answers a next state, from hypotheses on the state and the operands alone, for: TB_STEP, PPS_EDGE, PPS_ABSENCE, HOLDOVER, REFERENCE_CLOCK_RETURN, AVS_TARGET_WRITE, AVS_NAK, AUTO_RAISE, PACE_WINDOW_END, ISLAND_CLOCK_LOSS, ISLAND_CLOCK_RETURN, SYNC_ERR. -/
def Obligations.TimeBaseAndVoltageCommands : Prop :=
  (∀ (s : State) (m : Master) (ns : Fin 4294967296), s.tbUp = true → s.accepts m .TB_STEP 0 = true → ns.val ≠ 0 →
      Completes (.tbStep m ns) s (fun t => t.g TB_NOW_NOW_NS = (s.g TB_NOW_NOW_NS + ns) % 2 ^ 64 ∧ t.g TB_STATUS_STEP_COUNT = min (s.g TB_STATUS_STEP_COUNT + 1) (2 ^ TB_STATUS_STEP_COUNT.width - 1) ∧ t.answered m ST_OK)) ∧
  (∀ (s : State), s.tbUp = true → s.on TB_CFG_PPS_EN = true → s.g STK_STATUS_STATE ≠ 2 →
      Completes (.ppsEdge) s (fun t => t.clk.absent = false ∧ t.g TB_STATUS_PPS_OFFSET = (if s.g TB_NOW_NOW_NS % 1000000000 < 500000000 then s.g TB_NOW_NOW_NS % 1000000000 else 2 ^ 32 + s.g TB_NOW_NOW_NS % 1000000000 - 1000000000) ∧ t.on TB_STATUS_PPS_LOCKED = (decide (s.g TB_NOW_NOW_NS % 1000000000 ≤ 100) || decide (999999900 ≤ s.g TB_NOW_NOW_NS % 1000000000)))) ∧
  (∀ (s : State), s.tbUp = true → s.on TB_CFG_PPS_EN = true → s.g STK_STATUS_STATE ≠ 2 → s.clk.absent = false →
      Completes (.ppsAbsence) s (fun t => t.g TB_STATUS_PPS_LOST = 1 ∧ t.g TB_STATUS_PPS_LOCKED = 0 ∧ t.clk.absent = true ∧ t.reported (src 0x02 3) CE 0 = true)) ∧
  (∀ (s : State), s.tbUp = true → s.on TB_STATUS_HOLDOVER = false →
      Completes (.holdover) s (fun t => t.g TB_STATUS_HOLDOVER = 1 ∧ t.reported holdCond.1 CE holdCond.2 = true)) ∧
  (∀ (s : State) (i : IslandId), s.tbUp = true → i.val = 38 → s.on TB_STATUS_HOLDOVER = true →
      Completes (.referenceClockReturn i) s (fun t => t.g TB_STATUS_HOLDOVER = 0 ∧ t.g ISL_STATUS_CLK_PRESENT 38 = 1)) ∧
  (∀ (s : State) (i : IslandId), s.tbUp = true → i.val = 39 →
      Completes (.referenceClockReturn i) s (fun t => t.g ISL_STATUS_CLK_PRESENT 39 = 1)) ∧
  (∀ (s : State) (m : Master) (mv : Fin 1024) (autoRaise : Bool) (step : Fin 256), s.tbUp = true → s.accepts m .AVS_CTRL 0 = true → s.g AVS_STATUS_VMIN_FUSE_MV ≤ mv → mv.val ≤ 850 → 1 ≤ step.val → step.val ≤ 25 →
      Completes (.avsTargetWrite m mv autoRaise step) s (fun t => t.g AVS_CTRL_VTARGET_MV = mv ∧ t.g AVS_CTRL_AUTO_RAISE = b2n autoRaise ∧ t.g AVS_CTRL_STEP_MV = step ∧ t.g AVS_STATUS_VCMD_MV = mv ∧ Msg.avs mv ∈ t.outbox ∧ t.answered m ST_OK)) ∧
  (∀ (s : State), s.tbUp = true →
      Completes (.avsNak) s (fun t => t.g AVS_STATUS_VCMD_MV = s.clk.lastMv % 2 ^ AVS_STATUS_VCMD_MV.width ∧ t.g AVS_STATUS_AVS_NAK = 1 ∧ t.reported (src 0x02 1) CE 0 = true)) ∧
  (∀ (s : State), s.tbUp = true → s.on AVS_STATUS_PACE_LOW = true → s.on AVS_CTRL_AUTO_RAISE = true → s.g AVS_STATUS_VCMD_MV < 850 →
      Completes (.autoRaise) s (fun t => t.g AVS_STATUS_VCMD_MV = min 850 (s.g AVS_STATUS_VCMD_MV + s.g AVS_CTRL_STEP_MV) ∧ t.g AVS_STATUS_RAISE_COUNT = min (s.g AVS_STATUS_RAISE_COUNT + 1) (2 ^ AVS_STATUS_RAISE_COUNT.width - 1))) ∧
  (∀ (s : State) (mon : Fin 64) (pace : Fin 65536) (tj : Fin 256), s.tbUp = true → s.g PU_STATUS_STAGE = 10 → pace.val < s.g AVS_STATUS_PACE_FLOOR →
      Completes (.paceWindowEnd mon pace tj) s (fun t => t.g PACE_MON_PACE mon = pace ∧ t.g PACE_MON_TJ_C mon = tj ∧ t.g AVS_STATUS_PACE_LOW = 1 ∧ t.g AVS_STATUS_PACE_LOW_LATCHED = 1 ∧ t.reported (src 0x02 0) CE 0 = true)) ∧
  (∀ (s : State) (mon : Fin 64) (pace : Fin 65536) (tj : Fin 256), s.tbUp = true → (s.g PU_STATUS_STAGE = 10 ∨ tj.val ≤ 110) → s.g AVS_STATUS_PACE_FLOOR ≤ pace →
      Completes (.paceWindowEnd mon pace tj) s (fun t => t.g PACE_MON_PACE mon = pace ∧ t.g PACE_MON_TJ_C mon = tj ∧ t.on AVS_STATUS_PACE_LOW = s.clk.low.any (fun k => k != mon.val))) ∧
  (∀ (s : State) (i : IslandId), s.tbUp = true → s.cond (clkCond i).1 (clkCond i).2 = false →
      Completes (.islandClockLoss i) s (fun t => t.g ISL_STATUS_CLK_LOST i = 1 ∧ t.g ISL_STATUS_CLK_PRESENT i = 0 ∧ t.reported (src 0x02 4) PF (scope 5 i) = true)) ∧
  (∀ (s : State) (i : IslandId), s.tbUp = true →
      Completes (.islandClockReturn i) s (fun t => t.g ISL_STATUS_CLK_PRESENT i = 1)) ∧
  (∀ (s : State) (i : IslandId), s.tbUp = true →
      Completes (.syncErr i) s (fun t => t.g ISL_STATUS_SYNC_ERR i = 1 ∧ t.reported (src 0x02 5) PF (scope 5 i) = true))

/-- QUIESCE, RELEASE, RETRAIN, PORT_RESET, WIDTH and LOOP_EN on a lead: their effect. On a lead, by a master whose write is accepted, each answers OK and has this effect. QUIESCE in ACTIVE: DRAINING from now, LAST_STATUS OK. RELEASE in DRAINING and QUIESCED: ACTIVE, LAST_STATUS OK. RETRAIN in ACTIVE, not ISOLATED: Recovery to the lower of RATE_MAX and the partner's highest rate. PORT_RESET: STATE DOWN, LINK_STATE 0, no role, the reset under way. WIDTH, to an allowed width that differs from the present one, with every touched controller DOWN or QUIESCED: that width, as a lead. LOOP_EN 1 with an equally wide lead of the same pair of groups, both QUIESCED or DOWN: both in LOOP at LINK_STATE 5, the written end HOST and the other MODULE, LOOP_EN and PARTNER held. LOOP_EN 0 in a loop: LOOP_EN reads 0 and both ends take a port reset, STATE DOWN (R57, R59, R61, R63). Each clause concludes that exec answers a next state, from hypotheses on the state and the operands alone, for: QUIESCE, PORT_RELEASE, PORT_RETRAIN, PORT_RESET, WIDTH_CHANGE, LOOP_ENABLE, LOOP_DISABLE. -/
def Obligations.PortCommandsTakeEffect : Prop :=
  (∀ (s : State) (m : Master) (c : PortId), s.up = true → s.accepts m .PC_QUIESCE_CTRL c = true → s.isFollower c = false → s.g PC_QUIESCE_STATUS_STATE c = 0 →
      Completes (.quiesce m c) s (fun t => t.g PC_QUIESCE_STATUS_STATE c = 1 ∧ (t.port c).drainStart = s.now ∧ t.g PC_QUIESCE_STATUS_LAST_STATUS c = ST_OK ∧ t.answered m ST_OK)) ∧
  (∀ (s : State) (m : Master) (c : PortId), s.up = true → s.accepts m .PC_QUIESCE_CTRL c = true → s.isFollower c = false → (s.g PC_QUIESCE_STATUS_STATE c = 1 ∨ s.g PC_QUIESCE_STATUS_STATE c = 2) →
      Completes (.portRelease m c) s (fun t => t.g PC_QUIESCE_STATUS_STATE c = 0 ∧ t.g PC_QUIESCE_STATUS_LAST_STATUS c = ST_OK ∧ t.answered m ST_OK)) ∧
  (∀ (s : State) (m : Master) (c : PortId), s.up = true → s.accepts m .PC_LINK_CFG c = true → s.isFollower c = false → s.on PC_QUIESCE_STATUS_ISOLATED c = false → s.g PC_QUIESCE_STATUS_STATE c = 0 →
      Completes (.portRetrain m c) s (fun t => (t.port c).recovering = true ∧ (t.port c).target = min (s.port c).best (s.g PC_LINK_CFG_RATE_MAX c) ∧ t.answered m ST_OK)) ∧
  (∀ (s : State) (m : Master) (c : PortId), s.up = true → s.accepts m .PC_QUIESCE_CTRL c = true → s.isFollower c = false →
      Completes (.portReset m c) s (fun t => t.g PC_QUIESCE_STATUS_STATE c = 3 ∧ t.g PC_LINK_STATUS_LINK_STATE c = 0 ∧ t.g PC_LINK_STATUS_ROLE_BOUND c = 0 ∧ (t.port c).resetting = true ∧ t.answered m ST_OK)) ∧
  (∀ (s : State) (m : Master) (c : PortId) (w : Fin 4), s.up = true → s.accepts m .PC_WIDTH_CFG c = true → s.isFollower c = false → w.val ≠ 3 → w.val ≠ s.g PC_WIDTH_CFG_WIDTH c → widthAllowed c w = true → (∀ d ∈ s.widthTouched c w, s.portState d = 3 ∨ s.portState d = 2) →
      Completes (.widthChange m c w) s (fun t => t.g PC_WIDTH_CFG_WIDTH c = w ∧ t.g PC_WIDTH_CFG_FOLLOWER c = 0 ∧ t.answered m ST_OK)) ∧
  (∀ (s : State) (m : Master) (c : PortId) (p : PortId), s.up = true → s.accepts m .PC_LOOP_CFG c = true → s.isFollower c = false → s.isFollower p = false → c ≠ p → c.val / 16 = p.val / 16 → s.g PC_WIDTH_CFG_WIDTH c = s.g PC_WIDTH_CFG_WIDTH p → s.on PC_LOOP_CFG_LOOP_EN c = false → (s.g PC_QUIESCE_STATUS_STATE c = 2 ∨ s.g PC_QUIESCE_STATUS_STATE c = 3) → (s.g PC_QUIESCE_STATUS_STATE p = 2 ∨ s.g PC_QUIESCE_STATUS_STATE p = 3) →
      Completes (.loopEnable m c p) s (fun t => t.g PC_QUIESCE_STATUS_STATE c = 4 ∧ t.g PC_QUIESCE_STATUS_STATE p = 4 ∧ t.g PC_LINK_STATUS_LINK_STATE c = 5 ∧ t.g PC_LINK_STATUS_LINK_STATE p = 5 ∧ t.g PC_LINK_STATUS_ROLE_BOUND c = 1 ∧ t.g PC_LINK_STATUS_ROLE_BOUND p = 2 ∧ t.g PC_LOOP_CFG_LOOP_EN c = 1 ∧ t.g PC_LOOP_CFG_PARTNER c = p ∧ t.answered m ST_OK)) ∧
  (∀ (s : State) (m : Master) (c : PortId), s.up = true → s.accepts m .PC_LOOP_CFG c = true → s.isFollower c = false → s.on PC_LOOP_CFG_LOOP_EN c = true →
      Completes (.loopDisable m c) s (fun t => t.g PC_LOOP_CFG_LOOP_EN c = 0 ∧ t.g PC_QUIESCE_STATUS_STATE c = 3 ∧ t.g PC_QUIESCE_STATUS_STATE (s.g PC_LOOP_CFG_PARTNER c) = 3 ∧ t.answered m ST_OK))

/-- Port commands answer the statuses of R59 where they have no effect. On a lead QUIESCE answers LATE in DRAINING and QUIESCED, LINK_DOWN in DOWN and ACCESS_DENIED in LOOP; RELEASE answers LATE in ACTIVE, LINK_DOWN in DOWN and ACCESS_DENIED in LOOP; RETRAIN answers ACCESS_DENIED in DRAINING, in LOOP and while ISOLATED; each leaves STATE as it was. QUIESCE, RELEASE and PORT_RESET written to a follower answer ACCESS_DENIED and leave STATE as it was (R46, R59). Each clause concludes that exec answers a next state, from hypotheses on the state and the operands alone, for: QUIESCE, PORT_RELEASE, PORT_RETRAIN, PORT_RESET. -/
def Obligations.PortCommandsRefuse : Prop :=
  (∀ (s : State) (m : Master) (c : PortId), s.up = true → s.accepts m .PC_QUIESCE_CTRL c = true → s.isFollower c = false → s.g PC_QUIESCE_STATUS_STATE c = 1 →
      Completes (.quiesce m c) s (fun t => t.g PC_QUIESCE_STATUS_STATE c = 1 ∧ t.answered m ST_LATE)) ∧
  (∀ (s : State) (m : Master) (c : PortId), s.up = true → s.accepts m .PC_QUIESCE_CTRL c = true → s.isFollower c = false → s.g PC_QUIESCE_STATUS_STATE c = 2 →
      Completes (.quiesce m c) s (fun t => t.g PC_QUIESCE_STATUS_STATE c = 2 ∧ t.answered m ST_LATE)) ∧
  (∀ (s : State) (m : Master) (c : PortId), s.up = true → s.accepts m .PC_QUIESCE_CTRL c = true → s.isFollower c = false → s.g PC_QUIESCE_STATUS_STATE c = 3 →
      Completes (.quiesce m c) s (fun t => t.g PC_QUIESCE_STATUS_STATE c = 3 ∧ t.answered m ST_LINK_DOWN)) ∧
  (∀ (s : State) (m : Master) (c : PortId), s.up = true → s.accepts m .PC_QUIESCE_CTRL c = true → s.isFollower c = false → s.g PC_QUIESCE_STATUS_STATE c = 4 →
      Completes (.quiesce m c) s (fun t => t.g PC_QUIESCE_STATUS_STATE c = 4 ∧ t.answered m ST_ACCESS_DENIED)) ∧
  (∀ (s : State) (m : Master) (c : PortId), s.up = true → s.accepts m .PC_QUIESCE_CTRL c = true → s.isFollower c = false → s.g PC_QUIESCE_STATUS_STATE c = 0 →
      Completes (.portRelease m c) s (fun t => t.g PC_QUIESCE_STATUS_STATE c = 0 ∧ t.answered m ST_LATE)) ∧
  (∀ (s : State) (m : Master) (c : PortId), s.up = true → s.accepts m .PC_QUIESCE_CTRL c = true → s.isFollower c = false → s.g PC_QUIESCE_STATUS_STATE c = 3 →
      Completes (.portRelease m c) s (fun t => t.g PC_QUIESCE_STATUS_STATE c = 3 ∧ t.answered m ST_LINK_DOWN)) ∧
  (∀ (s : State) (m : Master) (c : PortId), s.up = true → s.accepts m .PC_QUIESCE_CTRL c = true → s.isFollower c = false → s.g PC_QUIESCE_STATUS_STATE c = 4 →
      Completes (.portRelease m c) s (fun t => t.g PC_QUIESCE_STATUS_STATE c = 4 ∧ t.answered m ST_ACCESS_DENIED)) ∧
  (∀ (s : State) (m : Master) (c : PortId), s.up = true → s.accepts m .PC_LINK_CFG c = true → s.isFollower c = false → (s.g PC_QUIESCE_STATUS_STATE c = 1 ∨ s.g PC_QUIESCE_STATUS_STATE c = 4 ∨ s.on PC_QUIESCE_STATUS_ISOLATED c = true) →
      Completes (.portRetrain m c) s (fun t => t.g PC_QUIESCE_STATUS_STATE c = s.g PC_QUIESCE_STATUS_STATE c ∧ t.answered m ST_ACCESS_DENIED)) ∧
  (∀ (s : State) (m : Master) (c : PortId), s.up = true → s.accepts m .PC_QUIESCE_CTRL c = true → s.isFollower c = true →
      Completes (.quiesce m c) s (fun t => t.g PC_QUIESCE_STATUS_STATE c = s.g PC_QUIESCE_STATUS_STATE c ∧ t.answered m ST_ACCESS_DENIED)) ∧
  (∀ (s : State) (m : Master) (c : PortId), s.up = true → s.accepts m .PC_QUIESCE_CTRL c = true → s.isFollower c = true →
      Completes (.portRelease m c) s (fun t => t.g PC_QUIESCE_STATUS_STATE c = s.g PC_QUIESCE_STATUS_STATE c ∧ t.answered m ST_ACCESS_DENIED)) ∧
  (∀ (s : State) (m : Master) (c : PortId), s.up = true → s.accepts m .PC_QUIESCE_CTRL c = true → s.isFollower c = true →
      Completes (.portReset m c) s (fun t => t.g PC_QUIESCE_STATUS_STATE c = s.g PC_QUIESCE_STATUS_STATE c ∧ t.answered m ST_ACCESS_DENIED))

/-- Training, authentication, recovery, drain, loss and IDE events of a port: what each leaves. A partner that appears at a DOWN lead that nothing holds starts training: LINK_STATE 1 and no role bound. Training sets bind HOST or MODULE and the lower of the two rates, fail an AUTO port with PAD from a module with ROLE_CONFLICT, and without the 256 B flit with NO_FLIT256 and LINK_STATE 4 (R48, R49, R54). EQUALISATION_FAIL sets EQ_FAIL and takes the rate below. LINK_UP on a FABRIC port makes it ACTIVE, UP_IO below 8 GT/s and UP otherwise, at its rate (R52). TRAIN_TIMEOUT sets TRAIN_FAIL and ends the training. A role conflict is retried from Detect. An authentication of a link of 8 GT/s or more ends with LINK_STATE UP where its proof and its chain hold and with AUTH_FAIL where not, and a timeout with AUTH_FAIL, reported PF (R51). Replays above REPLAY_THR set REPLAY_THR_HIT, count a downshift and start Recovery to the rate below, and RECOVERY_COMPLETE takes it (R53). PORT_RESET_COMPLETE ends the reset. A drain with nothing unanswered ends in QUIESCED with its duration and no timeouts; DRAIN_TIMEOUT ends in QUIESCED, reported PF (R60). Link loss takes an UP port DOWN with a PF report (R61). An IDE check failure makes a keyed stream Insecure with IDE_CHECK_FAIL, and a new key makes it secure (R55). Each clause concludes that exec answers a next state, from hypotheses on the state and the operands alone, for: PARTNER_PRESENCE, TRAINING_SETS_RECEIVED, EQUALISATION_FAIL, LINK_UP, TRAIN_TIMEOUT, ROLE_CONFLICT_RETRY, MODULE_AUTHENTICATION, AUTH_TIMEOUT, REPLAY_WINDOW_END, RECOVERY_COMPLETE, PORT_RESET_COMPLETE, DRAIN_DONE, DRAIN_TIMEOUT, LINK_LOSS, IDE_CHECK_FAIL, IDE_KEY_INSTALL. -/
def Obligations.PortTrainingEvents : Prop :=
  (∀ (s : State) (c : PortId), s.up = true → s.isFollower c = false → s.on HJ_GATE_CLK_GATED (c.val / 4) = false → s.on HJ_GATE_PWR_GATED (c.val / 4) = false → s.on PC_QUIESCE_STATUS_ISOLATED c = false → s.on ISL_STATUS_CLK_PRESENT (c.val / 4) = true → s.g PC_QUIESCE_STATUS_STATE c = 3 →
      Completes (.partnerPresence c true) s (fun t => (t.port c).partner = true ∧ (t.port c).training = true ∧ t.g PC_LINK_STATUS_LINK_STATE c = 1 ∧ t.g PC_LINK_STATUS_ROLE_BOUND c = 0)) ∧
  (∀ (s : State) (c : PortId), s.up = true →
      Completes (.partnerPresence c false) s (fun t => (t.port c).partner = false ∧ (t.port c).training = false)) ∧
  (∀ (s : State) (c : PortId) (rate : Fin 7), s.up = true → (s.port c).training = true → s.g PC_ROLE_CFG_ROLE_SEL c ≤ 1 →
      Completes (.trainingSetsReceived c .linkNumbers true rate) s (fun t => t.g PC_LINK_STATUS_ROLE_BOUND c = 1 ∧ (t.port c).target = min rate.val (s.g PC_LINK_CFG_RATE_MAX c))) ∧
  (∀ (s : State) (c : PortId) (rate : Fin 7), s.up = true → (s.port c).training = true → (s.g PC_ROLE_CFG_ROLE_SEL c = 0 ∨ s.g PC_ROLE_CFG_ROLE_SEL c = 2) →
      Completes (.trainingSetsReceived c .pad true rate) s (fun t => t.g PC_LINK_STATUS_ROLE_BOUND c = 2 ∧ (t.port c).target = min rate.val (s.g PC_LINK_CFG_RATE_MAX c))) ∧
  (∀ (s : State) (c : PortId) (rate : Fin 7), s.up = true → (s.port c).training = true → s.g PC_ROLE_CFG_ROLE_SEL c = 0 →
      Completes (.trainingSetsReceived c .padModule true rate) s (fun t => t.g PC_ERR_STATUS_ROLE_CONFLICT c = 1 ∧ t.g PC_LINK_STATUS_ROLE_BOUND c = 0 ∧ (t.port c).conflict = true)) ∧
  (∀ (s : State) (c : PortId) (sets : PartnerSets) (rate : Fin 7), s.up = true → (s.port c).training = true →
      Completes (.trainingSetsReceived c sets false rate) s (fun t => t.g PC_ERR_STATUS_NO_FLIT256 c = 1 ∧ t.g PC_LINK_STATUS_LINK_STATE c = 4)) ∧
  (∀ (s : State) (c : PortId), s.up = true → (s.port c).training = true →
      Completes (.equalisationFail c) s (fun t => t.g PC_ERR_STATUS_EQ_FAIL c = 1 ∧ (t.port c).target = (s.port c).target - 1)) ∧
  (∀ (s : State) (c : PortId) (lanes : Fin 17) (uses : LinkUses) (identity : Nat) (caps : List Nat), s.up = true → (s.port c).training = true → s.g PC_LINK_STATUS_ROLE_BOUND c = 3 → lanes.val ≠ 0 → (s.port c).target < 7 →
      Completes (.linkUp c lanes uses identity caps) s (fun t => t.g PC_QUIESCE_STATUS_STATE c = 0 ∧ t.g PC_LINK_STATUS_LINK_STATE c = (if (s.port c).target < 2 then 2 else 3) ∧ t.g PC_LINK_STATUS_RATE c = (s.port c).target ∧ (t.port c).training = false)) ∧
  (∀ (s : State) (c : PortId), s.up = true → (s.port c).training = true → (s.port c).partner = true →
      Completes (.trainTimeout c) s (fun t => t.g PC_ERR_STATUS_TRAIN_FAIL c = 1 ∧ t.g PC_LINK_STATUS_LINK_STATE c = 0 ∧ (t.port c).training = false)) ∧
  (∀ (s : State) (c : PortId), s.up = true → (s.port c).conflict = true → (s.port c).partner = true → s.isFollower c = false → s.on HJ_GATE_CLK_GATED (c.val / 4) = false → s.on HJ_GATE_PWR_GATED (c.val / 4) = false → s.on PC_QUIESCE_STATUS_ISOLATED c = false → s.on ISL_STATUS_CLK_PRESENT (c.val / 4) = true → s.g PC_QUIESCE_STATUS_STATE c ≠ 4 →
      Completes (.roleConflictRetry c) s (fun t => (t.port c).training = true ∧ t.g PC_LINK_STATUS_LINK_STATE c = 1)) ∧
  (∀ (s : State) (c : PortId) (shown : ModuleProof), s.up = true → (s.port c).authPending = true → 2 ≤ s.g PC_LINK_STATUS_RATE c →
      Completes (.moduleAuthentication c shown) s (fun t => t.g PC_LINK_STATUS_LINK_STATE c = (if (shown.proof && s.trustsChain shown.chain) = true then 3 else s.g PC_LINK_STATUS_LINK_STATE c) ∧ t.g PC_ERR_STATUS_AUTH_FAIL c = (if (shown.proof && s.trustsChain shown.chain) = true then s.g PC_ERR_STATUS_AUTH_FAIL c else 1) ∧ (t.port c).authPending = false)) ∧
  (∀ (s : State) (c : PortId), s.up = true → (s.port c).authPending = true →
      Completes (.authTimeout c) s (fun t => t.g PC_ERR_STATUS_AUTH_FAIL c = 1 ∧ (t.port c).authPending = false ∧ t.reported (src 0x03 PC_ERR_STATUS_AUTH_FAIL.lsb) PF (scope 2 c) = true)) ∧
  (∀ (s : State) (c : PortId) (replays : Nat), s.up = true → (s.g PC_LINK_STATUS_LINK_STATE c = 2 ∨ s.g PC_LINK_STATUS_LINK_STATE c = 3) → s.on PC_LINK_CFG_DOWNSHIFT_EN c = true → s.g PC_LINK_CFG_REPLAY_THR c < replays → s.g PC_LINK_STATUS_RATE c ≠ 0 →
      Completes (.replayWindowEnd c replays) s (fun t => t.g PC_ERR_STATUS_REPLAY_THR_HIT c = 1 ∧ t.g PC_LINK_STATUS_DOWNSHIFTS c = min (s.g PC_LINK_STATUS_DOWNSHIFTS c + 1) (2 ^ PC_LINK_STATUS_DOWNSHIFTS.width - 1) ∧ (t.port c).recovering = true ∧ (t.port c).target = s.g PC_LINK_STATUS_RATE c - 1)) ∧
  (∀ (s : State) (c : PortId), s.up = true → (s.port c).recovering = true → (s.port c).target < 7 →
      Completes (.recoveryComplete c) s (fun t => t.g PC_LINK_STATUS_RATE c = (s.port c).target ∧ (t.port c).recovering = false)) ∧
  (∀ (s : State) (c : PortId), s.up = true → (s.port c).resetting = true →
      Completes (.portResetComplete c) s (fun t => (t.port c).resetting = false)) ∧
  (∀ (s : State) (c : PortId), s.up = true → s.g PC_QUIESCE_STATUS_STATE c = 1 → s.outOut c = 0 →
      Completes (.drainDone c) s (fun t => t.g PC_QUIESCE_STATUS_STATE c = 2 ∧ t.g PC_QUIESCE_STATUS_LAST_DRAIN_NS c = min (s.now - (s.port c).drainStart) (2 ^ 32 - 1) ∧ t.g PC_QUIESCE_STATUS_DRAIN_TIMEOUTS c = 0)) ∧
  (∀ (s : State) (c : PortId), s.up = true → s.g PC_QUIESCE_STATUS_STATE c = 1 →
      Completes (.drainTimeout c) s (fun t => t.g PC_QUIESCE_STATUS_STATE c = 2 ∧ t.reported (src 0x03 PC_ERR_STATUS_DRAIN_TIMEOUT.lsb) PF (scope 2 c) = true)) ∧
  (∀ (s : State) (c : PortId), s.up = true → (s.g PC_LINK_STATUS_LINK_STATE c = 2 ∨ s.g PC_LINK_STATUS_LINK_STATE c = 3) →
      Completes (.linkLoss c) s (fun t => t.g PC_QUIESCE_STATUS_STATE c = 3 ∧ t.g PC_LINK_STATUS_LINK_STATE c = 0 ∧ (t.port c).resetting = true ∧ t.reported (src 0x03 PC_ERR_STATUS_SURPRISE_DOWN.lsb) PF (scope 2 c) = true)) ∧
  (∀ (s : State) (c : PortId) (k : Fin 4), s.up = true → (s.port c).streams.contains (k.val, 1) = true →
      Completes (.ideCheckFail c k) s (fun t => (t.port c).streams.contains (k.val, 2) = true ∧ t.g PC_ERR_STATUS_IDE_CHECK_FAIL c = 1)) ∧
  (∀ (s : State) (c : PortId) (stream : IdeStream), s.up = true → (stream.link.isSome && (s.port c).linkStream.any (fun l => l.1 != stream.number.val)) = false → s.linkUp c = true → (s.port c).session = true → s.on HJ_DRBG_STATUS_INSTANTIATED = true → s.on HJ_STATUS_ERROR_STATE = false →
      Completes (.ideKeyInstall c stream) s (fun t => (t.port c).streams.contains (stream.number.val, 1) = true))

/-- The BIND_CMD operations start where their conditions hold. With no operation under way, a TAG that is not the last completed, no reserved bit set and arguments whose conditions hold, each write is answered OK. DC_ADD on backed pages and DC_RELEASE on pages of which one is backed send the event of their range and wait for the host; DC_FORCE_RELEASE submits the unbacking of the backed pages of its range as one commit; PT_BIND, LD_ATTACH and LD_DETACH submit a control commit of the binding; PT_UNBIND sends the host an attention and waits, or, forced, submits its control commit. BUSY reads 1 after DC_ADD, DC_RELEASE, DC_FORCE_RELEASE, PT_BIND, LD_ATTACH and LD_DETACH (R67, R73, R74, R79 to R82). Each clause concludes that exec answers a next state, from hypotheses on the state and the operands alone, for: DC_ADD, DC_RELEASE, DC_FORCE_RELEASE, PT_BIND, PT_UNBIND, LD_ATTACH, LD_DETACH. -/
def Obligations.BindCommandsStart : Prop :=
  (∀ (s : State) (m : Master) (tag : Fin 65536), s.up = true → s.cmt.bind = none → (s.cmt.bindDone = false ∨ s.g BIND_STATUS_TAG ≠ tag) → s.accepts m .BIND_CMD 0 = true → s.bindReserved 0x01 = false → s.dcCheck (s.bindArgs 0x01 tag) false = ST_OK → (s.bindArgs 0x01 tag).pages.all (fun p => s.backed p) = true →
      Completes (.dcAdd m tag) s (fun t => t.cmt.bind = some { (s.bindArgs 0x01 tag) with waiting := true } ∧ Msg.dcEvent (s.bindArgs 0x01 tag).inst true (s.bindArgs 0x01 tag).first (s.bindArgs 0x01 tag).count ∈ t.outbox ∧ t.g BIND_STATUS_BUSY = 1 ∧ t.answered m ST_OK)) ∧
  (∀ (s : State) (m : Master) (tag : Fin 65536), s.up = true → s.cmt.bind = none → (s.cmt.bindDone = false ∨ s.g BIND_STATUS_TAG ≠ tag) → s.accepts m .BIND_CMD 0 = true → s.bindReserved 0x02 = false → s.dcCheck (s.bindArgs 0x02 tag) false = ST_OK → (s.bindArgs 0x02 tag).pages.any (fun p => s.backed p) = true →
      Completes (.dcRelease m tag) s (fun t => t.cmt.bind = some { (s.bindArgs 0x02 tag) with waiting := true } ∧ Msg.dcEvent (s.bindArgs 0x02 tag).inst false (s.bindArgs 0x02 tag).first (s.bindArgs 0x02 tag).count ∈ t.outbox ∧ t.g BIND_STATUS_BUSY = 1 ∧ t.answered m ST_OK)) ∧
  (∀ (s : State) (m : Master) (tag : Fin 65536), s.up = true → s.cmt.bind = none → (s.cmt.bindDone = false ∨ s.g BIND_STATUS_TAG ≠ tag) → s.accepts m .BIND_CMD 0 = true → s.bindReserved 0x03 = false → s.dcCheck (s.bindArgs 0x03 tag) true = ST_OK → (s.bindArgs 0x03 tag).pages.any (fun p => s.backed p) = true →
      Completes (.dcForceRelease m tag) s (fun t => t.cmt.queue = s.cmt.queue ++ [{ id := s.cmt.nextId, owner := .bind, entries := ((s.bindArgs 0x03 tag).pages.filter (fun p => s.backed p)).map (fun p => { map := true, key := 2 ^ 62 + p, val := imageOfPage { unbacked := true } }), control := false }] ∧ t.g BIND_STATUS_BUSY = 1 ∧ t.answered m ST_OK)) ∧
  (∀ (s : State) (m : Master) (tag : Fin 65536), s.up = true → s.cmt.bind = none → (s.cmt.bindDone = false ∨ s.g BIND_STATUS_TAG ≠ tag) → s.accepts m .BIND_CMD 0 = true → s.bindReserved 0x10 = false → s.hostPort (s.bindArgs 0x10 tag).p = true → s.isFollower ((s.bindArgs 0x10 tag).mod / 16) = false → s.g PC_LINK_STATUS_ROLE_BOUND ((s.bindArgs 0x10 tag).mod / 16) = 2 → (s.g PC_LINK_STATUS_LINK_STATE ((s.bindArgs 0x10 tag).mod / 16) = 2 ∨ s.g PC_LINK_STATUS_LINK_STATE ((s.bindArgs 0x10 tag).mod / 16) = 3 ∨ s.g PC_LINK_STATUS_LINK_STATE ((s.bindArgs 0x10 tag).mod / 16) = 5) → (s.on PC_ROLE_CFG_AUTH_REQ ((s.bindArgs 0x10 tag).mod / 16) = false ∨ (s.port ((s.bindArgs 0x10 tag).mod / 16)).authDone = true) → s.on MOD_ENTRY_PRESENT (s.bindArgs 0x10 tag).mod = true → s.on MOD_ENTRY_POOL (s.bindArgs 0x10 tag).mod = false → s.on MOD_ENTRY_PT_BOUND (s.bindArgs 0x10 tag).mod = false → s.g VPPB_ENTRY_KIND (s.bindArgs 0x10 tag).p (s.bindArgs 0x10 tag).v = 0 → s.boundElsewhere (s.bindArgs 0x10 tag) = false →
      Completes (.ptBind m tag) s (fun t => t.cmt.bind = some { (s.bindArgs 0x10 tag) with waiting := false } ∧ t.cmt.queue = s.cmt.queue ++ [{ id := s.cmt.nextId, owner := .bind, entries := [] }] ∧ t.g BIND_STATUS_BUSY = 1 ∧ t.answered m ST_OK)) ∧
  (∀ (s : State) (m : Master) (tag : Fin 65536), s.up = true → s.cmt.bind = none → (s.cmt.bindDone = false ∨ s.g BIND_STATUS_TAG ≠ tag) → s.accepts m .BIND_CMD 0 = true → s.bindReserved 0x11 = false → s.hostPort (s.bindArgs 0x11 tag).p = true → s.g VPPB_ENTRY_KIND (s.bindArgs 0x11 tag).p (s.bindArgs 0x11 tag).v = 2 → (s.bindArgs 0x11 tag).mod = 0 →
      Completes (.ptUnbind m tag) s (fun t => t.cmt.bind = some { (s.bindArgs 0x11 tag) with waiting := true } ∧ Msg.attention (s.bindArgs 0x11 tag).p (s.bindArgs 0x11 tag).v ∈ t.outbox ∧ t.answered m ST_OK)) ∧
  (∀ (s : State) (m : Master) (tag : Fin 65536), s.up = true → s.cmt.bind = none → (s.cmt.bindDone = false ∨ s.g BIND_STATUS_TAG ≠ tag) → s.accepts m .BIND_CMD 0 = true → s.bindReserved 0x11 = false → s.hostPort (s.bindArgs 0x11 tag).p = true → s.g VPPB_ENTRY_KIND (s.bindArgs 0x11 tag).p (s.bindArgs 0x11 tag).v = 2 → (s.bindArgs 0x11 tag).mod = 1 →
      Completes (.ptUnbind m tag) s (fun t => t.cmt.bind = some { (s.bindArgs 0x11 tag) with waiting := false } ∧ t.cmt.queue = s.cmt.queue ++ [{ id := s.cmt.nextId, owner := .bind, entries := [] }] ∧ t.answered m ST_OK)) ∧
  (∀ (s : State) (m : Master) (tag : Fin 65536), s.up = true → s.cmt.bind = none → (s.cmt.bindDone = false ∨ s.g BIND_STATUS_TAG ≠ tag) → s.accepts m .BIND_CMD 0 = true → s.bindReserved 0x20 = false → s.hostPort (s.bindArgs 0x20 tag).p = true → s.instState (s.bindArgs 0x20 tag).inst ≠ 0 → s.instState (s.bindArgs 0x20 tag).inst ≠ 2 → s.instState (s.bindArgs 0x20 tag).inst ≠ 3 → (s.vppbOfInst (s.bindArgs 0x20 tag).inst).isNone = true → s.g VPPB_ENTRY_KIND (s.bindArgs 0x20 tag).p (s.bindArgs 0x20 tag).v = 0 →
      Completes (.ldAttach m tag) s (fun t => t.cmt.bind = some { (s.bindArgs 0x20 tag) with waiting := false } ∧ t.cmt.queue = s.cmt.queue ++ [{ id := s.cmt.nextId, owner := .bind, entries := [] }] ∧ t.g BIND_STATUS_BUSY = 1 ∧ t.answered m ST_OK)) ∧
  (∀ (s : State) (m : Master) (tag : Fin 65536), s.up = true → s.cmt.bind = none → (s.cmt.bindDone = false ∨ s.g BIND_STATUS_TAG ≠ tag) → s.accepts m .BIND_CMD 0 = true → s.bindReserved 0x21 = false → s.hostPort (s.bindArgs 0x21 tag).p = true → s.g VPPB_ENTRY_KIND (s.bindArgs 0x21 tag).p (s.bindArgs 0x21 tag).v = 1 →
      Completes (.ldDetach m tag) s (fun t => t.cmt.bind = some { (s.bindArgs 0x21 tag) with waiting := false } ∧ t.cmt.queue = s.cmt.queue ++ [{ id := s.cmt.nextId, owner := .bind, entries := [] }] ∧ t.g BIND_STATUS_BUSY = 1 ∧ t.answered m ST_OK))

/-- A host's answers and the timeouts of dynamic binding end or continue the operation that waits. An answer that names every page of a waiting DC_ADD ends it with OK, its TAG shown and BUSY 0. An answer that names no page of a waiting DC_RELEASE ends it PARTIAL, and one that names every page submits a commit where a page is backed. DC_TIMEOUT ends a waiting DC_RELEASE with TIMEOUT, reported CE. The power-off of the virtual slot of a waiting managed unbind submits its commit, and its timeout ends it with TIMEOUT and BUSY 0 (R74, R79 to R81). Each clause concludes that exec answers a next state, from hypotheses on the state and the operands alone, for: ADD_CAPACITY_RESPONSE, RELEASE_CAPACITY_RESPONSE, DC_TIMEOUT, VSLOT_POWER_OFF, UNBIND_TIMEOUT. -/
def Obligations.BindAnswersAndTimeouts : Prop :=
  (∀ (s : State) (i : InstId) (pages : List Nat) (b : BindOp), s.up = true → s.dcWaiting 0x01 i = some b → (∀ k < b.count, b.first + k ∈ pages) →
      Completes (.addCapacityResponse i pages) s (fun t => t.cmt.bind = none ∧ t.g BIND_STATUS_STATUS = ST_OK ∧ t.g BIND_STATUS_TAG = b.tag % 2 ^ BIND_STATUS_TAG.width ∧ t.g BIND_STATUS_BUSY = 0)) ∧
  (∀ (s : State) (i : InstId) (pages : List Nat) (b : BindOp), s.up = true → s.dcWaiting 0x02 i = some b → pages = [] → b.count ≠ 0 →
      Completes (.releaseCapacityResponse i pages) s (fun t => t.cmt.bind = none ∧ t.g BIND_STATUS_STATUS = ST_PARTIAL)) ∧
  (∀ (s : State) (i : InstId) (pages : List Nat) (b : BindOp), s.up = true → s.dcWaiting 0x02 i = some b → (∀ k < b.count, b.first + k ∈ pages) → b.pages.any (fun p => s.backed p) = true →
      Completes (.releaseCapacityResponse i pages) s (fun t => t.cmt.queue.length = s.cmt.queue.length + 1)) ∧
  (∀ (s : State) (b : BindOp), s.up = true → s.cmt.bind = some b → b.waiting = true → b.op = 0x02 →
      Completes (.dcTimeout) s (fun t => t.cmt.bind = none ∧ t.g BIND_STATUS_STATUS = ST_TIMEOUT ∧ t.reported (src 0x05 5) CE (scope 1 b.inst) = true)) ∧
  (∀ (s : State) (p : PortId) (v : Fin 64) (b : BindOp), s.up = true → s.cmt.bind = some b → b.op = 0x11 → b.waiting = true → b.p = p → b.v = v →
      Completes (.vslotPowerOff p v) s (fun t => t.cmt.bind = some { b with waiting := false } ∧ t.cmt.queue.length = s.cmt.queue.length + 1)) ∧
  (∀ (s : State) (b : BindOp), s.up = true → s.cmt.bind = some b → b.op = 0x11 → b.waiting = true →
      Completes (.unbindTimeout) s (fun t => t.cmt.bind = none ∧ t.g BIND_STATUS_STATUS = ST_TIMEOUT ∧ t.g BIND_STATUS_BUSY = 0))

/-- BIND_CMD refuses while an operation is under way and repeats nothing for the last TAG. While an operation is under way, a write of DC_ADD, DC_RELEASE, DC_FORCE_RELEASE, PT_BIND, LD_ATTACH or LD_DETACH answers RESOURCE_EXHAUSTED and changes no operation and no commit; with none under way, a write with the TAG last completed answers the stored status and changes no operation and no commit (R82, R431). Each clause concludes that exec answers a next state, from hypotheses on the state and the operands alone, for: DC_ADD, DC_RELEASE, DC_FORCE_RELEASE, PT_BIND, LD_ATTACH, LD_DETACH, PT_UNBIND. -/
def Obligations.BindCommandRefusals : Prop :=
  (∀ (s : State) (m : Master) (tag : Fin 65536), s.up = true → s.accepts m .BIND_CMD 0 = true → s.cmt.bind.isSome = true →
      Completes (.dcAdd m tag) s (fun t => t.cmt = s.cmt ∧ t.answered m ST_RESOURCE_EXHAUSTED)) ∧
  (∀ (s : State) (m : Master) (tag : Fin 65536), s.up = true → s.accepts m .BIND_CMD 0 = true → s.cmt.bind.isSome = true →
      Completes (.dcRelease m tag) s (fun t => t.cmt = s.cmt ∧ t.answered m ST_RESOURCE_EXHAUSTED)) ∧
  (∀ (s : State) (m : Master) (tag : Fin 65536), s.up = true → s.accepts m .BIND_CMD 0 = true → s.cmt.bind.isSome = true →
      Completes (.dcForceRelease m tag) s (fun t => t.cmt = s.cmt ∧ t.answered m ST_RESOURCE_EXHAUSTED)) ∧
  (∀ (s : State) (m : Master) (tag : Fin 65536), s.up = true → s.accepts m .BIND_CMD 0 = true → s.cmt.bind.isSome = true →
      Completes (.ptBind m tag) s (fun t => t.cmt = s.cmt ∧ t.answered m ST_RESOURCE_EXHAUSTED)) ∧
  (∀ (s : State) (m : Master) (tag : Fin 65536), s.up = true → s.accepts m .BIND_CMD 0 = true → s.cmt.bind.isSome = true →
      Completes (.ldAttach m tag) s (fun t => t.cmt = s.cmt ∧ t.answered m ST_RESOURCE_EXHAUSTED)) ∧
  (∀ (s : State) (m : Master) (tag : Fin 65536), s.up = true → s.accepts m .BIND_CMD 0 = true → s.cmt.bind.isSome = true →
      Completes (.ldDetach m tag) s (fun t => t.cmt = s.cmt ∧ t.answered m ST_RESOURCE_EXHAUSTED)) ∧
  (∀ (s : State) (m : Master) (tag : Fin 65536), s.up = true → s.accepts m .BIND_CMD 0 = true → s.cmt.bind = none → s.cmt.bindDone = true → s.g BIND_STATUS_TAG = tag →
      Completes (.dcAdd m tag) s (fun t => t.cmt = s.cmt ∧ t.answered m (s.g BIND_STATUS_STATUS))) ∧
  (∀ (s : State) (m : Master) (tag : Fin 65536), s.up = true → s.accepts m .BIND_CMD 0 = true → s.cmt.bind = none → s.cmt.bindDone = true → s.g BIND_STATUS_TAG = tag →
      Completes (.dcRelease m tag) s (fun t => t.cmt = s.cmt ∧ t.answered m (s.g BIND_STATUS_STATUS))) ∧
  (∀ (s : State) (m : Master) (tag : Fin 65536), s.up = true → s.accepts m .BIND_CMD 0 = true → s.cmt.bind = none → s.cmt.bindDone = true → s.g BIND_STATUS_TAG = tag →
      Completes (.dcForceRelease m tag) s (fun t => t.cmt = s.cmt ∧ t.answered m (s.g BIND_STATUS_STATUS))) ∧
  (∀ (s : State) (m : Master) (tag : Fin 65536), s.up = true → s.accepts m .BIND_CMD 0 = true → s.cmt.bind = none → s.cmt.bindDone = true → s.g BIND_STATUS_TAG = tag →
      Completes (.ptBind m tag) s (fun t => t.cmt = s.cmt ∧ t.answered m (s.g BIND_STATUS_STATUS))) ∧
  (∀ (s : State) (m : Master) (tag : Fin 65536), s.up = true → s.accepts m .BIND_CMD 0 = true → s.cmt.bind = none → s.cmt.bindDone = true → s.g BIND_STATUS_TAG = tag →
      Completes (.ptUnbind m tag) s (fun t => t.cmt = s.cmt ∧ t.answered m (s.g BIND_STATUS_STATUS))) ∧
  (∀ (s : State) (m : Master) (tag : Fin 65536), s.up = true → s.accepts m .BIND_CMD 0 = true → s.cmt.bind = none → s.cmt.bindDone = true → s.g BIND_STATUS_TAG = tag →
      Completes (.ldAttach m tag) s (fun t => t.cmt = s.cmt ∧ t.answered m (s.g BIND_STATUS_STATUS))) ∧
  (∀ (s : State) (m : Master) (tag : Fin 65536), s.up = true → s.accepts m .BIND_CMD 0 = true → s.cmt.bind = none → s.cmt.bindDone = true → s.g BIND_STATUS_TAG = tag →
      Completes (.ldDetach m tag) s (fun t => t.cmt = s.cmt ∧ t.answered m (s.g BIND_STATUS_STATUS)))

/-- Spilled cells return, units age, buffer errors poison or conclude a unit, and units depart. SPILL_READBACK brings all spilled cells of a waiting unit back on die where the HBM runs, free shared cells exceed twice the threshold and there is room (R89). AGE_EXPIRY removes a waiting request other than a module access, a completion and a unit for another device, counts it by class and records it NC (R94, R95). An error of spilled cells sets OVF_CE, or OVF_UE with the payload poisoned; one of on-die cells sets CELL_UE with the payload poisoned; a lost header sets HDR_UE, ends the unit and records it NC (R91). The oldest unit of a slice's queue goes to its home where no cell of it is spilled. Of the queue that the round robin of an ACTIVE port serves, the unit that may leave is sent to the partner and held as sent, and a posted one is gone (R96, R109). A tick advances the ticks of the shapers and leaves every unit. The head of a penalty list that is coloured red again is counted and stays, and another leaves its list (R106). A fenced unit goes on once no unit of its flow is under way on another path (R87). Each clause concludes that exec answers a next state, from hypotheses on the state and the operands alone, for: SPILL_READBACK, AGE_EXPIRY, BUFFER_ECC_ERROR, EGRESS_DEPARTURE, SHAPER_TICK, PENALTY_RELEASE, PATH_FENCE_LIFT. -/
def Obligations.BuffersAgeingAndDeparture : Prop :=
  (∀ (s : State) (id : Nat) (u : Txn), s.up = true → s.txn id = some u → u.place.waits = true → s.hbmUp = true → 2 * (s.g SW_OVF_CFG_SPILL_THR_U * 256) < s.freeShared u.die → u.spilled ≤ s.freeFor u.die u.cls →
      Completes (.spillReadback id) s (fun t => t.txn id = some { u with spilled := 0 })) ∧
  (∀ (s : State) (id : Nat) (u : Txn), s.up = true → s.txn id = some u → u.place.waits = true → u.kind ≠ .modRead → u.kind ≠ .modWrite → u.kind ≠ .ioCpl → u.kind ≠ .far →
      Completes (.ageExpiry id) s (fun t => t.txn id = none ∧ t.reported (src 0x04 8) NC (scope 1 (u.inst % 4096)) = true ∧ t.g SW_AGE_STATUS_AGED_MREQ = (if u.cls = 0 then min (s.g SW_AGE_STATUS_AGED_MREQ + 1) (2 ^ SW_AGE_STATUS_AGED_MREQ.width - 1) else s.g SW_AGE_STATUS_AGED_MREQ) ∧ t.g SW_AGE_STATUS_AGED_IO = (if u.cls = 0 then s.g SW_AGE_STATUS_AGED_IO else min (s.g SW_AGE_STATUS_AGED_IO + 1) (2 ^ SW_AGE_STATUS_AGED_IO.width - 1)))) ∧
  (∀ (s : State) (id : Nat) (u : Txn), s.up = true → s.txn id = some u → u.spilled ≠ 0 →
      Completes (.bufferEccError id .spillCe) s (fun t => t.g SW_ERR_STATUS_OVF_CE = 1 ∧ t.txn id = some u)) ∧
  (∀ (s : State) (id : Nat) (u : Txn), s.up = true → s.txn id = some u → u.spilled ≠ 0 →
      Completes (.bufferEccError id .spillUe) s (fun t => t.g SW_ERR_STATUS_OVF_UE = 1 ∧ t.txn id = some { u with poison := true })) ∧
  (∀ (s : State) (id : Nat) (u : Txn), s.up = true → s.txn id = some u → u.cells ≠ u.spilled →
      Completes (.bufferEccError id .cell) s (fun t => t.g SW_ERR_STATUS_CELL_UE = 1 ∧ t.txn id = some { u with poison := true })) ∧
  (∀ (s : State) (id : Nat) (u : Txn), s.up = true → s.txn id = some u →
      Completes (.bufferEccError id .header) s (fun t => t.g SW_ERR_STATUS_HDR_UE = 1 ∧ t.txn id = none ∧ t.reported (src 0x04 SW_ERR_STATUS_HDR_UE.lsb) NC (scope 1 (u.inst % 4096)) = true)) ∧
  (∀ (s : State) (sl : SliceId) (id : Nat) (u : Txn), s.up = true → s.headOf (fun x => x.place == .toHome sl) = some (id, u) → u.spilled = 0 →
      Completes (.egressDeparture (.slice sl)) s (fun t => t.txn id = some { u with place := .home })) ∧
  (∀ (s : State) (c : PortId) (q : Nat) (r : State) (id : Nat) (u : Txn), s.up = true → s.portState c = 0 → s.wrrPick c = some (q, r) → s.nextFor c q = some (id, u) → u.kind ≠ .ioPosted → u.kind ≠ .ioCpl → u.kind ≠ .pbr →
      Completes (.egressDeparture (.port c)) s (fun t => t.txn id = some { u with place := .sent c, outStream := s.outStreamOf c } ∧ Msg.unitOut c id u.kind (if u.kind = .modRead || u.kind = .modWrite then u.dpa else u.host) u.data u.poison ∈ t.outbox)) ∧
  (∀ (s : State) (c : PortId) (q : Nat) (r : State) (id : Nat) (u : Txn), s.up = true → s.portState c = 0 → s.wrrPick c = some (q, r) → s.nextFor c q = some (id, u) → u.kind = .ioPosted →
      Completes (.egressDeparture (.port c)) s (fun t => t.txn id = none ∧ Msg.unitOut c id u.kind u.host u.data u.poison ∈ t.outbox)) ∧
  (∀ (s : State), s.up = true →
      Completes (.shaperTick) s (fun t => t.sw.tickNs = s.sw.tickNs + 16 * 2 ^ s.g TB_CFG_TICK_SEL ∧ t.sw.txns = s.sw.txns ∧ t.regs = s.regs)) ∧
  (∀ (s : State) (inst : Fin 16384) (core : Fin 4096) (id : Nat) (u : Txn), s.up = true → s.headOf (fun x => x.place == .penalty && x.inst == inst.val && x.src == core.val && x.dev == s.dev) = some (id, u) → (s.handled (meterOf u) u.len u.inst (if u.spilled = 0 then s.spillOf u else 0) u.die).1 = 2 →
      Completes (.penaltyRelease inst core) s (fun t => t = s.inc MTR_STATUS_RED_CNT (meterOf u))) ∧
  (∀ (s : State) (inst : Fin 16384) (core : Fin 4096) (id : Nat) (u : Txn), s.up = true → s.headOf (fun x => x.place == .penalty && x.inst == inst.val && x.src == core.val && x.dev == s.dev) = some (id, u) → (s.handled (meterOf u) u.len u.inst (if u.spilled = 0 then s.spillOf u else 0) u.die).1 ≠ 2 → u.width = 0 →
      Completes (.penaltyRelease inst core) s (fun t => (t.txn id).any (fun x => x.place != .penalty) = true)) ∧
  (∀ (s : State) (id : Nat) (u : Txn), s.up = true → s.txn id = some u → u.place = .fenced → s.sw.txns.any (fun e => sameFlow e.2 u && s.underWay e.1 e.2 && e.2.path != s.pathOf u) = false → s.sw.txns.all (fun e => !(sameFlow e.2 u) || e.2.slice.isSome || !e.2.kind.composed) = true →
      Completes (.pathFenceLift id) s (fun t => (t.txn id).any (fun x => x.place != .fenced) = true))

/-- Answers conclude the requests they answer; carried units and PBR flits reach their port. At ports that are not looped. An answer to a request that a port sent ends it and answers its source on this device with its data, or, poisoned, with the outcome of its class (R43). A snoop or response of classes 1 and 2, and a completion with Relaxed Ordering, is carried to a port that is not DOWN, and at one that is DOWN it is discarded and counted (R83, R84). A PBR response that a port may receive concludes the PBR request of its tag that waits on its way back; one that lost to its drain timeout is discarded, counted and recorded (R43, R60); one that answers none leaves at the edge port, or by the route, of its destination ID, is discarded and counted where that port is DOWN, and crosses Sirfin where the port is on another device. A PBR request at an open port goes in flight as a unit of its instance towards that port, or is answered with LINK_DOWN where its device has departed. With no edge port and no route a response is counted in UNROUTED and reported CE, and a request is answered poisoned and reported NC (R56, R58, R77). Each clause concludes that exec answers a next state, from hypotheses on the state and the operands alone, for: RESPONSE_INGRESS, PBR_FLIT_ARRIVAL. -/
def Obligations.ResponsesAndFabricFlits : Prop :=
  (∀ (s : State) (c : PortId) (id : Nat) (data : List Byte) (poison : Bool) (u : Txn), s.up = true → s.portState c ≠ 4 → s.txn id = some u → u.place = .sent c → u.kind ≠ .modRead → u.kind ≠ .modWrite → u.kind ≠ .ioPosted → u.kind ≠ .pbr → u.dev = s.dev → u.dropped = false → u.src < 128 → s.portState u.src ≠ 4 →
      Completes (.responseIngress c (.answer id data poison)) s (fun t => t.txn id = none ∧ Msg.hostAnswer u.src u.tag (hostOutcome u.kind (if poison then ST_POISON else ST_OK)) (if poison then [] else data) ∈ t.outbox)) ∧
  (∀ (s : State) (c : PortId) (dest : PortId) (inst : InstId) (cls : Fin 6) (ro : Bool) (data : List Byte), s.up = true → s.portState c ≠ 3 → s.portState dest ≠ 3 → s.portState dest ≠ 4 → (cls.val = 1 ∨ cls.val = 2 ∨ (cls.val = 5 ∧ ro = true)) →
      Completes (.responseIngress c (.carry dest inst cls ro data)) s (fun t => Msg.carried dest cls data ∈ t.outbox)) ∧
  (∀ (s : State) (c : PortId) (dest : PortId) (inst : InstId) (cls : Fin 6) (ro : Bool) (data : List Byte), s.up = true → s.portState c ≠ 3 → s.portState dest = 3 → (cls.val = 1 ∨ cls.val = 2 ∨ (cls.val = 5 ∧ ro = true)) →
      Completes (.responseIngress c (.carry dest inst cls ro data)) s (fun t => (t.port dest).discarded = (s.port dest).discarded + 1 ∧ t.outbox.contains (Msg.carried dest cls data) = s.outbox.contains (Msg.carried dest cls data))) ∧
  (∀ (s : State) (c : PortId) (dest : Fin 4096) (tag : Nat) (data : List Byte) (w : PbrWay) (id : Nat) (u : Txn), s.up = true → s.isFollower c = false → s.portState c ≠ 3 → s.portState c ≠ 4 → s.ioOnly c = false → s.streamShut c = false → (s.port c).latePbr.contains tag = false → s.pbrWay dest.val = some w → s.sw.txns.find? (fun e => e.2.kind == .pbr && e.2.place == .sent c && e.2.tag == tag && e.2.dev == w.dev && (e.2.src == w.egress || w.alt == some e.2.src)) = some (id, u) → u.dev = s.dev → u.src < 128 → s.portState u.src = 0 → u.dropped = false →
      Completes (.pbrFlitArrival c dest (.response tag data)) s (fun t => t.txn id = none ∧ Msg.pbrOut s.dev u.src true data ∈ t.outbox)) ∧
  (∀ (s : State) (c : PortId) (dest : Fin 4096) (tag : Nat) (data : List Byte) (w : PbrWay) (e : Nat), s.up = true → s.isFollower c = false → s.portState c ≠ 3 → s.portState c ≠ 4 → s.ioOnly c = false → s.streamShut c = false → (s.port c).latePbr.contains tag = false → s.sw.txns.any (fun e => e.2.kind == .pbr && e.2.place == .sent c && e.2.tag == tag) = false → s.pbrWay dest.val = some w → w.dev = s.dev → e = s.pbrOut (w.mask false) → s.portState e ≠ 3 → s.portState e ≠ 4 →
      Completes (.pbrFlitArrival c dest (.response tag data)) s (fun t => Msg.pbrOut s.dev e true data ∈ t.outbox)) ∧
  (∀ (s : State) (c : PortId) (dest : Fin 4096) (tag : Nat) (data : List Byte) (w : PbrWay) (e : Nat), s.up = true → s.isFollower c = false → s.portState c ≠ 3 → s.portState c ≠ 4 → s.ioOnly c = false → s.streamShut c = false → (s.port c).latePbr.contains tag = false → s.sw.txns.any (fun e => e.2.kind == .pbr && e.2.place == .sent c && e.2.tag == tag) = false → s.pbrWay dest.val = some w → w.dev = s.dev → e = s.pbrOut (w.mask false) → s.portState e = 3 →
      Completes (.pbrFlitArrival c dest (.response tag data)) s (fun t => (t.port e).discarded = (s.port e).discarded + 1 ∧ t.outbox = s.outbox)) ∧
  (∀ (s : State) (c : PortId) (dest : Fin 4096) (tag : Nat) (data : List Byte) (w : PbrWay), s.up = true → s.isFollower c = false → s.portState c ≠ 3 → s.portState c ≠ 4 → s.ioOnly c = false → s.streamShut c = false → (s.port c).latePbr.contains tag = false → s.sw.txns.any (fun e => e.2.kind == .pbr && e.2.place == .sent c && e.2.tag == tag) = false → s.pbrWay dest.val = some w → w.dev ≠ s.dev →
      Completes (.pbrFlitArrival c dest (.response tag data)) s (fun t => t = s.stackPush { kind := 0, code := 12, cls := 2, src := c, sdev := s.dev, ddev := w.dev, mask := w.mask false, data := data })) ∧
  (∀ (s : State) (c : PortId) (dest : Fin 4096) (tag : Nat) (data : List Byte), s.up = true → s.isFollower c = false → s.portState c ≠ 3 → s.portState c ≠ 4 → s.ioOnly c = false → s.streamShut c = false → (s.port c).latePbr.contains tag = false → s.pbrWay dest.val = none →
      Completes (.pbrFlitArrival c dest (.response tag data)) s (fun t => t.g PBR_STATUS_UNROUTED = min (s.g PBR_STATUS_UNROUTED + 1) (2 ^ PBR_STATUS_UNROUTED.width - 1) ∧ t.reported (src 0x05 2) CE (scope 2 (s.lead c)) = true)) ∧
  (∀ (s : State) (c : PortId) (dest : Fin 4096) (tag : Nat) (data : List Byte), s.up = true → s.isFollower c = false → s.portState c ≠ 3 → s.portState c ≠ 4 → s.ioOnly c = false → s.streamShut c = false → (s.port c).latePbr.contains tag = true →
      Completes (.pbrFlitArrival c dest (.response tag data)) s (fun t => (t.port c).discarded = (s.port c).discarded + 1 ∧ t.reported (src 0x03 63) CE (scope 2 c) = true ∧ t.outbox = s.outbox)) ∧
  (∀ (s : State) (c : PortId) (dest : Fin 4096) (inst : InstId) (read : Bool) (tag : Nat) (data : List Byte) (w : PbrWay) (id : Nat), s.up = true → s.ingressOpen c (s.outStreamOf c) false false = true → s.portState c = 0 → s.pbrWay dest.val = some w → (w.dev = s.dev ∨ (s.g STK_STATUS_STATE ≠ 4 ∧ s.on STK_PEER_DEPARTED w.dev = false)) → (s.takeUnit (s.pbrTxn c dest.val inst tag read data w)).2 = .inFlight id →
      Completes (.pbrFlitArrival c dest (.request inst read tag data)) s (fun t => (t.txn id).any (fun x => x.kind == .pbr && x.src == c.val && x.tag == tag && x.hdev == w.dev && x.mod == 16 * s.pbrOut (w.mask read) && x.data == data && x.inst == s.dev * 4096 + inst.val) = true)) ∧
  (∀ (s : State) (c : PortId) (dest : Fin 4096) (inst : InstId) (read : Bool) (tag : Nat) (data : List Byte) (w : PbrWay), s.up = true → s.ingressOpen c (s.outStreamOf c) false false = true → s.portState c = 0 → s.pbrWay dest.val = some w → w.dev ≠ s.dev → (s.g STK_STATUS_STATE = 4 ∨ s.on STK_PEER_DEPARTED w.dev = true) →
      Completes (.pbrFlitArrival c dest (.request inst read tag data)) s (fun t => Msg.hostAnswer c tag (hostOutcome .pbr ST_LINK_DOWN) [] ∈ t.outbox)) ∧
  (∀ (s : State) (c : PortId) (dest : Fin 4096) (inst : InstId) (read : Bool) (tag : Nat) (data : List Byte), s.up = true → s.ingressOpen c (s.outStreamOf c) false false = true → s.portState c = 0 → s.pbrWay dest.val = none →
      Completes (.pbrFlitArrival c dest (.request inst read tag data)) s (fun t => Msg.hostAnswer c tag 1 [] ∈ t.outbox ∧ t.reported (src 0x05 2) NC (scope 1 inst) = true))

/-- Requests of a partner are decoded and put in flight, or answered where nothing decodes them. At an open, ACTIVE port. A CXL.mem request of a HOST port that no decoder of a bound vPPB claims is answered, a read poisoned, and reported CE, and no unit is made (R436). One that a decoder claims, of an instance not CONTAINED or RESETTING, within its window and past the port's gate, goes in flight with its tag, the kind of its operation and the fabric address of its window; beyond the window it is answered and reported NC; of a CONTAINED or RESETTING instance it is answered with an error (R66 to R68, R280). A passthrough or CXL.io request of such an instance goes in flight towards the module of its binding with its tag, kind and address (R73). A BAR access of the instance's own port that its meter does not hold is made, and a read answers the register's bytes (R28, R100). A decoder programmed within the rules is held, and a logical device's report is answered (R67). A fatal error message of a module whose downstream port containment is on takes its link down, contained, with no surprise, and margining is answered from 16 GT/s on (R54; how is the model's choice, logs 107 and 120). Each clause concludes that exec answers a next state, from hypotheses on the state and the operands alone, for: INGRESS_REQUEST. -/
def Obligations.IngressRequests : Prop :=
  (∀ (s : State) (c : PortId) (im : IngressMeta) (hpa : Nat) (kind : MemKind) (data : List Byte) (mask : Nat) (poison : Bool) (keepS : Bool), s.up = true → s.ingressOpen c (im.stream.map (·.val)) false false = true → s.portState c = 0 → s.g PC_LINK_STATUS_ROLE_BOUND c = 1 → s.hdmDecode c hpa = none →
      Completes (.ingressRequest c im (.mem hpa kind data mask poison keepS)) s (fun t => Msg.hostAnswer c im.tag (if memWrites kind then 0 else 1) [] ∈ t.outbox ∧ t.reported (src 0x05 4) CE (scope 2 c) = true ∧ t.sw.txns = s.sw.txns)) ∧
  (∀ (s : State) (c : PortId) (im : IngressMeta) (hpa : Nat) (kind : MemKind) (data : List Byte) (mask : Nat) (poison : Bool) (keepS : Bool) (k : Nat) (dpa : Nat) (i : Nat) (id : Nat), s.up = true → s.ingressOpen c (im.stream.map (·.val)) false false = true → s.portState c = 0 → s.g PC_LINK_STATUS_ROLE_BOUND c = 1 → s.hdmDecode c hpa = some (k, dpa) → s.g VPPB_ENTRY_INST c k = i → s.instState i ≠ 4 → s.instState i ≠ 5 → s.on IW_BASE_VALID i = true → dpa < s.g IW_LIMIT_SIZE_GIB i * 2 ^ 30 → (s.gateCheck (.port c) { space := 0, addr := (s.memUnit c im i hpa dpa kind data mask poison keepS).addr, len := 64, kind := if (s.memUnit c im i hpa dpa kind data mask poison keepS).kind.writes then 1 else 0, level := 2, inst := s.dev * 4096 + i }).isNone = true → (s.admitComposed (s.memUnit c im i hpa dpa kind data mask poison keepS)).2 = .inFlight id →
      Completes (.ingressRequest c im (.mem hpa kind data mask poison keepS)) s (fun t => (t.txn id).any (fun x => x.src == c.val && x.tag == im.tag && x.kind == memReq (s.hdmDb i dpa) kind && x.addr == s.g IW_BASE_FPA_BASE i * 2 ^ 30 + dpa && x.data == (s.memUnit c im i hpa dpa kind data mask poison keepS).data) = true)) ∧
  (∀ (s : State) (c : PortId) (im : IngressMeta) (hpa : Nat) (kind : MemKind) (data : List Byte) (mask : Nat) (poison : Bool) (keepS : Bool) (k : Nat) (dpa : Nat) (i : Nat), s.up = true → s.ingressOpen c (im.stream.map (·.val)) false false = true → s.portState c = 0 → s.g PC_LINK_STATUS_ROLE_BOUND c = 1 → s.hdmDecode c hpa = some (k, dpa) → s.g VPPB_ENTRY_INST c k = i → s.instState i ≠ 4 → s.instState i ≠ 5 → (s.on IW_BASE_VALID i = false ∨ s.g IW_LIMIT_SIZE_GIB i * 2 ^ 30 ≤ dpa) →
      Completes (.ingressRequest c im (.mem hpa kind data mask poison keepS)) s (fun t => Msg.hostAnswer c im.tag (if memWrites kind then 0 else 1) [] ∈ t.outbox ∧ t.reported (src 0x05 0) NC (scope 1 ((s.dev * 4096 + i) % 4096)) = true)) ∧
  (∀ (s : State) (c : PortId) (im : IngressMeta) (hpa : Nat) (kind : MemKind) (data : List Byte) (mask : Nat) (poison : Bool) (keepS : Bool) (k : Nat) (dpa : Nat) (i : Nat), s.up = true → s.ingressOpen c (im.stream.map (·.val)) false false = true → s.portState c = 0 → s.g PC_LINK_STATUS_ROLE_BOUND c = 1 → s.hdmDecode c hpa = some (k, dpa) → s.g VPPB_ENTRY_INST c k = i → (s.instState i = 4 ∨ s.instState i = 5) →
      Completes (.ingressRequest c im (.mem hpa kind data mask poison keepS)) s (fun t => Msg.hostAnswer c im.tag 1 [] ∈ t.outbox ∧ t.sw.txns = s.sw.txns ∧ t.mem = s.mem)) ∧
  (∀ (s : State) (c : PortId) (im : IngressMeta) (v : Fin 64) (inst : InstId) (write : Bool) (hpa : Nat) (len : Nat) (data : List Byte) (m : Nat) (id : Nat), s.up = true → s.ingressOpen c (im.stream.map (·.val)) false false = true → s.portState c = 0 → s.instState inst.val ≠ 4 → s.instState inst.val ≠ 5 → s.ptDest c v = some m → (s.takeUnit { s.ingressTxn c im (s.dev * 4096 + inst.val) (if write then .ptWrite else .ptRead) hpa len (if write then data else []) with mod := m, dpa := hpa }).2 = .inFlight id →
      Completes (.ingressRequest c im (.pt v inst write hpa len data)) s (fun t => (t.txn id).any (fun x => x.src == c.val && x.tag == im.tag && x.mod == m && x.dpa == hpa && x.kind == (if write then .ptWrite else .ptRead)) = true)) ∧
  (∀ (s : State) (c : PortId) (im : IngressMeta) (v : Fin 64) (inst : InstId) (posted : Bool) (read : Bool) (addr : Nat) (len : Nat) (data : List Byte) (m : Nat) (id : Nat), s.up = true → s.ingressOpen c (im.stream.map (·.val)) true posted = true → s.portState c = 0 → s.instState inst.val ≠ 4 → s.instState inst.val ≠ 5 → s.ptDest c v = some m → (s.takeUnit { s.ingressTxn c im (s.dev * 4096 + inst.val) (if posted then .ioPosted else if read then .ioRead else .ioNp) addr len data with mod := m, dpa := addr }).2 = .inFlight id →
      Completes (.ingressRequest c im (.io v inst posted read addr len data)) s (fun t => (t.txn id).any (fun x => x.src == c.val && x.tag == im.tag && x.mod == m && x.dpa == addr && x.kind == (if posted then .ioPosted else if read then .ioRead else .ioNp)) = true)) ∧
  (∀ (s : State) (c : PortId) (im : IngressMeta) (inst : InstId) (offset : Nat) (width : Nat) (data : Nat) (u : Txn), s.up = true → s.ingressOpen c (im.stream.map (·.val)) true true = true → s.portState c = 0 → s.g PC_LINK_STATUS_ROLE_BOUND c = 1 → u = { s.ingressTxn c im (s.dev * 4096 + inst.val) .ioPosted offset (width / 8) (leBytes (width / 8) data) with width := width } → (s.vppbOfInst (u.inst % 4096)).any (fun b => b.1 == c.val) = true → s.penList u.inst c = [] → (s.handled (meterOf u) u.len u.inst 0 (dieOf c)).1 ≠ 2 →
      Completes (.ingressRequest c im (.bar inst true offset width data)) s (fun t => t = (((s.setBuckets (meterOf u) (s.handled (meterOf u) u.len u.inst 0 (dieOf c)).2).takenIn (s.arriving u)).access (.host (Fin.ofNat 4096 u.inst)) (offset % 0x4000000) width (some (leNat u.data))).1)) ∧
  (∀ (s : State) (c : PortId) (im : IngressMeta) (inst : InstId) (offset : Nat) (width : Nat) (data : Nat) (u : Txn), s.up = true → s.ingressOpen c (im.stream.map (·.val)) true false = true → s.portState c = 0 → s.g PC_LINK_STATUS_ROLE_BOUND c = 1 → u = { s.ingressTxn c im (s.dev * 4096 + inst.val) .ioRead offset (width / 8) [] with width := width } → (s.vppbOfInst (u.inst % 4096)).any (fun b => b.1 == c.val) = true → s.penList u.inst c = [] → (s.handled (meterOf u) u.len u.inst 0 (dieOf c)).1 ≠ 2 →
      Completes (.ingressRequest c im (.bar inst false offset width data)) s (fun t => Msg.hostAnswer c im.tag 0 (leBytes (width / 8) (((s.setBuckets (meterOf u) (s.handled (meterOf u) u.len u.inst 0 (dieOf c)).2).takenIn (s.arriving u)).access (.host (Fin.ofNat 4096 u.inst)) (offset % 0x4000000) width none).2.2) ∈ t.outbox)) ∧
  (∀ (s : State) (c : PortId) (im : IngressMeta) (v : Fin 64) (k : Fin 4) (base : Nat) (size : Nat) (ways : Nat) (gran : Nat) (pos : Nat), s.up = true → s.ingressOpen c (im.stream.map (·.val)) true true = true → s.portState c = 0 → s.g PC_LINK_STATUS_ROLE_BOUND c = 1 → ways ≠ 0 → s.hdmOk c v k ⟨base, size, ways, gran, pos⟩ = true →
      Completes (.ingressRequest c im (.decoder v k base size ways gran pos)) s (fun t => nget? (4 * v.val + k.val) (t.port c).decs = some ⟨base, size, ways, gran, pos⟩)) ∧
  (∀ (s : State) (c : PortId) (im : IngressMeta), s.up = true → s.ingressOpen c (im.stream.map (·.val)) true true = true → s.portState c = 0 → s.g PC_LINK_STATUS_ROLE_BOUND c = 2 → (s.port c).dpc = true →
      Completes (.ingressRequest c im (.errMsg true)) s (fun t => (t.port c).contained = true ∧ t.g PC_QUIESCE_STATUS_STATE c = 3 ∧ t.g PC_LINK_STATUS_LINK_STATE c = 0 ∧ t.g PC_ERR_STATUS_SURPRISE_DOWN c = s.g PC_ERR_STATUS_SURPRISE_DOWN c)) ∧
  (∀ (s : State) (c : PortId) (im : IngressMeta) (v : Fin 64), s.up = true → s.ingressOpen c (im.stream.map (·.val)) true true = true → s.portState c = 0 → s.g PC_LINK_STATUS_ROLE_BOUND c = 1 → s.g VPPB_ENTRY_KIND c v = 1 →
      Completes (.ingressRequest c im (.report v)) s (fun t => t = s.send (.hostAnswer c im.tag 0 (s.ldReport c v)))) ∧
  (∀ (s : State) (c : PortId) (im : IngressMeta) (lane : Fin 16) (timing : Bool) (offset : Nat), s.up = true → s.ingressOpen c (im.stream.map (·.val)) true true = true → s.portState c = 0 → s.linkUp c = true → 3 ≤ s.g PC_LINK_STATUS_RATE c → lane.val < s.g PC_LINK_STATUS_WIDTH_TRAINED c →
      Completes (.ingressRequest c im (.margin lane timing offset)) s (fun t => t = s.send (.margin c lane timing offset (Config.laneMargin c lane timing offset))))

/-- Requests enter their line's list or are held, and become active. A request that departed to its slice enters its line's list, in order of arrival, where it is no write to a page in SYNC and no request of its line is held; a write to a page in SYNC is held (R122, R153). Where the slice's filter is reached, its set is not degraded and the request is the line's next: an RD_CUR with no entry, whose line the memory-side cache holds without poison, is answered with its data and counted in MSC_HITS; one whose line it does not hold reads the module at the location of its epoch; a WR with no entry to a line the cache holds is put into the cache as dirty and answered; and a request to a line that one host of this device owns, not its own, snoops that host, with the kind 1 for RD_S, 2 for RD_CUR and 0 for the others (R123, R136). Each clause concludes that exec answers a next state, from hypotheses on the state and the operands alone, for: HOME_REQUEST_ARRIVAL, HOME_REQUEST_ACTIVATE. -/
def Obligations.HomeArrivalAndActivation : Prop :=
  (∀ (s : State) (id : Nat) (u : Txn), s.up = true → s.txn id = some u → u.place = .home → u.kind ≠ .wb → u.heldSync = false → (s.req id).isNone = true → u.parent = none → s.sw.txns.any (fun e => e.2.heldSync && e.2.addr / 64 == u.addr / 64) = false → (s.inSync (bits u.addr 21 32) && u.kind.writes) = false →
      Completes (.homeRequestArrival id) s (fun t => (t.req id).any (fun r => r.phase == .waiting && r.line == u.addr / 64 && r.order == s.hm.nextOrder) = true ∧ t.hm.nextOrder = s.hm.nextOrder + 1)) ∧
  (∀ (s : State) (id : Nat) (u : Txn), s.up = true → s.txn id = some u → u.place = .home → u.kind ≠ .wb → u.heldSync = false → (s.req id).isNone = true → u.parent = none → s.inSync (bits u.addr 21 32) = true → u.kind.writes = true →
      Completes (.homeRequestArrival id) s (fun t => t.txn id = some { u with heldSync := true, tQueue := s.now, qseq := s.sw.nextQ } ∧ t.hm = s.hm)) ∧
  (∀ (s : State) (line : Nat) (r : HomeReq) (u : Txn) (l : MscLine), s.up = true → s.on ISL_STATUS_CLK_PRESENT (32 + homeSlice (line * 64)) = true → s.nextOfLine line = some r → s.txn r.id = some u → s.isDegraded r.line = false → s.sfFind r.line = none → u.kind = .rdCur → nget? r.line s.hm.msc = some l → l.poison = false → s.locDead u.loc = false → r.status = ST_OK → r.bad = false → r.fwd = false → r.data = none → u.dev = s.dev → u.src < 128 → u.dropped = false → s.portState u.src ≠ 4 →
      Completes (.homeRequestActivate line) s (fun t => t.txn r.id = none ∧ t.req r.id = none ∧ Msg.hostAnswer u.src u.tag 0 l.data ∈ t.outbox ∧ t.g MSC_STATUS_MSC_HITS (homeSlice u.addr) = min (s.g MSC_STATUS_MSC_HITS (homeSlice u.addr) + 1) (2 ^ MSC_STATUS_MSC_HITS.width - 1))) ∧
  (∀ (s : State) (line : Nat) (r : HomeReq) (u : Txn), s.up = true → s.on ISL_STATUS_CLK_PRESENT (32 + homeSlice (line * 64)) = true → s.nextOfLine line = some r → s.txn r.id = some u → s.isDegraded r.line = false → s.sfFind r.line = none → u.kind = .rdCur → nget? r.line s.hm.msc = none → r.status = ST_OK → r.data = none →
      Completes (.homeRequestActivate line) s (fun t => (t.req r.id).any (fun x => x.phase == .reading && x.mods == [s.sw.nextId]) = true ∧ (s.locDead u.loc = true ∨ (t.txn s.sw.nextId).any (fun x => x.kind == .modRead && x.mod == u.loc.mod && x.dpa == u.loc.dpa && x.addr == u.addr) = true))) ∧
  (∀ (s : State) (line : Nat) (r : HomeReq) (u : Txn) (l : MscLine), s.up = true → s.on ISL_STATUS_CLK_PRESENT (32 + homeSlice (line * 64)) = true → s.nextOfLine line = some r → s.txn r.id = some u → s.isDegraded r.line = false → s.sfFind r.line = none → u.kind = .wr → u.addr / 64 = r.line → nget? r.line s.hm.msc = some l → (s.reqLocs u).any (fun l => s.locDead l) = false → r.status = ST_OK → r.bad = false → r.fwd = false → r.data = none → u.dev = s.dev → u.src < 128 → u.dropped = false → s.portState u.src ≠ 4 →
      Completes (.homeRequestActivate line) s (fun t => nget? r.line t.hm.msc = some ⟨u.data, true, u.poison⟩ ∧ t.txn r.id = none ∧ Msg.hostAnswer u.src u.tag 0 [] ∈ t.outbox)) ∧
  (∀ (s : State) (line : Nat) (r : HomeReq) (u : Txn) (e : SfEntry) (h : Nat), s.up = true → s.on ISL_STATUS_CLK_PRESENT (32 + homeSlice (line * 64)) = true → s.nextOfLine line = some r → s.txn r.id = some u → s.isDegraded r.line = false → s.sfFind r.line = some e → e.owned = true → e.coarse = false → e.holders = [h] → r.x ≠ some h → s.hm.departed = [] → h / 4096 = s.dev → h % 4096 < 0x80 → s.portState (h % 4096) ≠ 3 → (u.kind = .rdS ∨ u.kind = .rdA ∨ u.kind = .rdCur ∨ u.kind = .wr ∨ u.kind = .wrPtl) →
      Completes (.homeRequestActivate line) s (fun t => Msg.snoop h (if u.kind = .rdS then 1 else if u.kind = .rdCur then 2 else 0) r.line ∈ t.outbox ∧ (t.req r.id).any (fun x => x.phase == .snoops) = true))

/-- Snoop answers and timeouts, writebacks, notices, forwarded data and grants at the home. For lines whose home is this device. The last answer of a host, whose data came before it, ends an RD_A of a port here: it gets the data and becomes the line's owner. An answer that is not the last leaves the request waiting for the rest. A hearth's answer with data, the last one, puts an RD_A or RD_CUR of this device into the wait for its grant, with that data forwarded. An answer to an expired snoop is counted in LATE_SNP_RSP and changes no request. The timeout of a sharer sets SHARER_TMO; that of an owner whose data has not come sets OWNER_TMO, poisons the cached line and gives the request the status POISON. A WB is the data of the recall that waits for its writer, is written to the cache for the line's owner, which keeps S or nothing, or is discarded and counted in WB_DISCARDS. A clean-eviction notice takes the hearth out of an entry that is not coarse. BIConflict is answered with BIConflictAck. Data that comes before the grant waits for it, a grant that comes before the data waits for that, and a grant after the data ends the request with the data as its answer (R121, R122, R124 to R127, R129 to R131). Each clause concludes that exec answers a next state, from hypotheses on the state and the operands alone, for: SNOOP_ANSWER, SNOOP_TIMEOUT, WB_ARRIVAL, CLEAN_EVICTION_NOTICE, BICONFLICT, FORWARDED_DATA, HOME_GRANT. -/
def Obligations.HomeSnoopAnswers : Prop :=
  (∀ (s : State) (holder : Fin 16384) (line : Nat) (kept : Bool) (r : HomeReq) (sn : SnoopOut) (u : Txn) (d : List Byte) (x : Nat), s.up = true → holder.val / 4096 = s.dev → holder.val % 4096 < 0x80 → s.hm.answers.find? (fun a => a.holder == holder.val && a.line == line) = none → s.homeDev line = s.dev → s.snoopOwner holder line = some (r, sn) → r.rebuild = false → r.snoops.filter (· != sn) = [] → r.phase = .snoops → s.txn r.id = some u → u.kind = .rdA → r.data = some d → r.bad = false → r.status = ST_OK → r.fwd = false → r.x = some x → s.isDegraded r.line = false → u.dev = s.dev → u.src < 128 → u.dropped = false → s.portState u.src ≠ 4 →
      Completes (.snoopAnswer holder line kept) s (fun t => Msg.hostAnswer u.src u.tag 0 d ∈ t.outbox ∧ t.sfFind r.line = some { line := r.line, owned := true, holders := [x] } ∧ t.req r.id = none)) ∧
  (∀ (s : State) (holder : Fin 16384) (line : Nat) (kept : Bool) (r : HomeReq) (sn : SnoopOut), s.up = true → holder.val / 4096 = s.dev → holder.val % 4096 < 0x80 → s.hm.answers.find? (fun a => a.holder == holder.val && a.line == line) = none → s.homeDev line = s.dev → s.snoopOwner holder line = some (r, sn) → r.rebuild = false → r.snoops.filter (· != sn) ≠ [] →
      Completes (.snoopAnswer holder line kept) s (fun t => (t.req r.id).any (fun x => !(x.snoops.contains sn) && x.phase == r.phase) = true)) ∧
  (∀ (s : State) (holder : Fin 16384) (line : Nat) (kept : Bool) (r : HomeReq) (sn : SnoopOut) (u : Txn) (a : HearthAns) (d : List Byte), s.up = true → holder.val / 4096 = s.dev → s.hm.answers.find? (fun a => a.holder == holder.val && a.line == line) = some a → a.data = some d → s.homeDev line = s.dev → s.snoopOwner holder line = some (r, sn) → r.rebuild = false → sn.victim = false → sn.degraded = false → r.snoops.filter (· != sn) = [] → r.phase = .snoops → s.txn r.id = some u → (u.kind = .rdA ∨ u.kind = .rdCur) → u.dev = s.dev → a.dst = none → r.status = ST_OK →
      Completes (.snoopAnswer holder line kept) s (fun t => (t.req r.id).any (fun x => x.phase == .granting && x.data == some d && x.fwd) = true)) ∧
  (∀ (s : State) (holder : Fin 16384) (line : Nat) (kept : Bool), s.up = true → holder.val / 4096 = s.dev → holder.val % 4096 < 0x80 → s.hm.answers.find? (fun a => a.holder == holder.val && a.line == line) = none → s.homeDev line = s.dev → s.snoopOwner holder line = none → s.hm.expired.any (fun x => x.holder == holder.val && x.line == line) = true →
      Completes (.snoopAnswer holder line kept) s (fun t => t.g HOME_CNT_LATE_SNP_RSP = min (s.g HOME_CNT_LATE_SNP_RSP + 1) (2 ^ HOME_CNT_LATE_SNP_RSP.width - 1) ∧ t.hm.reqs = s.hm.reqs)) ∧
  (∀ (s : State) (holder : Fin 16384) (line : Nat) (r : HomeReq) (sn : SnoopOut), s.up = true → s.snoopOwner holder line = some (r, sn) → sn.owner = false → sn.degraded = false → r.snoops.filter (· != sn) ≠ [] →
      Completes (.snoopTimeout holder line) s (fun t => t.g HOME_ERR_STATUS_SHARER_TMO = 1 ∧ (t.req r.id).any (fun x => !(x.snoops.contains sn)) = true ∧ sn ∈ t.hm.expired)) ∧
  (∀ (s : State) (holder : Fin 16384) (line : Nat) (r : HomeReq) (sn : SnoopOut), s.up = true → s.snoopOwner holder line = some (r, sn) → sn.owner = true → sn.victim = false → sn.degraded = false → r.data = none → sn.got = false → (nget? sn.line s.hm.msc).isSome = true → (s.writeLocs (sn.line * 64)).any (fun l => s.locDead l) = false → r.snoops.filter (· != sn) ≠ [] →
      Completes (.snoopTimeout holder line) s (fun t => t.g HOME_ERR_STATUS_OWNER_TMO = 1 ∧ nget? sn.line t.hm.msc = some ⟨List.replicate 64 0, true, true⟩ ∧ (t.req r.id).any (fun x => x.status == ST_POISON) = true)) ∧
  (∀ (s : State) (id : Nat) (u : Txn) (r : HomeReq) (sn : SnoopOut), s.up = true → s.txn id = some u → u.kind = .wb → u.place = .home → s.snoopOwner (u.dev * 4096 + u.src) (u.addr / 64) = some (r, sn) → sn.degraded = false → r.rebuild = false →
      Completes (.wbArrival id) s (fun t => (t.req r.id).any (fun x => x.data == some u.data && x.bad == u.poison) = true ∧ t.txn id = none)) ∧
  (∀ (s : State) (id : Nat) (u : Txn) (e : SfEntry), s.up = true → s.txn id = some u → u.kind = .wb → u.place = .home → s.snoopOwner (u.dev * 4096 + u.src) (u.addr / 64) = none → s.sfFind (u.addr / 64) = some e → e.owned = true → e.holders.contains (u.dev * 4096 + u.src) = true → s.isDegraded (u.addr / 64) = false → (nget? (u.addr / 64) s.hm.msc).isSome = true → (s.reqLocs u).any (fun l => s.locDead l) = false →
      Completes (.wbArrival id) s (fun t => nget? (u.addr / 64) t.hm.msc = some ⟨u.data, true, u.poison⟩ ∧ t.sfFind (u.addr / 64) = (if u.keepS then some { line := u.addr / 64, holders := [(u.dev * 4096 + u.src)] } else none) ∧ t.txn id = none)) ∧
  (∀ (s : State) (id : Nat) (u : Txn), s.up = true → s.txn id = some u → u.kind = .wb → u.place = .home → s.snoopOwner (u.dev * 4096 + u.src) (u.addr / 64) = none → s.sfFind (u.addr / 64) = none → s.isDegraded (u.addr / 64) = false →
      Completes (.wbArrival id) s (fun t => t.g HOME_CNT_WB_DISCARDS = min (s.g HOME_CNT_WB_DISCARDS + 1) (2 ^ HOME_CNT_WB_DISCARDS.width - 1) ∧ t.txn id = none ∧ t.hm.msc = s.hm.msc)) ∧
  (∀ (s : State) (h : HearthId) (line : Nat) (e : SfEntry), s.up = true → s.hm.notices.contains (h.val, line) = true → s.homeDev line = s.dev → s.sfFind line = some e → e.coarse = false →
      Completes (.cleanEvictionNotice h line) s (fun t => (t.sfFind line).all (fun y => !(y.holders.contains (s.dev * 4096 + 0x80 + h.val))) = true)) ∧
  (∀ (s : State) (c : PortId) (tag : Nat), s.up = true → s.portState c ≠ 3 → s.portState c ≠ 4 →
      Completes (.biconflict c tag) s (fun t => t = s.send (.biConflictAck c tag))) ∧
  (∀ (s : State) (id : Nat) (r : HomeReq), s.up = true → s.req id = some r → r.id = id → r.fwd = true → r.granted = false →
      Completes (.forwardedData id) s (fun t => t.req id = some { r with arrived := true })) ∧
  (∀ (s : State) (id : Nat) (r : HomeReq) (u : Txn), s.up = true → s.req id = some r → r.id = id → r.phase = .granting → r.arrived = true → s.txn id = some u → r.status = ST_OK → u.kind ≠ .ioPosted → u.dev = s.dev → u.src < 128 → u.dropped = false → s.portState u.src ≠ 4 →
      Completes (.homeGrant id) s (fun t => t.req id = none ∧ t.txn id = none ∧ Msg.hostAnswer u.src u.tag 0 (r.data.getD []) ∈ t.outbox)) ∧
  (∀ (s : State) (id : Nat) (r : HomeReq), s.up = true → s.req id = some r → r.id = id → r.phase = .granting → r.arrived = false → r.status = ST_OK →
      Completes (.homeGrant id) s (fun t => t.req id = some { r with granted := true }))

/-- The answer of a module completes its request, and an access that loses to MEM_TMO_US ends it with an error. At ports that are not looped and with the memory-side cache off: the answer to the module read of an RD_CUR of a port here is its answer, poisoned where the module's is; the answer to the last module write of a WR completes it. A module read that loses to its timeout sets MEM_TMO, answers the RD_CUR with outcome 1 and is kept as late; a copy that loses outside TRAIL abandons its migration with a record in the move log (R123, R132, R160). Each clause concludes that exec answers a next state, from hypotheses on the state and the operands alone, for: MODULE_ACCESS_COMPLETE, MEM_TIMEOUT. -/
def Obligations.HomeModuleAccesses : Prop :=
  (∀ (s : State) (id : Nat) (data : List Byte) (poison : Bool) (u : Txn) (v : Txn) (c : Nat) (p : Nat) (r : HomeReq), s.up = true → s.portState v.src ≠ 4 → s.txn id = some u → u.place = .sent c → s.loopPeer c = none → u.parent = some p → p ≠ id → s.req p = some r → r.id = p → s.txn p = some v → v.dev = s.dev → v.src < 128 → v.dropped = false → r.status = ST_OK → r.fwd = false → u.kind = .modRead → r.phase = .reading → v.kind = .rdCur → s.on HOME_CFG_MSC_EN = false →
      Completes (.moduleAccessComplete id data poison) s (fun t => Msg.hostAnswer v.src v.tag (if poison then 1 else 0) (if poison then [] else (data ++ List.replicate 64 0).take 64) ∈ t.outbox ∧ t.txn id = none ∧ t.txn p = none ∧ t.req p = none)) ∧
  (∀ (s : State) (id : Nat) (data : List Byte) (poison : Bool) (u : Txn) (v : Txn) (c : Nat) (p : Nat) (r : HomeReq), s.up = true → s.portState v.src ≠ 4 → s.txn id = some u → u.place = .sent c → s.loopPeer c = none → u.parent = some p → p ≠ id → s.req p = some r → r.id = p → s.txn p = some v → v.dev = s.dev → v.src < 128 → v.dropped = false → r.status = ST_OK → r.fwd = false → u.kind = .modWrite → r.phase = .writing → v.kind = .wr → r.mods = [id] →
      Completes (.moduleAccessComplete id data poison) s (fun t => Msg.hostAnswer v.src v.tag 0 [] ∈ t.outbox ∧ t.txn id = none ∧ t.txn p = none ∧ t.req p = none)) ∧
  (∀ (s : State) (id : Nat) (u : Txn) (v : Txn) (p : Nat) (r : HomeReq), s.up = true → s.portState v.src ≠ 4 → s.txn id = some u → u.parent = some p → p ≠ id → s.req p = some r → r.id = p → s.txn p = some v → v.dev = s.dev → v.src < 128 → v.dropped = false → r.status = ST_OK → r.fwd = false → u.kind = .modRead → r.phase = .reading → v.kind = .rdCur →
      Completes (.memTimeout (.home id)) s (fun t => t.g HOME_ERR_STATUS_MEM_TMO = 1 ∧ Msg.hostAnswer v.src v.tag 1 [] ∈ t.outbox ∧ t.txn id = none ∧ nget? id t.hm.lateMem = some u.inst)) ∧
  (∀ (s : State) (k : Fin 4096) (m : Migration), s.up = true → nget? k.val s.plc.migs = some m → m.state ≠ 4 → s.hbmUp = true →
      Completes (.memTimeout (.copy k)) s (fun t => nget? k.val t.plc.migs = none ∧ t.g PLC_LOG_IDX_PROD = (s.g PLC_LOG_IDX_PROD + 1) % 2 ^ 32))

/-- Errors of the filter and of the cache; the probe, the rebuild and the flush. A corrected filter error sets SF_CE and is reported CE; an uncorrected one degrades its set, whose entries stay recorded, as PF, and where 64 sets of the slice are degraded already it degrades the slice, as DF. A corrected cache error sets MSC_CE; an uncorrected one of a clean line drops it and reads it again from its module; one of a dirty line sets MSC_UE as NC and leaves the line poisoned. SF_PROBE sets DONE, HIT and DEGRADED of its line. A rebuild of a degraded set starts where none runs, is refused with ACCESS_DENIED for a set that is not degraded, and at its end the set is empty and no longer degraded. MSC_FLUSH sets FLUSH_BUSY and leaves every line marked clean in the cache, or answers LATE while one runs, and its end clears FLUSH_BUSY and records FLUSH_NS (R136 to R138). Each clause concludes that exec answers a next state, from hypotheses on the state and the operands alone, for: SF_ECC_ERROR, MSC_ECC_ERROR, SF_PROBE, SF_REBUILD, SF_REBUILD_DONE, MSC_FLUSH, MSC_FLUSH_DONE. -/
def Obligations.HomeErrorsProbeAndFlush : Prop :=
  (∀ (s : State) (slice : SliceId) (set : Fin 33554432), s.up = true →
      Completes (.sfEccError slice set false) s (fun t => t.g HOME_ERR_STATUS_SF_CE = 1 ∧ t.reported (src 0x07 4) CE (scope 6 slice) = true ∧ t.hm = s.hm)) ∧
  (∀ (s : State) (slice : SliceId) (set : Fin 33554432), s.up = true → s.hm.degraded.contains (slice.val * 2 ^ 25 + set.val) = false → s.on HOME_SLICE_STATUS_DEGRADED_ALL slice = false → (s.hm.degraded.filter (fun k => k / 2 ^ 25 == slice.val)).length < 64 →
      Completes (.sfEccError slice set true) s (fun t => t.g HOME_SLICE_STATUS_DEGRADED_SETS slice = (s.hm.degraded.filter (fun k => k / 2 ^ 25 == slice.val)).length + 1 ∧ t.hm.degraded = (slice.val * 2 ^ 25 + set.val) :: s.hm.degraded ∧ t.hm.sf = s.hm.sf ∧ t.g HOME_ERR_STATUS_SF_UE = 1 ∧ t.cond (src 0x07 5) (scope 6 slice) = true)) ∧
  (∀ (s : State) (slice : SliceId) (set : Fin 33554432), s.up = true → s.hm.degraded.contains (slice.val * 2 ^ 25 + set.val) = false → s.on HOME_SLICE_STATUS_DEGRADED_ALL slice = false → 64 ≤ (s.hm.degraded.filter (fun k => k / 2 ^ 25 == slice.val)).length →
      Completes (.sfEccError slice set true) s (fun t => t.g HOME_SLICE_STATUS_DEGRADED_ALL slice = 1 ∧ t.g HOME_ERR_STATUS_SF_DEGRADED_ALL = 1 ∧ t.reported (src 0x07 6) DF 0 = true)) ∧
  (∀ (s : State) (line : Nat) (l : MscLine), s.up = true → nget? line s.hm.msc = some l →
      Completes (.mscEccError line false) s (fun t => t.g HOME_ERR_STATUS_MSC_CE = 1 ∧ t.hm.msc = s.hm.msc)) ∧
  (∀ (s : State) (line : Nat) (l : MscLine) (q : Loc), s.up = true → nget? line s.hm.msc = some l → l.dirty = false → s.resolve (line * 64) = some q → s.locDead (s.locAt q.set q.so) = false →
      Completes (.mscEccError line true) s (fun t => t.g HOME_ERR_STATUS_MSC_CE = 1 ∧ nget? line t.hm.msc = none ∧ (t.txn s.sw.nextId).any (fun x => x.kind == .modRead && x.addr == line * 64) = true)) ∧
  (∀ (s : State) (line : Nat) (l : MscLine), s.up = true → nget? line s.hm.msc = some l → l.dirty = true →
      Completes (.mscEccError line true) s (fun t => t.g HOME_ERR_STATUS_MSC_UE = 1 ∧ nget? line t.hm.msc = some { l with dirty := false, poison := true } ∧ t.reported (src 0x07 8) NC (scope 1 (s.instOf (line * 64) % 4096)) = true)) ∧
  (∀ (s : State) (m : Master), s.up = true → s.accepts m .SF_PROBE_CTRL 0 = true →
      Completes (.sfProbe m) s (fun t => t.g SF_PROBE_CTRL_DONE = 1 ∧ t.g SF_PROBE_CTRL_HIT = b2n ((s.sfFind (s.g SF_PROBE_CTRL_LINE)).isSome && !(s.isDegraded (s.g SF_PROBE_CTRL_LINE))) ∧ t.g SF_PROBE_CTRL_DEGRADED = b2n (s.isDegraded (s.g SF_PROBE_CTRL_LINE)) ∧ t.answered m ST_OK)) ∧
  (∀ (s : State) (m : Master), s.up = true → s.accepts m .SF_PROBE_CTRL 0 = true → s.isDegraded (s.g SF_PROBE_CTRL_LINE) = true → s.hm.reqs.any (fun e => e.2.rebuild) = false →
      Completes (.sfRebuild m) s (fun t => (t.req s.sw.nextId).any (fun r => r.rebuild && r.line == (s.g SF_PROBE_CTRL_LINE)) = true ∧ t.g SF_PROBE_CTRL_DONE = 0 ∧ t.answered m ST_OK)) ∧
  (∀ (s : State) (m : Master), s.up = true → s.accepts m .SF_PROBE_CTRL 0 = true → s.isDegraded (s.g SF_PROBE_CTRL_LINE) = false →
      Completes (.sfRebuild m) s (fun t => t.hm = s.hm ∧ t.answered m ST_ACCESS_DENIED)) ∧
  (∀ (s : State) (e : Nat × HomeReq), s.up = true → s.hm.reqs.find? (fun e => e.2.rebuild && e.2.snoops == []) = some e →
      Completes (.sfRebuildDone) s (fun t => t.hm.degraded.contains (sfKey e.2.line) = false ∧ ngetD t.hm.sf (sfKey e.2.line) [] = [] ∧ t.g SF_PROBE_CTRL_DONE = 1 ∧ t.req e.1 = none)) ∧
  (∀ (s : State) (m : Master), s.up = true → s.accepts m .MSC_CTRL 0 = true → s.on MSC_CTRL_FLUSH_BUSY = false → nsorted s.hm.msc = true →
      Completes (.mscFlush m) s (fun t => t.g MSC_CTRL_FLUSH_BUSY = 1 ∧ t.hm.flushStart = s.now ∧ (∀ e ∈ s.hm.msc, nget? e.1 t.hm.msc = some { e.2 with dirty := false }) ∧ t.answered m ST_OK)) ∧
  (∀ (s : State) (m : Master), s.up = true → s.accepts m .MSC_CTRL 0 = true → s.on MSC_CTRL_FLUSH_BUSY = true →
      Completes (.mscFlush m) s (fun t => t.hm = s.hm ∧ t.answered m ST_LATE)) ∧
  (∀ (s : State), s.up = true → s.on MSC_CTRL_FLUSH_BUSY = true → s.hm.flushIds.all (fun id => (s.txn id).isNone) = true → s.pu.flushing = none → s.on DMP_GSTATUS_PF_ACTIVE = false →
      Completes (.mscFlushDone) s (fun t => t.g MSC_CTRL_FLUSH_BUSY = 0 ∧ t.g MSC_CTRL_FLUSH_NS = min (s.now - s.hm.flushStart) (2 ^ 32 - 1) ∧ t.hm.flushIds = []))

/-- Move requests are taken from their ring, and a migration goes on after each copying pass. With RUN set, requests in the ring that its program has not run past, and room in the log: a request with a slot of its own that passes the checks of Table 8-6 starts a migration in COPY with its page, tag, set and slot, and one that fails is refused with a record of the log; each advances CONS. With no room in the log LOG_BACKPRESSURE is set and nothing is taken. After a first copy, and after a recopy pass that no earlier write blocks: with SYNC_SG or fewer sub-granules dirty the migration goes into SYNC where SYNCING is below SYNC_MAX, and otherwise stays in RECOPY; with more, below MAX_PASSES, it takes them for another pass; at MAX_PASSES it ends with a record of the log. A pass into SYNC that met poison or uncorrected lines sets COPY_POISON or COPY_UE (R147 to R152). Each clause concludes that exec answers a next state, from hypotheses on the state and the operands alone, for: MOVE_REQUEST_TAKE, FIRST_COPY_DONE, RECOPY_PASS_DONE. -/
def Obligations.MoveRequestsAndPasses : Prop :=
  (∀ (s : State), s.up = true → s.on PLC_CTRL_RUN = true → s.g PLC_REQ_IDX_PROD ≠ s.g PLC_REQ_IDX_CONS → (s.g PLC_REQ_IDX_PROD + 2 ^ 32 - s.g PLC_REQ_IDX_CONS) % 2 ^ 32 ≤ 2 ^ s.g PLC_REQ_RING_REQ_LOG2 → (s.g PLC_LOG_IDX_PROD + 2 ^ 32 - s.g PLC_LOG_IDX_CONS) % 2 ^ 32 + s.plc.migs.length + 1 ≤ 2 ^ s.g PLC_LOG_CFG_LOG_LOG2 → s.admitCheck (s.moveReqAt (s.g PLC_REQ_RING_REQ_BASE * 32 + s.g PLC_REQ_IDX_CONS % 2 ^ s.g PLC_REQ_RING_REQ_LOG2 * 32)) = ST_OK → (s.moveReqAt (s.g PLC_REQ_RING_REQ_BASE * 32 + s.g PLC_REQ_IDX_CONS % 2 ^ s.g PLC_REQ_RING_REQ_LOG2 * 32)).auto = false →
      Completes (.moveRequestTake) s (fun t => t.g PLC_REQ_IDX_CONS = (s.g PLC_REQ_IDX_CONS + 1) % 2 ^ 32 ∧ (nget? s.freeMig t.plc.migs).any (fun m => m.page == (s.moveReqAt (s.g PLC_REQ_RING_REQ_BASE * 32 + s.g PLC_REQ_IDX_CONS % 2 ^ s.g PLC_REQ_RING_REQ_LOG2 * 32)).page && m.tag == (s.moveReqAt (s.g PLC_REQ_RING_REQ_BASE * 32 + s.g PLC_REQ_IDX_CONS % 2 ^ s.g PLC_REQ_RING_REQ_LOG2 * 32)).tag && m.state == 1 && m.dstSet == (s.moveReqAt (s.g PLC_REQ_RING_REQ_BASE * 32 + s.g PLC_REQ_IDX_CONS % 2 ^ s.g PLC_REQ_RING_REQ_LOG2 * 32)).set && m.dstSo == (s.moveReqAt (s.g PLC_REQ_RING_REQ_BASE * 32 + s.g PLC_REQ_IDX_CONS % 2 ^ s.g PLC_REQ_RING_REQ_LOG2 * 32)).so && m.startNs == s.now) = true)) ∧
  (∀ (s : State), s.up = true → s.on PLC_CTRL_RUN = true → s.g PLC_REQ_IDX_PROD ≠ s.g PLC_REQ_IDX_CONS → (s.g PLC_REQ_IDX_PROD + 2 ^ 32 - s.g PLC_REQ_IDX_CONS) % 2 ^ 32 ≤ 2 ^ s.g PLC_REQ_RING_REQ_LOG2 → (s.g PLC_LOG_IDX_PROD + 2 ^ 32 - s.g PLC_LOG_IDX_CONS) % 2 ^ 32 + s.plc.migs.length + 1 ≤ 2 ^ s.g PLC_LOG_CFG_LOG_LOG2 → s.admitCheck (s.moveReqAt (s.g PLC_REQ_RING_REQ_BASE * 32 + s.g PLC_REQ_IDX_CONS % 2 ^ s.g PLC_REQ_RING_REQ_LOG2 * 32)) ≠ ST_OK → s.hbmUp = true →
      Completes (.moveRequestTake) s (fun t => t.g PLC_REQ_IDX_CONS = (s.g PLC_REQ_IDX_CONS + 1) % 2 ^ 32 ∧ t.plc.migs = s.plc.migs ∧ t.g PLC_LOG_IDX_PROD = (s.g PLC_LOG_IDX_PROD + 1) % 2 ^ 32)) ∧
  (∀ (s : State), s.up = true → s.on PLC_CTRL_RUN = true → s.g PLC_REQ_IDX_PROD ≠ s.g PLC_REQ_IDX_CONS → (s.g PLC_REQ_IDX_PROD + 2 ^ 32 - s.g PLC_REQ_IDX_CONS) % 2 ^ 32 ≤ 2 ^ s.g PLC_REQ_RING_REQ_LOG2 → 2 ^ s.g PLC_LOG_CFG_LOG_LOG2 < (s.g PLC_LOG_IDX_PROD + 2 ^ 32 - s.g PLC_LOG_IDX_CONS) % 2 ^ 32 + s.plc.migs.length + 1 → s.plc.backpressure = false →
      Completes (.moveRequestTake) s (fun t => t.g PLC_ERR_STATUS_LOG_BACKPRESSURE = 1 ∧ t.g PLC_REQ_IDX_CONS = s.g PLC_REQ_IDX_CONS ∧ t.plc.migs = s.plc.migs)) ∧
  (∀ (s : State) (k : Fin 4096) (m : Migration) (poison : Nat) (ue : Nat), s.up = true → nget? k.val s.plc.migs = some m → m.state = 1 → popcount32 m.dirty ≤ s.g PLC_SYNC_CFG_SYNC_SG → s.g PLC_STATUS_SYNCING < s.g PLC_SYNC_CFG_SYNC_MAX →
      Completes (.firstCopyDone k poison ue) s (fun t => nget? k.val t.plc.migs = some { m with copiedKib := 2048, state := 3, taken := 0, syncs := m.syncs + 1, drained := false, ready := false } ∧ t.g PLC_MIG_STATE k = 3 ∧ (poison ≠ 0 → t.g PLC_ERR_STATUS_COPY_POISON = 1) ∧ (ue ≠ 0 → t.g PLC_ERR_STATUS_COPY_UE = 1))) ∧
  (∀ (s : State) (k : Fin 4096) (m : Migration) (poison : Nat) (ue : Nat), s.up = true → nget? k.val s.plc.migs = some m → m.state = 1 → popcount32 m.dirty ≤ s.g PLC_SYNC_CFG_SYNC_SG → s.g PLC_SYNC_CFG_SYNC_MAX ≤ s.g PLC_STATUS_SYNCING →
      Completes (.firstCopyDone k poison ue) s (fun t => nget? k.val t.plc.migs = some { m with copiedKib := 2048, state := 2, taken := 0 })) ∧
  (∀ (s : State) (k : Fin 4096) (m : Migration) (poison : Nat) (ue : Nat), s.up = true → nget? k.val s.plc.migs = some m → m.state = 1 → s.g PLC_SYNC_CFG_SYNC_SG < popcount32 m.dirty → m.pass < s.g PLC_SYNC_CFG_MAX_PASSES →
      Completes (.firstCopyDone k poison ue) s (fun t => nget? k.val t.plc.migs = some { m with copiedKib := 2048, state := 2, taken := m.dirty, dirty := 0, mark := s.sw.nextId })) ∧
  (∀ (s : State) (k : Fin 4096) (m : Migration) (poison : Nat) (ue : Nat), s.up = true → nget? k.val s.plc.migs = some m → m.state = 1 → s.g PLC_SYNC_CFG_SYNC_SG < popcount32 m.dirty → s.g PLC_SYNC_CFG_MAX_PASSES ≤ m.pass →
      Completes (.firstCopyDone k poison ue) s (fun t => nget? k.val t.plc.migs = none ∧ t.g PLC_LOG_IDX_PROD = (s.g PLC_LOG_IDX_PROD + 1) % 2 ^ 32 ∧ t.g PLC_MIG_STATE k = 0)) ∧
  (∀ (s : State) (k : Fin 4096) (m : Migration) (poison : Nat) (ue : Nat), s.up = true → nget? k.val s.plc.migs = some m → m.state = 2 → m.taken ≠ 0 → s.passBlocked m = false → popcount32 m.dirty ≤ s.g PLC_SYNC_CFG_SYNC_SG → s.g PLC_STATUS_SYNCING < s.g PLC_SYNC_CFG_SYNC_MAX →
      Completes (.recopyPassDone k poison ue) s (fun t => nget? k.val t.plc.migs = some { m with pass := m.pass + 1, copiedKib := m.copiedKib + 64 * popcount32 m.taken, state := 3, taken := 0, syncs := m.syncs + 1, drained := false, ready := false } ∧ t.g PLC_MIG_STATE k = 3 ∧ (poison ≠ 0 → t.g PLC_ERR_STATUS_COPY_POISON = 1) ∧ (ue ≠ 0 → t.g PLC_ERR_STATUS_COPY_UE = 1))) ∧
  (∀ (s : State) (k : Fin 4096) (m : Migration) (poison : Nat) (ue : Nat), s.up = true → nget? k.val s.plc.migs = some m → m.state = 2 → m.taken ≠ 0 → s.passBlocked m = false → popcount32 m.dirty ≤ s.g PLC_SYNC_CFG_SYNC_SG → s.g PLC_SYNC_CFG_SYNC_MAX ≤ s.g PLC_STATUS_SYNCING →
      Completes (.recopyPassDone k poison ue) s (fun t => nget? k.val t.plc.migs = some { m with pass := m.pass + 1, copiedKib := m.copiedKib + 64 * popcount32 m.taken, state := 2, taken := 0 })) ∧
  (∀ (s : State) (k : Fin 4096) (m : Migration) (poison : Nat) (ue : Nat), s.up = true → nget? k.val s.plc.migs = some m → m.state = 2 → m.taken ≠ 0 → s.passBlocked m = false → s.g PLC_SYNC_CFG_SYNC_SG < popcount32 m.dirty → m.pass + 1 < s.g PLC_SYNC_CFG_MAX_PASSES →
      Completes (.recopyPassDone k poison ue) s (fun t => nget? k.val t.plc.migs = some { m with pass := m.pass + 1, copiedKib := m.copiedKib + 64 * popcount32 m.taken, state := 2, taken := m.dirty, dirty := 0, mark := s.sw.nextId })) ∧
  (∀ (s : State) (k : Fin 4096) (m : Migration) (poison : Nat) (ue : Nat), s.up = true → nget? k.val s.plc.migs = some m → m.state = 2 → m.taken ≠ 0 → s.passBlocked m = false → s.g PLC_SYNC_CFG_SYNC_SG < popcount32 m.dirty → s.g PLC_SYNC_CFG_MAX_PASSES ≤ m.pass + 1 →
      Completes (.recopyPassDone k poison ue) s (fun t => nget? k.val t.plc.migs = none ∧ t.g PLC_LOG_IDX_PROD = (s.g PLC_LOG_IDX_PROD + 1) % 2 ^ 32 ∧ t.g PLC_MIG_STATE k = 0))

/-- The sync drains, its final pass makes the switch ready, and the old location is released. With no module write of its page outstanding, a SYNC drains and takes what is dirty for the final pass. That pass, with nothing dirty and no write outstanding, makes the switch ready at this time; else the sync drains again. The only migration, ready, goes into a commit of its page's override where no commit waits; with none ready nothing happens. A deadline sets SYNC_ABANDON, and takes the migration back to RECOPY with its dirty sub-granules, or, with SYNC_TRIES used up, ends it with a record of the log. A migration in TRAIL, with no earlier epoch in flight in the stack, ends with a record of the log, its old slot waiting to be zeroed. A zeroed slot, with no earlier epoch and no module write to it in flight, becomes FREE. HEAT_DECAY halves both counts of every heat entry, clears its SUBMAP and keeps its page and last move (R142, R144, R146, R153 to R155, R158). Each clause concludes that exec answers a next state, from hypotheses on the state and the operands alone, for: SYNC_WRITES_DRAINED, FINAL_PASS_DONE, PLACEMENT_COMMIT, SYNC_DEADLINE, OLD_LOCATION_RELEASE, ZERO_FILL_DONE, HEAT_DECAY. -/
def Obligations.SyncSwitchAndRelease : Prop :=
  (∀ (s : State) (k : Fin 4096) (m : Migration), s.up = true → nget? k.val s.plc.migs = some m → m.state = 3 → m.drained = false → s.outstanding m.page = 0 →
      Completes (.syncWritesDrained k) s (fun t => nget? k.val t.plc.migs = some { m with drained := true, taken := m.dirty, dirty := 0 })) ∧
  (∀ (s : State) (k : Fin 4096) (m : Migration) (poison : Nat) (ue : Nat), s.up = true → nget? k.val s.plc.migs = some m → m.state = 3 → m.drained = true → m.ready = false → m.dirty = 0 → s.outstanding m.page = 0 →
      Completes (.finalPassDone k poison ue) s (fun t => nget? k.val t.plc.migs = some { m with copiedKib := m.copiedKib + 64 * popcount32 m.taken, taken := 0, ready := true, readyNs := s.now } ∧ (poison ≠ 0 → t.g PLC_ERR_STATUS_COPY_POISON = 1) ∧ (ue ≠ 0 → t.g PLC_ERR_STATUS_COPY_UE = 1))) ∧
  (∀ (s : State) (k : Fin 4096) (m : Migration) (poison : Nat) (ue : Nat), s.up = true → nget? k.val s.plc.migs = some m → m.state = 3 → m.drained = true → m.ready = false → (m.dirty ≠ 0 ∨ s.outstanding m.page ≠ 0) →
      Completes (.finalPassDone k poison ue) s (fun t => nget? k.val t.plc.migs = some { m with copiedKib := m.copiedKib + 64 * popcount32 m.taken, taken := 0, drained := false })) ∧
  (∀ (s : State) (m : Migration) (k : Nat), s.up = true → s.plc.migs = [(k, m)] → m.state = 3 → m.ready = true → s.cmt.queue = [] → s.cmt.cur = none →
      Completes (.placementCommit) s (fun t => t.cmt.queue = [{ id := s.cmt.nextId, owner := .switch [k], entries := [⟨true, 2 ^ 62 + m.page, imageOfPage { set := m.dstSet, dev := s.dev, so2m := m.dstSo }⟩], control := false }])) ∧
  (∀ (s : State), s.up = true → s.plc.migs.all (fun e => e.2.state != 3 || !e.2.ready) = true →
      Completes (.placementCommit) s (fun t => t = s)) ∧
  (∀ (s : State) (k : Fin 4096) (m : Migration), s.up = true → nget? k.val s.plc.migs = some m → m.state = 3 → s.g PLC_SYNC_CFG_SYNC_TRIES ≤ m.syncs → s.hbmUp = true →
      Completes (.syncDeadline k) s (fun t => nget? k.val t.plc.migs = none ∧ t.g PLC_ERR_STATUS_SYNC_ABANDON = 1 ∧ t.g PLC_LOG_IDX_PROD = (s.g PLC_LOG_IDX_PROD + 1) % 2 ^ 32)) ∧
  (∀ (s : State) (k : Fin 4096) (m : Migration), s.up = true → nget? k.val s.plc.migs = some m → m.state = 3 → m.syncs < s.g PLC_SYNC_CFG_SYNC_TRIES →
      Completes (.syncDeadline k) s (fun t => (nget? k.val t.plc.migs).any (fun x => x.state == 2 && (x.dirty ||| x.taken) == (m.dirty ||| m.taken)) = true ∧ t.g PLC_ERR_STATUS_SYNC_ABANDON = 1 ∧ t.g PLC_MIG_STATE k = 2)) ∧
  (∀ (s : State) (k : Fin 4096) (m : Migration) (peers : List (DevId × Fin 4294967296)), s.up = true → nget? k.val s.plc.migs = some m → m.state = 4 → epochBefore (s.tellOldest peers).oldestStack m.switchEpoch = false → s.hbmUp = true →
      Completes (.oldLocationRelease ⟨k, peers⟩) s (fun t => nget? k.val t.plc.migs = none ∧ t.g PLC_MIG_STATE k = 0 ∧ (m.srcSet, m.srcSo, none) ∈ t.plc.zeroing ∧ t.g PLC_LOG_IDX_PROD = (s.g PLC_LOG_IDX_PROD + 1) % 2 ^ 32)) ∧
  (∀ (s : State) (set : Fin 1024) (slot : Nat) (x : Nat × Nat × Option Nat) (peers : List (DevId × Fin 4294967296)), s.up = true → s.plc.zeroing.find? (fun y => y.1 == set.val && y.2.1 == slot) = some x → x.2.2.all (fun e => !(epochBefore (s.tellOldest peers).oldestStack e)) = true → s.sw.txns.any (fun e => e.2.kind == .modWrite && e.2.set == set.val && e.2.so / 2 ^ 21 == slot) = false →
      Completes (.zeroFillDone set ⟨slot, peers⟩) s (fun t => t.slotState set slot = 0 ∧ t.plc.zeroing = s.plc.zeroing.filter (· != x))) ∧
  (∀ (s : State), s.up = true →
      Completes (.heatDecay) s (fun t => (∀ b < 2 ^ 25, t.rdN spHbm (b * 16) 16 = s.rdN spHbm (b * 16) 16 % 2 ^ 32 + bits (s.rdN spHbm (b * 16) 16) 32 16 / 2 * 2 ^ 32 + bits (s.rdN spHbm (b * 16) 16) 48 16 / 2 * 2 ^ 48 + bits (s.rdN spHbm (b * 16) 16) 96 32 * 2 ^ 96) ∧ t.regs = s.regs))

/-- The PLC_CMD operations, the stop and the probe. By an accepted master while PLC_CMD_STATUS is not BUSY, with a TAG other than the one last completed: a page that is backed, not pinned, with room for an override and no migration is pinned where it is; an override's pin is cleared; a page pinned already answers LATE; a segment's pin is set or cleared; a FREE slot is claimed as USED, and any other state is refused with ACCESS_DENIED; a USED slot that nothing places goes to ZEROING under the current epoch; a migration that has not switched is aborted, and one that has answers LATE. Each is recorded in PLC_CMD_STATUS and answered. The TAG last completed repeats its status and changes no placement. RUN written 0 clears RUN, and with STOP_ABORT leaves only migrations that have switched. The probe shows the page's source, pin and epoch (R139, R144, R162 to R165, R431). Each clause concludes that exec answers a next state, from hypotheses on the state and the operands alone, for: PIN_PAGE, UNPIN_PAGE, PIN_SEG, UNPIN_SEG, SLOT_CLAIM, SLOT_FREE, ABORT_MIG, PLACEMENT_RUN_STOP, PLC_PROBE. -/
def Obligations.PlacementCommandsTakeEffect : Prop :=
  (∀ (s : State) (m : Master) (tag : Fin 65536), s.up = true → s.accepts m .PLC_CMD 0 = true → s.on PLC_CMD_STATUS_BUSY = false → (s.plc.cmdDone = false ∨ s.g PLC_CMD_STATUS_TAG ≠ tag) → (s.resolve ((s.g PLC_CMD_ARG_INDEX % 2 ^ 32) * 2 ^ 21)).isSome = true → (nget? (s.g PLC_CMD_ARG_INDEX % 2 ^ 32) s.plc.pages).all (fun o => !o.pin) = true → s.ovrFull (s.g PLC_CMD_ARG_INDEX % 2 ^ 32) = false → s.migOf (s.g PLC_CMD_ARG_INDEX % 2 ^ 32) = none →
      Completes (.pinPage m tag) s (fun t => (nget? (s.g PLC_CMD_ARG_INDEX % 2 ^ 32) t.plc.pages).any (·.pin) = true ∧ t.resolve ((s.g PLC_CMD_ARG_INDEX % 2 ^ 32) * 2 ^ 21) = s.resolve ((s.g PLC_CMD_ARG_INDEX % 2 ^ 32) * 2 ^ 21) ∧ t.g PLC_CMD_STATUS_STATUS = ST_OK ∧ t.g PLC_CMD_STATUS_TAG = tag ∧ t.plc.cmdDone = true ∧ t.answered m ST_OK)) ∧
  (∀ (s : State) (m : Master) (tag : Fin 65536) (o : PageEntry), s.up = true → s.accepts m .PLC_CMD 0 = true → s.on PLC_CMD_STATUS_BUSY = false → (s.plc.cmdDone = false ∨ s.g PLC_CMD_STATUS_TAG ≠ tag) → nget? (s.g PLC_CMD_ARG_INDEX % 2 ^ 32) s.plc.pages = some o → o.pin = true →
      Completes (.unpinPage m tag) s (fun t => (nget? (s.g PLC_CMD_ARG_INDEX % 2 ^ 32) t.plc.pages).all (fun o => !o.pin) = true ∧ t.g PLC_CMD_STATUS_STATUS = ST_OK ∧ t.g PLC_CMD_STATUS_TAG = tag ∧ t.plc.cmdDone = true ∧ t.answered m ST_OK)) ∧
  (∀ (s : State) (m : Master) (tag : Fin 65536) (o : PageEntry), s.up = true → s.accepts m .PLC_CMD 0 = true → s.on PLC_CMD_STATUS_BUSY = false → (s.plc.cmdDone = false ∨ s.g PLC_CMD_STATUS_TAG ≠ tag) → nget? (s.g PLC_CMD_ARG_INDEX % 2 ^ 32) s.plc.pages = some o → o.pin = true → o.unbacked = false →
      Completes (.pinPage m tag) s (fun t => t.plc.pages = s.plc.pages ∧ t.g PLC_CMD_STATUS_STATUS = ST_LATE ∧ t.g PLC_CMD_STATUS_TAG = tag ∧ t.plc.cmdDone = true ∧ t.answered m ST_LATE)) ∧
  (∀ (s : State) (m : Master) (tag : Fin 65536) (e : SegEntry), s.up = true → s.accepts m .PLC_CMD 0 = true → s.on PLC_CMD_STATUS_BUSY = false → (s.plc.cmdDone = false ∨ s.g PLC_CMD_STATUS_TAG ≠ tag) → nget? (s.g PLC_CMD_ARG_INDEX % 2 ^ 23) s.plc.segs = some e → e.valid = true → e.pin = false →
      Completes (.pinSeg m tag) s (fun t => nget? (s.g PLC_CMD_ARG_INDEX % 2 ^ 23) t.plc.segs = some { e with pin := true } ∧ t.g PLC_CMD_STATUS_STATUS = ST_OK ∧ t.g PLC_CMD_STATUS_TAG = tag ∧ t.plc.cmdDone = true ∧ t.answered m ST_OK)) ∧
  (∀ (s : State) (m : Master) (tag : Fin 65536) (e : SegEntry), s.up = true → s.accepts m .PLC_CMD 0 = true → s.on PLC_CMD_STATUS_BUSY = false → (s.plc.cmdDone = false ∨ s.g PLC_CMD_STATUS_TAG ≠ tag) → nget? (s.g PLC_CMD_ARG_INDEX % 2 ^ 23) s.plc.segs = some e → e.valid = true → e.pin = true →
      Completes (.unpinSeg m tag) s (fun t => nget? (s.g PLC_CMD_ARG_INDEX % 2 ^ 23) t.plc.segs = some { e with pin := false } ∧ t.g PLC_CMD_STATUS_STATUS = ST_OK ∧ t.g PLC_CMD_STATUS_TAG = tag ∧ t.plc.cmdDone = true ∧ t.answered m ST_OK)) ∧
  (∀ (s : State) (m : Master) (tag : Fin 65536), s.up = true → s.accepts m .PLC_CMD 0 = true → s.on PLC_CMD_STATUS_BUSY = false → (s.plc.cmdDone = false ∨ s.g PLC_CMD_STATUS_TAG ≠ tag) → s.placeable (s.g PLC_CMD_ARG_SET) = true → (s.g PLC_CMD_ARG_INDEX) < s.slotCount (s.g PLC_CMD_ARG_SET) → s.slotState (s.g PLC_CMD_ARG_SET) (s.g PLC_CMD_ARG_INDEX) = 0 →
      Completes (.slotClaim m tag) s (fun t => t.slotState (s.g PLC_CMD_ARG_SET) (s.g PLC_CMD_ARG_INDEX) = 1 ∧ t.g PLC_CMD_STATUS_STATUS = ST_OK ∧ t.g PLC_CMD_STATUS_TAG = tag ∧ t.plc.cmdDone = true ∧ t.answered m ST_OK)) ∧
  (∀ (s : State) (m : Master) (tag : Fin 65536), s.up = true → s.accepts m .PLC_CMD 0 = true → s.on PLC_CMD_STATUS_BUSY = false → (s.plc.cmdDone = false ∨ s.g PLC_CMD_STATUS_TAG ≠ tag) → s.placeable (s.g PLC_CMD_ARG_SET) = true → (s.g PLC_CMD_ARG_INDEX) < s.slotCount (s.g PLC_CMD_ARG_SET) → s.slotState (s.g PLC_CMD_ARG_SET) (s.g PLC_CMD_ARG_INDEX) ≠ 0 →
      Completes (.slotClaim m tag) s (fun t => t.mem = s.mem ∧ t.g PLC_CMD_STATUS_STATUS = ST_ACCESS_DENIED ∧ t.g PLC_CMD_STATUS_TAG = tag ∧ t.plc.cmdDone = true ∧ t.answered m ST_ACCESS_DENIED)) ∧
  (∀ (s : State) (m : Master) (tag : Fin 65536), s.up = true → s.accepts m .PLC_CMD 0 = true → s.on PLC_CMD_STATUS_BUSY = false → (s.plc.cmdDone = false ∨ s.g PLC_CMD_STATUS_TAG ≠ tag) → s.placeable (s.g PLC_CMD_ARG_SET) = true → (s.g PLC_CMD_ARG_INDEX) < s.slotCount (s.g PLC_CMD_ARG_SET) → s.slotState (s.g PLC_CMD_ARG_SET) (s.g PLC_CMD_ARG_INDEX) = 1 → s.slotPlaced (s.g PLC_CMD_ARG_SET) (s.g PLC_CMD_ARG_INDEX) = false →
      Completes (.slotFree m tag) s (fun t => t.slotState (s.g PLC_CMD_ARG_SET) (s.g PLC_CMD_ARG_INDEX) = 2 ∧ ((s.g PLC_CMD_ARG_SET), (s.g PLC_CMD_ARG_INDEX), some s.curEpoch) ∈ t.plc.zeroing ∧ t.g PLC_CMD_STATUS_STATUS = ST_OK ∧ t.g PLC_CMD_STATUS_TAG = tag ∧ t.plc.cmdDone = true ∧ t.answered m ST_OK)) ∧
  (∀ (s : State) (m : Master) (tag : Fin 65536) (k : Nat) (x : Migration), s.up = true → s.accepts m .PLC_CMD 0 = true → s.on PLC_CMD_STATUS_BUSY = false → (s.plc.cmdDone = false ∨ s.g PLC_CMD_STATUS_TAG ≠ tag) → s.migOf (s.g PLC_CMD_ARG_INDEX % 2 ^ 32) = some (k, x) → nget? k s.plc.migs = some x → x.state ≠ 4 →
      Completes (.abortMig m tag) s (fun t => nget? k t.plc.migs = none ∧ t.g PLC_CMD_STATUS_STATUS = ST_OK ∧ t.g PLC_CMD_STATUS_TAG = tag ∧ t.plc.cmdDone = true ∧ t.answered m ST_OK)) ∧
  (∀ (s : State) (m : Master) (tag : Fin 65536) (k : Nat) (x : Migration), s.up = true → s.accepts m .PLC_CMD 0 = true → s.on PLC_CMD_STATUS_BUSY = false → (s.plc.cmdDone = false ∨ s.g PLC_CMD_STATUS_TAG ≠ tag) → s.migOf (s.g PLC_CMD_ARG_INDEX % 2 ^ 32) = some (k, x) → x.state = 4 →
      Completes (.abortMig m tag) s (fun t => t.plc.migs = s.plc.migs ∧ t.g PLC_CMD_STATUS_STATUS = ST_LATE ∧ t.g PLC_CMD_STATUS_TAG = tag ∧ t.plc.cmdDone = true ∧ t.answered m ST_LATE)) ∧
  (∀ (s : State) (m : Master) (tag : Fin 65536), s.up = true → s.accepts m .PLC_CMD 0 = true → s.on PLC_CMD_STATUS_BUSY = false → s.plc.cmdDone = true → s.g PLC_CMD_STATUS_TAG = tag →
      Completes (.pinPage m tag) s (fun t => t.plc = s.plc ∧ t.mem = s.mem ∧ t.answered m (s.g PLC_CMD_STATUS_STATUS))) ∧
  (∀ (s : State) (m : Master) (tag : Fin 65536), s.up = true → s.accepts m .PLC_CMD 0 = true → s.on PLC_CMD_STATUS_BUSY = false → s.plc.cmdDone = true → s.g PLC_CMD_STATUS_TAG = tag →
      Completes (.unpinPage m tag) s (fun t => t.plc = s.plc ∧ t.mem = s.mem ∧ t.answered m (s.g PLC_CMD_STATUS_STATUS))) ∧
  (∀ (s : State) (m : Master) (tag : Fin 65536), s.up = true → s.accepts m .PLC_CMD 0 = true → s.on PLC_CMD_STATUS_BUSY = false → s.plc.cmdDone = true → s.g PLC_CMD_STATUS_TAG = tag →
      Completes (.pinSeg m tag) s (fun t => t.plc = s.plc ∧ t.mem = s.mem ∧ t.answered m (s.g PLC_CMD_STATUS_STATUS))) ∧
  (∀ (s : State) (m : Master) (tag : Fin 65536), s.up = true → s.accepts m .PLC_CMD 0 = true → s.on PLC_CMD_STATUS_BUSY = false → s.plc.cmdDone = true → s.g PLC_CMD_STATUS_TAG = tag →
      Completes (.unpinSeg m tag) s (fun t => t.plc = s.plc ∧ t.mem = s.mem ∧ t.answered m (s.g PLC_CMD_STATUS_STATUS))) ∧
  (∀ (s : State) (m : Master) (tag : Fin 65536), s.up = true → s.accepts m .PLC_CMD 0 = true → s.on PLC_CMD_STATUS_BUSY = false → s.plc.cmdDone = true → s.g PLC_CMD_STATUS_TAG = tag →
      Completes (.slotClaim m tag) s (fun t => t.plc = s.plc ∧ t.mem = s.mem ∧ t.answered m (s.g PLC_CMD_STATUS_STATUS))) ∧
  (∀ (s : State) (m : Master) (tag : Fin 65536), s.up = true → s.accepts m .PLC_CMD 0 = true → s.on PLC_CMD_STATUS_BUSY = false → s.plc.cmdDone = true → s.g PLC_CMD_STATUS_TAG = tag →
      Completes (.slotFree m tag) s (fun t => t.plc = s.plc ∧ t.mem = s.mem ∧ t.answered m (s.g PLC_CMD_STATUS_STATUS))) ∧
  (∀ (s : State) (m : Master) (tag : Fin 65536), s.up = true → s.accepts m .PLC_CMD 0 = true → s.on PLC_CMD_STATUS_BUSY = false → s.plc.cmdDone = true → s.g PLC_CMD_STATUS_TAG = tag →
      Completes (.abortMig m tag) s (fun t => t.plc = s.plc ∧ t.mem = s.mem ∧ t.answered m (s.g PLC_CMD_STATUS_STATUS))) ∧
  (∀ (s : State) (m : Master), s.up = true → s.accepts m .PLC_CTRL 0 = true → s.on PLC_CTRL_STOP_ABORT = false →
      Completes (.placementRunStop m) s (fun t => t.g PLC_CTRL_RUN = 0 ∧ t.plc = s.plc ∧ t.answered m ST_OK)) ∧
  (∀ (s : State) (m : Master), s.up = true → s.accepts m .PLC_CTRL 0 = true → s.on PLC_CTRL_STOP_ABORT = true → nsorted s.plc.migs = true →
      Completes (.placementRunStop m) s (fun t => t.g PLC_CTRL_RUN = 0 ∧ t.plc.migs.all (fun e => e.2.state == 4) = true ∧ t.answered m ST_OK)) ∧
  (∀ (s : State) (m : Master), s.up = true → s.accepts m .PLC_PROBE_CTRL 0 = true →
      Completes (.plcProbe m) s (fun t => t.g PLC_PROBE_CTRL_DONE = 1 ∧ t.g PLC_PROBE_DATA0_SOURCE = (if (s.resolve ((s.g PLC_PROBE_CTRL_PAGE) * 2 ^ 21)).isNone then 0 else if (nget? (s.g PLC_PROBE_CTRL_PAGE) s.plc.pages).isSome then 2 else 1) ∧ t.g PLC_PROBE_DATA0_PINNED = b2n (s.pinned (s.g PLC_PROBE_CTRL_PAGE)) ∧ t.g PLC_PROBE_DATA1_ENT_EPOCH = s.entEpoch (s.g PLC_PROBE_CTRL_PAGE) % 2 ^ PLC_PROBE_DATA1_ENT_EPOCH.width ∧ t.plc = s.plc ∧ t.answered m ST_OK))

/-- Register instructions write their result to RD and go to the next word. For a thread that runs the command's instruction word, and that no sample or STOP waits for: the state after it is the one before with the result of Table 9-4 in RD, which g0 discards, and gone to the next word (R167, R172, R185, R186). Each clause concludes that exec answers a next state, from hypotheses on the state and the operands alone, for: ALU, ADDI, ANDI, ORI, XORI, SHI, CATI, CRC, MIX, FHASH. -/
def Obligations.RegisterInstructions : Prop :=
  (∀ (s : State) (th : ThrId) (w : Nat), s.up = true → s.runs th .alu w = true → s.quiet th = true →
      Completes (.alu th) s (fun t => t = (s.grSet th (wRd w) (aluFn (wFn w) (s.gr th (wRa w)) (s.gr th (wRb w)))).goesTo th ((s.th th).pc + 4))) ∧
  (∀ (s : State) (th : ThrId) (w : Nat), s.up = true → s.runs th .addi w = true → s.quiet th = true →
      Completes (.addi th) s (fun t => t = (s.grSet th (wRd w) (((s.gr th (wRa w)) + wSimm w) % 2 ^ 64)).goesTo th ((s.th th).pc + 4))) ∧
  (∀ (s : State) (th : ThrId) (w : Nat), s.up = true → s.runs th .andi w = true → s.quiet th = true →
      Completes (.andi th) s (fun t => t = (s.grSet th (wRd w) ((s.gr th (wRa w)) &&& wImm w)).goesTo th ((s.th th).pc + 4))) ∧
  (∀ (s : State) (th : ThrId) (w : Nat), s.up = true → s.runs th .ori w = true → s.quiet th = true →
      Completes (.ori th) s (fun t => t = (s.grSet th (wRd w) ((s.gr th (wRa w)) ||| wImm w)).goesTo th ((s.th th).pc + 4))) ∧
  (∀ (s : State) (th : ThrId) (w : Nat), s.up = true → s.runs th .xori w = true → s.quiet th = true →
      Completes (.xori th) s (fun t => t = (s.grSet th (wRd w) ((s.gr th (wRa w)) ^^^ wImm w)).goesTo th ((s.th th).pc + 4))) ∧
  (∀ (s : State) (th : ThrId) (w : Nat), s.up = true → s.runs th .shi w = true → s.quiet th = true →
      Completes (.shi th) s (fun t => t = (s.grSet th (wRd w) (match bits (wImm w) 6 2 with | 0 => (s.gr th (wRa w)) * 2 ^ bits (wImm w) 0 6 % 2 ^ 64 | 1 => (s.gr th (wRa w)) / 2 ^ bits (wImm w) 0 6 | 2 => sra64 (s.gr th (wRa w)) (wImm w) | _ => ror64 (s.gr th (wRa w)) (wImm w))).goesTo th ((s.th th).pc + 4))) ∧
  (∀ (s : State) (th : ThrId) (w : Nat), s.up = true → s.runs th .cati w = true → s.quiet th = true →
      Completes (.cati th) s (fun t => t = (s.grSet th (wRd w) ((s.gr th (wRa w)) * 2 ^ 16 % 2 ^ 64 + wImm w)).goesTo th ((s.th th).pc + 4))) ∧
  (∀ (s : State) (th : ThrId) (w : Nat), s.up = true → s.runs th .crc w = true → s.quiet th = true →
      Completes (.crc th) s (fun t => t = (s.grSet th (wRd w) (crcFn (wFn w) (s.gr th (wRd w)) (s.gr th (wRa w)))).goesTo th ((s.th th).pc + 4))) ∧
  (∀ (s : State) (th : ThrId) (w : Nat), s.up = true → s.runs th .mix w = true → s.quiet th = true →
      Completes (.mix th) s (fun t => t = (s.grSet th (wRd w) (mix64 (s.gr th (wRa w)) (s.gr th (wRb w)))).goesTo th ((s.th th).pc + 4))) ∧
  (∀ (s : State) (th : ThrId) (w : Nat), s.up = true → s.runs th .fhash w = true → s.quiet th = true →
      Completes (.fhash th) s (fun t => t = (s.grSet th (wRd w) (flowHash ((s.gr th (wRa w)) % 4096) (bits (s.gr th (wRa w)) 16 14) (bits (s.gr th (wRb w)) 12 9) (s.g SW_CFG_HASH_SEED))).goesTo th ((s.th th).pc + 4)))

/-- Branches and jumps set PC, and JAL and JALR their link register. For a thread that runs the command's instruction word, and that no sample or STOP waits for: a branch whose condition holds goes to PC + 4 × OFF and another to the next word; JAL writes the return address to g28 and goes to PC + 4 × OFF; JALR writes it to RD and goes to its target, formed before RD is written and aligned down. The state is otherwise the one before (R167, R173). Each clause concludes that exec answers a next state, from hypotheses on the state and the operands alone, for: BEQ, BNE, BLT, BGE, BLTU, BGEU, JAL, JALR. -/
def Obligations.BranchesAndJumps : Prop :=
  (∀ (s : State) (th : ThrId) (w : Nat), s.up = true → s.runs th .beq w = true → s.quiet th = true →
      Completes (.beq th) s (fun t => t = s.goesTo th (if (s.gr th (wBa w)) = (s.gr th (wBb w)) then ((s.th th).pc + 4 * wSimm w) % 2 ^ 64 else (s.th th).pc + 4))) ∧
  (∀ (s : State) (th : ThrId) (w : Nat), s.up = true → s.runs th .bne w = true → s.quiet th = true →
      Completes (.bne th) s (fun t => t = s.goesTo th (if (s.gr th (wBa w)) ≠ (s.gr th (wBb w)) then ((s.th th).pc + 4 * wSimm w) % 2 ^ 64 else (s.th th).pc + 4))) ∧
  (∀ (s : State) (th : ThrId) (w : Nat), s.up = true → s.runs th .blt w = true → s.quiet th = true →
      Completes (.blt th) s (fun t => t = s.goesTo th (if sext (s.gr th (wBa w)) 64 < sext (s.gr th (wBb w)) 64 then ((s.th th).pc + 4 * wSimm w) % 2 ^ 64 else (s.th th).pc + 4))) ∧
  (∀ (s : State) (th : ThrId) (w : Nat), s.up = true → s.runs th .bge w = true → s.quiet th = true →
      Completes (.bge th) s (fun t => t = s.goesTo th (if sext (s.gr th (wBb w)) 64 ≤ sext (s.gr th (wBa w)) 64 then ((s.th th).pc + 4 * wSimm w) % 2 ^ 64 else (s.th th).pc + 4))) ∧
  (∀ (s : State) (th : ThrId) (w : Nat), s.up = true → s.runs th .bltu w = true → s.quiet th = true →
      Completes (.bltu th) s (fun t => t = s.goesTo th (if (s.gr th (wBa w)) < (s.gr th (wBb w)) then ((s.th th).pc + 4 * wSimm w) % 2 ^ 64 else (s.th th).pc + 4))) ∧
  (∀ (s : State) (th : ThrId) (w : Nat), s.up = true → s.runs th .bgeu w = true → s.quiet th = true →
      Completes (.bgeu th) s (fun t => t = s.goesTo th (if (s.gr th (wBb w)) ≤ (s.gr th (wBa w)) then ((s.th th).pc + 4 * wSimm w) % 2 ^ 64 else (s.th th).pc + 4))) ∧
  (∀ (s : State) (th : ThrId) (w : Nat), s.up = true → s.runs th .jal w = true → s.quiet th = true →
      Completes (.jal th) s (fun t => t = (s.grSet th 28 ((s.th th).pc + 4)).goesTo th (((s.th th).pc + 4 * wrap (sext (bits w 0 26) 26) 64) % 2 ^ 64))) ∧
  (∀ (s : State) (th : ThrId) (w : Nat), s.up = true → s.runs th .jalr w = true → s.quiet th = true →
      Completes (.jalr th) s (fun t => t = (s.grSet th (wRd w) ((s.th th).pc + 4)).goesTo th (((s.gr th (wRa w)) + wSimm w) % 2 ^ 64 / 4 * 4)))

/-- Loads and stores of the engine address space move the bytes of their width and touch no other byte. For a thread that runs the command's instruction word, and that no sample or STOP waits for: an aligned access that the checks let pass, in HBM where it runs. A load writes the zero-extended bytes at its address to RD. A store writes the low bytes of RD there, an AMO of local or shared memory its function's result and returns the old value, with LSTAT OK. After a store every byte outside the stored ones reads as before, the stored ones read as the low bytes of RD, no register of the device changes, the registers of the thread do not, and no other thread's registers or PC (R170, R174, R175, R184). Each clause concludes that exec answers a next state, from hypotheses on the state and the operands alone, for: LDB, LDH, LDW, LDD, STB, STH, STW, STD, AMO_LOCAL. -/
def Obligations.EngineLoadsAndStores : Prop :=
  (∀ (s : State) (th : ThrId) (w : Nat) (pl : Eng), s.up = true → s.runs th .ldb w = true → s.quiet th = true → (s.ea th w) % 1 = 0 → s.engCheck th (s.ea th w) 1 0 true = .ok pl → (pl.kind ≠ 2 ∨ s.hbmUp = true) →
      Completes (.ldb th .none) s (fun t => t = (s.grSet th (wRd w) (s.rdN pl.sp pl.off 1)).goesTo th ((s.th th).pc + 4))) ∧
  (∀ (s : State) (th : ThrId) (w : Nat) (pl : Eng), s.up = true → s.runs th .ldh w = true → s.quiet th = true → (s.ea th w) % 2 = 0 → s.engCheck th (s.ea th w) 2 0 true = .ok pl → (pl.kind ≠ 2 ∨ s.hbmUp = true) →
      Completes (.ldh th .none) s (fun t => t = (s.grSet th (wRd w) (s.rdN pl.sp pl.off 2)).goesTo th ((s.th th).pc + 4))) ∧
  (∀ (s : State) (th : ThrId) (w : Nat) (pl : Eng), s.up = true → s.runs th .ldw w = true → s.quiet th = true → (s.ea th w) % 4 = 0 → s.engCheck th (s.ea th w) 4 0 true = .ok pl → (pl.kind ≠ 2 ∨ s.hbmUp = true) →
      Completes (.ldw th .none) s (fun t => t = (s.grSet th (wRd w) (s.rdN pl.sp pl.off 4)).goesTo th ((s.th th).pc + 4))) ∧
  (∀ (s : State) (th : ThrId) (w : Nat) (pl : Eng), s.up = true → s.runs th .ldd w = true → s.quiet th = true → (s.ea th w) % 8 = 0 → s.engCheck th (s.ea th w) 8 0 true = .ok pl → (pl.kind ≠ 2 ∨ s.hbmUp = true) →
      Completes (.ldd th .none) s (fun t => t = (s.grSet th (wRd w) (s.rdN pl.sp pl.off 8)).goesTo th ((s.th th).pc + 4))) ∧
  (∀ (s : State) (th : ThrId) (w : Nat) (pl : Eng), s.up = true → s.runs th .stb w = true → s.quiet th = true → (s.ea th w) % 1 = 0 → s.engCheck th (s.ea th w) 1 1 true = .ok pl → (pl.kind ≠ 2 ∨ s.hbmUp = true) →
      Completes (.stb th) s (fun t => t = (s.engWrite th pl (leBytes 1 (s.gr th (wRd w)))).goesTo th ((s.th th).pc + 4))) ∧
  (∀ (s : State) (th : ThrId) (w : Nat) (pl : Eng), s.up = true → s.runs th .sth w = true → s.quiet th = true → (s.ea th w) % 2 = 0 → s.engCheck th (s.ea th w) 2 1 true = .ok pl → (pl.kind ≠ 2 ∨ s.hbmUp = true) →
      Completes (.sth th) s (fun t => t = (s.engWrite th pl (leBytes 2 (s.gr th (wRd w)))).goesTo th ((s.th th).pc + 4))) ∧
  (∀ (s : State) (th : ThrId) (w : Nat) (pl : Eng), s.up = true → s.runs th .stw w = true → s.quiet th = true → (s.ea th w) % 4 = 0 → s.engCheck th (s.ea th w) 4 1 true = .ok pl → (pl.kind ≠ 2 ∨ s.hbmUp = true) →
      Completes (.stw th) s (fun t => t = (s.engWrite th pl (leBytes 4 (s.gr th (wRd w)))).goesTo th ((s.th th).pc + 4))) ∧
  (∀ (s : State) (th : ThrId) (w : Nat) (pl : Eng), s.up = true → s.runs th .std w = true → s.quiet th = true → (s.ea th w) % 8 = 0 → s.engCheck th (s.ea th w) 8 1 true = .ok pl → (pl.kind ≠ 2 ∨ s.hbmUp = true) →
      Completes (.std th) s (fun t => t = (s.engWrite th pl (leBytes 8 (s.gr th (wRd w)))).goesTo th ((s.th th).pc + 4))) ∧
  (∀ (s : State) (th : ThrId) (w : Nat) (pl : Eng), s.up = true → s.runs th .amoLocal w = true → s.quiet th = true → (s.gr th (wRa w)) % 8 = 0 → s.engCheck th (s.gr th (wRa w)) 8 3 false = .ok pl → (pl.kind ≠ 2 ∨ s.hbmUp = true) →
      Completes (.amoLocal th) s (fun t => t = (((s.engWrite th pl (leBytes 8 (amoFn (wFn w) (s.rdN pl.sp pl.off 8) (s.gr th (wRb w)) (s.gr th (wRd w))))).thMod th (fun x => { x with lstat := ST_OK })).grSet th (wRd w) (s.rdN pl.sp pl.off 8)).goesTo th ((s.th th).pc + 4))) ∧
  (∀ (s : State) (th : ThrId) (w : Nat) (pl : Eng), s.up = true → s.runs th .stb w = true → s.quiet th = true → (s.ea th w) % 1 = 0 → s.engCheck th (s.ea th w) 1 1 true = .ok pl → (pl.kind ≠ 2 ∨ s.hbmUp = true) →
      Completes (.stb th) s (fun t => (∀ x, (x < memKey pl.sp pl.off ∨ memKey pl.sp pl.off + 1 ≤ x) → memByte t.mem x = memByte s.mem x) ∧ t.rdN pl.sp pl.off 1 = (s.gr th (wRd w)) % 2 ^ 8 ∧ t.regs = s.regs ∧ (t.th th).gpr = (s.th th).gpr ∧ (∀ u, u ≠ th.val → (t.th u).gpr = (s.th u).gpr ∧ (t.th u).pc = (s.th u).pc) ∧ t.flc = s.flc ∧ t.sw = s.sw ∧ t.outbox = s.outbox)) ∧
  (∀ (s : State) (th : ThrId) (w : Nat) (pl : Eng), s.up = true → s.runs th .sth w = true → s.quiet th = true → (s.ea th w) % 2 = 0 → s.engCheck th (s.ea th w) 2 1 true = .ok pl → (pl.kind ≠ 2 ∨ s.hbmUp = true) →
      Completes (.sth th) s (fun t => (∀ x, (x < memKey pl.sp pl.off ∨ memKey pl.sp pl.off + 2 ≤ x) → memByte t.mem x = memByte s.mem x) ∧ t.rdN pl.sp pl.off 2 = (s.gr th (wRd w)) % 2 ^ 16 ∧ t.regs = s.regs ∧ (t.th th).gpr = (s.th th).gpr ∧ (∀ u, u ≠ th.val → (t.th u).gpr = (s.th u).gpr ∧ (t.th u).pc = (s.th u).pc) ∧ t.flc = s.flc ∧ t.sw = s.sw ∧ t.outbox = s.outbox)) ∧
  (∀ (s : State) (th : ThrId) (w : Nat) (pl : Eng), s.up = true → s.runs th .stw w = true → s.quiet th = true → (s.ea th w) % 4 = 0 → s.engCheck th (s.ea th w) 4 1 true = .ok pl → (pl.kind ≠ 2 ∨ s.hbmUp = true) →
      Completes (.stw th) s (fun t => (∀ x, (x < memKey pl.sp pl.off ∨ memKey pl.sp pl.off + 4 ≤ x) → memByte t.mem x = memByte s.mem x) ∧ t.rdN pl.sp pl.off 4 = (s.gr th (wRd w)) % 2 ^ 32 ∧ t.regs = s.regs ∧ (t.th th).gpr = (s.th th).gpr ∧ (∀ u, u ≠ th.val → (t.th u).gpr = (s.th u).gpr ∧ (t.th u).pc = (s.th u).pc) ∧ t.flc = s.flc ∧ t.sw = s.sw ∧ t.outbox = s.outbox)) ∧
  (∀ (s : State) (th : ThrId) (w : Nat) (pl : Eng), s.up = true → s.runs th .std w = true → s.quiet th = true → (s.ea th w) % 8 = 0 → s.engCheck th (s.ea th w) 8 1 true = .ok pl → (pl.kind ≠ 2 ∨ s.hbmUp = true) →
      Completes (.std th) s (fun t => (∀ x, (x < memKey pl.sp pl.off ∨ memKey pl.sp pl.off + 8 ≤ x) → memByte t.mem x = memByte s.mem x) ∧ t.rdN pl.sp pl.off 8 = (s.gr th (wRd w)) % 2 ^ 64 ∧ t.regs = s.regs ∧ (t.th th).gpr = (s.th th).gpr ∧ (∀ u, u ≠ th.val → (t.th u).gpr = (s.th u).gpr ∧ (t.th u).pc = (s.th u).pc) ∧ t.flc = s.flc ∧ t.sw = s.sw ∧ t.outbox = s.outbox))

/-- SYSCALL and BRK trap, and misaligned, out-of-range and poisoned accesses trap. For a thread outside a trap that runs the command's instruction word, and that no sample or STOP waits for: SYSCALL and BRK take traps 8 and 9 with IMM; TRET is ILLEGAL, trap 1; an access of the engine address space that is not aligned takes trap 3 and one outside Table 9-2 trap 4, both with its address; an LDB or LDD outside HBM whose data fails its check takes trap 6 with POISON and is reported. The trap registers, LAST_TRAP, IN_TRAP, the level and PC are then those of R212, and the general registers are as they were (R202, R212, R213). Each clause concludes that exec answers a next state, from hypotheses on the state and the operands alone, for: SYSCALL, BRK, TRET, LDH, LDW, LDD, STH, STW, STD, LDB, STB. -/
def Obligations.InstructionsThatTrap : Prop :=
  (∀ (s : State) (th : ThrId) (w : Nat), s.up = true → s.runs th .syscall w = true → s.quiet th = true → s.inTrap th = false →
      Completes (.syscall th) s (fun t => s.trapped t th 8 (wImm w) 0)) ∧
  (∀ (s : State) (th : ThrId) (w : Nat), s.up = true → s.runs th .brk w = true → s.quiet th = true → s.inTrap th = false →
      Completes (.brk th) s (fun t => s.trapped t th 9 (wImm w) 0)) ∧
  (∀ (s : State) (th : ThrId) (w : Nat), s.up = true → s.runs th .tret w = true → s.quiet th = true → s.inTrap th = false →
      Completes (.tret th) s (fun t => s.trapped t th 1 (w) 0)) ∧
  (∀ (s : State) (th : ThrId) (w : Nat), s.up = true → s.runs th .ldh w = true → s.quiet th = true → s.inTrap th = false → (s.ea th w) % 2 ≠ 0 →
      Completes (.ldh th .none) s (fun t => s.trapped t th 3 ((s.ea th w)) 0)) ∧
  (∀ (s : State) (th : ThrId) (w : Nat), s.up = true → s.runs th .ldw w = true → s.quiet th = true → s.inTrap th = false → (s.ea th w) % 4 ≠ 0 →
      Completes (.ldw th .none) s (fun t => s.trapped t th 3 ((s.ea th w)) 0)) ∧
  (∀ (s : State) (th : ThrId) (w : Nat), s.up = true → s.runs th .ldd w = true → s.quiet th = true → s.inTrap th = false → (s.ea th w) % 8 ≠ 0 →
      Completes (.ldd th .none) s (fun t => s.trapped t th 3 ((s.ea th w)) 0)) ∧
  (∀ (s : State) (th : ThrId) (w : Nat), s.up = true → s.runs th .sth w = true → s.quiet th = true → s.inTrap th = false → (s.ea th w) % 2 ≠ 0 →
      Completes (.sth th) s (fun t => s.trapped t th 3 ((s.ea th w)) 0)) ∧
  (∀ (s : State) (th : ThrId) (w : Nat), s.up = true → s.runs th .stw w = true → s.quiet th = true → s.inTrap th = false → (s.ea th w) % 4 ≠ 0 →
      Completes (.stw th) s (fun t => s.trapped t th 3 ((s.ea th w)) 0)) ∧
  (∀ (s : State) (th : ThrId) (w : Nat), s.up = true → s.runs th .std w = true → s.quiet th = true → s.inTrap th = false → (s.ea th w) % 8 ≠ 0 →
      Completes (.std th) s (fun t => s.trapped t th 3 ((s.ea th w)) 0)) ∧
  (∀ (s : State) (th : ThrId) (w : Nat), s.up = true → s.runs th .ldb w = true → s.quiet th = true → s.inTrap th = false → (s.ea th w) % 1 = 0 → engAt th (s.ea th w) 1 = none →
      Completes (.ldb th .none) s (fun t => s.trapped t th 4 ((s.ea th w)) 0)) ∧
  (∀ (s : State) (th : ThrId) (w : Nat), s.up = true → s.runs th .ldh w = true → s.quiet th = true → s.inTrap th = false → (s.ea th w) % 2 = 0 → engAt th (s.ea th w) 2 = none →
      Completes (.ldh th .none) s (fun t => s.trapped t th 4 ((s.ea th w)) 0)) ∧
  (∀ (s : State) (th : ThrId) (w : Nat), s.up = true → s.runs th .ldw w = true → s.quiet th = true → s.inTrap th = false → (s.ea th w) % 4 = 0 → engAt th (s.ea th w) 4 = none →
      Completes (.ldw th .none) s (fun t => s.trapped t th 4 ((s.ea th w)) 0)) ∧
  (∀ (s : State) (th : ThrId) (w : Nat), s.up = true → s.runs th .ldd w = true → s.quiet th = true → s.inTrap th = false → (s.ea th w) % 8 = 0 → engAt th (s.ea th w) 8 = none →
      Completes (.ldd th .none) s (fun t => s.trapped t th 4 ((s.ea th w)) 0)) ∧
  (∀ (s : State) (th : ThrId) (w : Nat), s.up = true → s.runs th .stb w = true → s.quiet th = true → s.inTrap th = false → (s.ea th w) % 1 = 0 → engAt th (s.ea th w) 1 = none →
      Completes (.stb th) s (fun t => s.trapped t th 4 ((s.ea th w)) 0)) ∧
  (∀ (s : State) (th : ThrId) (w : Nat), s.up = true → s.runs th .sth w = true → s.quiet th = true → s.inTrap th = false → (s.ea th w) % 2 = 0 → engAt th (s.ea th w) 2 = none →
      Completes (.sth th) s (fun t => s.trapped t th 4 ((s.ea th w)) 0)) ∧
  (∀ (s : State) (th : ThrId) (w : Nat), s.up = true → s.runs th .stw w = true → s.quiet th = true → s.inTrap th = false → (s.ea th w) % 4 = 0 → engAt th (s.ea th w) 4 = none →
      Completes (.stw th) s (fun t => s.trapped t th 4 ((s.ea th w)) 0)) ∧
  (∀ (s : State) (th : ThrId) (w : Nat), s.up = true → s.runs th .std w = true → s.quiet th = true → s.inTrap th = false → (s.ea th w) % 8 = 0 → engAt th (s.ea th w) 8 = none →
      Completes (.std th) s (fun t => s.trapped t th 4 ((s.ea th w)) 0)) ∧
  (∀ (s : State) (th : ThrId) (w : Nat) (pl : Eng), s.up = true → s.runs th .ldb w = true → s.quiet th = true → s.inTrap th = false → (s.ea th w) % 1 = 0 → s.engCheck th (s.ea th w) 1 0 true = .ok pl → pl.kind ≠ 2 →
      Completes (.ldb th .data) s (fun t => s.trapped t th 6 ((s.ea th w)) ST_POISON ∧ t.reported (src 0x09 1) (if s.basePriv th = 2 then NC else PF) (if s.basePriv th = 2 then scope 1 ((s.th th).inst % 4096) else scope 4 th) = true)) ∧
  (∀ (s : State) (th : ThrId) (w : Nat) (pl : Eng), s.up = true → s.runs th .ldd w = true → s.quiet th = true → s.inTrap th = false → (s.ea th w) % 8 = 0 → s.engCheck th (s.ea th w) 8 0 true = .ok pl → pl.kind ≠ 2 →
      Completes (.ldd th .data) s (fun t => s.trapped t th 6 ((s.ea th w)) ST_POISON ∧ t.reported (src 0x09 1) (if s.basePriv th = 2 then NC else PF) (if s.basePriv th = 2 then scope 1 ((s.th th).inst % 4096) else scope 4 th) = true))

/-- An undefined word is ILLEGAL, a row above the level is PRIV, a fetch error is STATUS, and a second trap halts. For every instruction command of a thread that is ready and outside a trap: a word of no row of Table 9-4 takes trap 1 with the word, and a word whose row the level does not let run takes trap 2 with the word; TRET takes trap 1 at every level. A fetch that meets an uncorrected error of the memory takes trap 6 with its address and POISON, and is reported, NC at base level P2 and PF otherwise. An exception raised inside a trap halts the thread with HALT_REASON 3 and its code and PC recorded, and is reported likewise (R169, R171, R202, R208, R212 to R214). -/
def Obligations.TrapsOfAnyInstruction : Prop :=
  (∀ (p : Plv) (th : ThrId) (f : State → Issued → Option State) (s : State) (e : Eng) (w : Nat), s.up = true → s.ready th = true → s.quiet th = true →
    s.inTrap th = false → s.fetchCheck th = .ok e → leNat (s.fetchBytes th e (s.th th).pc) = w → plvOf w = none →
    ∃ t, runPlv p th f s = .next t ∧ s.trapped t th 1 w 0) ∧
  (∀ (p : Plv) (th : ThrId) (f : State → Issued → Option State) (s : State) (e : Eng) (w : Nat), s.up = true → s.ready th = true → s.quiet th = true →
    s.inTrap th = false → s.fetchCheck th = .ok e → leNat (s.fetchBytes th e (s.th th).pc) = w → plvOf w = some p → p ≠ .tret → plvAllowed p w (s.priv th) = false →
    ∃ t, runPlv p th f s = .next t ∧ s.trapped t th 2 w 0) ∧
  (∀ (th : ThrId) (s : State) (e : Eng) (w : Nat), s.up = true → s.ready th = true → s.quiet th = true →
    s.inTrap th = false → s.fetchCheck th = .ok e → leNat (s.fetchBytes th e (s.th th).pc) = w → plvOf w = some .tret →
    ∃ t, execTret th s = .next t ∧ s.trapped t th 1 w 0) ∧
  (∀ (p : Plv) (th : ThrId) (f : State → Issued → Option State) (s : State) (e : Eng), s.up = true → s.ready th = true →
    s.inTrap th = false → s.fetchCheck th = .ok e →
    ∃ t, runFetch true p th f s = .next t ∧ s.trapped t th 6 (s.th th).pc ST_POISON ∧
      t.reported (src 0x09 1) (if s.basePriv th = 2 then NC else PF) (if s.basePriv th = 2 then scope 1 ((s.th th).inst % 4096) else scope 4 th) = true) ∧
  (∀ (s : State) (th : ThrId) (code arg st pc : Nat), s.inTrap th = true →
    (s.trap th code arg st pc).halted th = true ∧ (s.trap th code arg st pc).g TH_STATUS_HALT_REASON (thH th) (thI th) = 3 ∧
    ((s.trap th code arg st pc).th th).trapCode = code ∧ ((s.trap th code arg st pc).th th).pc = pc ∧
    (s.trap th code arg st pc).reported (src 0x09 0) (if s.basePriv th = 2 then NC else PF)
      (if s.basePriv th = 2 then scope 1 ((s.th th).inst % 4096) else scope 4 th) = true)

/-- MFS, MTS, TRET, YIELD, HALT, the event instructions, timers and interrupts. For a thread that runs the command's instruction word, and that no sample or STOP waits for: MFS writes a special register to RD, and one of the store-error registers clears them; MTS writes one; TRET inside a trap leaves it and goes to TRAP_PC at the base level; YIELD goes on; HALT halts with HALT_REASON 1 past its word. EVTWAIT takes the pending events of its mask with OK, or waits at its PC; a waiting one that an event meets ends so, and one with a timeout ends with TIMEOUT. A timer's expiry clears it and sets event 0. EVTSIG sets an event of 16 or more of a thread here, answers NO_MATCH for one below 16, and LINK_DOWN for a device that is not in the stack. An interrupt outside a trap takes trap 0x20 + n and clears its event (R169, R191 to R193, R213, R215). Each clause concludes that exec answers a next state, from hypotheses on the state and the operands alone, for: MFS, MTS, TRET, YIELD, HALT, EVTWAIT, EVTWAIT_TIMEOUT, THREAD_TIMER_EXPIRY, EVTSIG, INTERRUPT_TAKE. -/
def Obligations.SpecialRegistersLevelsAndEvents : Prop :=
  (∀ (s : State) (th : ThrId) (w : Nat), s.up = true → s.runs th .mfs w = true → s.quiet th = true →
      Completes (.mfs th) s (fun t => (t = ((if wImm w = 0x009 ∨ wImm w = 0x00A then s.thMod th Thread.serrClear else s).grSet th (wRd w) (s.sprRead th (wImm w) (s.th th).pc)).goesTo th ((s.th th).pc + 4)))) ∧
  (∀ (s : State) (th : ThrId) (w : Nat), s.up = true → s.runs th .mts w = true → s.quiet th = true →
      Completes (.mts th) s (fun t => t = (s.thMod th (fun x => x.sprWrite s.now (wImm w) (s.gr th (wRd w)))).goesTo th ((s.th th).pc + 4))) ∧
  (∀ (s : State) (th : ThrId) (w : Nat), s.up = true → s.runs th .tret w = true → s.quiet th = true → s.inTrap th = true →
      Completes (.tret th) s (fun t => t.inTrap th = false ∧ t.tState th = 1 ∧ t.priv th = s.basePriv th ∧ (t.th th).pc = (s.th th).trapPc / 4 * 4 % 2 ^ 64 ∧ (t.th th).inst = (if s.basePriv th = 2 then s.p2Inst th else (s.th th).inst) ∧ (t.th th).gpr = (s.th th).gpr ∧ t.mem = s.mem)) ∧
  (∀ (s : State) (th : ThrId) (w : Nat), s.up = true → s.runs th .yield w = true → s.quiet th = true →
      Completes (.yield th) s (fun t => t = s.goesTo th ((s.th th).pc + 4))) ∧
  (∀ (s : State) (th : ThrId) (w : Nat), s.up = true → s.runs th .halt w = true → s.quiet th = true →
      Completes (.halt th) s (fun t => t.halted th = true ∧ t.g TH_STATUS_HALT_REASON (thH th) (thI th) = 1 ∧ (t.th th).pc = ((s.th th).pc + 4) % 2 ^ 64 ∧ (t.th th).gpr = (s.th th).gpr ∧ t.mem = s.mem)) ∧
  (∀ (s : State) (th : ThrId) (w : Nat), s.up = true → s.runs th .evtwait w = true → s.quiet th = true → ((s.th th).evtPend &&& ((s.gr th (wRa w)) % 2 ^ 32)) ≠ 0 →
      Completes (.evtwait th) s (fun t => t = ((s.thMod th (fun x => { x with evtPend := x.evtPend &&& (2 ^ 32 - 1 - ((s.th th).evtPend &&& ((s.gr th (wRa w)) % 2 ^ 32))) })).concludesS th w ST_OK ((s.th th).evtPend &&& ((s.gr th (wRa w)) % 2 ^ 32))))) ∧
  (∀ (s : State) (th : ThrId) (w : Nat), s.up = true → s.runs th .evtwait w = true → s.quiet th = true → ((s.th th).evtPend &&& ((s.gr th (wRa w)) % 2 ^ 32)) = 0 →
      Completes (.evtwait th) s (fun t => (t.th th).waiting = .event ∧ (t.th th).pc = (s.th th).pc ∧ (t.th th).gpr = (s.th th).gpr ∧ t.regs = s.regs ∧ t.mem = s.mem)) ∧
  (∀ (s : State) (th : ThrId) (i : Issued), s.up = true → (s.th th).waiting = .event → (s.th th).issued = some i → i.pc = (s.th th).pc → i.tagged = false → s.quiet th = true → (s.th th).evtPend &&& (s.gr th (wRa i.word) % 2 ^ 32) ≠ 0 →
      Completes (.evtwait th) s (fun t => t = (s.thMod th (fun x => { x with evtPend := x.evtPend &&& (2 ^ 32 - 1 - ((s.th th).evtPend &&& (s.gr th (wRa i.word) % 2 ^ 32))) })).concludesS th i.word ST_OK ((s.th th).evtPend &&& (s.gr th (wRa i.word) % 2 ^ 32)))) ∧
  (∀ (s : State) (th : ThrId) (i : Issued), s.up = true → (s.th th).waiting = .event → (s.th th).issued = some i → i.pc = (s.th th).pc → i.tagged = false → s.quiet th = true → s.gr th (wRb i.word) ≠ 0 →
      Completes (.evtwaitTimeout th) s (fun t => t = s.concludesS th i.word ST_TIMEOUT 0)) ∧
  (∀ (s : State) (th : ThrId), s.up = true → (s.th th).timer.isSome = true →
      Completes (.threadTimerExpiry th) s (fun t => (t.th th).timer = none ∧ (t.th th).evtPend = (s.th th).evtPend ||| 1 ∧ t.regs = s.regs ∧ t.mem = s.mem)) ∧
  (∀ (s : State) (th : ThrId) (w : Nat) (u : Nat), s.up = true → s.runs th .evtsig w = true → s.quiet th = true → 16 ≤ (s.gr th (wRb w) % 32) → s.inStack ((s.gr th (wRa w) % 2 ^ 13) / 2048) = true → s.thrOf (s.gr th (wRa w) % 2 ^ 13) = some u → (s.priv th ≠ 2 ∨ (s.th u).inst = (s.th th).inst) →
      Completes (.evtsig th) s (fun t => t = (s.concludesS th w ST_OK 0).setEvent u (s.gr th (wRb w) % 32))) ∧
  (∀ (s : State) (th : ThrId) (w : Nat), s.up = true → s.runs th .evtsig w = true → s.quiet th = true → (s.gr th (wRb w) % 32) < 16 →
      Completes (.evtsig th) s (fun t => t = s.concludesS th w ST_NO_MATCH 0)) ∧
  (∀ (s : State) (th : ThrId) (w : Nat), s.up = true → s.runs th .evtsig w = true → s.quiet th = true → 16 ≤ (s.gr th (wRb w) % 32) → s.inStack ((s.gr th (wRa w) % 2 ^ 13) / 2048) = false →
      Completes (.evtsig th) s (fun t => t = s.concludesS th w ST_LINK_DOWN 0)) ∧
  (∀ (s : State) (th : ThrId) (n : Nat), s.up = true → s.halted th = false → s.inTrap th = false → s.pendingInt th = some n → (s.th th).waiting = .none → (s.th th).issued = none →
      Completes (.interruptTake th) s (fun t => s.trapped t th (0x20 + n) 0 0 ∧ (t.th th).evtPend = (s.th th).evtPend &&& (2 ^ 32 - 1 - 2 ^ n)))

/-- STGR, STGM, ECMT, EABORT, MBSEND, MBRECV, CLD and CST. For a thread that runs the command's instruction word, and that no sample or STOP waits for: STGR enters a register write that may be staged in the staging set, and answers NO_MATCH for an offset of no register; STGM enters a segment's image, refuses reserved bits of its target with ACCESS_DENIED and answers NO_MATCH for the removal of an override that is neither committed nor staged. ECMT with nothing staged ends at once with the epoch; with a staging set it submits the set and waits at its PC. EABORT empties the set, or answers LATE with none. MBSEND to a thread here, P2 only to one of its instance, enters the message in the thread's queue, answers RETRY where that holds 16, NO_MATCH for a target with reserved bits, and LINK_DOWN for a device that is not in the stack. MBRECV stores the oldest message and takes it from the queue, or answers RETRY with none. CLD reads a register that its gate lets through, and clears what a read clears. CST of an aligned offset makes the access and waits for its answer with the status of it (R170, R179, R187 to R190, R194, R195). Each clause concludes that exec answers a next state, from hypotheses on the state and the operands alone, for: STGR, STGM, ECMT, EABORT, MBSEND, MBRECV, CLD, CST. -/
def Obligations.StagingAndMessageInstructions : Prop :=
  (∀ (s : State) (th : ThrId) (w : Nat) (r : RegName) (i : Nat) (j : Nat) (l : List Staged), s.up = true → s.runs th .stgr w = true → s.quiet th = true → (s.gr th (wRa w)) < 0x4000000 → (s.thGate th 3 (s.gr th (wRa w)) 8 1).isNone = true → regAt (s.gr th (wRa w)) = some (r, i, j) → r.rwe ≠ [] → s.stageOk r i (s.gr th (wRb w)) = true → s.stagePut (s.th th).staging ⟨false, (s.gr th (wRa w)), (s.gr th (wRb w))⟩ = some l →
      Completes (.stgr th) s (fun t => t = (s.stagingSet th l).concludesS th w ST_OK 0)) ∧
  (∀ (s : State) (th : ThrId) (w : Nat), s.up = true → s.runs th .stgr w = true → s.quiet th = true → (s.gr th (wRa w)) < 0x4000000 → (s.thGate th 3 (s.gr th (wRa w)) 8 1).isNone = true → regAt (s.gr th (wRa w)) = none →
      Completes (.stgr th) s (fun t => t = (s).concludesS th w ST_NO_MATCH 0)) ∧
  (∀ (s : State) (th : ThrId) (w : Nat) (pl : Eng) (l : List Staged), s.up = true → s.runs th .stgm w = true → s.quiet th = true → bits (s.gr th (wRa w)) 35 27 = 0 → bits (s.gr th (wRa w)) 62 2 = 0 → (s.gr th (wRb w)) % 16 = 0 → s.engCheck th (s.gr th (wRb w)) 16 0 false = .ok pl → imageOk 0 (s.rdN pl.sp pl.off 16) = true → s.stagePut (s.th th).staging ⟨true, (s.gr th (wRa w)) % 2 ^ 23, s.rdN pl.sp pl.off 16⟩ = some l →
      Completes (.stgm th) s (fun t => t = (s.stagingSet th l).concludesS th w ST_OK 0)) ∧
  (∀ (s : State) (th : ThrId) (w : Nat), s.up = true → s.runs th .stgm w = true → s.quiet th = true → (bits (s.gr th (wRa w)) 35 27 ≠ 0 ∨ bits (s.gr th (wRa w)) 62 2 = 3) →
      Completes (.stgm th) s (fun t => t = (s).concludesS th w ST_ACCESS_DENIED 0)) ∧
  (∀ (s : State) (th : ThrId) (w : Nat), s.up = true → s.runs th .stgm w = true → s.quiet th = true → bits (s.gr th (wRa w)) 35 27 = 0 → bits (s.gr th (wRa w)) 62 2 = 2 → nget? ((s.gr th (wRa w)) % 2 ^ 32) s.plc.pages = none → (s.th th).staging = [] →
      Completes (.stgm th) s (fun t => t = (s).concludesS th w ST_NO_MATCH 0)) ∧
  (∀ (s : State) (th : ThrId) (w : Nat), s.up = true → s.runs th .ecmt w = true → s.quiet th = true → (s.th th).staging = [] →
      Completes (.ecmt th) s (fun t => t = (s).concludesS th w ST_OK s.curEpoch)) ∧
  (∀ (s : State) (th : ThrId) (w : Nat), s.up = true → s.runs th .ecmt w = true → s.quiet th = true → (s.th th).staging ≠ [] →
      Completes (.ecmt th) s (fun t => t.cmt.queue = s.cmt.queue ++ [{ id := s.cmt.nextId, owner := .thread th, entries := (s.th th).staging, expect := if (s.gr th (wRb w)) % 2 = 1 then some ((s.gr th (wRa w)) % 2 ^ 32) else none }] ∧ (t.th th).waiting = .commit ∧ (t.th th).pc = (s.th th).pc ∧ (t.th th).gpr = (s.th th).gpr ∧ t.regs = s.regs)) ∧
  (∀ (s : State) (th : ThrId) (w : Nat), s.up = true → s.runs th .eabort w = true → s.quiet th = true → (s.th th).staging ≠ [] →
      Completes (.eabort th) s (fun t => t = (s.stagingSet th []).concludesS th w ST_OK 0)) ∧
  (∀ (s : State) (th : ThrId) (w : Nat), s.up = true → s.runs th .eabort w = true → s.quiet th = true → (s.th th).staging = [] →
      Completes (.eabort th) s (fun t => t = (s).concludesS th w ST_LATE 0)) ∧
  (∀ (s : State) (th : ThrId) (w : Nat) (pl : Eng) (u : Nat) (r : State), s.up = true → s.runs th .mbsend w = true → s.quiet th = true → (s.gr th (wRb w)) % 8 = 0 → 0 < (wFn w) → s.engCheck th (s.gr th (wRb w)) (8 * (wFn w)) 0 false = .ok pl → (s.gr th (wRa w)) < 2 ^ 13 → s.inStack ((s.gr th (wRa w)) / 2048) = true → s.thrOf (s.gr th (wRa w)) = some u → (s.priv th ≠ 2 ∨ (s.th u).inst = (s.th th).inst) → s.rxPush u (msgBytes (s.tidOf th) (s.th th).inst (s.priv th) ((List.range (wFn w)).map (fun k => leNat (((s.rd pl.sp pl.off (8 * (wFn w))).drop (8 * k)).take 8)))) = some r →
      Completes (.mbsend th) s (fun t => t = (r).concludesS th w ST_OK 0)) ∧
  (∀ (s : State) (th : ThrId) (w : Nat) (pl : Eng) (u : Nat), s.up = true → s.runs th .mbsend w = true → s.quiet th = true → (s.gr th (wRb w)) % 8 = 0 → 0 < (wFn w) → s.engCheck th (s.gr th (wRb w)) (8 * (wFn w)) 0 false = .ok pl → (s.gr th (wRa w)) < 2 ^ 13 → s.inStack ((s.gr th (wRa w)) / 2048) = true → s.thrOf (s.gr th (wRa w)) = some u → (s.priv th ≠ 2 ∨ (s.th u).inst = (s.th th).inst) → 16 ≤ (s.th u).rxq.length →
      Completes (.mbsend th) s (fun t => t = (s).concludesS th w ST_RETRY 0)) ∧
  (∀ (s : State) (th : ThrId) (w : Nat), s.up = true → s.runs th .mbsend w = true → s.quiet th = true → (s.gr th (wRb w)) % 8 = 0 → (wFn w) = 0 → (s.gr th (wRa w)) / 2 ^ 62 = 0 → bits (s.gr th (wRa w)) 13 49 ≠ 0 →
      Completes (.mbsend th) s (fun t => t = (s).concludesS th w ST_NO_MATCH 0)) ∧
  (∀ (s : State) (th : ThrId) (w : Nat), s.up = true → s.runs th .mbsend w = true → s.quiet th = true → (s.gr th (wRb w)) % 8 = 0 → (wFn w) = 0 → (s.gr th (wRa w)) < 2 ^ 13 → s.inStack ((s.gr th (wRa w)) / 2048) = false →
      Completes (.mbsend th) s (fun t => t = (s).concludesS th w ST_LINK_DOWN 0)) ∧
  (∀ (s : State) (th : ThrId) (w : Nat) (pl : Eng) (m : List Byte) (ms : List (List Byte)), s.up = true → s.runs th .mbrecv w = true → s.quiet th = true → (s.gr th (wRa w)) % 64 = 0 → s.engCheck th (s.gr th (wRa w)) 64 1 false = .ok pl → (s.th th).rxq = m :: ms →
      Completes (.mbrecv th) s (fun t => t = ((s.engWrite th pl m).thMod th (fun x => { x with rxq := ms })).concludesS th w ST_OK 0)) ∧
  (∀ (s : State) (th : ThrId) (w : Nat) (pl : Eng), s.up = true → s.runs th .mbrecv w = true → s.quiet th = true → (s.gr th (wRa w)) % 64 = 0 → s.engCheck th (s.gr th (wRa w)) 64 1 false = .ok pl → (s.th th).rxq = [] →
      Completes (.mbrecv th) s (fun t => t = (s).concludesS th w ST_RETRY 0)) ∧
  (∀ (s : State) (th : ThrId) (w : Nat) (r : RegName) (i : Nat) (j : Nat), s.up = true → s.runs th .cld w = true → s.quiet th = true → (s.ea th w) < 0x4000000 → (s.ea th w) % 8 = 0 → (s.thGate th 3 (s.ea th w) 8 0).isNone = true → s.reaches (s.ea th w) = true → targetAt (s.ea th w) = some (.reg r i j) →
      Completes (.cld th) s (fun t => t = (((s.readClear r i j true true).thMod th (fun x => { x with lstat := ST_OK })).grSet th (wRd w) (s.wordFor (.thread th) (s.ea th w) r i j)).goesTo th ((s.th th).pc + 4))) ∧
  (∀ (s : State) (th : ThrId) (w : Nat), s.up = true → s.runs th .cst w = true → s.quiet th = true → (s.ea th w) < 0x4000000 → (s.thGate th 3 (s.ea th w) 8 1).isNone = true → (((s.thMod th (fun x => { x with waiting := .cst ST_INTERNAL, issued := some { word := w, pc := (s.th th).pc, priv := s.priv th, inst := (s.th th).inst, time := s.now, addr := (s.ea th w) } })).access (.thread th) (s.ea th w) 64 (some (s.gr th (wRd w)))).1.th th).waiting = .cst ST_INTERNAL → (((s.thMod th (fun x => { x with waiting := .cst ST_INTERNAL, issued := some { word := w, pc := (s.th th).pc, priv := s.priv th, inst := (s.th th).inst, time := s.now, addr := (s.ea th w) } })).access (.thread th) (s.ea th w) 64 (some (s.gr th (wRd w)))).1.th th).pc = (s.th th).pc →
      Completes (.cst th) s (fun t => (t.th th).waiting = .cst ((s.thMod th (fun x => { x with waiting := .cst ST_INTERNAL, issued := some { word := w, pc := (s.th th).pc, priv := s.priv th, inst := (s.th th).inst, time := s.now, addr := (s.ea th w) } })).access (.thread th) (s.ea th w) 64 (some (s.gr th (wRd w)))).2.1 ∧ t.regs = ((s.thMod th (fun x => { x with waiting := .cst ST_INTERNAL, issued := some { word := w, pc := (s.th th).pc, priv := s.priv th, inst := (s.th th).inst, time := s.now, addr := (s.ea th w) } })).access (.thread th) (s.ea th w) 64 (some (s.gr th (wRd w)))).1.regs ∧ (t.th th).pc = (s.th th).pc))

/-- Fabric loads hit the line cache, go in flight, or end with FROZEN. For a thread that runs the command's instruction word, and that no sample or STOP waits for: a cached load of an aligned address that the gates let pass writes RD from its line where the hearth holds it, and FLINE writes all 64 bytes to the engine address in RD; where the hearth does not hold it, and for an uncached load, the request goes in flight, RD_S or RD_CUR, and the thread waits for it. A load of an instance that is frozen takes trap 6 with FROZEN, or, with traps of statuses off, writes 0 to RD and FROZEN to LSTAT (R176 to R178, R207, R283). Each clause concludes that exec answers a next state, from hypotheses on the state and the operands alone, for: FLD, FLDU, FLINE_LD, FLINE_LDU. -/
def Obligations.FabricLoads : Prop :=
  (∀ (s : State) (th : ThrId) (w : Nat) (pl : Eng) (x : FlcLine), s.up = true → s.runs th .fld w = true → s.quiet th = true → (s.ea th w) % 8 = 0 → s.fabCheck th (s.ea th w) 8 0 = .ok pl → (s.th th).storesTo ((s.ea th w) / 64) = false → s.flcGet (thH th) ((s.ea th w) / 64) = some x →
      Completes (.fld th .none) s (fun t => t = (((s.flcPut (thH th) ((s.ea th w) / 64) { x with rank := s.flcNext (thH th) ((s.ea th w) / 64), inst := (s.th th).inst }).thMod th (fun x => { x with lstat := ST_OK })).grSet th (wRd w) (dword x.data (s.ea th w))).goesTo th ((s.th th).pc + 4))) ∧
  (∀ (s : State) (th : ThrId) (w : Nat) (pl : Eng) (r : State) (id : Nat), s.up = true → s.runs th .fld w = true → s.quiet th = true → (s.ea th w) % 8 = 0 → s.fabCheck th (s.ea th w) 8 0 = .ok pl → (s.th th).storesTo ((s.ea th w) / 64) = false → s.flcGet (thH th) ((s.ea th w) / 64) = none → (s.admitInternal (s.thTxn th (s.th th).inst .rdS (s.ea th w) [])) = (r, .inFlight id) →
      Completes (.fld th .none) s (fun t => t = r.thMod th (fun x => { x with waiting := .fabric id, issued := some { word := w, pc := (s.th th).pc, priv := s.priv th, inst := (s.th th).inst, time := s.now, addr := (s.ea th w), space := some 0 } }))) ∧
  (∀ (s : State) (th : ThrId) (w : Nat) (pl : Eng) (r : State) (id : Nat), s.up = true → s.runs th .fldu w = true → s.quiet th = true → (s.ea th w) % 8 = 0 → s.fabCheck th (s.ea th w) 8 0 = .ok pl → (s.th th).storesTo ((s.ea th w) / 64) = false → (s.admitInternal (s.thTxn th (s.th th).inst .rdCur (s.ea th w) [])) = (r, .inFlight id) →
      Completes (.fldu th) s (fun t => t = r.thMod th (fun x => { x with waiting := .fabric id, issued := some { word := w, pc := (s.th th).pc, priv := s.priv th, inst := (s.th th).inst, time := s.now, addr := (s.ea th w), space := some 0 } }))) ∧
  (∀ (s : State) (th : ThrId) (w : Nat) (pl : Eng), s.up = true → s.runs th .fldu w = true → s.quiet th = true → (s.ea th w) % 8 = 0 → s.fabCheck th (s.ea th w) 8 0 = .ok pl → (s.th th).storesTo ((s.ea th w) / 64) = false → s.inTrap th = false → bit (s.th th).tctl 0 = false → s.instIn (s.th th).inst [4, 5] = false → s.instIn (s.th th).inst [3] = true →
      Completes (.fldu th) s (fun t => s.trapped t th 6 ((s.ea th w)) ST_FROZEN)) ∧
  (∀ (s : State) (th : ThrId) (w : Nat) (pl : Eng), s.up = true → s.runs th .fldu w = true → s.quiet th = true → (s.ea th w) % 8 = 0 → s.fabCheck th (s.ea th w) 8 0 = .ok pl → (s.th th).storesTo ((s.ea th w) / 64) = false → bit (s.th th).tctl 0 = true → s.instIn (s.th th).inst [4, 5] = false → s.instIn (s.th th).inst [3] = true →
      Completes (.fldu th) s (fun t => (t.th th).gpr = ((s.th th).grSet (wRd w) 0).gpr ∧ (t.th th).lstat = ST_FROZEN ∧ (t.th th).pc = ((s.th th).pc + 4) % 2 ^ 64 ∧ t.sw.txns = s.sw.txns ∧ t.mem = s.mem)) ∧
  (∀ (s : State) (th : ThrId) (w : Nat) (pl : Eng) (q : Eng) (x : FlcLine), s.up = true → s.runs th .flineLd w = true → s.quiet th = true → (s.gr th (wRd w)) % 64 = 0 → s.engCheck th (s.gr th (wRd w)) 64 1 true = .ok q → (s.gr th (wRa w)) % 64 = 0 → s.fabCheck th (s.gr th (wRa w)) 64 0 = .ok pl → (s.th th).storesTo ((s.gr th (wRa w)) / 64) = false → s.flcGet (thH th) ((s.gr th (wRa w)) / 64) = some x → engAt th (s.gr th (wRd w)) 64 = some q →
      Completes (.flineLd th .none) s (fun t => t = (((s.flcPut (thH th) ((s.gr th (wRa w)) / 64) { x with rank := s.flcNext (thH th) ((s.gr th (wRa w)) / 64), inst := (s.th th).inst }).thMod th (fun x => { x with lstat := ST_OK })).engWrite th q ((x.data ++ List.replicate 64 0).take 64)).goesTo th ((s.th th).pc + 4))) ∧
  (∀ (s : State) (th : ThrId) (w : Nat) (pl : Eng) (q : Eng) (r : State) (id : Nat), s.up = true → s.runs th .flineLd w = true → s.quiet th = true → (s.gr th (wRd w)) % 64 = 0 → s.engCheck th (s.gr th (wRd w)) 64 1 true = .ok q → (s.gr th (wRa w)) % 64 = 0 → s.fabCheck th (s.gr th (wRa w)) 64 0 = .ok pl → (s.th th).storesTo ((s.gr th (wRa w)) / 64) = false → s.flcGet (thH th) ((s.gr th (wRa w)) / 64) = none → (s.admitInternal (s.thTxn th (s.th th).inst .rdS (s.gr th (wRa w)) [])) = (r, .inFlight id) →
      Completes (.flineLd th .none) s (fun t => t = r.thMod th (fun x => { x with waiting := .fabric id, issued := some { word := w, pc := (s.th th).pc, priv := s.priv th, inst := (s.th th).inst, time := s.now, addr := (s.gr th (wRa w)), space := some 0 } }))) ∧
  (∀ (s : State) (th : ThrId) (w : Nat) (pl : Eng) (q : Eng) (r : State) (id : Nat), s.up = true → s.runs th .flineLdu w = true → s.quiet th = true → (s.gr th (wRd w)) % 64 = 0 → s.engCheck th (s.gr th (wRd w)) 64 1 true = .ok q → (s.gr th (wRa w)) % 64 = 0 → s.fabCheck th (s.gr th (wRa w)) 64 0 = .ok pl → (s.th th).storesTo ((s.gr th (wRa w)) / 64) = false → (s.admitInternal (s.thTxn th (s.th th).inst .rdCur (s.gr th (wRa w)) [])) = (r, .inFlight id) →
      Completes (.flineLdu th) s (fun t => t = r.thMod th (fun x => { x with waiting := .fabric id, issued := some { word := w, pc := (s.th th).pc, priv := s.priv th, inst := (s.th th).inst, time := s.now, addr := (s.gr th (wRa w)), space := some 0 } })))

/-- Posted stores, fabric atomics and fences. For a thread that runs the command's instruction word, and that no sample or STOP waits for: with fewer than 16 posted stores and none to its line, a cached store or FLINE store to an owned line writes the line; a cached store to a line the hearth does not hold, and an uncached one, is posted in flight and the thread goes on. With no posted store left and no error pending, a fabric AMO on an owned line writes its function's result and returns the old value; FENCE L goes on always, FENCE F, A and I go on, I with the held old code dropped. FENCE F, A and I take trap 7 with the address and status of a failed store, and wait while a posted store is left (R175, R181, R182, R184, R207). Each clause concludes that exec answers a next state, from hypotheses on the state and the operands alone, for: FST, FSTU, FLINE_ST, FLINE_STU, AMO_FABRIC, FENCE_L, FENCE_F, FENCE_A, FENCE_I. -/
def Obligations.FabricStoresAtomicsAndFences : Prop :=
  (∀ (s : State) (th : ThrId) (w : Nat) (pl : Eng) (x : FlcLine), s.up = true → s.runs th .fst w = true → s.quiet th = true → (s.ea th w) % 8 = 0 → s.fabCheck th (s.ea th w) 8 1 = .ok pl → (s.th th).stores.length < 16 → (s.th th).storesTo ((s.ea th w) / 64) = false → s.flcGet (thH th) ((s.ea th w) / 64) = some x → x.owned = true →
      Completes (.fst th .none) s (fun t => t = ((s.flcWrite (thH th) (s.ea th w) (leBytes 8 (s.gr th (wRd w))) (s.th th).inst).thMod th (fun x => { x with lstat := ST_OK })).goesTo th ((s.th th).pc + 4))) ∧
  (∀ (s : State) (th : ThrId) (w : Nat) (pl : Eng) (r : State) (id : Nat), s.up = true → s.runs th .fst w = true → s.quiet th = true → (s.ea th w) % 8 = 0 → s.fabCheck th (s.ea th w) 8 1 = .ok pl → (s.th th).stores.length < 16 → (s.th th).storesTo ((s.ea th w) / 64) = false → s.flcGet (thH th) ((s.ea th w) / 64) = none → s.admitInternal (s.storeTxn th { addr := (s.ea th w), data := leBytes 8 (s.gr th (wRd w)), cached := true, txn := none, inst := (s.th th).inst }) = (r, .inFlight id) → r.thr = s.thr →
      Completes (.fst th .none) s (fun t => t = ((r.thMod th (fun x => { x with stores := x.stores ++ [{ addr := (s.ea th w), data := leBytes 8 (s.gr th (wRd w)), cached := true, txn := some id, line := false, inst := (s.th th).inst }] })).thMod th (fun x => { x with lstat := ST_OK })).goesTo th ((s.th th).pc + 4))) ∧
  (∀ (s : State) (th : ThrId) (w : Nat) (pl : Eng) (r : State) (id : Nat), s.up = true → s.runs th .fstu w = true → s.quiet th = true → (s.ea th w) % 8 = 0 → s.fabCheck th (s.ea th w) 8 1 = .ok pl → (s.th th).stores.length < 16 → (s.th th).storesTo ((s.ea th w) / 64) = false → s.admitInternal (s.storeTxn th { addr := (s.ea th w), data := leBytes 8 (s.gr th (wRd w)), cached := false, txn := none, inst := (s.th th).inst }) = (r, .inFlight id) → r.thr = s.thr →
      Completes (.fstu th) s (fun t => t = ((r.thMod th (fun x => { x with stores := x.stores ++ [{ addr := (s.ea th w), data := leBytes 8 (s.gr th (wRd w)), cached := false, txn := some id, line := false, inst := (s.th th).inst }] })).thMod th (fun x => { x with lstat := ST_OK })).goesTo th ((s.th th).pc + 4))) ∧
  (∀ (s : State) (th : ThrId) (w : Nat) (pl : Eng) (q : Eng) (x : FlcLine), s.up = true → s.runs th .flineSt w = true → s.quiet th = true → (s.gr th (wRd w)) % 64 = 0 → s.engCheck th (s.gr th (wRd w)) 64 0 true = .ok q → (s.gr th (wRa w)) % 64 = 0 → s.fabCheck th (s.gr th (wRa w)) 64 1 = .ok pl → (s.th th).stores.length < 16 → (s.th th).storesTo ((s.gr th (wRa w)) / 64) = false → s.flcGet (thH th) ((s.gr th (wRa w)) / 64) = some x → x.owned = true →
      Completes (.flineSt th .none) s (fun t => t = ((s.flcWrite (thH th) (s.gr th (wRa w)) (s.rd q.sp q.off 64) (s.th th).inst).thMod th (fun x => { x with lstat := ST_OK })).goesTo th ((s.th th).pc + 4))) ∧
  (∀ (s : State) (th : ThrId) (w : Nat) (pl : Eng) (q : Eng) (r : State) (id : Nat), s.up = true → s.runs th .flineStu w = true → s.quiet th = true → (s.gr th (wRd w)) % 64 = 0 → s.engCheck th (s.gr th (wRd w)) 64 0 true = .ok q → (s.gr th (wRa w)) % 64 = 0 → s.fabCheck th (s.gr th (wRa w)) 64 1 = .ok pl → (s.th th).stores.length < 16 → (s.th th).storesTo ((s.gr th (wRa w)) / 64) = false → s.admitInternal (s.storeTxn th { addr := (s.gr th (wRa w)), data := s.rd q.sp q.off 64, cached := false, txn := none, line := true, inst := (s.th th).inst }) = (r, .inFlight id) → r.thr = s.thr →
      Completes (.flineStu th) s (fun t => t = ((r.thMod th (fun x => { x with stores := x.stores ++ [{ addr := (s.gr th (wRa w)), data := s.rd q.sp q.off 64, cached := false, txn := some id, line := true, inst := (s.th th).inst }] })).thMod th (fun x => { x with lstat := ST_OK })).goesTo th ((s.th th).pc + 4))) ∧
  (∀ (s : State) (th : ThrId) (w : Nat) (pl : Eng) (x : FlcLine), s.up = true → s.runs th .amoFabric w = true → s.quiet th = true → (s.gr th (wRa w)) % 8 = 0 → s.fabCheck th (s.gr th (wRa w)) 8 3 = .ok pl → (s.th th).stores = [] → (s.th th).serrPending = false → s.flcGet (thH th) ((s.gr th (wRa w)) / 64) = some x → x.owned = true →
      Completes (.amoFabric th .none) s (fun t => t = (((s.flcWrite (thH th) (s.gr th (wRa w)) (leBytes 8 (amoFn (wFn w) (dword x.data (s.gr th (wRa w))) (s.gr th (wRb w)) (s.gr th (wRd w)))) (s.th th).inst).thMod th (fun x => { x with lstat := ST_OK })).grSet th (wRd w) (dword x.data (s.gr th (wRa w)))).goesTo th ((s.th th).pc + 4))) ∧
  (∀ (s : State) (th : ThrId) (w : Nat), s.up = true → s.runs th .fenceL w = true → s.quiet th = true →
      Completes (.fenceL th) s (fun t => t = s.goesTo th ((s.th th).pc + 4))) ∧
  (∀ (s : State) (th : ThrId) (w : Nat), s.up = true → s.runs th .fenceF w = true → s.quiet th = true → (s.th th).stores = [] → (s.th th).serrPending = false →
      Completes (.fenceF th) s (fun t => t = s.goesTo th ((s.th th).pc + 4))) ∧
  (∀ (s : State) (th : ThrId) (w : Nat), s.up = true → s.runs th .fenceA w = true → s.quiet th = true → (s.th th).stores = [] → (s.th th).serrPending = false →
      Completes (.fenceA th) s (fun t => t = s.goesTo th ((s.th th).pc + 4))) ∧
  (∀ (s : State) (th : ThrId) (w : Nat), s.up = true → s.runs th .fenceI w = true → s.quiet th = true → (s.th th).stores = [] → (s.th th).serrPending = false →
      Completes (.fenceI th) s (fun t => t = (s.thMod th (fun x => { x with oldCode := [] })).goesTo th ((s.th th).pc + 4))) ∧
  (∀ (s : State) (th : ThrId) (w : Nat), s.up = true → s.runs th .fenceF w = true → s.quiet th = true → (s.th th).stores = [] → (s.th th).serrPending = true → bit (s.th th).tctl 0 = false → s.inTrap th = false →
      Completes (.fenceF th) s (fun t => s.trapped t th 7 ((s.th th).serrAddr) (s.th th).serrStatus ∧ (t.th th).serrPending = false)) ∧
  (∀ (s : State) (th : ThrId) (w : Nat), s.up = true → s.runs th .fenceF w = true → s.quiet th = true → (s.th th).stores ≠ [] →
      Completes (.fenceF th) s (fun t => t = s)) ∧
  (∀ (s : State) (th : ThrId) (w : Nat), s.up = true → s.runs th .fenceA w = true → s.quiet th = true → (s.th th).stores = [] → (s.th th).serrPending = true → bit (s.th th).tctl 0 = false → s.inTrap th = false →
      Completes (.fenceA th) s (fun t => s.trapped t th 7 ((s.th th).serrAddr) (s.th th).serrStatus ∧ (t.th th).serrPending = false)) ∧
  (∀ (s : State) (th : ThrId) (w : Nat), s.up = true → s.runs th .fenceA w = true → s.quiet th = true → (s.th th).stores ≠ [] →
      Completes (.fenceA th) s (fun t => t = s)) ∧
  (∀ (s : State) (th : ThrId) (w : Nat), s.up = true → s.runs th .fenceI w = true → s.quiet th = true → (s.th th).stores = [] → (s.th th).serrPending = true → bit (s.th th).tctl 0 = false → s.inTrap th = false →
      Completes (.fenceI th) s (fun t => s.trapped t th 7 ((s.th th).serrAddr) (s.th th).serrStatus ∧ (t.th th).serrPending = false)) ∧
  (∀ (s : State) (th : ThrId) (w : Nat), s.up = true → s.runs th .fenceI w = true → s.quiet th = true → (s.th th).stores ≠ [] →
      Completes (.fenceI th) s (fun t => t = s))

/-- Answers end the instruction that waits, posted stores leave their queue, and snoops are answered. For a thread that no sample or STOP waits for. The answer of an FLDU with OK writes RD; with another status, traps of statuses on, it takes trap 6; the answer of an FLD with OK enters the cache, not owned, and writes RD; a failed AMO with such traps off writes 0 to RD and the status to LSTAT. A waiting CST ends with its status in LSTAT, where that is OK or traps of statuses are off. With no answer nothing happens. An FLDU that waits for a RETRY goes in flight again. A posted store that is answered with OK leaves its queue; a failed one leaves it too, its address and status in the store-error registers; an uncached one that waited goes in flight, and one refused with RETRY under RETRY_AUTO waits and is issued again. A snoop of a line that the hearth does not hold is answered without data; else with the data where dirty, the line dropped for kind 0, kept and no longer owned for kind 1, and left as it is for kind 2, unless a request or a WB of the hearth to the line holds it (R124, R125, R178 to R182, R207). Each clause concludes that exec answers a next state, from hypotheses on the state and the operands alone, for: FABRIC_ANSWER, RETRY_REISSUE, POSTED_STORE_CONCLUDE, HEARTH_SNOOP. -/
def Obligations.FabricAnswersAndSnoops : Prop :=
  (∀ (s : State) (th : ThrId) (i : Issued) (id : Nat) (a : IntAnswer), s.up = true → (s.th th).waiting = .fabric id → (s.th th).issued = some i → i.pc = (s.th th).pc → i.tagged = false → s.quiet th = true → nget? id s.sw.answers = some a → plvOf i.word = some .fldu → a.status = ST_OK →
      Completes (.fabricAnswer th) s (fun t => t = ((State.thMod ({ s with sw := { s.sw with answers := nerase id s.sw.answers } }) th (fun x => { x with lstat := ST_OK })).grSet th (wRd i.word) (dword a.data i.addr)).goesTo th (i.pc + 4))) ∧
  (∀ (s : State) (th : ThrId) (i : Issued) (id : Nat) (a : IntAnswer), s.up = true → (s.th th).waiting = .fabric id → (s.th th).issued = some i → i.pc = (s.th th).pc → i.tagged = false → s.quiet th = true → nget? id s.sw.answers = some a → plvOf i.word = some .fldu → a.status ≠ ST_OK → bit (s.th th).tctl 0 = false → s.inTrap th = false →
      Completes (.fabricAnswer th) s (fun t => s.trapped t th 6 i.addr a.status ∧ nget? id t.sw.answers = none)) ∧
  (∀ (s : State) (th : ThrId) (i : Issued) (id : Nat) (a : IntAnswer), s.up = true → (s.th th).waiting = .fabric id → (s.th th).issued = some i → i.pc = (s.th th).pc → i.tagged = false → s.quiet th = true → nget? id s.sw.answers = some a → plvOf i.word = some .fld → a.status = ST_OK →
      Completes (.fabricAnswer th) s (fun t => (t.flcGet (thH th) (i.addr / 64)).any (fun x => x.data == a.data && !x.owned && !x.dirty) = true ∧ (t.th th).gpr = ((s.th th).grSet (wRd i.word) (dword a.data i.addr)).gpr ∧ (t.th th).pc = (i.pc + 4) % 2 ^ 64 ∧ (t.th th).waiting = .none)) ∧
  (∀ (s : State) (th : ThrId) (i : Issued) (id : Nat) (a : IntAnswer), s.up = true → (s.th th).waiting = .fabric id → (s.th th).issued = some i → i.pc = (s.th th).pc → i.tagged = false → s.quiet th = true → nget? id s.sw.answers = some a → plvOf i.word = some .amoFabric → a.status ≠ ST_OK → bit (s.th th).tctl 0 = true →
      Completes (.fabricAnswer th) s (fun t => t = ((State.thMod ({ s with sw := { s.sw with answers := nerase id s.sw.answers } }) th (fun x => { x with lstat := a.status })).grSet th (wRd i.word) 0).goesTo th (i.pc + 4))) ∧
  (∀ (s : State) (th : ThrId) (i : Issued) (st : Nat), s.up = true → (s.th th).waiting = .cst st → (s.th th).issued = some i → i.tagged = false → s.quiet th = true → (st = ST_OK ∨ bit (s.th th).tctl 0 = true) →
      Completes (.fabricAnswer th) s (fun t => t = (s.thMod th (fun x => { x with lstat := st })).goesTo th (i.pc + 4))) ∧
  (∀ (s : State) (th : ThrId) (i : Issued) (id : Nat), s.up = true → (s.th th).waiting = .fabric id → (s.th th).issued = some i → nget? id s.sw.answers = none →
      Completes (.fabricAnswer th) s (fun t => t = s)) ∧
  (∀ (s : State) (th : ThrId) (i : Issued) (pl : Eng) (r : State) (id : Nat), s.up = true → (s.th th).waiting = .retry → (s.th th).issued = some i → plvOf i.word = some .fldu → s.ea th i.word % 8 = 0 → (s.thMod th (fun x => { x with waiting := .none })).fabCheck th (s.ea th i.word) 8 0 = .ok pl → (s.th th).storesTo (s.ea th i.word / 64) = false → (s.thMod th (fun x => { x with waiting := .none })).admitInternal ((s.thMod th (fun x => { x with waiting := .none })).thTxn th i.inst .rdCur (s.ea th i.word) []) = (r, .inFlight id) →
      Completes (.retryReissue th) s (fun t => t = r.thMod th (fun x => { x with waiting := .fabric id, issued := some { i with addr := s.ea th i.word, space := some 0 } }))) ∧
  (∀ (s : State) (th : ThrId) (k : Fin 16) (p : PostedStore) (id : Nat) (a : IntAnswer), s.up = true → (s.th th).stores[k.val]? = some p → p.txn = some id → p.sample = none → nget? id s.sw.answers = some a → a.status = ST_OK → p.cached = false →
      Completes (.postedStoreConclude th k) s (fun t => t = State.thMod ({ s with sw := { s.sw with answers := nerase id s.sw.answers } }) th (fun x => { x with stores := x.stores.eraseIdx k }))) ∧
  (∀ (s : State) (th : ThrId) (k : Fin 16) (p : PostedStore) (id : Nat) (a : IntAnswer), s.up = true → (s.th th).stores[k.val]? = some p → p.txn = some id → p.sample = none → nget? id s.sw.answers = some a → a.status ≠ ST_OK → (s.th th).serrValid = false →
      Completes (.postedStoreConclude th k) s (fun t => (t.th th).serrAddr = p.addr ∧ (t.th th).serrStatus = a.status ∧ (t.th th).serrPending = true ∧ (t.th th).stores = (s.th th).stores.eraseIdx k)) ∧
  (∀ (s : State) (th : ThrId) (k : Fin 16) (p : PostedStore) (id : Nat) (r : State), s.up = true → (s.th th).stores[k.val]? = some p → p.txn = none → p.held = false → p.cached = false → ((s.th th).stores.take k).any (fun x => x.addr / 64 == p.addr / 64) = false → s.admitInternal (s.storeTxn th p) = (r, .inFlight id) →
      Completes (.postedStoreConclude th k) s (fun t => t = r.storeSet th k { p with txn := some id, held := false })) ∧
  (∀ (s : State) (th : ThrId) (k : Fin 16) (p : PostedStore) (r : State), s.up = true → (s.th th).stores[k.val]? = some p → p.txn = none → p.held = false → p.cached = false → ((s.th th).stores.take k).any (fun x => x.addr / 64 == p.addr / 64) = false → s.admitInternal (s.storeTxn th p) = (r, .retry) → r.retryAuto th = true →
      Completes (.postedStoreConclude th k) s (fun t => t = r.storeSet th k p.again)) ∧
  (∀ (s : State) (th : ThrId) (p : PostedStore) (id : Nat) (r : State), s.up = true → (s.th th).waiting = .none → (s.th th).stores.find? (fun p => p.held) = some p → p.cached = false → s.admitInternal (s.storeTxn th p) = (r, .inFlight id) →
      Completes (.retryReissue th) s (fun t => t = r.storeSet th ((s.th th).stores.findIdx (fun p => p.held)) { p with txn := some id, held := false })) ∧
  (∀ (s : State) (h : HearthId) (line : Nat) (n : SnoopOut), s.up = true → s.hm.hearthSnoops.find? (fun n => n.holder == (s.dev * 4096 + 0x80 + h.val) && n.line == line) = some n → s.snoopHeld h line n.after = false → s.flcGet h line = none →
      Completes (.hearthSnoop h line) s (fun t => t.hm.answers = s.hm.answers ++ [⟨(s.dev * 4096 + 0x80 + h.val), line, none, false, false, n.dst⟩] ∧ t.hm.hearthSnoops = s.hm.hearthSnoops.erase n ∧ t.flc = s.flc)) ∧
  (∀ (s : State) (h : HearthId) (line : Nat) (n : SnoopOut) (x : FlcLine), s.up = true → s.hm.hearthSnoops.find? (fun n => n.holder == (s.dev * 4096 + 0x80 + h.val) && n.line == line) = some n → s.snoopHeld h line n.after = false → s.flcGet h line = some x → n.kind = 0 →
      Completes (.hearthSnoop h line) s (fun t => t.hm.answers = s.hm.answers ++ [⟨(s.dev * 4096 + 0x80 + h.val), line, if x.dirty then some x.data else none, x.poison, false, n.dst⟩] ∧ t.hm.hearthSnoops = s.hm.hearthSnoops.erase n ∧ t.flcGet h line = none)) ∧
  (∀ (s : State) (h : HearthId) (line : Nat) (n : SnoopOut) (x : FlcLine), s.up = true → s.hm.hearthSnoops.find? (fun n => n.holder == (s.dev * 4096 + 0x80 + h.val) && n.line == line) = some n → s.snoopHeld h line n.after = false → s.flcGet h line = some x → n.kind = 1 →
      Completes (.hearthSnoop h line) s (fun t => t.hm.answers = s.hm.answers ++ [⟨(s.dev * 4096 + 0x80 + h.val), line, if x.dirty then some x.data else none, x.poison, true, n.dst⟩] ∧ t.hm.hearthSnoops = s.hm.hearthSnoops.erase n ∧ t.flcGet h line = some { x with owned := false, dirty := false })) ∧
  (∀ (s : State) (h : HearthId) (line : Nat) (n : SnoopOut) (x : FlcLine), s.up = true → s.hm.hearthSnoops.find? (fun n => n.holder == (s.dev * 4096 + 0x80 + h.val) && n.line == line) = some n → s.snoopHeld h line n.after = false → s.flcGet h line = some x → n.kind = 2 →
      Completes (.hearthSnoop h line) s (fun t => t.hm.answers = s.hm.answers ++ [⟨(s.dev * 4096 + 0x80 + h.val), line, if x.dirty then some x.data else none, x.poison, true, n.dst⟩] ∧ t.hm.hearthSnoops = s.hm.hearthSnoops.erase n ∧ t.flc = s.flc))

/-- Block instructions start, move in beats and complete. For a thread that no sample or STOP waits for. A block instruction of 0 bytes goes on with LSTAT OK. One that ends within the beat of its destination, in the engine address space, waits at its PC with that beat and its reads issued. When the last beat, read without error, concludes, the instruction ends with the progress registers advanced and LSTAT OK: BFILL has written its pattern, BMOVE the source's bytes where its order is upwards, and BCMP of equal bytes has left memory as it was. A BCMP that finds a difference ends with the progress registers at it (R197 to R200). Each clause concludes that exec answers a next state, from hypotheses on the state and the operands alone, for: BMOVE, BFILL, BCMP, BLOCK_BEAT_CONCLUDE. -/
def Obligations.BlockInstructions : Prop :=
  (∀ (s : State) (th : ThrId) (w : Nat), s.up = true → s.runs th .bmove w = true → s.quiet th = true → (s.gr th (wRb w)) = 0 →
      Completes (.bmove th) s (fun t => t = (s.thMod th (fun x => { x with lstat := ST_OK })).goesTo th ((s.th th).pc + 4))) ∧
  (∀ (s : State) (th : ThrId) (w : Nat) (d : Eng) (e : Eng), s.up = true → s.runs th .bmove w = true → s.quiet th = true → 0 < (s.gr th (wRb w)) → (s.gr th (wRd w)) < 2 ^ 64 → (s.gr th (wRa w)) < 2 ^ 64 → (s.gr th (wRb w)) ≤ 64 - (s.gr th (wRd w)) % 64 → dFab w = false → aFab w = false → s.engCheck th (s.gr th (wRd w)) (s.gr th (wRb w)) 1 true = .ok d → s.engCheck th (s.gr th (wRa w)) (s.gr th (wRb w)) 0 true = .ok e → engAt th (s.gr th (wRa w)) (s.gr th (wRb w)) = some e →
      Completes (.bmove th) s (fun t => (t.th th).waiting = .block ∧ (t.th th).beats = [{ dst := (s.gr th (wRd w)), src := (s.gr th (wRa w)), len := (s.gr th (wRb w)), reads := [{ rd := false, addr := (s.gr th (wRa w)), len := (s.gr th (wRb w)), data := some (s.rd e.sp e.off (s.gr th (wRb w))) }] }] ∧ (t.th th).pc = (s.th th).pc ∧ (t.th th).gpr = (s.th th).gpr ∧ t.mem = s.mem)) ∧
  (∀ (s : State) (th : ThrId) (w : Nat), s.up = true → s.runs th .bfill w = true → s.quiet th = true → (s.gr th (wRb w)) = 0 →
      Completes (.bfill th) s (fun t => t = (s.thMod th (fun x => { x with lstat := ST_OK })).goesTo th ((s.th th).pc + 4))) ∧
  (∀ (s : State) (th : ThrId) (w : Nat) (d : Eng) (e : Eng), s.up = true → s.runs th .bfill w = true → s.quiet th = true → 0 < (s.gr th (wRb w)) → (s.gr th (wRd w)) < 2 ^ 64 → (s.gr th (wRa w)) < 2 ^ 64 → (s.gr th (wRb w)) ≤ 64 - (s.gr th (wRd w)) % 64 → dFab w = false → s.engCheck th (s.gr th (wRd w)) (s.gr th (wRb w)) 1 true = .ok d →
      Completes (.bfill th) s (fun t => (t.th th).waiting = .block ∧ (t.th th).beats = [{ dst := (s.gr th (wRd w)), src := (s.gr th (wRa w)), len := (s.gr th (wRb w)), reads := [] }] ∧ (t.th th).pc = (s.th th).pc ∧ (t.th th).gpr = (s.th th).gpr ∧ t.mem = s.mem)) ∧
  (∀ (s : State) (th : ThrId) (w : Nat), s.up = true → s.runs th .bcmp w = true → s.quiet th = true → (s.gr th (wRb w)) = 0 →
      Completes (.bcmp th) s (fun t => t = (s.thMod th (fun x => { x with lstat := ST_OK })).goesTo th ((s.th th).pc + 4))) ∧
  (∀ (s : State) (th : ThrId) (w : Nat) (d : Eng) (e : Eng), s.up = true → s.runs th .bcmp w = true → s.quiet th = true → 0 < (s.gr th (wRb w)) → (s.gr th (wRd w)) < 2 ^ 64 → (s.gr th (wRa w)) < 2 ^ 64 → (s.gr th (wRb w)) ≤ 64 - (s.gr th (wRd w)) % 64 → dFab w = false → aFab w = false → s.engCheck th (s.gr th (wRd w)) (s.gr th (wRb w)) 0 true = .ok d → s.engCheck th (s.gr th (wRa w)) (s.gr th (wRb w)) 0 true = .ok e → engAt th (s.gr th (wRa w)) (s.gr th (wRb w)) = some e → engAt th (s.gr th (wRd w)) (s.gr th (wRb w)) = some d →
      Completes (.bcmp th) s (fun t => (t.th th).waiting = .block ∧ (t.th th).beats = [{ dst := (s.gr th (wRd w)), src := (s.gr th (wRa w)), len := (s.gr th (wRb w)), reads := [{ rd := true, addr := (s.gr th (wRd w)), len := (s.gr th (wRb w)), data := some (s.rd d.sp d.off (s.gr th (wRb w))) }, { rd := false, addr := (s.gr th (wRa w)), len := (s.gr th (wRb w)), data := some (s.rd e.sp e.off (s.gr th (wRb w))) }] }] ∧ (t.th th).pc = (s.th th).pc ∧ (t.th th).gpr = (s.th th).gpr ∧ t.mem = s.mem)) ∧
  (∀ (s : State) (th : ThrId) (i : Issued) (b : Beat) (d : Eng), s.up = true → (s.th th).waiting = .block → (s.th th).issued = some i → i.tagged = false → s.quiet th = true → (s.th th).beats = [b] → b.phase = .reading → dFab i.word = false → (s.progress th i.word b.len).gr th (wRb i.word) = 0 → wOp i.word = 0x35 → b.reads = [] → engAt th b.dst b.len = some d →
      Completes (.blockBeatConclude th 0 .none) s (fun t => (t.th th).waiting = .none ∧ (t.th th).pc = (i.pc + 4) % 2 ^ 64 ∧ (t.th th).beats = [] ∧ (t.th th).gpr = ((s.progress th i.word b.len).th th).gpr ∧ (t.th th).lstat = ST_OK ∧ t.rd d.sp d.off b.len = (List.range b.len).map (fun k => (leBytes 8 (s.gr th (wRa i.word))).getD ((b.dst + k) % 8) 0))) ∧
  (∀ (s : State) (th : ThrId) (i : Issued) (b : Beat) (d : Eng) (bs : List Byte) (r : BeatRead), s.up = true → (s.th th).waiting = .block → (s.th th).issued = some i → i.tagged = false → s.quiet th = true → (s.th th).beats = [b] → b.phase = .reading → dFab i.word = false → (s.progress th i.word b.len).gr th (wRb i.word) = 0 → wOp i.word = 0x34 → b.reads = [r] → r.rd = false → r.txn = none → r.data = some bs → r.status = ST_OK → bs.length = b.len → engAt th b.dst b.len = some d → s.overlapOf th i.word ≠ .above →
      Completes (.blockBeatConclude th 0 .none) s (fun t => (t.th th).waiting = .none ∧ (t.th th).pc = (i.pc + 4) % 2 ^ 64 ∧ (t.th th).beats = [] ∧ (t.th th).gpr = ((s.progress th i.word b.len).th th).gpr ∧ (t.th th).lstat = ST_OK ∧ t.rd d.sp d.off b.len = bs)) ∧
  (∀ (s : State) (th : ThrId) (i : Issued) (b : Beat) (d : Eng) (x : BeatRead) (y : BeatRead) (p : List Byte) (q : List Byte), s.up = true → (s.th th).waiting = .block → (s.th th).issued = some i → i.tagged = false → s.quiet th = true → (s.th th).beats = [b] → b.phase = .reading → dFab i.word = false → (s.progress th i.word b.len).gr th (wRb i.word) = 0 → wOp i.word = 0x36 → b.reads = [x, y] → x.rd = true → x.txn = none → x.data = some p → x.status = ST_OK → y.rd = false → y.txn = none → y.data = some q → y.status = ST_OK → p = q →
      Completes (.blockBeatConclude th 0 .none) s (fun t => (t.th th).waiting = .none ∧ (t.th th).pc = (i.pc + 4) % 2 ^ 64 ∧ (t.th th).beats = [] ∧ (t.th th).gpr = ((s.progress th i.word b.len).th th).gpr ∧ (t.th th).lstat = ST_OK ∧ t.mem = s.mem)) ∧
  (∀ (s : State) (th : ThrId) (i : Issued) (b : Beat) (d : Eng) (x : BeatRead) (y : BeatRead) (p : List Byte) (q : List Byte) (k : Nat), s.up = true → (s.th th).waiting = .block → (s.th th).issued = some i → i.tagged = false → s.quiet th = true → (s.th th).beats = [b] → b.phase = .reading → dFab i.word = false → (s.progress th i.word b.len).gr th (wRb i.word) = 0 → wOp i.word = 0x36 → b.reads = [x, y] → x.rd = true → x.txn = none → x.data = some p → x.status = ST_OK → y.rd = false → y.txn = none → y.data = some q → y.status = ST_OK → firstDiff p q = some k →
      Completes (.blockBeatConclude th 0 .none) s (fun t => (t.th th).waiting = .none ∧ (t.th th).pc = (i.pc + 4) % 2 ^ 64 ∧ (t.th th).gpr = ((s.progress th i.word k).th th).gpr ∧ t.mem = s.mem))

/-- Threads start, stop and clear, and images load, are verified, or fail. By an accepted master. START runs a halted thread that holds an image and is not contained, answers LATE for one that runs and NO_MATCH for one with no image. STOP halts one at its boundary with HALT_REASON 2, asks one that waits for a fabric answer to stop, and answers LATE for a halted one. CLEAR of a halted thread drops its image, staging set and events, with HALT_REASON 4. CLEAR_ALL is refused for hearth 15, and of a hearth whose threads are halted drops every image. IMAGE_LOAD answers RETRY for a thread that runs and the header's status for a header that fails step 2, and of one section of code or data writes it and leaves the load BUSY. A valid image gives its thread entry, instance, base level and LOADED; one whose instance is FREE or full by then fails with that status; an invalid one fails with ACCESS_DENIED at step 4; a verification that times out fails with INTERNAL and is kept as late (R203 to R206, R216 to R219). Each clause concludes that exec answers a next state, from hypotheses on the state and the operands alone, for: THREAD_START, THREAD_STOP, THREAD_CLEAR, CLEAR_ALL, IMAGE_LOAD, IMAGE_LOAD_COMPLETE, IMAGE_VERIFY_TIMEOUT. -/
def Obligations.ThreadControlAndImages : Prop :=
  (∀ (s : State) (m : Master) (t0 : ThrId), s.up = true → s.accepts m .TH_CTRL (thH t0) (thI t0) = true → s.halted t0 = true → s.loaded t0 = true → s.fu.contained.contains (scope 4 t0) = false →
      Completes (.threadStart m t0) s (fun t => t.tState t0 = (if s.inTrap t0 then 2 else 1) ∧ t.g TH_STATUS_HALT_REASON (thH t0) (thI t0) = 0 ∧ t.thr = s.thr ∧ t.g TH_STATUS_CMD_STATUS (thH t0) (thI t0) = ST_OK ∧ t.answered m ST_OK)) ∧
  (∀ (s : State) (m : Master) (t0 : ThrId), s.up = true → s.accepts m .TH_CTRL (thH t0) (thI t0) = true → s.halted t0 = false →
      Completes (.threadStart m t0) s (fun t => t.thr = s.thr ∧ t.tState t0 = s.tState t0 ∧ t.g TH_STATUS_CMD_STATUS (thH t0) (thI t0) = ST_LATE ∧ t.answered m ST_LATE)) ∧
  (∀ (s : State) (m : Master) (t0 : ThrId), s.up = true → s.accepts m .TH_CTRL (thH t0) (thI t0) = true → s.halted t0 = true → s.loaded t0 = false →
      Completes (.threadStart m t0) s (fun t => t.thr = s.thr ∧ t.tState t0 = 0 ∧ t.g TH_STATUS_CMD_STATUS (thH t0) (thI t0) = ST_NO_MATCH ∧ t.answered m ST_NO_MATCH)) ∧
  (∀ (s : State) (m : Master) (t0 : ThrId), s.up = true → s.accepts m .TH_CTRL (thH t0) (thI t0) = true → s.halted t0 = false → (s.th t0).waiting = .none → (s.th t0).clearAsked = false →
      Completes (.threadStop m t0) s (fun t => t.halted t0 = true ∧ t.g TH_STATUS_HALT_REASON (thH t0) (thI t0) = 2 ∧ (t.th t0).pc = (s.th t0).pc ∧ (t.th t0).gpr = (s.th t0).gpr ∧ t.g TH_STATUS_CMD_STATUS (thH t0) (thI t0) = ST_OK ∧ t.answered m ST_OK)) ∧
  (∀ (s : State) (m : Master) (t0 : ThrId), s.up = true → s.accepts m .TH_CTRL (thH t0) (thI t0) = true → s.halted t0 = false → (match (s.th t0).waiting with | .fabric _ => true | _ => false) = true →
      Completes (.threadStop m t0) s (fun t => (t.th t0).stopAsked = true ∧ t.tState t0 = s.tState t0 ∧ t.g TH_STATUS_CMD_STATUS (thH t0) (thI t0) = ST_OK ∧ t.answered m ST_OK)) ∧
  (∀ (s : State) (m : Master) (t0 : ThrId), s.up = true → s.accepts m .TH_CTRL (thH t0) (thI t0) = true → s.halted t0 = true →
      Completes (.threadStop m t0) s (fun t => t.thr = s.thr ∧ t.g TH_STATUS_CMD_STATUS (thH t0) (thI t0) = ST_LATE ∧ t.answered m ST_LATE)) ∧
  (∀ (s : State) (m : Master) (t0 : ThrId), s.up = true → s.accepts m .TH_CTRL (thH t0) (thI t0) = true → s.halted t0 = true →
      Completes (.threadClear m t0) s (fun t => t.loaded t0 = false ∧ (t.th t0).staging = [] ∧ (t.th t0).evtPend = 0 ∧ t.halted t0 = true ∧ t.g TH_STATUS_HALT_REASON (thH t0) (thI t0) = 4 ∧ t.g TG_CTRL_ACTIVE t0 = 0 ∧ t.g TH_STATUS_CMD_STATUS (thH t0) (thI t0) = ST_OK ∧ t.answered m ST_OK)) ∧
  (∀ (s : State) (m : Master) (h : HearthId), s.up = true → s.accepts m .HTH_CTRL h = true → h.val = 15 →
      Completes (.clearAll m h) s (fun t => t.regs = s.regs ∧ t.thr = s.thr ∧ t.answered m ST_ACCESS_DENIED)) ∧
  (∀ (s : State) (m : Master) (h : HearthId), s.up = true → s.accepts m .HTH_CTRL h = true → h.val ≠ 15 → (List.range 128).all (fun k => s.halted (128 * h + k)) = true →
      Completes (.clearAll m h) s (fun t => (List.range 128).all (fun k => !(t.loaded (128 * h + k))) = true ∧ t.g HTH_STATUS_CLEAR_BUSY h = 0 ∧ t.answered m ST_OK)) ∧
  (∀ (s : State) (m : Master) (h : HearthId) (k : Fin 128) (tag : Fin 65536) (inst : Fin 16384), s.up = true → s.accepts m .HTH_LOAD_CMD h = true → s.on HTH_LOAD_STATUS_BUSY h = false → (s.loadTags.contains h.val = false ∨ s.g HTH_LOAD_STATUS_TAG h ≠ tag) → s.halted (128 * h.val + k.val) = false →
      Completes (.imageLoad m h k tag inst) s (fun t => t.g HTH_LOAD_STATUS_STATUS h = ST_RETRY ∧ t.g HTH_LOAD_STATUS_FAIL_STEP h = 2 ∧ t.mem = s.mem ∧ t.answered m ST_RETRY)) ∧
  (∀ (s : State) (m : Master) (h : HearthId) (k : Fin 128) (tag : Fin 65536) (inst : Fin 16384), s.up = true → s.accepts m .HTH_LOAD_CMD h = true → s.on HTH_LOAD_STATUS_BUSY h = false → (s.loadTags.contains h.val = false ∨ s.g HTH_LOAD_STATUS_TAG h ≠ tag) → s.halted (128 * h.val + k.val) = true → s.headerStatus (128 * h.val + k.val) inst (s.rd spHbm (s.g HTH_LOAD_SRC_OFFSET h * 64) 256) ≠ ST_OK → (s.g HTH_LOAD_SRC_OFFSET h * 64) + 256 ≤ 0x200000000 →
      Completes (.imageLoad m h k tag inst) s (fun t => t.g HTH_LOAD_STATUS_STATUS h = s.headerStatus (128 * h.val + k.val) inst (s.rd spHbm (s.g HTH_LOAD_SRC_OFFSET h * 64) 256) ∧ t.loaded (128 * h.val + k.val) = false ∧ t.mem = s.mem ∧ t.answered m (s.headerStatus (128 * h.val + k.val) inst (s.rd spHbm (s.g HTH_LOAD_SRC_OFFSET h * 64) 256)))) ∧
  (∀ (s : State) (m : Master) (h : HearthId) (k : Fin 128) (tag : Fin 65536) (inst : Fin 16384), s.up = true → s.accepts m .HTH_LOAD_CMD h = true → s.on HTH_LOAD_STATUS_BUSY h = false → (s.loadTags.contains h.val = false ∨ s.g HTH_LOAD_STATUS_TAG h ≠ tag) → s.halted (128 * h.val + k.val) = true → s.headerStatus (128 * h.val + k.val) inst (s.rd spHbm (s.g HTH_LOAD_SRC_OFFSET h * 64) 256) = ST_OK → (s.g HTH_LOAD_SRC_OFFSET h * 64) + 256 ≤ 0x200000000 → sectionsOf (s.rd spHbm (s.g HTH_LOAD_SRC_OFFSET h * 64) 256) = [⟨fieldOf (s.rd spHbm (s.g HTH_LOAD_SRC_OFFSET h * 64) 256) 32 4 % 16, fieldOf (s.rd spHbm (s.g HTH_LOAD_SRC_OFFSET h * 64) 256) 36 4, fieldOf (s.rd spHbm (s.g HTH_LOAD_SRC_OFFSET h * 64) 256) 40 4, fieldOf (s.rd spHbm (s.g HTH_LOAD_SRC_OFFSET h * 64) 256) 44 4⟩] → fieldOf (s.rd spHbm (s.g HTH_LOAD_SRC_OFFSET h * 64) 256) 32 4 % 16 ≤ 1 →
      Completes (.imageLoad m h k tag inst) s (fun t => t.g HTH_LOAD_STATUS_BUSY h = 1 ∧ (nget? h.val t.loads).any (fun o => o.thread == k.val && o.tag == tag.val && o.inst == inst.val) = true ∧ t.loaded (128 * h.val + k.val) = false ∧ t.rd (spLocal ((128 * h.val + k.val) / 4)) (fieldOf (s.rd spHbm (s.g HTH_LOAD_SRC_OFFSET h * 64) 256) 44 4) (fieldOf (s.rd spHbm (s.g HTH_LOAD_SRC_OFFSET h * 64) 256) 40 4) = ((s.rd spHbm (s.g HTH_LOAD_SRC_OFFSET h * 64) (256 + fieldOf (s.rd spHbm (s.g HTH_LOAD_SRC_OFFSET h * 64) 256) 8 4)).drop (fieldOf (s.rd spHbm (s.g HTH_LOAD_SRC_OFFSET h * 64) 256) 36 4)).take (fieldOf (s.rd spHbm (s.g HTH_LOAD_SRC_OFFSET h * 64) 256) 40 4) ∧ t.answered m ST_OK)) ∧
  (∀ (s : State) (h : HearthId) (o : LoadOp), s.up = true → nget? h.val s.loads = some o → o.late = false → s.imageValid s.hj.keyBlock o.header o.sig o.hash = true → (fieldOf o.header 6 1 = 2 ∨ s.on HJ_STATUS_ERROR_STATE = false) → s.loadInst (128 * h.val + o.thread) (fieldOf o.header 6 1) o.inst = ST_OK → o.thread < 128 →
      Completes (.imageLoadComplete h) s (fun t => t.loaded (128 * h.val + o.thread) = true ∧ (t.th (128 * h.val + o.thread)).pc = fieldOf o.header 16 8 / 4 * 4 ∧ (t.th (128 * h.val + o.thread)).inst = o.inst ∧ t.basePriv (128 * h.val + o.thread) = fieldOf o.header 6 1 % 2 ^ TH_STATUS_BASE_PRIV.width ∧ t.g HTH_LOAD_STATUS_STATUS h = ST_OK ∧ t.g HTH_LOAD_STATUS_BUSY h = 0 ∧ nget? h.val t.loads = none)) ∧
  (∀ (s : State) (h : HearthId) (o : LoadOp), s.up = true → nget? h.val s.loads = some o → o.late = false → s.imageValid s.hj.keyBlock o.header o.sig o.hash = true → (fieldOf o.header 6 1 = 2 ∨ s.on HJ_STATUS_ERROR_STATE = false) → s.loadInst (128 * h.val + o.thread) (fieldOf o.header 6 1) o.inst ≠ ST_OK → o.thread < 128 →
      Completes (.imageLoadComplete h) s (fun t => t.loaded (128 * h.val + o.thread) = false ∧ t.g HTH_LOAD_STATUS_STATUS h = s.loadInst (128 * h.val + o.thread) (fieldOf o.header 6 1) o.inst ∧ nget? h.val t.loads = none)) ∧
  (∀ (s : State) (h : HearthId) (o : LoadOp), s.up = true → nget? h.val s.loads = some o → o.late = false → s.imageValid s.hj.keyBlock o.header o.sig o.hash = false → (fieldOf o.header 6 1 = 2 ∨ s.on HJ_STATUS_ERROR_STATE = false) → o.thread < 128 →
      Completes (.imageLoadComplete h) s (fun t => t.loaded (128 * h.val + o.thread) = false ∧ t.g HTH_LOAD_STATUS_STATUS h = ST_ACCESS_DENIED ∧ t.g HTH_LOAD_STATUS_FAIL_STEP h = 4 ∧ nget? h.val t.loads = none)) ∧
  (∀ (s : State) (h : HearthId) (o : LoadOp), s.up = true → nget? h.val s.loads = some o → o.late = false → o.thread < 128 →
      Completes (.imageVerifyTimeout h) s (fun t => t.loaded (128 * h.val + o.thread) = false ∧ t.g HTH_LOAD_STATUS_STATUS h = ST_INTERNAL ∧ t.g TH_STATUS_HALT_REASON (thH (128 * h.val + o.thread)) (thI (128 * h.val + o.thread)) = 5 ∧ nget? h.val t.loads = some { o with late := true }))

/-- A commit is taken and checked, shadowed, decided, applied, or times out. On the device that keeps the commit sequence. The next set of its own is taken where its expected epoch holds and its conditions give OK; one of the bridge whose epoch is stale returns STALE_EPOCH. A member's acknowledgement is noted. With every member's, no member gone, and the oldest epoch of the stack less than 2^31 behind, the decision assigns the next epoch: a control commit of the bridge, with no migration, advances the generation, and a clean switch goes into TRAIL at that epoch. Of a device alone, with no line in the memory-side cache and no migration: a control commit of the bridge makes its entries current, concludes with OK and its epoch, and empties the bridge's set; a commit of a thread with no entry ends its ECMT with OK and the epoch. Before its decision a commit of the bridge returns TIMEOUT, after it a timeout changes nothing (R222 to R225). Each clause concludes that exec answers a next state, from hypotheses on the state and the operands alone, for: COMMIT_TAKE, COMMIT_SHADOW_ACK, COMMIT_DECISION, COMMIT_APPLY, COMMIT_TIMEOUT. -/
def Obligations.CommitSteps : Prop :=
  (∀ (s : State) (c : Commit) (rest : List Commit), s.up = true → s.isCommitMaster = true → s.cmt.cur = none → s.cmt.queue = c :: rest → c.expect.all (fun e => e == (s.g PLC_EPOCH_STATUS_CUR_EPOCH)) = true → ({ s with cmt := { s.cmt with queue := rest } } : State).commitVerdict c = ST_OK →
      Completes (.commitTake .own) s (fun t => t.cmt.cur = some { c with need := s.commitMembers } ∧ t.cmt.queue = rest ∧ t.regs = s.regs ∧ t.plc = s.plc)) ∧
  (∀ (s : State) (c : Commit) (rest : List Commit), s.up = true → s.isCommitMaster = true → s.cmt.cur = none → s.cmt.queue = c :: rest → c.expect.any (fun e => e != (s.g PLC_EPOCH_STATUS_CUR_EPOCH)) = true → c.owner = .bridge →
      Completes (.commitTake .own) s (fun t => t.cmt.cur = none ∧ t.g BR_CMT_STATUS_STATUS = ST_STALE_EPOCH ∧ t.g BR_CMT_STATUS_BUSY = 0 ∧ t.plc = s.plc)) ∧
  (∀ (s : State) (d : DevId) (held : ShadowAck) (c : Commit), s.up = true → s.isCommitMaster = true → s.cmt.cur = some c → c.epoch = none → c.acks.contains d.val = false →
      Completes (.commitShadowAck d held) s (fun t => t.cmt.cur = some { c with acks := d.val :: c.acks } ∧ t.stk.oldest = held.oldest.elim s.stk.oldest (fun e => nset d.val e.val s.stk.oldest))) ∧
  (∀ (s : State) (c : Commit), s.up = true → s.cmt.cur = some c → c.epoch = none → (∀ d ∈ s.commitMembers, d ∈ c.acks) → c.need.all (fun d => s.commitMembers.contains d) = true → ((((s.g PLC_EPOCH_STATUS_CUR_EPOCH) + 1) % 2 ^ 32) + 2 ^ 32 - s.oldestStack) % 2 ^ 32 < 2 ^ 31 → c.owner = .bridge → c.control = true → s.plc.migs = [] →
      Completes (.commitDecision) s (fun t => t.g PLC_EPOCH_STATUS_CUR_EPOCH = (((s.g PLC_EPOCH_STATUS_CUR_EPOCH) + 1) % 2 ^ 32) ∧ t.g CMT_STATUS_GENERATION = (s.g CMT_STATUS_GENERATION + 1) % 2 ^ CMT_STATUS_GENERATION.width ∧ t.cmt.cur = some { c with epoch := some (((s.g PLC_EPOCH_STATUS_CUR_EPOCH) + 1) % 2 ^ 32) })) ∧
  (∀ (s : State) (c : Commit) (k : Nat) (m : Migration), s.up = true → s.cmt.cur = some c → c.epoch = none → (∀ d ∈ s.commitMembers, d ∈ c.acks) → c.need.all (fun d => s.commitMembers.contains d) = true → ((((s.g PLC_EPOCH_STATUS_CUR_EPOCH) + 1) % 2 ^ 32) + 2 ^ 32 - s.oldestStack) % 2 ^ 32 < 2 ^ 31 → c.owner = .switch [k] → c.control = false → nget? k s.plc.migs = some m → m.state = 3 → s.switchNow c = [(k, m.page)] →
      Completes (.commitDecision) s (fun t => t.g PLC_EPOCH_STATUS_CUR_EPOCH = (((s.g PLC_EPOCH_STATUS_CUR_EPOCH) + 1) % 2 ^ 32) ∧ (nget? k t.plc.migs).any (fun x => x.state == 4 && x.switchEpoch == (((s.g PLC_EPOCH_STATUS_CUR_EPOCH) + 1) % 2 ^ 32)) = true)) ∧
  (∀ (s : State) (d : DevId) (ep : Fin 4294967296) (ctl : Bool) (own : AppliedSet) (c : Commit) (e : Nat), s.up = true → s.isCommitMaster = true → s.commitMembers = [s.dev] → d.val = s.dev → s.cmt.cur = some c → c.epoch = some e → c.applied = [] → c.owner = .bridge → c.control = true → s.hm.msc = [] → s.plc.migs = [] →
      Completes (.commitApply d ep ctl own) s (fun t => t.regs = ((((s.applyEntries e c.entries).bridgeSet []).p BR_CMT_STATUS_EPOCH e).p BR_CMT_STATUS_STATUS ST_OK |>.p BR_CMT_STATUS_BUSY 0).regs ∧ t.plc = (s.applyEntries e c.entries).plc ∧ t.cmt.cur = none ∧ t.cmt.tagEpoch = e ∧ t.cmt.bridge = [])) ∧
  (∀ (s : State) (d : DevId) (ep : Fin 4294967296) (ctl : Bool) (own : AppliedSet) (c : Commit) (e : Nat) (i : Issued) (th : Nat), s.up = true → s.isCommitMaster = true → s.commitMembers = [s.dev] → d.val = s.dev → s.cmt.cur = some c → c.epoch = some e → c.applied = [] → c.owner = .thread th → c.entries = [] → s.hm.msc = [] → s.plc.migs = [] → (s.th th).issued = some i → (s.th th).waiting = .commit → i.tagged = false → s.quiet th = true →
      Completes (.commitApply d ep ctl own) s (fun t => (t.th th).waiting = .none ∧ (t.th th).staging = [] ∧ (t.th th).lstat = ST_OK ∧ (t.th th).pc = (i.pc + 4) % 2 ^ 64 ∧ (t.th th).gpr = ((s.th th).grSet (bits i.word 21 5) (ST_OK + e * 2 ^ 32)).gpr ∧ t.cmt.cur = none)) ∧
  (∀ (s : State) (id : Nat) (c : Commit), s.up = true → s.cmt.cur = some c → c.id = id → c.epoch = none → c.owner = .bridge →
      Completes (.commitTimeout id) s (fun t => t.cmt.cur = none ∧ t.cmt.shadow = [] ∧ t.g BR_CMT_STATUS_STATUS = ST_TIMEOUT ∧ t.plc = s.plc)) ∧
  (∀ (s : State) (id : Nat) (c : Commit), s.up = true → s.cmt.cur = some c → c.id = id → c.epoch.isSome = true → (∀ x ∈ s.cmt.queue, x.id ≠ id) →
      Completes (.commitTimeout id) s (fun t => t = s))

/-- Doorbells and commands start, stop, resume, abort and reset a flue. By an accepted master, and past the guard where one stands. A start doorbell of a list flue that is idle and waits for no line takes the descriptor's address and readies it; one of a ring flue that runs answers RETRY and sets KICK; one of a flue in WQ mode is refused, as are all on an unassigned flue. STOP of a flue with nothing begun brings it to rest as STOPPED, in the middle of a descriptor it asks for the boundary, and of one that is idle, stopping or stopped it answers LATE. RESUME readies a stopped list or ring flue that has work left and clears STOP_ERR, and of a stopping one answers RETRY. ABORT of one with nothing begun and no completion queue ends in IDLE with PARTIAL, and of an idle one answers LATE. RESET out of WQ mode clears the flue, its mode, descriptor and KICK. Each status is held in CMD_STATUS and answered. A write of FLU_ASSIGN that clears VALID of an idle flue takes its fields, and of one that is not idle is refused. DMAL answers NO_MATCH past the flues and ACCESS_DENIED for one of another instance, and starts an idle list flue of its own with OK in RD (R196, R228, R241 to R244, R251). Each clause concludes that exec answers a next state, from hypotheses on the state and the operands alone, for: FLU_DOORBELL, FLUE_STOP, FLUE_RESUME, FLUE_ABORT, FLUE_RESET, FLU_ASSIGN_WRITE, DMAL. -/
def Obligations.FlueCommands : Prop :=
  (∀ (s : State) (m : Master) (f : FlueId) (addr : Word), s.up = true → s.accepts m .FLU_DOORBELL f = true → s.fluGuard m f = none → s.g FLU_CFG_MODE f = 0 → awOk (s.fluPriv f) addr.toNat 0 = true → (s.flu f).run = .idle → s.on FLU_CFG_TRIG_LINE f = false →
      Completes (.fluDoorbell m f addr) s (fun t => t.g FLU_DESC_DESC f = addr.toNat % 2 ^ FLU_DESC_DESC.width ∧ (t.flu f).run = .ready ∧ t.g FLU_STATUS_STATE f = 1 ∧ (t.flu f).more = true ∧ (t.flu f).mid = false ∧ t.g FLU_STATUS_CMD_STATUS f = ST_OK ∧ t.answered m ST_OK)) ∧
  (∀ (s : State) (m : Master) (f : FlueId) (addr : Word), s.up = true → s.accepts m .FLU_DOORBELL f = true → s.fluGuard m f = none → s.g FLU_CFG_MODE f = 1 → (s.flu f).run ≠ .idle →
      Completes (.fluDoorbell m f addr) s (fun t => t.g FLU_STATUS_KICK f = 1 ∧ t.fl = s.fl ∧ t.g FLU_STATUS_CMD_STATUS f = ST_RETRY ∧ t.answered m ST_RETRY)) ∧
  (∀ (s : State) (m : Master) (f : FlueId) (addr : Word), s.up = true → s.accepts m .FLU_DOORBELL f = true → s.fluGuard m f = none → s.g FLU_CFG_MODE f = 2 →
      Completes (.fluDoorbell m f addr) s (fun t => t.fl = s.fl ∧ t.g FLU_STATUS_CMD_STATUS f = ST_ACCESS_DENIED ∧ t.answered m ST_ACCESS_DENIED)) ∧
  (∀ (s : State) (m : Master) (f : FlueId) (addr : Word), s.up = true → s.accepts m .FLU_DOORBELL f = true → s.on FLU_ASSIGN_VALID f = false →
      Completes (.fluDoorbell m f addr) s (fun t => t.fl = s.fl ∧ t.mem = s.mem ∧ t.g FLU_STATUS_CMD_STATUS f = ST_ACCESS_DENIED ∧ t.answered m ST_ACCESS_DENIED)) ∧
  (∀ (s : State) (m : Master) (f : FlueId), s.up = true → s.accepts m .FLU_CTRL f = true → s.on FLU_ASSIGN_VALID f = false →
      Completes (.flueStop m f) s (fun t => t.fl = s.fl ∧ t.mem = s.mem ∧ t.g FLU_STATUS_CMD_STATUS f = ST_ACCESS_DENIED ∧ t.answered m ST_ACCESS_DENIED)) ∧
  (∀ (s : State) (m : Master) (f : FlueId), s.up = true → s.accepts m .FLU_CTRL f = true → s.on FLU_ASSIGN_VALID f = false →
      Completes (.flueResume m f) s (fun t => t.fl = s.fl ∧ t.mem = s.mem ∧ t.g FLU_STATUS_CMD_STATUS f = ST_ACCESS_DENIED ∧ t.answered m ST_ACCESS_DENIED)) ∧
  (∀ (s : State) (m : Master) (f : FlueId), s.up = true → s.accepts m .FLU_CTRL f = true → s.on FLU_ASSIGN_VALID f = false →
      Completes (.flueAbort m f) s (fun t => t.fl = s.fl ∧ t.mem = s.mem ∧ t.g FLU_STATUS_CMD_STATUS f = ST_ACCESS_DENIED ∧ t.answered m ST_ACCESS_DENIED)) ∧
  (∀ (s : State) (m : Master) (f : FlueId), s.up = true → s.accepts m .FLU_CTRL f = true → s.fluGuard m f = none → ((s.flu f).code = 1 ∨ (s.flu f).code = 2 ∨ (s.flu f).code = 3) → (s.flu f).stage = .none → (s.flu f).mid = false →
      Completes (.flueStop m f) s (fun t => (t.flu f).run = .stopped ∧ t.g FLU_STATUS_STATE f = 5 ∧ (t.flu f).mover = false ∧ t.g FLU_STATUS_CMD_STATUS f = ST_OK ∧ t.answered m ST_OK)) ∧
  (∀ (s : State) (m : Master) (f : FlueId), s.up = true → s.accepts m .FLU_CTRL f = true → s.fluGuard m f = none → ((s.flu f).code = 1 ∨ (s.flu f).code = 2 ∨ (s.flu f).code = 3) → (s.flu f).stage = .work → s.on FLU_CFG_STOP_MODE f = false →
      Completes (.flueStop m f) s (fun t => (t.flu f).stop = some .boundary ∧ t.g FLU_STATUS_STATE f = 4 ∧ (t.flu f).beats = (s.flu f).beats ∧ t.g FLU_STATUS_CMD_STATUS f = ST_OK ∧ t.answered m ST_OK)) ∧
  (∀ (s : State) (m : Master) (f : FlueId), s.up = true → s.accepts m .FLU_CTRL f = true → s.fluGuard m f = none → ((s.flu f).code = 0 ∨ (s.flu f).code = 4 ∨ (s.flu f).code = 5) →
      Completes (.flueStop m f) s (fun t => t.fl = s.fl ∧ t.g FLU_STATUS_CMD_STATUS f = ST_LATE ∧ t.answered m ST_LATE)) ∧
  (∀ (s : State) (m : Master) (f : FlueId), s.up = true → s.accepts m .FLU_CTRL f = true → s.fluGuard m f = none → (s.flu f).run = .stopped → ((s.flu f).mid = true ∨ (s.flu f).more = true) → s.g FLU_CFG_MODE f ≠ 2 → s.on FLU_CFG_TRIG_LINE f = false →
      Completes (.flueResume m f) s (fun t => (t.flu f).run = .ready ∧ t.g FLU_STATUS_STATE f = 1 ∧ t.g FLU_STATUS_STOP_ERR f = 0 ∧ (t.flu f).mid = (s.flu f).mid ∧ t.g FLU_STATUS_CMD_STATUS f = ST_OK ∧ t.answered m ST_OK)) ∧
  (∀ (s : State) (m : Master) (f : FlueId), s.up = true → s.accepts m .FLU_CTRL f = true → s.fluGuard m f = none → (s.flu f).code = 4 →
      Completes (.flueResume m f) s (fun t => t.fl = s.fl ∧ t.g FLU_STATUS_CMD_STATUS f = ST_RETRY ∧ t.answered m ST_RETRY)) ∧
  (∀ (s : State) (m : Master) (f : FlueId), s.up = true → s.accepts m .FLU_CTRL f = true → s.fluGuard m f = none → (s.flu f).run ≠ .idle → (s.flu f).stage = .none → (s.flu f).mid = false → (s.flu f).entry = none → s.g FLU_CFG_MODE f ≠ 2 → s.on FLU_CFG_CQ_EN f = false →
      Completes (.flueAbort m f) s (fun t => (t.flu f).run = .idle ∧ t.g FLU_STATUS_STATE f = 0 ∧ t.g FLU_STATUS_LAST_STATUS f = ST_PARTIAL ∧ t.g FLU_STATUS_CMD_STATUS f = ST_OK ∧ t.answered m ST_OK)) ∧
  (∀ (s : State) (m : Master) (f : FlueId), s.up = true → s.accepts m .FLU_CTRL f = true → s.fluGuard m f = none → (s.flu f).run = .idle →
      Completes (.flueAbort m f) s (fun t => t.fl = s.fl ∧ t.g FLU_STATUS_CMD_STATUS f = ST_LATE ∧ t.answered m ST_LATE)) ∧
  (∀ (s : State) (m : Master) (f : FlueId), s.up = true → s.accepts m .FLU_CTRL f = true → s.on FLU_ASSIGN_VALID f = true → (s.mPriv m < 2 ∨ s.fluPlacement f = false) → s.g FLU_CFG_MODE f ≠ 2 →
      Completes (.flueReset m f) s (fun t => t.flu f = {} ∧ t.g FLU_STATUS_STATE f = 0 ∧ t.g FLU_CFG_MODE f = 0 ∧ t.g FLU_DESC_DESC f = 0 ∧ t.g FLU_STATUS_KICK f = 0 ∧ t.g FLU_STATUS_CMD_STATUS f = ST_OK ∧ t.answered m ST_OK)) ∧
  (∀ (s : State) (m : Master) (f : FlueId) (v : Word), s.up = true → s.accepts m .FLU_ASSIGN f = true → (s.flu f).run = .idle → ({ v := v.toNat } : RegW).val FLU_ASSIGN_PRIV ≠ 3 → ({ v := v.toNat } : RegW).val FLU_ASSIGN_PRIV ≠ 0 → ({ v := v.toNat } : RegW).val FLU_ASSIGN_RUN_TMO_US ≠ 0 → s.instState (({ v := v.toNat } : RegW).val FLU_ASSIGN_INST) ≠ 0 → s.g CQ_CFG_INST (({ v := v.toNat } : RegW).val FLU_ASSIGN_CALL_CQ) = ({ v := v.toNat } : RegW).val FLU_ASSIGN_INST → ({ v := v.toNat } : RegW).val FLU_ASSIGN_VALID = 0 →
      Completes (.fluAssignWrite m f v) s (fun t => t.g FLU_ASSIGN_VALID f = 0 ∧ t.g FLU_ASSIGN_PRIV f = ({ v := v.toNat } : RegW).val FLU_ASSIGN_PRIV ∧ t.g FLU_ASSIGN_INST f = ({ v := v.toNat } : RegW).val FLU_ASSIGN_INST ∧ t.fl = s.fl ∧ t.answered m ST_OK)) ∧
  (∀ (s : State) (m : Master) (f : FlueId) (v : Word), s.up = true → s.accepts m .FLU_ASSIGN f = true → (s.flu f).run ≠ .idle →
      Completes (.fluAssignWrite m f v) s (fun t => t.regs = s.regs ∧ t.answered m ST_ACCESS_DENIED)) ∧
  (∀ (s : State) (th : ThrId) (w : Nat), s.up = true → s.runs th .dmal w = true → s.quiet th = true → (s.gr th (wRa w)) ≥ 2048 →
      Completes (.dmal th) s (fun t => t = s.concludesS th w ST_NO_MATCH 0)) ∧
  (∀ (s : State) (th : ThrId) (w : Nat), s.up = true → s.runs th .dmal w = true → s.quiet th = true → (s.gr th (wRa w)) < 2048 → (s.on FLU_ASSIGN_VALID (s.gr th (wRa w)) = false ∨ s.fluInst (s.gr th (wRa w)) ≠ (s.th th).inst) →
      Completes (.dmal th) s (fun t => t = (s.p FLU_STATUS_CMD_STATUS ST_ACCESS_DENIED (s.gr th (wRa w))).concludesS th w ST_ACCESS_DENIED 0)) ∧
  (∀ (s : State) (th : ThrId) (w : Nat), s.up = true → s.runs th .dmal w = true → s.quiet th = true → (s.gr th (wRa w)) < 2048 → s.on FLU_ASSIGN_VALID (s.gr th (wRa w)) = true → s.fluInst (s.gr th (wRa w)) = (s.th th).inst → s.fluGuard (.thread th) (s.gr th (wRa w)) = none → s.g FLU_CFG_MODE (s.gr th (wRa w)) = 0 → awOk (s.fluPriv (s.gr th (wRa w))) (s.gr th (wRb w)) 0 = true → (s.flu (s.gr th (wRa w))).run = .idle → s.on FLU_CFG_TRIG_LINE (s.gr th (wRa w)) = false →
      Completes (.dmal th) s (fun t => t.g FLU_DESC_DESC (s.gr th (wRa w)) = (s.gr th (wRb w)) % 2 ^ FLU_DESC_DESC.width ∧ (t.flu (s.gr th (wRa w))).run = .ready ∧ (t.th th).gpr = ((s.th th).grSet (wRd w) 0).gpr ∧ (t.th th).lstat = ST_OK ∧ (t.th th).pc = ((s.th th).pc + 4) % 2 ^ 64))

/-- Movers are granted and taken away, descriptors begin, and their beats move bytes. Where the HBM runs. A free mover goes to the flue that waits first: a list flue's descriptor, aligned, valid and let through its gate, is read; a flue in WQ mode runs. With none waiting nothing happens. With no mover free, the flue of lowest priority below a waiting flue in WQ mode loses its mover to it. Of a list flue with no line: a FILL that is fetched and ends within its first beat writes its pattern, with LEFT still its length; a descriptor that fails its checks, with no completion queue, sets DESC_BAD and stops the flue with ACCESS_DENIED; a COPY beat that has been read, whose runs do not overlap, is written; with an error of the staging store it sets STAGE_UE and stops the flue with INTERNAL, and writes nothing; the last write of a COPY with no record ends the descriptor with OK, counted, the flue IDLE. A back-off's end readies the flue with its beats (R231, R235, R236, R239, R240). Each clause concludes that exec answers a next state, from hypotheses on the state and the operands alone, for: MOVER_GRANT, FLUE_PREEMPTION, DESCRIPTOR_FETCH, FLUE_BEAT_READ_ANSWER, FLUE_BEAT_WRITE_CONCLUDE, FLUE_RETRY_REISSUE. -/
def Obligations.MoversAndBeats : Prop :=
  (∀ (s : State) (die : Fin 2) (f : Nat) (x : Flue) (sp : Nat), s.up = true → s.moversFree die = true → s.fluWaiting die = some (f, x) → x = s.flu f → x.stage = .none → x.entry = none → s.g FLU_CFG_MODE f = 0 → awOk (s.fluPriv f) (s.g FLU_DESC_DESC f) 64 = true → s.g FLU_DESC_DESC f % 64 = 0 → awMem (s.g FLU_DESC_DESC f) = some sp → s.hbmUp = true → s.gateCheck (s.fluGate f) (awAcc (s.g FLU_DESC_DESC f) 64 0 (s.fluPriv f) (s.fluInst f)) = none →
      Completes (.moverGrant die) s (fun t => (t.flu f).run = .running ∧ (t.flu f).mover = true ∧ (t.flu f).stage = .fetch ∧ (t.flu f).job.bytes = s.rd sp (awAddr (s.g FLU_DESC_DESC f)) 64 ∧ (t.flu f).job.over = true ∧ t.g FLU_STATUS_STATE f = (if x.stop.isSome then 4 else 2))) ∧
  (∀ (s : State) (die : Fin 2) (f : Nat) (x : Flue), s.up = true → s.moversFree die = true → s.fluWaiting die = some (f, x) → x = s.flu f → x.stage = .none → x.entry = none → s.g FLU_CFG_MODE f = 2 →
      Completes (.moverGrant die) s (fun t => (t.flu f).run = .running ∧ (t.flu f).mover = true ∧ t.g FLU_STATUS_PREEMPTED f = 0)) ∧
  (∀ (s : State) (die : Fin 2), s.up = true → s.moversFree die = true → s.fluWaiting die = none →
      Completes (.moverGrant die) s (fun t => t = s)) ∧
  (∀ (s : State) (die : Fin 2) (f : Nat) (x : Flue) (v : Nat) (y : Flue), s.up = true → s.moversFree die = false → s.fluWaiting die = some (f, x) → x = s.flu f → x.stage = .none → x.entry = none → s.g FLU_CFG_MODE f = 2 → s.fluVictim die (s.g FLU_CFG_PRIO f) = some (v, y) → v ≠ f →
      Completes (.fluePreemption die) s (fun t => (t.flu v).run = .ready ∧ (t.flu v).mover = false ∧ t.g FLU_STATUS_PREEMPTED v = 1 ∧ (t.flu f).run = .running ∧ (t.flu f).mover = true)) ∧
  (∀ (s : State) (f : FlueId) (p : Part) (sp : Nat), s.up = true → (s.flu f).run = .running → (s.flu f).mover = true → (s.flu f).stage = .fetch → (s.flu f).entry = none → (s.flu f).desc = none → (s.flu f).job.parts = [p] → p.fin = true → p.txn = none → p.status = ST_OK → (s.flu f).mid = false → (s.flu f).stop = none → s.g FLU_CFG_MODE f = 0 → s.on FLU_CFG_TRIG_LINE f = false → descOk (s.fluPriv f) false false (descOf p.data) = true → (descOf p.data).ext = 0 → (descOf p.data).op = 2 → (descOf p.data).dstWrap = 0 → 0 < (descOf p.data).len → (descOf p.data).len ≤ 64 - (descOf p.data).dst % 64 → awMem (descOf p.data).dst = some sp → s.hbmUp = true → awOk (s.fluPriv f) (descOf p.data).dst (descOf p.data).len = true → s.gateCheck (s.fluGate f) (awAcc (descOf p.data).dst (descOf p.data).len 1 (s.fluPriv f) (s.fluInst f)) = none →
      Completes (.descriptorFetch f) s (fun t => t.rd sp (awAddr (descOf p.data).dst) (descOf p.data).len = (List.range (descOf p.data).len).map (fun k => (leBytes 8 (descOf p.data).o0).getD (((descOf p.data).dst + k) % 8) 0) ∧ (t.flu f).stage = .work ∧ (t.flu f).beats.length = 1 ∧ t.g FLU_LEFT_LEFT f = (descOf p.data).len)) ∧
  (∀ (s : State) (f : FlueId) (p : Part) (sp : Nat), s.up = true → (s.flu f).run = .running → (s.flu f).mover = true → (s.flu f).stage = .fetch → (s.flu f).entry = none → (s.flu f).desc = none → (s.flu f).job.parts = [p] → p.fin = true → p.txn = none → p.status = ST_OK → (s.flu f).mid = false → (s.flu f).stop = none → s.g FLU_CFG_MODE f = 0 → s.on FLU_CFG_TRIG_LINE f = false → descOk (s.fluPriv f) false false (descOf p.data) = false → s.on FLU_CFG_CQ_EN f = false →
      Completes (.descriptorFetch f) s (fun t => t.g FLU_ERR_DESC_BAD f = 1 ∧ t.g FLU_STATUS_LAST_STATUS f = ST_ACCESS_DENIED ∧ (t.flu f).run = .stopped ∧ t.g FLU_STATUS_STOP_ERR f = 1 ∧ t.mem = s.mem)) ∧
  (∀ (s : State) (f : FlueId) (d : FluDesc) (b : FluBeat) (p : Part) (sp : Nat), s.up = true → (s.flu f).stage = .work → (s.flu f).mover = true → (s.flu f).stop = none → (s.flu f).desc = some d → (s.flu f).beats = [b] → b.phase = .reading → b.src.parts = [p] → p.fin = true → p.txn = none → p.status = ST_OK → p.data.length = b.len → b.cmp.parts = [] → b.nxt.left = 0 → 0 < b.len → d.op = 1 → d.overlaps b = false → awMem b.dst = some sp → s.hbmUp = true → (s.flu f).wrote = [] → s.on FLU_CFG_TRIG_LINE f = false →
      Completes (.flueBeatReadAnswer f 0 false) s (fun t => t.rd sp (awAddr b.dst) b.len = p.data ∧ (t.flu f).beats.map (·.phase) = [.writing])) ∧
  (∀ (s : State) (f : FlueId) (d : FluDesc) (b : FluBeat) (p : Part), s.up = true → (s.flu f).stage = .work → (s.flu f).mover = true → (s.flu f).stop = none → (s.flu f).entry = none → (s.flu f).desc = some d → (s.flu f).beats = [b] → b.phase = .reading → b.src.parts = [p] → p.fin = true → p.txn = none → p.status = ST_OK → b.cmp.parts = [] → d.op = 1 → s.g FLU_CFG_MODE f = 0 → s.on FLU_CFG_CQ_EN f = false → s.on FLU_CFG_TRIG_LINE f = false →
      Completes (.flueBeatReadAnswer f 0 true) s (fun t => t.g FLU_ERR_STAGE_UE f = 1 ∧ t.g FLU_STATUS_LAST_STATUS f = ST_INTERNAL ∧ (t.flu f).run = .stopped ∧ t.mem = s.mem)) ∧
  (∀ (s : State) (f : FlueId) (d : FluDesc) (b : FluBeat) (p : Part), s.up = true → (s.flu f).stage = .work → (s.flu f).mover = true → (s.flu f).stop = none → (s.flu f).entry = none → (s.flu f).mid = true → (s.flu f).desc = some d → (s.flu f).beats = [b] → b.phase = .writing → b.out.parts = [p] → p.fin = true → p.txn = none → p.status = ST_OK → b.nxt.left = 0 → d.op = 1 → d.cmpl = false → d.nextValid = false → d.stopBit = false → s.g FLU_CFG_MODE f = 0 → s.on FLU_CFG_TRIG_LINE f = false →
      Completes (.flueBeatWriteConclude f 0) s (fun t => t.g FLU_STATUS_LAST_STATUS f = ST_OK ∧ t.g FLU_STATUS_DESC_DONE f = min (s.g FLU_STATUS_DESC_DONE f + 1) (2 ^ FLU_STATUS_DESC_DONE.width - 1) ∧ (t.flu f).run = .idle ∧ t.g FLU_DST_DST f = b.nxt.dst % 2 ^ FLU_DST_DST.width ∧ t.g FLU_LEFT_LEFT f = 0 ∧ t.mem = s.mem)) ∧
  (∀ (s : State) (f : FlueId), s.up = true → (s.flu f).run = .retry →
      Completes (.flueRetryReissue f) s (fun t => (t.flu f).run = .ready ∧ (t.flu f).mover = false ∧ (t.flu f).order = s.fl.order ∧ (t.flu f).beats = (s.flu f).beats))

/-- Completion records are appended, lines are requested, and helpers return. A record with room in its queue, the HBM running and no other record being written is written at the tail, which advances, and a list flue with nothing after it is IDLE. HEAD moves to a place that is written, and no other. An edge of a pin line that is bound to no flue is counted up to 255 where the line is enabled and senses edges; the level of an enabled line that is bound to a flue waiting for it readies that flue. SET counts an edge of an enabled internal line, and is refused for a pin line. A helper's return with OK to a list flue that called and has nothing after it leaves the flue IDLE; a stray one sets RUN_STRAY and is reported CE; a helper that does not return, with no completion queue, sets RUN_TMO and stops the flue with TIMEOUT (R245 to R250). Each clause concludes that exec answers a next state, from hypotheses on the state and the operands alone, for: CQ_APPEND, CQ_HEAD_WRITE, REQUEST_LINE_ASSERT, RQL_SET, HELPER_RETURN, HELPER_TIMEOUT. -/
def Obligations.CompletionQueuesLinesAndHelpers : Prop :=
  (∀ (s : State) (f : FlueId) (e : FluEnd) (d : FluDesc) (q : Nat) (sp : Nat), s.up = true → (s.flu f).stage = .record → (s.flu f).fin = some e → (s.flu f).entry = none → (s.flu f).desc = some d → (s.flu f).job.parts = [] → (s.flu f).stop = none → s.recQueue f e = some q → (nget? q s.fl.cqBusy).isNone = true → s.cqRoom q = true → awMem (s.g CQ_BASE_BASE q + 32 * (s.g CQ_IDX_TAIL q % 2 ^ s.g CQ_CFG_LOG2 q)) = some sp → s.hbmUp = true → awOk (s.fluPriv f) (s.g CQ_BASE_BASE q + 32 * (s.g CQ_IDX_TAIL q % 2 ^ s.g CQ_CFG_LOG2 q)) 32 = true → s.gateCheck (s.fluGate f) (awAcc (s.g CQ_BASE_BASE q + 32 * (s.g CQ_IDX_TAIL q % 2 ^ s.g CQ_CFG_LOG2 q)) 32 1 (s.fluPriv f) (s.fluInst f)) = none → e.kind = 0 → e.status = ST_OK → d.nextValid = false → d.stopBit = false → s.g FLU_CFG_MODE f = 0 →
      Completes (.cqAppend f) s (fun t => t.g CQ_IDX_TAIL q = (s.g CQ_IDX_TAIL q + 1) % 2 ^ 32 ∧ t.rd sp (awAddr (s.g CQ_BASE_BASE q + 32 * (s.g CQ_IDX_TAIL q % 2 ^ s.g CQ_CFG_LOG2 q))) 32 = (s.recBytes f e (s.cqPhase q)).2 ∧ (t.flu f).run = .idle ∧ nget? q t.fl.cqBusy = none)) ∧
  (∀ (s : State) (m : Master) (q : CqId) (head : Fin 4294967296), s.up = true → s.accepts m .CQ_IDX q = true → (head.val + 2 ^ 32 - s.g CQ_IDX_HEAD q) % 2 ^ 32 ≤ (s.g CQ_IDX_TAIL q + 2 ^ 32 - s.g CQ_IDX_HEAD q) % 2 ^ 32 →
      Completes (.cqHeadWrite m q head) s (fun t => t.g CQ_IDX_HEAD q = head ∧ t.g CQ_IDX_TAIL q = s.g CQ_IDX_TAIL q ∧ t.answered m ST_OK)) ∧
  (∀ (s : State) (m : Master) (q : CqId) (head : Fin 4294967296), s.up = true → s.accepts m .CQ_IDX q = true → (s.g CQ_IDX_TAIL q + 2 ^ 32 - s.g CQ_IDX_HEAD q) % 2 ^ 32 < (head.val + 2 ^ 32 - s.g CQ_IDX_HEAD q) % 2 ^ 32 →
      Completes (.cqHeadWrite m q head) s (fun t => t.regs = s.regs ∧ t.answered m ST_ACCESS_DENIED)) ∧
  (∀ (s : State) (n : Fin 16) (a : Bool), s.up = true → s.on RQL_CFG_BOUND n = false →
      Completes (.requestLineAssert n a) s (fun t => t.g RQL_CFG_DREQ n = b2n a ∧ t.g RQL_CFG_PEND n = (if a && !(s.on RQL_CFG_DREQ n) && s.on RQL_CFG_EN n && s.on RQL_CFG_SENSE n then min (s.g RQL_CFG_PEND n + 1) 255 else s.g RQL_CFG_PEND n) ∧ t.fl = s.fl)) ∧
  (∀ (s : State) (n : Fin 16) (f : Nat), s.up = true → s.on RQL_CFG_BOUND n = true → s.g RQL_CFG_BOUND_FLUE n = f → (s.flu f).run = .line → s.on RQL_CFG_EN n = true → s.on RQL_CFG_SENSE n = false →
      Completes (.requestLineAssert n true) s (fun t => (t.flu f).run = .ready ∧ (t.flu f).unitLeft.isSome = true ∧ t.g RQL_CFG_DREQ n = 1)) ∧
  (∀ (s : State) (m : Master) (n : Fin 1024), s.up = true → s.accepts m .RQL_CFG n = true → 16 ≤ n.val → s.on RQL_CFG_EN n = true → s.on RQL_CFG_SENSE n = true → s.on RQL_CFG_BOUND n = false →
      Completes (.rqlSet m n) s (fun t => t.g RQL_CFG_PEND n = min (s.g RQL_CFG_PEND n + 1) 255 ∧ t.g RQL_CFG_DREQ n = 0 ∧ t.answered m ST_OK)) ∧
  (∀ (s : State) (m : Master) (n : Fin 1024), s.up = true → s.accepts m .RQL_CFG n = true → n.val < 16 →
      Completes (.rqlSet m n) s (fun t => t.regs = s.regs ∧ t.answered m ST_ACCESS_DENIED)) ∧
  (∀ (s : State) (m : Master) (f : FlueId) (st : Fin 256) (v : Fin 4294967296) (d : FluDesc), s.up = true → s.accepts m .FLU_RUN_RET f = true → (s.flu f).called = true → (s.flu f).entry = none → (s.flu f).desc = some d → (s.flu f).stop = none → d.cmpl = false → d.nextValid = false → d.stopBit = false → st.val = ST_OK → s.g FLU_CFG_MODE f = 0 →
      Completes (.helperReturn m f st v) s (fun t => (t.flu f).called = false ∧ (t.flu f).run = .idle ∧ t.g FLU_STATUS_LAST_STATUS f = ST_OK ∧ t.answered m ST_OK)) ∧
  (∀ (s : State) (m : Master) (f : FlueId) (st : Fin 256) (v : Fin 4294967296), s.up = true → s.accepts m .FLU_RUN_RET f = true → (s.flu f).called = false →
      Completes (.helperReturn m f st v) s (fun t => t.g FLU_ERR_RUN_STRAY f = 1 ∧ t.reported (src 0x0A FLU_ERR_RUN_STRAY.lsb) CE (scope 3 f) = true ∧ t.fl = s.fl ∧ t.answered m ST_OK)) ∧
  (∀ (s : State) (f : FlueId), s.up = true → (s.flu f).called = true → (s.flu f).entry = none → s.g FLU_CFG_MODE f = 0 → s.on FLU_CFG_CQ_EN f = false →
      Completes (.helperTimeout f) s (fun t => t.g FLU_ERR_RUN_TMO f = 1 ∧ t.g FLU_STATUS_LAST_STATUS f = ST_TIMEOUT ∧ (t.flu f).called = false ∧ (t.flu f).run = .stopped ∧ t.g FLU_STATUS_STOP_ERR f = 1))

/-- Doorbells, binding, entries, disabling and the published head of a work queue. By an accepted master. A doorbell within the room of an enabled queue moves TAIL, and readies the idle flue that serves the queue, with no line and no event; beyond the room it sets DB_OVERRUN and is refused; at a disabled queue it is refused, at a draining one it answers RETRY, of a frozen instance FROZEN; each status is held in DB_STATUS. An inline doorbell of a whole entry of two units keeps both units and moves TAIL by two, and one of a wrong place or length sets DB_BAD. ENABLE of a disabled queue that is not bound takes HEAD as TAIL and clears ERR_STOP and the inline units; of a bound one with a head address that its flue may write, the HBM running, it writes HEAD there; of an enabled one it answers LATE. DISABLE with no entry taken disables, with one started it drains, and of a queue that is not enabled it answers LATE. A drain's timeout sets DRAIN_ABORT. A write of WQ_CFG binds a disabled queue to an idle flue and completion queue of its instance within its quota, the flue in WQ mode, and is refused for a queue that is not disabled. A header that has been read: a bad one sets ENTRY_BAD and leaves HEAD; a CALL within TAIL starts as the RUN it is; one beyond TAIL waits, the flue IDLE where no other queue is eligible. The write of a head that ends with OK publishes it, and one that fails sets HEAD_FAIL as NC (R254 to R267). Each clause concludes that exec answers a next state, from hypotheses on the state and the operands alone, for: WQ_DOORBELL, WQ_INLINE_DOORBELL, WQ_ENABLE, WQ_DISABLE, WQ_DRAIN_TIMEOUT, WQ_CFG_WRITE, WQ_ENTRY_START, HEAD_WRITE_CONCLUDE. -/
def Obligations.WorkQueueCommands : Prop :=
  (∀ (s : State) (m : Master) (q : QueueId) (tail : Fin 4294967296), s.up = true → s.accepts m .WQ_DB q = true → s.wqFrozen q = false → s.g WQ_STATUS_STATE q = 1 → (tail.val + 2 ^ 32 - s.g WQ_IDX_TAIL q) % 2 ^ 32 ≤ 2 ^ s.g WQ_RING_RING_LOG2 q - (s.g WQ_IDX_TAIL q + 2 ^ 32 - (s.wq q).pub) % 2 ^ 32 →
      Completes (.wqDoorbell m q tail) s (fun t => t.g WQ_IDX_TAIL q = tail.val ∧ t.g WQ_IDX_HEAD q = s.g WQ_IDX_HEAD q ∧ t.mem = s.mem ∧ t.g WQ_STATUS_DB_STATUS q = ST_OK ∧ t.answered m ST_OK)) ∧
  (∀ (s : State) (m : Master) (q : QueueId) (tail : Fin 4294967296), s.up = true → s.accepts m .WQ_DB q = true → s.wqFrozen q = false → s.g WQ_STATUS_STATE q = 1 → tail.val ≠ s.g WQ_IDX_TAIL q → (tail.val + 2 ^ 32 - s.g WQ_IDX_TAIL q) % 2 ^ 32 ≤ 2 ^ s.g WQ_RING_RING_LOG2 q - (s.g WQ_IDX_TAIL q + 2 ^ 32 - (s.wq q).pub) % 2 ^ 32 → s.on WQ_CFG_VALID q = true → s.on FLU_ASSIGN_VALID (s.g WQ_CFG_FLUE q) = true → s.g FLU_CFG_MODE (s.g WQ_CFG_FLUE q) = 2 → (s.flu (s.g WQ_CFG_FLUE q)).run = .idle → s.fu.contained = [] → s.on WQ_CFG_EVT_EN q = false → tail.val ≠ s.g WQ_IDX_HEAD q → (s.wq q).short ≠ some tail.val → s.on FLU_CFG_TRIG_LINE (s.g WQ_CFG_FLUE q) = false →
      Completes (.wqDoorbell m q tail) s (fun t => t.g WQ_IDX_TAIL q = tail.val ∧ (t.flu (s.g WQ_CFG_FLUE q)).run = .ready ∧ t.g FLU_STATUS_STATE (s.g WQ_CFG_FLUE q) = 1 ∧ t.g WQ_STATUS_DB_STATUS q = ST_OK ∧ t.answered m ST_OK)) ∧
  (∀ (s : State) (m : Master) (q : QueueId) (tail : Fin 4294967296), s.up = true → s.accepts m .WQ_DB q = true → s.wqFrozen q = false → s.g WQ_STATUS_STATE q = 1 → 2 ^ s.g WQ_RING_RING_LOG2 q - (s.g WQ_IDX_TAIL q + 2 ^ 32 - (s.wq q).pub) % 2 ^ 32 < (tail.val + 2 ^ 32 - s.g WQ_IDX_TAIL q) % 2 ^ 32 →
      Completes (.wqDoorbell m q tail) s (fun t => t.g WQ_IDX_TAIL q = s.g WQ_IDX_TAIL q ∧ t.g WQ_ERR_DB_OVERRUN q = 1 ∧ t.reported (src 0x0B WQ_ERR_DB_OVERRUN.lsb) CE 0 = true ∧ t.fl = s.fl ∧ t.g WQ_STATUS_DB_STATUS q = ST_ACCESS_DENIED ∧ t.answered m ST_ACCESS_DENIED)) ∧
  (∀ (s : State) (m : Master) (q : QueueId) (tail : Fin 4294967296), s.up = true → s.accepts m .WQ_DB q = true → s.wqFrozen q = false → s.g WQ_STATUS_STATE q = 0 →
      Completes (.wqDoorbell m q tail) s (fun t => t.g WQ_IDX_TAIL q = s.g WQ_IDX_TAIL q ∧ t.fl = s.fl ∧ t.g WQ_STATUS_DB_STATUS q = ST_ACCESS_DENIED ∧ t.answered m ST_ACCESS_DENIED)) ∧
  (∀ (s : State) (m : Master) (q : QueueId) (tail : Fin 4294967296), s.up = true → s.accepts m .WQ_DB q = true → s.wqFrozen q = false → s.g WQ_STATUS_STATE q = 2 →
      Completes (.wqDoorbell m q tail) s (fun t => t.g WQ_IDX_TAIL q = s.g WQ_IDX_TAIL q ∧ t.fl = s.fl ∧ t.g WQ_STATUS_DB_STATUS q = ST_RETRY ∧ t.answered m ST_RETRY)) ∧
  (∀ (s : State) (m : Master) (q : QueueId) (tail : Fin 4294967296), s.up = true → s.accepts m .WQ_DB q = true → s.wqFrozen q = true →
      Completes (.wqDoorbell m q tail) s (fun t => t.g WQ_IDX_TAIL q = s.g WQ_IDX_TAIL q ∧ t.fl = s.fl ∧ t.g WQ_STATUS_DB_STATUS q = ST_FROZEN ∧ t.answered m ST_FROZEN)) ∧
  (∀ (s : State) (q : QueueId) (offset : Nat) (data : List Byte), s.up = true → s.wqFrozen q = false → s.g WQ_STATUS_STATE q = 1 → offset % 32 = 0 → data.length = 64 → offset + 64 ≤ 256 → (wqHeader data).ok = true → (wqHeader data).len = 2 → (s.wq q).inl = [] → s.g WQ_IDX_TAIL q < 2 ^ 32 → 2 ≤ 2 ^ s.g WQ_RING_RING_LOG2 q - (s.g WQ_IDX_TAIL q + 2 ^ 32 - (s.wq q).pub) % 2 ^ 32 →
      Completes (.wqInlineDoorbell .device q offset data) s (fun t => t.g WQ_IDX_TAIL q = (s.g WQ_IDX_TAIL q + 2) % 2 ^ 32 ∧ nget? (s.g WQ_IDX_TAIL q) (t.wq q).inl = some (data.take 32) ∧ nget? ((s.g WQ_IDX_TAIL q + 1) % 2 ^ 32) (t.wq q).inl = some (data.drop 32) ∧ t.g WQ_ERR_INLINE_DISCARDS q = s.g WQ_ERR_INLINE_DISCARDS q ∧ t.mem = s.mem ∧ t.g WQ_STATUS_DB_STATUS q = ST_OK ∧ t.answered .device ST_OK)) ∧
  (∀ (s : State) (q : QueueId) (offset : Nat) (data : List Byte), s.up = true → (offset % 32 ≠ 0 ∨ data.length % 32 ≠ 0 ∨ data.length < 32 ∨ 256 < offset + data.length) →
      Completes (.wqInlineDoorbell .device q offset data) s (fun t => t.g WQ_IDX_TAIL q = s.g WQ_IDX_TAIL q ∧ t.g WQ_ERR_DB_BAD q = 1 ∧ t.reported (src 0x0B WQ_ERR_DB_BAD.lsb) CE 0 = true ∧ t.fl = s.fl ∧ t.g WQ_STATUS_DB_STATUS q = ST_ACCESS_DENIED)) ∧
  (∀ (s : State) (m : Master) (q : QueueId), s.up = true → s.accepts m .WQ_CTRL q = true → s.wqFrozen q = false → s.g WQ_STATUS_STATE q = 0 → s.on WQ_CFG_VALID q = false →
      Completes (.wqEnable m q) s (fun t => t.g WQ_STATUS_STATE q = 1 ∧ t.g WQ_IDX_TAIL q = s.g WQ_IDX_HEAD q % 2 ^ 32 ∧ t.g WQ_STATUS_ERR_STOP q = 0 ∧ (t.wq q).inl = [] ∧ t.g WQ_STATUS_CMD_STATUS q = ST_OK ∧ t.answered m ST_OK)) ∧
  (∀ (s : State) (m : Master) (q : QueueId) (sp : Nat), s.up = true → s.accepts m .WQ_CTRL q = true → s.wqFrozen q = false → s.g WQ_STATUS_STATE q = 0 → s.on WQ_CFG_VALID q = true → (s.wq q).job = none → (s.g WQ_HEAD_ADDR_ADDR q) % 8 = 0 → awOk (s.fluPriv (s.g WQ_CFG_FLUE q)) (s.g WQ_HEAD_ADDR_ADDR q) 8 = true → awMem (s.g WQ_HEAD_ADDR_ADDR q) = some sp → s.hbmUp = true → s.gateCheck (s.fluGate (s.g WQ_CFG_FLUE q)) (awAcc (s.g WQ_HEAD_ADDR_ADDR q) 8 1 (s.fluPriv (s.g WQ_CFG_FLUE q)) (s.fluInst (s.g WQ_CFG_FLUE q))) = none →
      Completes (.wqEnable m q) s (fun t => t.g WQ_STATUS_STATE q = 1 ∧ t.rd sp (awAddr (s.g WQ_HEAD_ADDR_ADDR q)) 8 = leBytes 8 (s.g WQ_IDX_HEAD q + 2 ^ 32) ∧ (t.wq q).pub = s.g WQ_IDX_HEAD q ∧ t.g WQ_STATUS_CMD_STATUS q = ST_OK ∧ t.answered m ST_OK)) ∧
  (∀ (s : State) (m : Master) (q : QueueId), s.up = true → s.accepts m .WQ_CTRL q = true → s.wqFrozen q = false → s.g WQ_STATUS_STATE q = 1 →
      Completes (.wqEnable m q) s (fun t => t.fl = s.fl ∧ t.g WQ_STATUS_STATE q = 1 ∧ t.g WQ_STATUS_CMD_STATUS q = ST_LATE ∧ t.answered m ST_LATE)) ∧
  (∀ (s : State) (m : Master) (q : QueueId), s.up = true → s.accepts m .WQ_CTRL q = true → s.g WQ_STATUS_STATE q = 1 → s.wqEntry q = none → s.on WQ_CFG_VALID q = false →
      Completes (.wqDisable m q) s (fun t => t.g WQ_STATUS_STATE q = 0 ∧ (t.wq q).inl = [] ∧ t.g WQ_IDX_HEAD q = s.g WQ_IDX_HEAD q ∧ t.mem = s.mem ∧ t.g WQ_STATUS_CMD_STATUS q = ST_OK ∧ t.answered m ST_OK)) ∧
  (∀ (s : State) (m : Master) (q : QueueId) (w : WqEntry), s.up = true → s.accepts m .WQ_CTRL q = true → s.g WQ_STATUS_STATE q = 1 → s.wqEntry q = some w → w.started = true →
      Completes (.wqDisable m q) s (fun t => t.g WQ_STATUS_STATE q = 2 ∧ (t.wq q).inl = [] ∧ t.flu (s.g WQ_CFG_FLUE q) = s.flu (s.g WQ_CFG_FLUE q) ∧ t.g WQ_STATUS_CMD_STATUS q = ST_OK ∧ t.answered m ST_OK)) ∧
  (∀ (s : State) (m : Master) (q : QueueId), s.up = true → s.accepts m .WQ_CTRL q = true → s.g WQ_STATUS_STATE q ≠ 1 →
      Completes (.wqDisable m q) s (fun t => t.fl = s.fl ∧ t.g WQ_STATUS_STATE q = s.g WQ_STATUS_STATE q ∧ t.g WQ_STATUS_CMD_STATUS q = ST_LATE ∧ t.answered m ST_LATE)) ∧
  (∀ (s : State) (q : QueueId) (w : WqEntry), s.up = true → s.g WQ_STATUS_STATE q = 2 → s.wqEntry q = some w →
      Completes (.wqDrainTimeout q) s (fun t => t.g WQ_ERR_DRAIN_ABORT q = 1 ∧ t.reported (src 0x0B WQ_ERR_DRAIN_ABORT.lsb) CE 0 = true)) ∧
  (∀ (s : State) (m : Master) (q : QueueId) (v : Word), s.up = true → s.accepts m .WQ_CFG q = true → s.g WQ_STATUS_STATE q = 0 → s.on WQ_CFG_VALID q = false → ({ v := v.toNat } : RegW).val WQ_CFG_VALID = 1 → s.g FLU_ASSIGN_INST (({ v := v.toNat } : RegW).val WQ_CFG_FLUE) = ({ v := v.toNat } : RegW).val WQ_CFG_INST → (s.flu (({ v := v.toNat } : RegW).val WQ_CFG_FLUE)).run = .idle → s.g CQ_CFG_INST (({ v := v.toNat } : RegW).val WQ_CFG_CQ) = ({ v := v.toNat } : RegW).val WQ_CFG_INST → s.instState (({ v := v.toNat } : RegW).val WQ_CFG_INST) ≠ 0 → ((s.instQueues (({ v := v.toNat } : RegW).val WQ_CFG_INST)).filter (· != q.val)).length < s.g INST_POOL_WQ_QUOTA (({ v := v.toNat } : RegW).val WQ_CFG_INST) →
      Completes (.wqCfgWrite m q v) s (fun t => t.g WQ_CFG_VALID q = 1 ∧ t.g WQ_CFG_FLUE q = ({ v := v.toNat } : RegW).val WQ_CFG_FLUE ∧ t.g WQ_CFG_INST q = ({ v := v.toNat } : RegW).val WQ_CFG_INST ∧ t.g WQ_CFG_CQ q = ({ v := v.toNat } : RegW).val WQ_CFG_CQ ∧ t.g FLU_CFG_MODE (({ v := v.toNat } : RegW).val WQ_CFG_FLUE) = 2 ∧ t.fl = s.fl ∧ t.answered m ST_OK)) ∧
  (∀ (s : State) (m : Master) (q : QueueId) (v : Word), s.up = true → s.accepts m .WQ_CFG q = true → s.g WQ_STATUS_STATE q ≠ 0 →
      Completes (.wqCfgWrite m q v) s (fun t => t.regs = s.regs ∧ t.answered m ST_ACCESS_DENIED)) ∧
  (∀ (s : State) (f : FlueId) (w : WqEntry) (p : Part), s.up = true → s.g FLU_CFG_MODE f = 2 → (s.flu f).run = .running → (s.flu f).stage = .fetch → (s.flu f).entry = some w → w.started = false → w.len = 0 → (s.flu f).job.parts = [p] → p.fin = true → p.txn = none → p.status = ST_OK → (wqHeader p.data).ok = false →
      Completes (.wqEntryStart f) s (fun t => t.g WQ_ERR_ENTRY_BAD w.queue = 1 ∧ t.mem = s.mem ∧ t.g WQ_IDX_HEAD w.queue = s.g WQ_IDX_HEAD w.queue)) ∧
  (∀ (s : State) (f : FlueId) (w : WqEntry) (p : Part), s.up = true → s.g FLU_CFG_MODE f = 2 → (s.flu f).run = .running → (s.flu f).mover = true → (s.flu f).stop = none → (s.flu f).stage = .fetch → (s.flu f).entry = some w → w.started = false → w.len = 0 → (s.flu f).mid = false → (s.flu f).job.parts = [p] → p.fin = true → p.txn = none → p.status = ST_OK → (wqHeader p.data).ok = true → (wqHeader p.data).kind = 3 → (wqHeader p.data).len ≤ (s.g WQ_IDX_TAIL w.queue + 2 ^ 32 - w.unit) % 2 ^ 32 →
      Completes (.wqEntryStart f) s (fun t => ((t.flu f).entry.map (·.started)) = some true ∧ ((t.flu f).entry.map (·.len)) = some (wqHeader p.data).len ∧ t.g FLU_DESC_DESC f = s.wqUnit w.queue w.unit % 2 ^ FLU_DESC_DESC.width ∧ (t.flu f).desc = some ((WqEntry.call { w with tag := (wqHeader p.data).tag, len := (wqHeader p.data).len, kind := 3, routine := (wqHeader p.data).routine, arg := (wqHeader p.data).arg }) (s.wqUnit w.queue (w.unit + 1))))) ∧
  (∀ (s : State) (f : FlueId) (w : WqEntry) (p : Part), s.up = true → s.g FLU_CFG_MODE f = 2 → (s.flu f).run = .running → (s.flu f).stage = .fetch → (s.flu f).entry = some w → w.started = false → w.len = 0 → (s.flu f).job.parts = [p] → p.fin = true → p.txn = none → p.status = ST_OK → (wqHeader p.data).ok = true → (s.g WQ_IDX_TAIL w.queue + 2 ^ 32 - w.unit) % 2 ^ 32 < (wqHeader p.data).len → (s.wqOf f).any (fun q => q != w.queue && s.wqEligible q) = false →
      Completes (.wqEntryStart f) s (fun t => (t.wq w.queue).short = some (s.g WQ_IDX_TAIL w.queue) ∧ (t.flu f).entry = none ∧ (t.flu f).run = .idle)) ∧
  (∀ (s : State) (q : QueueId) (v : Nat) (p : Part), s.up = true → (s.wq q).job = some (v, { write := true, parts := [p] }) → p.fin = true → p.txn = none → p.status = ST_OK → (s.wq q).want = false →
      Completes (.headWriteConclude q) s (fun t => (t.wq q).pub = v ∧ (t.wq q).job = none ∧ t.regs = s.regs ∧ t.mem = s.mem)) ∧
  (∀ (s : State) (q : QueueId) (v : Nat) (p : Part), s.up = true → (s.wq q).job = some (v, { write := true, parts := [p] }) → p.fin = true → p.txn = none → p.status ≠ ST_OK → (s.wq q).want = false →
      Completes (.headWriteConclude q) s (fun t => (t.wq q).pub = (s.wq q).pub ∧ (t.wq q).job = none ∧ t.g WQ_ERR_HEAD_FAIL q = 1 ∧ t.reported (src 0x0B WQ_ERR_HEAD_FAIL.lsb) NC (scope 1 (s.g WQ_CFG_INST q)) = true))

/-- Mailbox doorbells and timeouts, and writes of thread gates. By an accepted master. A doorbell of an active instance with a server, not busy, with a length of 1 to 16 and a tag other than the last one answered, lands the command at its server, with event 6 to it here or over Sirfin, and sets BUSY; one of a frozen instance answers FROZEN, with no server or a bad length ACCESS_DENIED, while busy RETRY, and, with the tag in progress, OK, counted in DUP_COUNT, and nothing else. A timeout of a busy mailbox that is not frozen sets MBX_TMO, stores the device's answer TIMEOUT and clears BUSY; of one that is not busy nothing happens. A write of a gate's HI word that is open is held; the LO word, with nothing reserved and its limit not below its base, puts both in force and drops the held word, and a limit below the base is refused; a HI word of a gate that is not open is refused. SWAP changes the active set of a halted thread and is refused for another (R274 to R278, R295 to R297). Each clause concludes that exec answers a next state, from hypotheses on the state and the operands alone, for: MBX_DOORBELL, MBX_TIMEOUT, THREAD_GATE_HI_WRITE, THREAD_GATE_LO_WRITE, GATE_SWAP. -/
def Obligations.MailboxAndThreadGateCommands : Prop :=
  (∀ (s : State) (m : Master) (i : InstId) (tag : Fin 65536) (len : Fin 32), s.up = true → s.accepts m .MBX_DB i = true → s.instState i = 1 → 1 ≤ len.val → len.val ≤ 16 → s.on MBX_CFG_SERVER_VALID i = true → s.on MBX_STATUS_BUSY i = false → ((s.ix i).answered = false ∨ s.g MBX_STATUS_LAST_TAG i ≠ tag) → (s.thrOf (s.g MBX_CFG_SERVER_TID i)).isSome = false →
      Completes (.mbxDoorbell m i tag len) s (fun t => t.g MBX_STATUS_BUSY i = 1 ∧ (t.ix i).cmdTag = tag.val ∧ t.rd (spShared (thH ((s.g MBX_CFG_SERVER_TID i) % 2048))) (s.g MBX_CFG_LAND i * 64) 192 = s.landingRecord i tag len ∧ t.stk = (s.eventTo (s.g MBX_CFG_SERVER_TID i) 6).stk ∧ t.g MBX_STATUS_DB_STATUS i = ST_OK ∧ t.answered m ST_OK)) ∧
  (∀ (s : State) (m : Master) (i : InstId) (tag : Fin 65536) (len : Fin 32) (th : Nat), s.up = true → s.accepts m .MBX_DB i = true → s.instState i = 1 → 1 ≤ len.val → len.val ≤ 16 → s.on MBX_CFG_SERVER_VALID i = true → s.on MBX_STATUS_BUSY i = false → ((s.ix i).answered = false ∨ s.g MBX_STATUS_LAST_TAG i ≠ tag) → s.thrOf (s.g MBX_CFG_SERVER_TID i) = some th →
      Completes (.mbxDoorbell m i tag len) s (fun t => t.g MBX_STATUS_BUSY i = 1 ∧ (t.ix i).cmdTag = tag.val ∧ t.rd (spShared (thH ((s.g MBX_CFG_SERVER_TID i) % 2048))) (s.g MBX_CFG_LAND i * 64) 192 = s.landingRecord i tag len ∧ (t.th th).evtPend.testBit 6 = true ∧ t.g MBX_STATUS_DB_STATUS i = ST_OK ∧ t.answered m ST_OK)) ∧
  (∀ (s : State) (m : Master) (i : InstId) (tag : Fin 65536) (len : Fin 32), s.up = true → s.accepts m .MBX_DB i = true → s.instState i = 3 →
      Completes (.mbxDoorbell m i tag len) s (fun t => t.inst = s.inst ∧ t.mem = s.mem ∧ t.g MBX_STATUS_DUP_COUNT i = s.g MBX_STATUS_DUP_COUNT i ∧ t.g MBX_STATUS_DB_STATUS i = ST_FROZEN ∧ t.answered m ST_FROZEN)) ∧
  (∀ (s : State) (m : Master) (i : InstId) (tag : Fin 65536) (len : Fin 32), s.up = true → s.accepts m .MBX_DB i = true → s.instState i = 1 → s.on MBX_CFG_SERVER_VALID i = false →
      Completes (.mbxDoorbell m i tag len) s (fun t => t.inst = s.inst ∧ t.mem = s.mem ∧ t.g MBX_STATUS_DUP_COUNT i = s.g MBX_STATUS_DUP_COUNT i ∧ t.g MBX_STATUS_DB_STATUS i = ST_ACCESS_DENIED ∧ t.answered m ST_ACCESS_DENIED)) ∧
  (∀ (s : State) (m : Master) (i : InstId) (tag : Fin 65536) (len : Fin 32), s.up = true → s.accepts m .MBX_DB i = true → s.instState i = 1 → (len.val = 0 ∨ 16 < len.val) →
      Completes (.mbxDoorbell m i tag len) s (fun t => t.inst = s.inst ∧ t.mem = s.mem ∧ t.g MBX_STATUS_DUP_COUNT i = s.g MBX_STATUS_DUP_COUNT i ∧ t.g MBX_STATUS_DB_STATUS i = ST_ACCESS_DENIED ∧ t.answered m ST_ACCESS_DENIED)) ∧
  (∀ (s : State) (m : Master) (i : InstId) (tag : Fin 65536) (len : Fin 32), s.up = true → s.accepts m .MBX_DB i = true → s.instState i = 1 → 1 ≤ len.val → len.val ≤ 16 → s.on MBX_CFG_SERVER_VALID i = true → s.on MBX_STATUS_BUSY i = true → (s.ix i).cmdTag ≠ tag →
      Completes (.mbxDoorbell m i tag len) s (fun t => t.inst = s.inst ∧ t.mem = s.mem ∧ t.g MBX_STATUS_DUP_COUNT i = s.g MBX_STATUS_DUP_COUNT i ∧ t.g MBX_STATUS_DB_STATUS i = ST_RETRY ∧ t.answered m ST_RETRY)) ∧
  (∀ (s : State) (m : Master) (i : InstId) (tag : Fin 65536) (len : Fin 32), s.up = true → s.accepts m .MBX_DB i = true → s.instState i = 1 → 1 ≤ len.val → len.val ≤ 16 → s.on MBX_CFG_SERVER_VALID i = true → s.on MBX_STATUS_BUSY i = true → (s.ix i).cmdTag = tag →
      Completes (.mbxDoorbell m i tag len) s (fun t => t.inst = s.inst ∧ t.mem = s.mem ∧ t.g MBX_STATUS_DUP_COUNT i = min (s.g MBX_STATUS_DUP_COUNT i + 1) (2 ^ MBX_STATUS_DUP_COUNT.width - 1) ∧ t.g MBX_STATUS_DB_STATUS i = ST_OK ∧ t.answered m ST_OK)) ∧
  (∀ (s : State) (i : InstId), s.up = true → s.on MBX_STATUS_BUSY i = true → s.instState i ≠ 2 → s.instState i ≠ 3 →
      Completes (.mbxTimeout i) s (fun t => t.g INST_ERR_MBX_TMO i = 1 ∧ t.reported (src 0x0C INST_ERR_MBX_TMO.lsb) NC (scope 1 i) = true ∧ t.g MBX_STATUS_BUSY i = 0 ∧ t.g MBX_STATUS_RESP_VALID i = 1 ∧ t.g MBX_STATUS_LAST_TAG i = (s.ix i).cmdTag % 2 ^ 16 ∧ t.rd (spMbx i) 0x1C0 64 = deviceAnswer (s.ix i).cmdTag ST_TIMEOUT ∧ (s.ix i).cmdTag ∈ (t.ix i).timedOut)) ∧
  (∀ (s : State) (i : InstId), s.up = true → s.on MBX_STATUS_BUSY i = false →
      Completes (.mbxTimeout i) s (fun t => t = s)) ∧
  (∀ (s : State) (m : Master) (th : ThrId) (set : Fin 2) (r : Fin 16) (v : Word), s.up = true → s.accepts m .TG_HI th (16 * set.val + r.val) = true → s.gateOpen th (16 * set.val + r.val) = true →
      Completes (.threadGateHiWrite m th set r v) s (fun t => t.heldHi th (16 * set.val + r.val) = v.toNat ∧ t.regs = s.regs ∧ t.answered m ST_OK)) ∧
  (∀ (s : State) (m : Master) (th : ThrId) (set : Fin 2) (r : Fin 16) (v : Word), s.up = true → s.accepts m .TG_HI th (16 * set.val + r.val) = true → s.gateOpen th (16 * set.val + r.val) = false →
      Completes (.threadGateHiWrite m th set r v) s (fun t => t.regs = s.regs ∧ t.thr = s.thr ∧ t.answered m ST_ACCESS_DENIED)) ∧
  (∀ (s : State) (m : Master) (th : ThrId) (set : Fin 2) (r : Fin 16) (v : Word), s.up = true → s.accepts m .TG_LO th (16 * set.val + r.val) = true → s.gateOpen th (16 * set.val + r.val) = true → ({ v := v.toNat } : RegW).reserved .TG_LO = false → (({ v := v.toNat } : RegW).val (tgFld PG_LO_SPACE) = 2 ∨ ({ v := v.toNat } : RegW).val (tgFld PG_LO_HEARTH) = 0) → (RegW.mk (s.heldHi th (16 * set.val + r.val)) true true).reserved .TG_HI = false → (({ v := v.toNat } : RegW).val (tgFld PG_LO_VALID) = 0 ∨ ({ v := v.toNat } : RegW).val (tgFld PG_LO_BASE) ≤ bits (s.heldHi th (16 * set.val + r.val)) (tgFld PG_HI_LIMIT).lsb (tgFld PG_HI_LIMIT).width) →
      Completes (.threadGateLoWrite m th set r v) s (fun t => t.g (tgFld PG_LO_VALID) th (16 * set.val + r.val) = ({ v := v.toNat } : RegW).val (tgFld PG_LO_VALID) ∧ t.g (tgFld PG_LO_BASE) th (16 * set.val + r.val) = ({ v := v.toNat } : RegW).val (tgFld PG_LO_BASE) ∧ t.g (tgFld PG_HI_LIMIT) th (16 * set.val + r.val) = bits (s.heldHi th (16 * set.val + r.val)) (tgFld PG_HI_LIMIT).lsb (tgFld PG_HI_LIMIT).width ∧ ((t.th th).gateHi.find? (fun e => e.1 == (16 * set.val + r.val))) = none ∧ t.answered m ST_OK)) ∧
  (∀ (s : State) (m : Master) (th : ThrId) (set : Fin 2) (r : Fin 16) (v : Word), s.up = true → s.accepts m .TG_LO th (16 * set.val + r.val) = true → s.gateOpen th (16 * set.val + r.val) = true → ({ v := v.toNat } : RegW).val (tgFld PG_LO_VALID) = 1 → bits (s.heldHi th (16 * set.val + r.val)) (tgFld PG_HI_LIMIT).lsb (tgFld PG_HI_LIMIT).width < ({ v := v.toNat } : RegW).val (tgFld PG_LO_BASE) →
      Completes (.threadGateLoWrite m th set r v) s (fun t => t.regs = s.regs ∧ ((t.th th).gateHi.find? (fun e => e.1 == (16 * set.val + r.val))) = none ∧ t.answered m ST_ACCESS_DENIED)) ∧
  (∀ (s : State) (m : Master) (th : ThrId), s.up = true → s.accepts m .TG_CTRL th = true → s.halted th = true →
      Completes (.gateSwap m th) s (fun t => t.tgActive th = (1 - s.tgActive th) % 2 ^ TG_CTRL_ACTIVE.width ∧ t.thr = s.thr ∧ t.answered m ST_OK)) ∧
  (∀ (s : State) (m : Master) (th : ThrId), s.up = true → s.accepts m .TG_CTRL th = true → s.halted th = false →
      Completes (.gateSwap m th) s (fun t => t.regs = s.regs ∧ t.answered m ST_ACCESS_DENIED))

/-- Commands of an instance change its state as the table of instance states gives. By an accepted master, of an instance that is not BUSY, with a TAG other than its last: CREATE makes a FREE instance ACTIVE where the pools hold its quotas, else answers RESOURCE_EXHAUSTED, and of another is refused. DESTROY of one that is not in use and RESET start the reset with BUSY set, RESET with its one flue cleared and its mailbox command answered RETRY; DESTROY of one in use is refused, of a FREE one LATE, RESET of a FREE one refused. The reset's end, once the instance is quiet, leaves it ACTIVE after RESET and FREE after DESTROY, and nothing happens before. RELEASE makes a CONTAINED instance ACTIVE, and of an ACTIVE one answers LATE. FREEZE stops its one ready flue, or its one running thread at its boundary, marks it frozen and waits; of a FROZEN one it answers LATE; its completion leaves the instance FROZEN. THAW lets its one frozen thread run and makes it ACTIVE, and with records still to be put is refused. SAVE of a FROZEN instance writes its image with the two lengths, and is refused otherwise; RESTORE of a FREE one makes it FROZEN from an image that is valid and that the pools hold, and is refused otherwise. A put beyond the records answers NO_MATCH, of a record put before LATE, and of a flue, queue or thread of the instance that matches places the record's registers. Each status is stored with the TAG and answered. While BUSY every command answers RESOURCE_EXHAUSTED, and with the stored TAG the stored status, and nothing else changes (R268 to R273, R279 to R287). Each clause concludes that exec answers a next state, from hypotheses on the state and the operands alone, for: CREATE, DESTROY, INST_RESET, INST_RESET_COMPLETE, INST_RELEASE, FREEZE, FREEZE_COMPLETE, THAW, SAVE, RESTORE, FLUE_PUT, WQ_PUT, THREAD_PUT. -/
def Obligations.InstanceCommands : Prop :=
  (∀ (s : State) (m : Master) (i : InstId) (tag : Fin 65536), s.up = true → s.accepts m .INST_CMD i = true → s.on INST_STATUS_BUSY i = false → ((s.ix i).done = false ∨ s.g INST_STATUS_TAG i ≠ tag) → s.instState i = 0 → s.poolsHold i (fun f => s.g f i) = true →
      Completes (.create m i tag) s (fun t => t.instState i = 1 ∧ t.mem = s.mem ∧ t.g INST_STATUS_STATUS i = ST_OK ∧ t.g INST_STATUS_TAG i = tag ∧ t.g INST_STATUS_BUSY i = 0 ∧ t.answered m ST_OK)) ∧
  (∀ (s : State) (m : Master) (i : InstId) (tag : Fin 65536), s.up = true → s.accepts m .INST_CMD i = true → s.on INST_STATUS_BUSY i = false → ((s.ix i).done = false ∨ s.g INST_STATUS_TAG i ≠ tag) → s.instState i = 0 → s.poolsHold i (fun f => s.g f i) = false →
      Completes (.create m i tag) s (fun t => t.instState i = 0 ∧ t.mem = s.mem ∧ t.g INST_STATUS_STATUS i = ST_RESOURCE_EXHAUSTED ∧ t.g INST_STATUS_TAG i = tag ∧ t.g INST_STATUS_BUSY i = 0 ∧ t.answered m ST_RESOURCE_EXHAUSTED)) ∧
  (∀ (s : State) (m : Master) (i : InstId) (tag : Fin 65536), s.up = true → s.accepts m .INST_CMD i = true → s.on INST_STATUS_BUSY i = false → ((s.ix i).done = false ∨ s.g INST_STATUS_TAG i ≠ tag) → s.instState i ≠ 0 →
      Completes (.create m i tag) s (fun t => t.instState i = s.instState i ∧ t.mem = s.mem ∧ t.g INST_STATUS_STATUS i = ST_ACCESS_DENIED ∧ t.g INST_STATUS_TAG i = tag ∧ t.g INST_STATUS_BUSY i = 0 ∧ t.answered m ST_ACCESS_DENIED)) ∧
  (∀ (s : State) (m : Master) (i : InstId) (tag : Fin 65536), s.up = true → s.accepts m .INST_CMD i = true → s.on INST_STATUS_BUSY i = false → ((s.ix i).done = false ∨ s.g INST_STATUS_TAG i ≠ tag) → (s.instState i = 1 ∨ s.instState i = 3 ∨ s.instState i = 4) → s.instInUse i = false → s.on MBX_STATUS_BUSY i = false → (s.sw.txns.any (fun e => e.2.place == .penalty && e.2.inst == s.instId i)) = false →
      Completes (.destroy m i tag) s (fun t => t.instState i = 5 ∧ (t.ix i).ending = 0 ∧ t.g MBX_NOTE_IDX_PROD i = 0 ∧ t.g MBX_NOTE_IDX_CONS i = 0 ∧ t.mem = s.mem ∧ t.g INST_STATUS_BUSY i = 1 ∧ (t.ix i).tag = tag.val ∧ t.answered m ST_OK)) ∧
  (∀ (s : State) (m : Master) (i : InstId) (tag : Fin 65536), s.up = true → s.accepts m .INST_CMD i = true → s.on INST_STATUS_BUSY i = false → ((s.ix i).done = false ∨ s.g INST_STATUS_TAG i ≠ tag) → s.instState i = 0 →
      Completes (.destroy m i tag) s (fun t => t.instState i = 0 ∧ t.g INST_STATUS_STATUS i = ST_LATE ∧ t.g INST_STATUS_TAG i = tag ∧ t.g INST_STATUS_BUSY i = 0 ∧ t.answered m ST_LATE)) ∧
  (∀ (s : State) (m : Master) (i : InstId) (tag : Fin 65536), s.up = true → s.accepts m .INST_CMD i = true → s.on INST_STATUS_BUSY i = false → ((s.ix i).done = false ∨ s.g INST_STATUS_TAG i ≠ tag) → s.instState i = 1 → s.instInUse i = true →
      Completes (.destroy m i tag) s (fun t => t.instState i = 1 ∧ t.fl = s.fl ∧ t.g INST_STATUS_STATUS i = ST_ACCESS_DENIED ∧ t.g INST_STATUS_TAG i = tag ∧ t.g INST_STATUS_BUSY i = 0 ∧ t.answered m ST_ACCESS_DENIED)) ∧
  (∀ (s : State) (m : Master) (i : InstId) (tag : Fin 65536) (f : Nat), s.up = true → s.accepts m .INST_CMD i = true → s.on INST_STATUS_BUSY i = false → ((s.ix i).done = false ∨ s.g INST_STATUS_TAG i ≠ tag) → s.instState i ≠ 0 → s.instQueues i = [] → s.instFlues i = [f] → s.instThreads (s.instId i) = [] → s.on MBX_STATUS_BUSY i = true → s.g FLU_CFG_MODE f ≠ 2 → (s.sw.txns.any (fun e => e.2.place == .penalty && e.2.inst == s.instId i)) = false →
      Completes (.instReset m i tag) s (fun t => t.instState i = 5 ∧ (t.ix i).ending = (if (s.ix i).contain then 4 else 1) ∧ t.flu f = {} ∧ t.g FLU_STATUS_STATE f = 0 ∧ t.rd (spMbx i) 0x1C0 64 = deviceAnswer (s.ix i).cmdTag ST_RETRY ∧ t.g MBX_STATUS_BUSY i = 0 ∧ t.g MBX_STATUS_RESP_VALID i = 1 ∧ t.g MBX_NOTE_IDX_PROD i = 0 ∧ t.g INST_STATUS_BUSY i = 1 ∧ (t.ix i).tag = tag.val ∧ t.answered m ST_OK)) ∧
  (∀ (s : State) (m : Master) (i : InstId) (tag : Fin 65536), s.up = true → s.accepts m .INST_CMD i = true → s.on INST_STATUS_BUSY i = false → ((s.ix i).done = false ∨ s.g INST_STATUS_TAG i ≠ tag) → s.instState i = 0 →
      Completes (.instReset m i tag) s (fun t => t.instState i = 0 ∧ t.g INST_STATUS_STATUS i = ST_ACCESS_DENIED ∧ t.g INST_STATUS_TAG i = tag ∧ t.g INST_STATUS_BUSY i = 0 ∧ t.answered m ST_ACCESS_DENIED)) ∧
  (∀ (s : State) (i : InstId), s.up = true → s.instState i = 5 → s.instQuiet i = true → (s.ix i).ending = 1 → (s.ix i).contain = false → (s.ix i).op ≠ 0 →
      Completes (.instResetComplete i) s (fun t => t.instState i = 1 ∧ t.g INST_STATUS_BUSY i = 0 ∧ t.g INST_STATUS_STATUS i = ST_OK ∧ t.g INST_STATUS_TAG i = (s.ix i).tag % 2 ^ 16 ∧ t.mem = s.mem)) ∧
  (∀ (s : State) (i : InstId), s.up = true → s.instState i = 5 → s.instQuiet i = true → (s.ix i).ending = 0 →
      Completes (.instResetComplete i) s (fun t => t.instState i = 0 ∧ t.fu.contained.contains (scope 1 i) = false ∧ (t.ix i).contain = false)) ∧
  (∀ (s : State) (i : InstId), s.up = true → (s.instState i ≠ 5 ∨ s.instQuiet i = false) →
      Completes (.instResetComplete i) s (fun t => t = s)) ∧
  (∀ (s : State) (m : Master) (i : InstId) (tag : Fin 65536), s.up = true → s.accepts m .INST_CMD i = true → s.on INST_STATUS_BUSY i = false → ((s.ix i).done = false ∨ s.g INST_STATUS_TAG i ≠ tag) → s.instState i = 4 →
      Completes (.instRelease m i tag) s (fun t => t.instState i = 1 ∧ t.fu.contained.contains (scope 1 i) = false ∧ (t.ix i).contain = false ∧ t.g INST_STATUS_STATUS i = ST_OK ∧ t.g INST_STATUS_TAG i = tag ∧ t.g INST_STATUS_BUSY i = 0 ∧ t.answered m ST_OK)) ∧
  (∀ (s : State) (m : Master) (i : InstId) (tag : Fin 65536), s.up = true → s.accepts m .INST_CMD i = true → s.on INST_STATUS_BUSY i = false → ((s.ix i).done = false ∨ s.g INST_STATUS_TAG i ≠ tag) → s.instState i = 1 →
      Completes (.instRelease m i tag) s (fun t => t.instState i = 1 ∧ t.g INST_STATUS_STATUS i = ST_LATE ∧ t.g INST_STATUS_TAG i = tag ∧ t.g INST_STATUS_BUSY i = 0 ∧ t.answered m ST_LATE)) ∧
  (∀ (s : State) (m : Master) (i : InstId) (tag : Fin 65536) (f : Nat), s.up = true → s.accepts m .INST_CMD i = true → s.on INST_STATUS_BUSY i = false → ((s.ix i).done = false ∨ s.g INST_STATUS_TAG i ≠ tag) → s.instState i = 1 → s.instFlues i = [f] → s.instThreads (s.instId i) = [] → (s.flu f).run = .ready → (s.flu f).stage = .none → (s.flu f).mid = false →
      Completes (.freeze m i tag) s (fun t => t.instState i = 2 ∧ (t.flu f).run = .stopped ∧ (t.flu f).frozen = true ∧ t.g FLU_STATUS_STATE f = 5 ∧ t.g INST_STATUS_BUSY i = 1 ∧ (t.ix i).tag = tag.val ∧ t.answered m ST_OK)) ∧
  (∀ (s : State) (m : Master) (i : InstId) (tag : Fin 65536) (th : Nat), s.up = true → s.accepts m .INST_CMD i = true → s.on INST_STATUS_BUSY i = false → ((s.ix i).done = false ∨ s.g INST_STATUS_TAG i ≠ tag) → s.instState i = 1 → s.instFlues i = [] → s.instThreads (s.instId i) = [th] → s.halted th = false → (s.th th).waiting = .none → (s.th th).clearAsked = false → s.on CHM_CFG_EN (thH th) = false →
      Completes (.freeze m i tag) s (fun t => t.instState i = 2 ∧ t.halted th = true ∧ t.g TH_STATUS_HALT_REASON (thH th) (thI th) = 2 ∧ (t.th th).frozen = true ∧ (t.th th).gpr = (s.th th).gpr ∧ (t.th th).pc = (s.th th).pc ∧ t.g INST_STATUS_BUSY i = 1 ∧ (t.ix i).tag = tag.val ∧ t.answered m ST_OK)) ∧
  (∀ (s : State) (m : Master) (i : InstId) (tag : Fin 65536), s.up = true → s.accepts m .INST_CMD i = true → s.on INST_STATUS_BUSY i = false → ((s.ix i).done = false ∨ s.g INST_STATUS_TAG i ≠ tag) → s.instState i = 3 →
      Completes (.freeze m i tag) s (fun t => t.instState i = 3 ∧ t.fl = s.fl ∧ t.g INST_STATUS_STATUS i = ST_LATE ∧ t.g INST_STATUS_TAG i = tag ∧ t.g INST_STATUS_BUSY i = 0 ∧ t.answered m ST_LATE)) ∧
  (∀ (s : State) (i : InstId), s.up = true → s.instState i = 2 → s.freezeOver i = true → (s.ix i).contain = false →
      Completes (.freezeComplete i) s (fun t => t.instState i = 3 ∧ t.g INST_STATUS_BUSY i = 0 ∧ t.g INST_STATUS_STATUS i = ST_OK ∧ t.fl = s.fl ∧ t.thr = s.thr ∧ t.mem = s.mem)) ∧
  (∀ (s : State) (i : InstId), s.up = true → s.instState i = 2 → s.freezeOver i = false →
      Completes (.freezeComplete i) s (fun t => t = s)) ∧
  (∀ (s : State) (m : Master) (i : InstId) (tag : Fin 65536) (th : Nat), s.up = true → s.accepts m .INST_CMD i = true → s.on INST_STATUS_BUSY i = false → ((s.ix i).done = false ∨ s.g INST_STATUS_TAG i ≠ tag) → s.instState i = 3 → (s.ix i).pending = false → s.instFlues i = [] → s.instThreads (s.instId i) = [th] → s.instQueues i = [] → s.halted th = true → (s.th th).frozen = true → s.fu.contained = [] →
      Completes (.thaw m i tag) s (fun t => t.instState i = 1 ∧ t.halted th = false ∧ (t.th th).frozen = false ∧ (t.th th).gpr = (s.th th).gpr ∧ t.mem = s.mem ∧ t.g INST_STATUS_STATUS i = ST_OK ∧ t.g INST_STATUS_TAG i = tag ∧ t.g INST_STATUS_BUSY i = 0 ∧ t.answered m ST_OK)) ∧
  (∀ (s : State) (m : Master) (i : InstId) (tag : Fin 65536), s.up = true → s.accepts m .INST_CMD i = true → s.on INST_STATUS_BUSY i = false → ((s.ix i).done = false ∨ s.g INST_STATUS_TAG i ≠ tag) → s.instState i = 3 → (s.ix i).pending = true →
      Completes (.thaw m i tag) s (fun t => t.instState i = 3 ∧ t.fl = s.fl ∧ t.thr = s.thr ∧ t.g INST_STATUS_STATUS i = ST_ACCESS_DENIED ∧ t.g INST_STATUS_TAG i = tag ∧ t.g INST_STATUS_BUSY i = 0 ∧ t.answered m ST_ACCESS_DENIED)) ∧
  (∀ (s : State) (i : InstId) (tag : Fin 65536) (sp : Nat), s.up = true → s.on INST_STATUS_BUSY i = false → ((s.ix i).done = false ∨ s.g INST_STATUS_TAG i ≠ tag) → s.instState i = 3 → awMem (s.g INST_ARG0_ARG0 i) = some sp → awOk 0 (s.g INST_ARG0_ARG0 i) ((s.instImage i).1.length + (s.instImage i).2.length) = true →
      Completes (.save .device i tag) s (fun t => t.instState i = 3 ∧ t.rd sp (awAddr (s.g INST_ARG0_ARG0 i)) ((s.instImage i).1.length + (s.instImage i).2.length) = (s.instImage i).1 ++ (s.instImage i).2 ∧ t.g INST_ARG1_ARG1 i = (s.instImage i).1.length % 2 ^ INST_ARG1_ARG1.width ∧ t.g INST_ARG1_FLUE_REC_LEN i = (s.instImage i).2.length % 2 ^ INST_ARG1_FLUE_REC_LEN.width ∧ t.g INST_STATUS_STATUS i = ST_OK ∧ t.g INST_STATUS_TAG i = tag ∧ t.g INST_STATUS_BUSY i = 0 ∧ t.answered .device ST_OK)) ∧
  (∀ (s : State) (m : Master) (i : InstId) (tag : Fin 65536), s.up = true → s.accepts m .INST_CMD i = true → s.on INST_STATUS_BUSY i = false → ((s.ix i).done = false ∨ s.g INST_STATUS_TAG i ≠ tag) → s.instState i ≠ 3 →
      Completes (.save m i tag) s (fun t => t.instState i = s.instState i ∧ t.mem = s.mem ∧ t.g INST_STATUS_STATUS i = ST_ACCESS_DENIED ∧ t.g INST_STATUS_TAG i = tag ∧ t.g INST_STATUS_BUSY i = 0 ∧ t.answered m ST_ACCESS_DENIED)) ∧
  (∀ (s : State) (i : InstId) (tag : Fin 65536) (sp : Nat) (hd : List Byte) (img : List Byte), s.up = true → s.on INST_STATUS_BUSY i = false → ((s.ix i).done = false ∨ s.g INST_STATUS_TAG i ≠ tag) → s.instState i = 0 → awMem (s.g INST_ARG0_ARG0 i) = some sp → hd = s.rd sp (awAddr (s.g INST_ARG0_ARG0 i)) 256 → headOk hd = true → (countsOf hd).len + 128 * (countsOf hd).flues ≤ 65536 → awOk 0 (s.g INST_ARG0_ARG0 i) ((countsOf hd).len + 128 * (countsOf hd).flues) = true → img = s.rd sp (awAddr (s.g INST_ARG0_ARG0 i)) ((countsOf hd).len + 128 * (countsOf hd).flues) → restoreOk img = true → s.poolsHold i (imageQuota img) = true →
      Completes (.restore .device i tag) s (fun t => t.instState i = 3 ∧ t.g INST_STATUS_STATUS i = ST_OK ∧ t.g INST_STATUS_TAG i = tag ∧ t.g INST_STATUS_BUSY i = 0 ∧ t.answered .device ST_OK)) ∧
  (∀ (s : State) (m : Master) (i : InstId) (tag : Fin 65536), s.up = true → s.accepts m .INST_CMD i = true → s.on INST_STATUS_BUSY i = false → ((s.ix i).done = false ∨ s.g INST_STATUS_TAG i ≠ tag) → s.instState i ≠ 0 →
      Completes (.restore m i tag) s (fun t => t.instState i = s.instState i ∧ t.mem = s.mem ∧ t.g INST_STATUS_STATUS i = ST_ACCESS_DENIED ∧ t.g INST_STATUS_TAG i = tag ∧ t.g INST_STATUS_BUSY i = 0 ∧ t.answered m ST_ACCESS_DENIED)) ∧
  (∀ (s : State) (m : Master) (i : InstId) (tag : Fin 65536), s.up = true → s.accepts m .INST_CMD i = true → s.on INST_STATUS_BUSY i = false → ((s.ix i).done = false ∨ s.g INST_STATUS_TAG i ≠ tag) → (s.ix i).flues.length ≤ (s.g INST_ARG0_ARG0 i) →
      Completes (.fluePut m i tag) s (fun t => t.instState i = s.instState i ∧ t.mem = s.mem ∧ t.thr = s.thr ∧ t.fl = s.fl ∧ t.g INST_STATUS_STATUS i = ST_NO_MATCH ∧ t.g INST_STATUS_TAG i = tag ∧ t.g INST_STATUS_BUSY i = 0 ∧ t.answered m ST_NO_MATCH)) ∧
  (∀ (s : State) (m : Master) (i : InstId) (tag : Fin 65536) (r : List Byte), s.up = true → s.accepts m .INST_CMD i = true → s.on INST_STATUS_BUSY i = false → ((s.ix i).done = false ∨ s.g INST_STATUS_TAG i ≠ tag) → (s.ix i).flues[(s.g INST_ARG0_ARG0 i)]? = some (r, true) →
      Completes (.fluePut m i tag) s (fun t => t.instState i = s.instState i ∧ t.mem = s.mem ∧ t.thr = s.thr ∧ t.fl = s.fl ∧ t.g INST_STATUS_STATUS i = ST_LATE ∧ t.g INST_STATUS_TAG i = tag ∧ t.g INST_STATUS_BUSY i = 0 ∧ t.answered m ST_LATE)) ∧
  (∀ (s : State) (m : Master) (i : InstId) (tag : Fin 65536), s.up = true → s.accepts m .INST_CMD i = true → s.on INST_STATUS_BUSY i = false → ((s.ix i).done = false ∨ s.g INST_STATUS_TAG i ≠ tag) → (s.ix i).queues.length ≤ (s.g INST_ARG0_ARG0 i) →
      Completes (.wqPut m i tag) s (fun t => t.instState i = s.instState i ∧ t.mem = s.mem ∧ t.thr = s.thr ∧ t.fl = s.fl ∧ t.g INST_STATUS_STATUS i = ST_NO_MATCH ∧ t.g INST_STATUS_TAG i = tag ∧ t.g INST_STATUS_BUSY i = 0 ∧ t.answered m ST_NO_MATCH)) ∧
  (∀ (s : State) (m : Master) (i : InstId) (tag : Fin 65536) (r : List Byte), s.up = true → s.accepts m .INST_CMD i = true → s.on INST_STATUS_BUSY i = false → ((s.ix i).done = false ∨ s.g INST_STATUS_TAG i ≠ tag) → (s.ix i).queues[(s.g INST_ARG0_ARG0 i)]? = some (r, true) →
      Completes (.wqPut m i tag) s (fun t => t.instState i = s.instState i ∧ t.mem = s.mem ∧ t.thr = s.thr ∧ t.fl = s.fl ∧ t.g INST_STATUS_STATUS i = ST_LATE ∧ t.g INST_STATUS_TAG i = tag ∧ t.g INST_STATUS_BUSY i = 0 ∧ t.answered m ST_LATE)) ∧
  (∀ (s : State) (m : Master) (i : InstId) (tag : Fin 65536), s.up = true → s.accepts m .INST_CMD i = true → s.on INST_STATUS_BUSY i = false → ((s.ix i).done = false ∨ s.g INST_STATUS_TAG i ≠ tag) → (s.ix i).threads.length ≤ (s.g INST_ARG0_ARG0 i) →
      Completes (.threadPut m i tag) s (fun t => t.instState i = s.instState i ∧ t.mem = s.mem ∧ t.thr = s.thr ∧ t.fl = s.fl ∧ t.g INST_STATUS_STATUS i = ST_NO_MATCH ∧ t.g INST_STATUS_TAG i = tag ∧ t.g INST_STATUS_BUSY i = 0 ∧ t.answered m ST_NO_MATCH)) ∧
  (∀ (s : State) (m : Master) (i : InstId) (tag : Fin 65536) (r : List Byte), s.up = true → s.accepts m .INST_CMD i = true → s.on INST_STATUS_BUSY i = false → ((s.ix i).done = false ∨ s.g INST_STATUS_TAG i ≠ tag) → (s.ix i).threads[(s.g INST_ARG0_ARG0 i)]? = some (r, true) →
      Completes (.threadPut m i tag) s (fun t => t.instState i = s.instState i ∧ t.mem = s.mem ∧ t.thr = s.thr ∧ t.fl = s.fl ∧ t.g INST_STATUS_STATUS i = ST_LATE ∧ t.g INST_STATUS_TAG i = tag ∧ t.g INST_STATUS_BUSY i = 0 ∧ t.answered m ST_LATE)) ∧
  (∀ (s : State) (m : Master) (i : InstId) (tag : Fin 65536) (r : List Byte), s.up = true → s.accepts m .INST_CMD i = true → s.on INST_STATUS_BUSY i = false → ((s.ix i).done = false ∨ s.g INST_STATUS_TAG i ≠ tag) → (s.ix i).flues[(s.g INST_ARG0_ARG0 i)]? = some (r, false) → (s.g INST_ARG1_ARG1 i) < 2048 → s.on FLU_ASSIGN_VALID (s.g INST_ARG1_ARG1 i) = true → s.g FLU_ASSIGN_INST (s.g INST_ARG1_ARG1 i) = i → (s.flu (s.g INST_ARG1_ARG1 i)).run = .idle → fieldOf r 0 8 % 4 ≤ 1 → s.g FLU_CFG_MODE (s.g INST_ARG1_ARG1 i) ≠ 2 → ({ v := fieldOf r 0 8 } : RegW).val FLU_CFG_PRIO ≤ s.g FLU_ASSIGN_PRIO_MAX (s.g INST_ARG1_ARG1 i) → s.g CQ_CFG_INST (({ v := fieldOf r 0 8 } : RegW).val FLU_CFG_CQ) = i → ({ v := fieldOf r 0 8 } : RegW).val FLU_CFG_TRIG_LINE = 0 →
      Completes (.fluePut m i tag) s (fun t => t.g FLU_CFG_MODE (s.g INST_ARG1_ARG1 i) = fieldOf r 0 8 % 4 ∧ t.g FLU_DESC_DESC (s.g INST_ARG1_ARG1 i) = bits (fieldOf r 8 8) FLU_DESC_DESC.lsb FLU_DESC_DESC.width ∧ t.g FLU_LEFT_LEFT (s.g INST_ARG1_ARG1 i) = bits (fieldOf r 32 8) FLU_LEFT_LEFT.lsb FLU_LEFT_LEFT.width ∧ (t.flu (s.g INST_ARG1_ARG1 i)).frozen = (fieldOf r 64 8 % 2 == 1) ∧ (t.ix i).flues = (s.ix i).flues.set (s.g INST_ARG0_ARG0 i) (r, true) ∧ t.g INST_STATUS_STATUS i = ST_OK ∧ t.g INST_STATUS_TAG i = tag ∧ t.g INST_STATUS_BUSY i = 0 ∧ t.answered m ST_OK)) ∧
  (∀ (s : State) (m : Master) (i : InstId) (tag : Fin 65536) (r : List Byte), s.up = true → s.accepts m .INST_CMD i = true → s.on INST_STATUS_BUSY i = false → ((s.ix i).done = false ∨ s.g INST_STATUS_TAG i ≠ tag) → (s.ix i).queues[(s.g INST_ARG0_ARG0 i)]? = some (r, false) → (s.g INST_ARG1_ARG1 i) < 8192 → s.on WQ_CFG_VALID (s.g INST_ARG1_ARG1 i) = true → s.g WQ_CFG_INST (s.g INST_ARG1_ARG1 i) = i → s.g WQ_STATUS_STATE (s.g INST_ARG1_ARG1 i) = 0 → s.g CQ_CFG_INST (bits (fieldOf r 0 8) 44 12) = i →
      Completes (.wqPut m i tag) s (fun t => t.g WQ_CFG_INST (s.g INST_ARG1_ARG1 i) = i ∧ t.g WQ_CFG_FLUE (s.g INST_ARG1_ARG1 i) = s.g WQ_CFG_FLUE (s.g INST_ARG1_ARG1 i) % 2 ^ WQ_CFG_FLUE.width ∧ t.g WQ_STATUS_STATE (s.g INST_ARG1_ARG1 i) = b2n (fieldOf r 40 8 % 4 == 1) ∧ t.g WQ_IDX_HEAD (s.g INST_ARG1_ARG1 i) = bits (fieldOf r 32 8) WQ_IDX_HEAD.lsb WQ_IDX_HEAD.width ∧ t.g WQ_IDX_TAIL (s.g INST_ARG1_ARG1 i) = bits (fieldOf r 32 8) WQ_IDX_TAIL.lsb WQ_IDX_TAIL.width ∧ t.wq (s.g INST_ARG1_ARG1 i) = { pub := t.g WQ_IDX_HEAD (s.g INST_ARG1_ARG1 i) } ∧ (t.ix i).queues = (s.ix i).queues.set (s.g INST_ARG0_ARG0 i) (r, true) ∧ t.g INST_STATUS_STATUS i = ST_OK ∧ t.g INST_STATUS_TAG i = tag ∧ t.g INST_STATUS_BUSY i = 0 ∧ t.answered m ST_OK)) ∧
  (∀ (s : State) (m : Master) (i : InstId) (tag : Fin 65536) (r : List Byte), s.up = true → s.accepts m .INST_CMD i = true → s.on INST_STATUS_BUSY i = false → ((s.ix i).done = false ∨ s.g INST_STATUS_TAG i ≠ tag) → (s.ix i).threads[(s.g INST_ARG0_ARG0 i)]? = some (r, false) → (s.g INST_ARG1_ARG1 i) / 2048 = s.dev → s.halted ((s.g INST_ARG1_ARG1 i) % 2048) = true → s.loaded ((s.g INST_ARG1_ARG1 i) % 2048) = true → s.basePriv ((s.g INST_ARG1_ARG1 i) % 2048) = 2 → s.p2Inst ((s.g INST_ARG1_ARG1 i) % 2048) = s.instId i → (s.th ((s.g INST_ARG1_ARG1 i) % 2048)).codeHash = fieldOf r 320 48 →
      Completes (.threadPut m i tag) s (fun t => (List.range 31).all (fun g => t.gr ((s.g INST_ARG1_ARG1 i) % 2048) (g + 1) == fieldOf r (8 * g) 8) = true ∧ (t.th ((s.g INST_ARG1_ARG1 i) % 2048)).pc = fieldOf r 248 8 ∧ (t.th ((s.g INST_ARG1_ARG1 i) % 2048)).lstat = fieldOf r 256 8 % 256 ∧ (t.th ((s.g INST_ARG1_ARG1 i) % 2048)).frozen = bit (fieldOf r 312 8) 0 ∧ (t.ix i).threads = (s.ix i).threads.set (s.g INST_ARG0_ARG0 i) (r, true) ∧ t.g INST_STATUS_STATUS i = ST_OK ∧ t.g INST_STATUS_TAG i = tag ∧ t.g INST_STATUS_BUSY i = 0 ∧ t.answered m ST_OK)) ∧
  (∀ (s : State) (m : Master) (i : InstId) (tag : Fin 65536), s.up = true → s.accepts m .INST_CMD i = true → s.on INST_STATUS_BUSY i = true →
      Completes (.create m i tag) s (fun t => t = s.reply m ST_RESOURCE_EXHAUSTED)) ∧
  (∀ (s : State) (m : Master) (i : InstId) (tag : Fin 65536), s.up = true → s.accepts m .INST_CMD i = true → s.on INST_STATUS_BUSY i = false → (s.ix i).done = true → s.g INST_STATUS_TAG i = tag →
      Completes (.create m i tag) s (fun t => t = s.reply m (s.g INST_STATUS_STATUS i))) ∧
  (∀ (s : State) (m : Master) (i : InstId) (tag : Fin 65536), s.up = true → s.accepts m .INST_CMD i = true → s.on INST_STATUS_BUSY i = true →
      Completes (.destroy m i tag) s (fun t => t = s.reply m ST_RESOURCE_EXHAUSTED)) ∧
  (∀ (s : State) (m : Master) (i : InstId) (tag : Fin 65536), s.up = true → s.accepts m .INST_CMD i = true → s.on INST_STATUS_BUSY i = false → (s.ix i).done = true → s.g INST_STATUS_TAG i = tag →
      Completes (.destroy m i tag) s (fun t => t = s.reply m (s.g INST_STATUS_STATUS i))) ∧
  (∀ (s : State) (m : Master) (i : InstId) (tag : Fin 65536), s.up = true → s.accepts m .INST_CMD i = true → s.on INST_STATUS_BUSY i = true →
      Completes (.freeze m i tag) s (fun t => t = s.reply m ST_RESOURCE_EXHAUSTED)) ∧
  (∀ (s : State) (m : Master) (i : InstId) (tag : Fin 65536), s.up = true → s.accepts m .INST_CMD i = true → s.on INST_STATUS_BUSY i = false → (s.ix i).done = true → s.g INST_STATUS_TAG i = tag →
      Completes (.freeze m i tag) s (fun t => t = s.reply m (s.g INST_STATUS_STATUS i))) ∧
  (∀ (s : State) (m : Master) (i : InstId) (tag : Fin 65536), s.up = true → s.accepts m .INST_CMD i = true → s.on INST_STATUS_BUSY i = true →
      Completes (.thaw m i tag) s (fun t => t = s.reply m ST_RESOURCE_EXHAUSTED)) ∧
  (∀ (s : State) (m : Master) (i : InstId) (tag : Fin 65536), s.up = true → s.accepts m .INST_CMD i = true → s.on INST_STATUS_BUSY i = false → (s.ix i).done = true → s.g INST_STATUS_TAG i = tag →
      Completes (.thaw m i tag) s (fun t => t = s.reply m (s.g INST_STATUS_STATUS i))) ∧
  (∀ (s : State) (m : Master) (i : InstId) (tag : Fin 65536), s.up = true → s.accepts m .INST_CMD i = true → s.on INST_STATUS_BUSY i = true →
      Completes (.save m i tag) s (fun t => t = s.reply m ST_RESOURCE_EXHAUSTED)) ∧
  (∀ (s : State) (m : Master) (i : InstId) (tag : Fin 65536), s.up = true → s.accepts m .INST_CMD i = true → s.on INST_STATUS_BUSY i = false → (s.ix i).done = true → s.g INST_STATUS_TAG i = tag →
      Completes (.save m i tag) s (fun t => t = s.reply m (s.g INST_STATUS_STATUS i))) ∧
  (∀ (s : State) (m : Master) (i : InstId) (tag : Fin 65536), s.up = true → s.accepts m .INST_CMD i = true → s.on INST_STATUS_BUSY i = true →
      Completes (.restore m i tag) s (fun t => t = s.reply m ST_RESOURCE_EXHAUSTED)) ∧
  (∀ (s : State) (m : Master) (i : InstId) (tag : Fin 65536), s.up = true → s.accepts m .INST_CMD i = true → s.on INST_STATUS_BUSY i = false → (s.ix i).done = true → s.g INST_STATUS_TAG i = tag →
      Completes (.restore m i tag) s (fun t => t = s.reply m (s.g INST_STATUS_STATUS i))) ∧
  (∀ (s : State) (m : Master) (i : InstId) (tag : Fin 65536), s.up = true → s.accepts m .INST_CMD i = true → s.on INST_STATUS_BUSY i = true →
      Completes (.fluePut m i tag) s (fun t => t = s.reply m ST_RESOURCE_EXHAUSTED)) ∧
  (∀ (s : State) (m : Master) (i : InstId) (tag : Fin 65536), s.up = true → s.accepts m .INST_CMD i = true → s.on INST_STATUS_BUSY i = false → (s.ix i).done = true → s.g INST_STATUS_TAG i = tag →
      Completes (.fluePut m i tag) s (fun t => t = s.reply m (s.g INST_STATUS_STATUS i))) ∧
  (∀ (s : State) (m : Master) (i : InstId) (tag : Fin 65536), s.up = true → s.accepts m .INST_CMD i = true → s.on INST_STATUS_BUSY i = true →
      Completes (.wqPut m i tag) s (fun t => t = s.reply m ST_RESOURCE_EXHAUSTED)) ∧
  (∀ (s : State) (m : Master) (i : InstId) (tag : Fin 65536), s.up = true → s.accepts m .INST_CMD i = true → s.on INST_STATUS_BUSY i = false → (s.ix i).done = true → s.g INST_STATUS_TAG i = tag →
      Completes (.wqPut m i tag) s (fun t => t = s.reply m (s.g INST_STATUS_STATUS i))) ∧
  (∀ (s : State) (m : Master) (i : InstId) (tag : Fin 65536), s.up = true → s.accepts m .INST_CMD i = true → s.on INST_STATUS_BUSY i = true →
      Completes (.threadPut m i tag) s (fun t => t = s.reply m ST_RESOURCE_EXHAUSTED)) ∧
  (∀ (s : State) (m : Master) (i : InstId) (tag : Fin 65536), s.up = true → s.accepts m .INST_CMD i = true → s.on INST_STATUS_BUSY i = false → (s.ix i).done = true → s.g INST_STATUS_TAG i = tag →
      Completes (.threadPut m i tag) s (fun t => t = s.reply m (s.g INST_STATUS_STATUS i))) ∧
  (∀ (s : State) (m : Master) (i : InstId) (tag : Fin 65536), s.up = true → s.accepts m .INST_CMD i = true → s.on INST_STATUS_BUSY i = true →
      Completes (.instReset m i tag) s (fun t => t = s.reply m ST_RESOURCE_EXHAUSTED)) ∧
  (∀ (s : State) (m : Master) (i : InstId) (tag : Fin 65536), s.up = true → s.accepts m .INST_CMD i = true → s.on INST_STATUS_BUSY i = false → (s.ix i).done = true → s.g INST_STATUS_TAG i = tag →
      Completes (.instReset m i tag) s (fun t => t = s.reply m (s.g INST_STATUS_STATUS i))) ∧
  (∀ (s : State) (m : Master) (i : InstId) (tag : Fin 65536), s.up = true → s.accepts m .INST_CMD i = true → s.on INST_STATUS_BUSY i = true →
      Completes (.instRelease m i tag) s (fun t => t = s.reply m ST_RESOURCE_EXHAUSTED)) ∧
  (∀ (s : State) (m : Master) (i : InstId) (tag : Fin 65536), s.up = true → s.accepts m .INST_CMD i = true → s.on INST_STATUS_BUSY i = false → (s.ix i).done = true → s.g INST_STATUS_TAG i = tag →
      Completes (.instRelease m i tag) s (fun t => t = s.reply m (s.g INST_STATUS_STATUS i)))

/-- The fault unit takes reports, reacts, logs, and performs its commands. With the fault unit in service and WRAP of the log set, the first report that is not held is taken: with no cause and level 0 it is latched, counted, put in the on-die log, made pending and captured first, and touches no pin; with a cause that has a record it is counted as a consequence of it and reacts no more; of level 3, or of level 2 while its fault is pending and ESC_CAP lets it escalate, it asserts FAULT_N, and of level 3 it stops EMBER; a thread's of level 2 contains the thread, which stops. The oldest waiting record is copied to the ring where its slot is free, or, where the HBM fails, the ring is given up, as DF; an on-die entry that fails its check is dropped, as DF. ACK and ACK_CLASS take what they name from the pending faults, RELEASE a flue, thread or port from those contained, FAULT_CLR by P0 or Hjelvon deasserts FAULT_N, REARM by them starts EMBER where no device fault is present and no log is lost; each answers LATE where there is nothing to do, RELEASE NO_MATCH for another scope, FAULT_CLR ACCESS_DENIED for another master, REARM ACCESS_DENIED with a log lost. Each status is stored with its TAG, which repeats it; with the fault unit out of service each answers NO_MATCH. FAULT_INJECT holds the fields of a source and scope that exist, and is refused for others. EMBER inverts while it runs (R300 to R314). Each clause concludes that exec answers a next state, from hypotheses on the state and the operands alone, for: REPORT_TAKE, LOG_RING_WRITE, ODL_CHECK_FAIL, ACK, ACK_CLASS, FU_RELEASE, FAULT_CLR, EMBER_REARM, FAULT_INJECT, EMBER_TOGGLE. -/
def Obligations.FaultUnitCommands : Prop :=
  (∀ (s : State) (r : Report), s.fuUp = true → s.fu.waiting.find? (fun r => !(s.heldReport r)) = some r → s.primaryOf r = none → s.on FU_LOG_CFG_WRAP = true → s.entryLevel r.source r.cls = 0 → s.fu.pend.contains (r.cls, r.scope) = false → r.cls ≠ DF → r.bank = none → s.fu.skipped.contains (s.fu.seq % 128) = false →
      Completes (.reportTake) s (fun t => t.g FU_SRC_LATCHED r.source = 1 ∧ t.g FU_SRC_CNT_COUNT r.source = min (s.g FU_SRC_CNT_COUNT r.source + (1 + r.rep)) (2 ^ FU_SRC_CNT_COUNT.width - 1) ∧ t.fu.waiting = s.fu.waiting.erase r ∧ t.fu.seq = (s.fu.seq + 1) % 2 ^ 32 ∧ nget? (s.fu.seq % 128) t.fu.odl = some { rpt := r, seq := s.fu.seq, primarySeq := 0, level := 0, escalated := false, conseq := false, already := false } ∧ t.fu.pend = (r.cls, r.scope) :: s.fu.pend ∧ t.on FU_FIRST5_VALID r.cls = true ∧ t.pins = s.pins ∧ t.fu.contained = s.fu.contained)) ∧
  (∀ (s : State) (r : Report) (p : Nat), s.fuUp = true → s.fu.waiting.find? (fun r => !(s.heldReport r)) = some r → s.primaryOf r = some p → s.on FU_LOG_CFG_WRAP = true → s.fu.skipped.contains (s.fu.seq % 128) = false → r.bank = none →
      Completes (.reportTake) s (fun t => t.g FU_STATUS_CONSEQ_CNT = min (s.g FU_STATUS_CONSEQ_CNT + 1) (2 ^ FU_STATUS_CONSEQ_CNT.width - 1) ∧ nget? (s.fu.seq % 128) t.fu.odl = some { rpt := r, seq := s.fu.seq, primarySeq := p, level := 0, escalated := false, conseq := true, already := false } ∧ t.fu.pend = s.fu.pend ∧ t.fu.contained = s.fu.contained ∧ t.pins = s.pins)) ∧
  (∀ (s : State) (r : Report), s.fuUp = true → s.fu.waiting.find? (fun r => !(s.heldReport r)) = some r → s.primaryOf r = none → s.on FU_LOG_CFG_WRAP = true → s.entryLevel r.source r.cls = 3 → s.fu.pend.contains (r.cls, r.scope) = false → containable r.scope = false →
      Completes (.reportTake) s (fun t => t.g FU_STATUS_FAULT_ASSERTED = 1 ∧ t.pins.faultN = false ∧ t.g FU_STATUS_EMBER_RUN = 0 ∧ t.pins.ember = false ∧ t.fu.contained = s.fu.contained)) ∧
  (∀ (s : State) (r : Report), s.fuUp = true → s.fu.waiting.find? (fun r => !(s.heldReport r)) = some r → s.primaryOf r = none → s.on FU_LOG_CFG_WRAP = true → s.entryLevel r.source r.cls = 2 → s.fu.pend.contains (r.cls, r.scope) = true → 2 < s.g FU_CTRL_ESC_CAP → containable r.scope = false →
      Completes (.reportTake) s (fun t => t.g FU_STATUS_FAULT_ASSERTED = 1 ∧ t.pins.faultN = false ∧ t.fu.pend = s.fu.pend)) ∧
  (∀ (s : State) (r : Report), s.fuUp = true → s.fu.waiting.find? (fun r => !(s.heldReport r)) = some r → s.primaryOf r = none → s.on FU_LOG_CFG_WRAP = true → s.entryLevel r.source r.cls = 2 → s.fu.pend.contains (r.cls, r.scope) = false → r.scope / 4096 = 4 → s.fu.contained.contains r.scope = false → s.halted (r.scope % 4096) = false → (s.th (r.scope % 4096)).waiting = .none → (s.th (r.scope % 4096)).clearAsked = false → s.on CHM_CFG_EN (thH (r.scope % 4096)) = false →
      Completes (.reportTake) s (fun t => t.fu.contained = r.scope :: s.fu.contained ∧ t.halted (r.scope % 4096) = true ∧ t.g TH_STATUS_HALT_REASON (thH (r.scope % 4096)) (thI (r.scope % 4096)) = 2)) ∧
  (∀ (s : State), s.fuUp = true → s.fu.waiting = [] →
      Completes (.reportTake) s (fun t => t = s)) ∧
  (∀ (s : State) (r : Record) (rs : List Record), s.up = true → s.fu.ringWait = r :: rs → (s.on FU_LOG_CFG_WRAP = true ∨ s.slotHeld r.seq = false) →
      Completes (.logRingWrite true) s (fun t => t.rd spHbm (0x30000000 + r.seq % 2 ^ 20 * 128) 128 = r.bytes ∧ t.g FU_LOG_IDX_PROD = (r.seq + 1) % 2 ^ 32 ∧ t.fu.ringWait = rs ∧ t.pins = s.pins)) ∧
  (∀ (s : State) (r : Record) (rs : List Record), s.up = true → s.fu.ringWait = r :: rs → (s.on FU_LOG_CFG_WRAP = true ∨ s.slotHeld r.seq = false) →
      Completes (.logRingWrite false) s (fun t => t.fu.ringWait = [] ∧ t.g FU_LOG_STATUS_HBM_FAIL = 1 ∧ t.g FU_LOG_STATUS_LOG_LOST = 1 ∧ t.g FU_STATUS_EMBER_RUN = 0 ∧ t.reported (src 0x01 0) DF 0 = true ∧ t.mem = s.mem)) ∧
  (∀ (s : State) (n : Fin 128) (y : Fin 65536) (r : Record), s.fuUp = true → nget? n.val s.fu.odl = some r →
      Completes (.odlCheckFail n y) s (fun t => nget? n.val t.fu.odl = none ∧ t.fu.skipped.contains n.val = true ∧ t.g FU_LOG_STATUS_ODL_FAIL = 1 ∧ t.g FU_LOG_STATUS_LOG_LOST = 1 ∧ t.g FU_STATUS_EMBER_RUN = 0 ∧ t.reported (src 0x01 0) DF 0 = true ∧ t.g FU_LOG_STATUS_LOST_CNT = (if r.copied then s.g FU_LOG_STATUS_LOST_CNT else min (s.g FU_LOG_STATUS_LOST_CNT + 1) (2 ^ FU_LOG_STATUS_LOST_CNT.width - 1)))) ∧
  (∀ (s : State) (n : Fin 128) (y : Fin 65536), s.fuUp = true → nget? n.val s.fu.odl = none →
      Completes (.odlCheckFail n y) s (fun t => t = s)) ∧
  (∀ (s : State) (m : Master) (tag : Fin 65536), s.fuUp = true → s.accepts m .FU_CMD 0 = true → (s.fu.cmdDone = false ∨ s.g FU_CMD_STATUS_TAG ≠ tag) → s.fu.pend.contains (s.g FU_CMD_ARG_CLASS, s.g FU_CMD_ARG_SCOPE) = true →
      Completes (.ack m tag) s (fun t => t.fu.pend = s.fu.pend.filter (· != (s.g FU_CMD_ARG_CLASS, s.g FU_CMD_ARG_SCOPE)) ∧ t.g FU_CMD_STATUS_STATUS = ST_OK ∧ t.g FU_CMD_STATUS_TAG = tag ∧ t.fu.cmdDone = true ∧ t.answered m ST_OK)) ∧
  (∀ (s : State) (m : Master) (tag : Fin 65536), s.fuUp = true → s.accepts m .FU_CMD 0 = true → (s.fu.cmdDone = false ∨ s.g FU_CMD_STATUS_TAG ≠ tag) → s.fu.pend.contains (s.g FU_CMD_ARG_CLASS, s.g FU_CMD_ARG_SCOPE) = false →
      Completes (.ack m tag) s (fun t => t.fu.pend = s.fu.pend ∧ t.g FU_CMD_STATUS_STATUS = ST_LATE ∧ t.g FU_CMD_STATUS_TAG = tag ∧ t.fu.cmdDone = true ∧ t.answered m ST_LATE)) ∧
  (∀ (s : State) (m : Master) (tag : Fin 65536), s.fuUp = true → s.accepts m .FU_CMD 0 = true → (s.fu.cmdDone = false ∨ s.g FU_CMD_STATUS_TAG ≠ tag) → s.fu.pend.any (fun p => p.1 == s.g FU_CMD_ARG_CLASS) = true →
      Completes (.ackClass m tag) s (fun t => t.fu.pend = s.fu.pend.filter (fun p => p.1 != s.g FU_CMD_ARG_CLASS) ∧ t.g FU_CMD_STATUS_STATUS = ST_OK ∧ t.g FU_CMD_STATUS_TAG = tag ∧ t.fu.cmdDone = true ∧ t.answered m ST_OK)) ∧
  (∀ (s : State) (m : Master) (tag : Fin 65536), s.fuUp = true → s.accepts m .FU_CMD 0 = true → (s.fu.cmdDone = false ∨ s.g FU_CMD_STATUS_TAG ≠ tag) → s.fu.pend.any (fun p => p.1 == s.g FU_CMD_ARG_CLASS) = false →
      Completes (.ackClass m tag) s (fun t => t.fu.pend = s.fu.pend ∧ t.g FU_CMD_STATUS_STATUS = ST_LATE ∧ t.g FU_CMD_STATUS_TAG = tag ∧ t.fu.cmdDone = true ∧ t.answered m ST_LATE)) ∧
  (∀ (s : State) (m : Master) (tag : Fin 65536), s.fuUp = true → s.accepts m .FU_CMD 0 = true → (s.fu.cmdDone = false ∨ s.g FU_CMD_STATUS_TAG ≠ tag) → ((s.g FU_CMD_ARG_SCOPE) / 4096 = 3 ∨ (s.g FU_CMD_ARG_SCOPE) / 4096 = 4) → s.fu.contained.contains (s.g FU_CMD_ARG_SCOPE) = true →
      Completes (.fuRelease m tag) s (fun t => t.fu.contained = s.fu.contained.filter (· != (s.g FU_CMD_ARG_SCOPE)) ∧ t.fl = s.fl ∧ t.thr = s.thr ∧ t.g FU_CMD_STATUS_STATUS = ST_OK ∧ t.g FU_CMD_STATUS_TAG = tag ∧ t.fu.cmdDone = true ∧ t.answered m ST_OK)) ∧
  (∀ (s : State) (m : Master) (tag : Fin 65536), s.fuUp = true → s.accepts m .FU_CMD 0 = true → (s.fu.cmdDone = false ∨ s.g FU_CMD_STATUS_TAG ≠ tag) → (s.g FU_CMD_ARG_SCOPE) / 4096 = 2 → s.fu.contained.contains (s.g FU_CMD_ARG_SCOPE) = true →
      Completes (.fuRelease m tag) s (fun t => t.fu.contained.contains (s.g FU_CMD_ARG_SCOPE) = false ∧ t.g PC_QUIESCE_STATUS_ISOLATED ((s.g FU_CMD_ARG_SCOPE) % 4096) = 0 ∧ t.g FU_CMD_STATUS_STATUS = ST_OK ∧ t.g FU_CMD_STATUS_TAG = tag ∧ t.fu.cmdDone = true ∧ t.answered m ST_OK)) ∧
  (∀ (s : State) (m : Master) (tag : Fin 65536), s.fuUp = true → s.accepts m .FU_CMD 0 = true → (s.fu.cmdDone = false ∨ s.g FU_CMD_STATUS_TAG ≠ tag) → ((s.g FU_CMD_ARG_SCOPE) / 4096 = 2 ∨ (s.g FU_CMD_ARG_SCOPE) / 4096 = 3 ∨ (s.g FU_CMD_ARG_SCOPE) / 4096 = 4) → s.fu.contained.contains (s.g FU_CMD_ARG_SCOPE) = false →
      Completes (.fuRelease m tag) s (fun t => t.fu = { s.fu with cmdDone := true } ∧ t.g FU_CMD_STATUS_STATUS = ST_LATE ∧ t.g FU_CMD_STATUS_TAG = tag ∧ t.fu.cmdDone = true ∧ t.answered m ST_LATE)) ∧
  (∀ (s : State) (m : Master) (tag : Fin 65536), s.fuUp = true → s.accepts m .FU_CMD 0 = true → (s.fu.cmdDone = false ∨ s.g FU_CMD_STATUS_TAG ≠ tag) → ((s.g FU_CMD_ARG_SCOPE) / 4096 < 2 ∨ 4 < (s.g FU_CMD_ARG_SCOPE) / 4096) →
      Completes (.fuRelease m tag) s (fun t => t.fu = { s.fu with cmdDone := true } ∧ t.g FU_CMD_STATUS_STATUS = ST_NO_MATCH ∧ t.g FU_CMD_STATUS_TAG = tag ∧ t.fu.cmdDone = true ∧ t.answered m ST_NO_MATCH)) ∧
  (∀ (s : State) (m : Master) (tag : Fin 65536), s.fuUp = true → s.accepts m .FU_CMD 0 = true → (s.fu.cmdDone = false ∨ s.g FU_CMD_STATUS_TAG ≠ tag) → (s.p0 m = true ∨ m = .hjelvon) → s.on FU_STATUS_FAULT_ASSERTED = true →
      Completes (.faultClr m tag) s (fun t => t.g FU_STATUS_FAULT_ASSERTED = 0 ∧ t.pins.faultN = true ∧ t.g FU_CMD_STATUS_STATUS = ST_OK ∧ t.g FU_CMD_STATUS_TAG = tag ∧ t.fu.cmdDone = true ∧ t.answered m ST_OK)) ∧
  (∀ (s : State) (m : Master) (tag : Fin 65536), s.fuUp = true → s.accepts m .FU_CMD 0 = true → (s.fu.cmdDone = false ∨ s.g FU_CMD_STATUS_TAG ≠ tag) → (s.p0 m = true ∨ m = .hjelvon) → s.on FU_STATUS_FAULT_ASSERTED = false →
      Completes (.faultClr m tag) s (fun t => t.pins = s.pins ∧ t.g FU_CMD_STATUS_STATUS = ST_LATE ∧ t.g FU_CMD_STATUS_TAG = tag ∧ t.fu.cmdDone = true ∧ t.answered m ST_LATE)) ∧
  (∀ (s : State) (m : Master) (tag : Fin 65536), s.fuUp = true → s.accepts m .FU_CMD 0 = true → (s.fu.cmdDone = false ∨ s.g FU_CMD_STATUS_TAG ≠ tag) → s.p0 m = false → m ≠ .hjelvon →
      Completes (.faultClr m tag) s (fun t => t.pins = s.pins ∧ t.g FU_STATUS_FAULT_ASSERTED = s.g FU_STATUS_FAULT_ASSERTED ∧ t.g FU_CMD_STATUS_STATUS = ST_ACCESS_DENIED ∧ t.g FU_CMD_STATUS_TAG = tag ∧ t.fu.cmdDone = true ∧ t.answered m ST_ACCESS_DENIED)) ∧
  (∀ (s : State) (m : Master) (tag : Fin 65536), s.fuUp = true → s.accepts m .FU_CMD 0 = true → (s.fu.cmdDone = false ∨ s.g FU_CMD_STATUS_TAG ≠ tag) → (s.p0 m = true ∨ m = .hjelvon) → dfSources.any (fun n => s.on FU_SRC_PRESENT n) = false → s.on FU_LOG_STATUS_LOG_LOST = false → s.on PU_STATUS_PILOT = false → s.up = true → s.on FU_STATUS_EMBER_RUN = false →
      Completes (.emberRearm m tag) s (fun t => t.g FU_STATUS_EMBER_RUN = 1 ∧ t.pins = s.pins ∧ t.g FU_CMD_STATUS_STATUS = ST_OK ∧ t.g FU_CMD_STATUS_TAG = tag ∧ t.fu.cmdDone = true ∧ t.answered m ST_OK)) ∧
  (∀ (s : State) (m : Master) (tag : Fin 65536), s.fuUp = true → s.accepts m .FU_CMD 0 = true → (s.fu.cmdDone = false ∨ s.g FU_CMD_STATUS_TAG ≠ tag) → s.on FU_LOG_STATUS_LOG_LOST = true →
      Completes (.emberRearm m tag) s (fun t => t.g FU_STATUS_EMBER_RUN = s.g FU_STATUS_EMBER_RUN ∧ t.g FU_CMD_STATUS_STATUS = ST_ACCESS_DENIED ∧ t.g FU_CMD_STATUS_TAG = tag ∧ t.fu.cmdDone = true ∧ t.answered m ST_ACCESS_DENIED)) ∧
  (∀ (s : State) (m : Master) (tag : Fin 65536), s.fuUp = true → s.accepts m .FU_CMD 0 = true → s.fu.cmdDone = true → s.g FU_CMD_STATUS_TAG = tag →
      Completes (.ack m tag) s (fun t => t = s.reply m (s.g FU_CMD_STATUS_STATUS))) ∧
  (∀ (s : State) (m : Master) (tag : Fin 65536), s.fuUp = false →
      Completes (.ack m tag) s (fun t => t = s.reply m ST_NO_MATCH)) ∧
  (∀ (s : State) (m : Master) (tag : Fin 65536), s.fuUp = true → s.accepts m .FU_CMD 0 = true → s.fu.cmdDone = true → s.g FU_CMD_STATUS_TAG = tag →
      Completes (.ackClass m tag) s (fun t => t = s.reply m (s.g FU_CMD_STATUS_STATUS))) ∧
  (∀ (s : State) (m : Master) (tag : Fin 65536), s.fuUp = false →
      Completes (.ackClass m tag) s (fun t => t = s.reply m ST_NO_MATCH)) ∧
  (∀ (s : State) (m : Master) (tag : Fin 65536), s.fuUp = true → s.accepts m .FU_CMD 0 = true → s.fu.cmdDone = true → s.g FU_CMD_STATUS_TAG = tag →
      Completes (.fuRelease m tag) s (fun t => t = s.reply m (s.g FU_CMD_STATUS_STATUS))) ∧
  (∀ (s : State) (m : Master) (tag : Fin 65536), s.fuUp = false →
      Completes (.fuRelease m tag) s (fun t => t = s.reply m ST_NO_MATCH)) ∧
  (∀ (s : State) (m : Master) (tag : Fin 65536), s.fuUp = true → s.accepts m .FU_CMD 0 = true → s.fu.cmdDone = true → s.g FU_CMD_STATUS_TAG = tag →
      Completes (.faultClr m tag) s (fun t => t = s.reply m (s.g FU_CMD_STATUS_STATUS))) ∧
  (∀ (s : State) (m : Master) (tag : Fin 65536), s.fuUp = false →
      Completes (.faultClr m tag) s (fun t => t = s.reply m ST_NO_MATCH)) ∧
  (∀ (s : State) (m : Master) (tag : Fin 65536), s.fuUp = true → s.accepts m .FU_CMD 0 = true → s.fu.cmdDone = true → s.g FU_CMD_STATUS_TAG = tag →
      Completes (.emberRearm m tag) s (fun t => t = s.reply m (s.g FU_CMD_STATUS_STATUS))) ∧
  (∀ (s : State) (m : Master) (tag : Fin 65536), s.fuUp = false →
      Completes (.emberRearm m tag) s (fun t => t = s.reply m ST_NO_MATCH)) ∧
  (∀ (s : State) (m : Master) (v : Word), s.fuUp = true → s.accepts m .FU_INJ 0 = true → sourceDefined (({ v := v.toNat } : RegW).val FU_INJ_SOURCE) = true → scopeHolds (({ v := v.toNat } : RegW).val FU_INJ_SOURCE) (({ v := v.toNat } : RegW).val FU_INJ_SCOPE) = true →
      Completes (.faultInject m v) s (fun t => t.g FU_INJ_SOURCE = ({ v := v.toNat } : RegW).val FU_INJ_SOURCE ∧ t.g FU_INJ_SCOPE = ({ v := v.toNat } : RegW).val FU_INJ_SCOPE ∧ t.g FU_INJ_INV_MASK = ({ v := v.toNat } : RegW).val FU_INJ_INV_MASK ∧ t.g FU_INJ_MODE = ({ v := v.toNat } : RegW).val FU_INJ_MODE ∧ t.g FU_INJ_ARMED = ({ v := v.toNat } : RegW).val FU_INJ_ARMED ∧ t.fu = s.fu ∧ t.answered m ST_OK)) ∧
  (∀ (s : State) (m : Master) (v : Word), s.fuUp = true → s.accepts m .FU_INJ 0 = true → (sourceDefined (({ v := v.toNat } : RegW).val FU_INJ_SOURCE) = false ∨ scopeHolds (({ v := v.toNat } : RegW).val FU_INJ_SOURCE) (({ v := v.toNat } : RegW).val FU_INJ_SCOPE) = false) →
      Completes (.faultInject m v) s (fun t => t.regs = s.regs ∧ t.answered m ST_ACCESS_DENIED)) ∧
  (∀ (s : State), s.fuUp = true → s.on FU_STATUS_EMBER_RUN = true →
      Completes (.emberToggle) s (fun t => t.pins.ember = !s.pins.ember ∧ t.regs = s.regs)) ∧
  (∀ (s : State), s.fuUp = true → s.on FU_STATUS_EMBER_RUN = false →
      Completes (.emberToggle) s (fun t => t = s))

/-- Register accesses by offset: writes by access code, reads that clear, reserved offsets, wrong widths and refusals. Of 32 or 64 bits, aligned, past the gate, at an offset that names a register its master sees and that is reached. A write by a master that may write the register leaves the state that the register's own write gives (regWrite), with its status as answer. For each register of plainRegs, those with no operation of their own, that is: every field holds what its access code gives for the bits carried, memory is unchanged and the answer is OK, or the whole write is refused with ACCESS_DENIED where a rule of the register refuses it. A write by a master that may not write it, of another register than the tally and the rollback counters, is refused and changes nothing. A read answers the word, or the half that its offset names, changes no field of the register but RC fields, no memory and no report, and a 64-bit read leaves the RC fields at their reset values. A wrong width or alignment answers ACCESS_DENIED, and a reserved offset NO_MATCH, each reported CE with no register changed; what cannot be reached answers NO_MATCH; an access that its gate refuses is recorded and answers ACCESS_DENIED (R8 to R12, R24 to R28, R398). Each clause concludes that exec answers a next state, from hypotheses on the state and the operands alone, for: REGISTER_WRITE, REGISTER_READ_CLEAR, RESERVED_ACCESS. -/
def Obligations.RegisterAccesses : Prop :=
  (∀ (s : State) (m : Master) (addr : Fin 67108864) (width : Nat) (r : RegName) (i : Nat) (j : Nat) (v : Word), s.csGate m addr (width / 8) 1 = none → s.reaches addr = true → (width = 32 ∨ width = 64) → addr.val % (width / 8) = 0 → targetAt (addr.val / 8 * 8) = some (.reg r i j) → s.sees m (.reg r i j) = true → s.mayWrite m r i = true →
      Completes (.registerWrite m addr width v) s (fun t => t = (s.regWrite m r i j (addr.val / 8 * 8) (s.carry m r i j addr width v.toNat)).1.reply m (s.regWrite m r i j (addr.val / 8 * 8) (s.carry m r i j addr width v.toNat)).2)) ∧
  (∀ (s : State) (m : Master) (addr : Fin 67108864) (width : Nat) (r : RegName) (i : Nat) (j : Nat) (v : Word), s.csGate m addr (width / 8) 1 = none → s.reaches addr = true → (width = 32 ∨ width = 64) → addr.val % (width / 8) = 0 → targetAt (addr.val / 8 * 8) = some (.reg r i j) → s.sees m (.reg r i j) = true → s.mayWrite m r i = true → plainRegs.contains r = true → s.rwOk r i j (s.carry m r i j addr width v.toNat) = true →
      Completes (.registerWrite m addr width v) s (fun t => r.fields.all (fun f => t.g f i j == f.written (s.g f i j) (s.carry m r i j addr width v.toNat).v ((s.carry m r i j addr width v.toNat).has f)) = true ∧ t.mem = s.mem ∧ t.answered m ST_OK)) ∧
  (∀ (s : State) (m : Master) (addr : Fin 67108864) (width : Nat) (r : RegName) (i : Nat) (j : Nat) (v : Word), s.csGate m addr (width / 8) 1 = none → s.reaches addr = true → (width = 32 ∨ width = 64) → addr.val % (width / 8) = 0 → targetAt (addr.val / 8 * 8) = some (.reg r i j) → s.sees m (.reg r i j) = true → s.mayWrite m r i = true → plainRegs.contains r = true → s.rwOk r i j (s.carry m r i j addr width v.toNat) = false →
      Completes (.registerWrite m addr width v) s (fun t => t = s.reply m ST_ACCESS_DENIED)) ∧
  (∀ (s : State) (m : Master) (addr : Fin 67108864) (width : Nat) (r : RegName) (i : Nat) (j : Nat) (v : Word), s.csGate m addr (width / 8) 1 = none → s.reaches addr = true → (width = 32 ∨ width = 64) → addr.val % (width / 8) = 0 → targetAt (addr.val / 8 * 8) = some (.reg r i j) → s.sees m (.reg r i j) = true → s.mayWrite m r i = false → r ≠ .TALLY → r ≠ .RBC →
      Completes (.registerWrite m addr width v) s (fun t => t = s.reply m ST_ACCESS_DENIED)) ∧
  (∀ (s : State) (m : Master) (addr : Fin 67108864) (width : Nat) (r : RegName) (i : Nat) (j : Nat), s.csGate m addr (width / 8) 0 = none → s.reaches addr = true → (width = 32 ∨ width = 64) → addr.val % (width / 8) = 0 → targetAt (addr.val / 8 * 8) = some (.reg r i j) → s.sees m (.reg r i j) = true →
      Completes (.registerReadClear m addr width) s (fun t => t.ans = some ⟨m, ST_OK, if width = 64 then s.wordFor m (addr.val / 8 * 8) r i j else bits (s.wordFor m (addr.val / 8 * 8) r i j) (8 * (addr.val % 8)) 32⟩ ∧ r.fields.all (fun f => f.acc == .rc || t.g f i j == s.g f i j) = true ∧ t.mem = s.mem ∧ t.fu = s.fu)) ∧
  (∀ (s : State) (m : Master) (addr : Fin 67108864) (width : Nat) (r : RegName) (i : Nat) (j : Nat), s.csGate m addr (width / 8) 0 = none → s.reaches addr = true → (width = 32 ∨ width = 64) → addr.val % (width / 8) = 0 → targetAt (addr.val / 8 * 8) = some (.reg r i j) → s.sees m (.reg r i j) = true → width = 64 →
      Completes (.registerReadClear m addr width) s (fun t => r.fields.all (fun f => f.acc != .rc || t.g f i j == f.resetVal i % 2 ^ f.width) = true)) ∧
  (∀ (s : State) (m : Master) (addr : Fin 67108864) (width : Nat) (v : Word), s.csGate m addr (width / 8) 1 = none → s.reaches addr = true → (match targetAt (addr.val / 8 * 8) with | some (.inl _ _) => true | _ => false) = false → ((width ≠ 32 ∧ width ≠ 64) ∨ addr.val % (width / 8) ≠ 0) →
      Completes (.registerWrite m addr width v) s (fun t => t.mem = s.mem ∧ t.fl = s.fl ∧ t.regs = s.regs ∧ t.reported (src 0x01 9) CE 0 = true ∧ t.answered m ST_ACCESS_DENIED)) ∧
  (∀ (s : State) (m : Master) (addr : Fin 67108864) (width : Nat), s.csGate m addr (width / 8) 0 = none → s.reaches addr = true → (match targetAt (addr.val / 8 * 8) with | some (.inl _ _) => true | _ => false) = false → ((width ≠ 32 ∧ width ≠ 64) ∨ addr.val % (width / 8) ≠ 0) →
      Completes (.registerReadClear m addr width) s (fun t => t.mem = s.mem ∧ t.fl = s.fl ∧ t.regs = s.regs ∧ t.reported (src 0x01 9) CE 0 = true ∧ t.answered m ST_ACCESS_DENIED)) ∧
  (∀ (s : State) (m : Master) (addr : Fin 67108864) (width : Nat) (v : Word), s.csGate m addr (width / 8) 1 = none → s.reaches addr = false →
      Completes (.registerWrite m addr width v) s (fun t => t = s.reply m ST_NO_MATCH)) ∧
  (∀ (s : State) (m : Master) (addr : Fin 67108864) (width : Nat), s.csGate m addr (width / 8) 0 = none → s.reaches addr = false →
      Completes (.registerReadClear m addr width) s (fun t => t = s.reply m ST_NO_MATCH)) ∧
  (∀ (s : State) (m : Master) (addr : Fin 67108864) (width : Nat) (v : Word) (g : GateAcc × Nat × Option Nat), s.csGate m addr (width / 8) 1 = some g →
      Completes (.registerWrite m addr width v) s (fun t => t = (s.csRefuse m g).reply m ST_ACCESS_DENIED)) ∧
  (∀ (s : State) (m : Master) (addr : Fin 67108864) (width : Nat) (b : Bool), s.csGate m addr (width / 8) (if b then 1 else 0) = none → s.reaches addr = true → (width = 32 ∨ width = 64) → addr.val % (width / 8) = 0 → targetAt (addr.val / 8 * 8) = none →
      Completes (.reservedAccess m addr width b) s (fun t => t.mem = s.mem ∧ t.fl = s.fl ∧ t.regs = s.regs ∧ t.reported (src 0x01 8) CE 0 = true ∧ t.answered m ST_NO_MATCH)) ∧
  (∀ (s : State) (m : Master) (addr : Fin 67108864) (width : Nat) (b : Bool) (g : GateAcc × Nat × Option Nat), targetAt (addr.val / 8 * 8) = none → s.csGate m addr (width / 8) (if b then 1 else 0) = some g →
      Completes (.reservedAccess m addr width b) s (fun t => t = (s.csRefuse m g).reply m ST_ACCESS_DENIED))

/-- A gate: matching, the deciding region, permissions and the default map. A region matches under the conditions of R290; of the regions that match, the lowest-numbered decides by its permission bits for the level and kind, X asked for only in space 2 and an AMO asking for both R and W; with no match a tenant access is refused and P0 and P1 are checked against the default map, so that a gate with no valid region refuses every tenant access. -/
def Obligations.GateRules : Prop :=
  (∀ (lo hi : Fld → Nat) (x : GateAcc) (a : Nat), regionMatches lo hi x a = true ↔
    lo PG_LO_VALID = 1 ∧ lo PG_LO_SPACE = x.space ∧ (x.space = 2 → lo PG_LO_HEARTH = x.hearth) ∧
    lo PG_LO_BASE ≤ a / 4096 ∧ a / 4096 ≤ hi PG_HI_LIMIT ∧
    (hi PG_HI_INST_ANY = 1 ∨ hi PG_HI_INST_DEV * 4096 + hi PG_HI_INST = x.inst)) ∧
  (∀ (s : State) (g : Gate) (x : GateAcc) (a r : Nat), r < g.count → regionMatches (s.region g r) (s.region g r) x a = true →
    (∀ q, q < r → regionMatches (s.region g q) (s.region g q) x a = false) →
    s.partOk g x a = (permits (if x.level = 0 then s.region g r PG_LO_P0_RWX else if x.level = 1 then s.region g r PG_LO_P1_RWX
      else s.region g r PG_LO_P2_RWX) x.space x.kind, some r)) ∧
  (∀ rwx space : Nat, permits rwx space 0 = rwx.testBit 0 ∧ permits rwx space 1 = rwx.testBit 1 ∧
    permits rwx space 2 = (space != 2 || rwx.testBit 2) ∧ permits rwx space 3 = (rwx.testBit 0 && rwx.testBit 1)) ∧
  (∀ (s : State) (g : Gate) (x : GateAcc) (a : Nat), (∀ r, r < g.count → regionMatches (s.region g r) (s.region g r) x a = false) →
    (2 ≤ x.level → (s.partOk g x a).1 = false) ∧
    (x.level < 2 → x.kind ≤ 3 → x.space ≤ 3 → (s.partOk g x a).1 =
      (x.level == 0 || x.space == 0 || x.space == 2 || x.kind == 0 || x.kind == 2 ||
       (x.space == 1 && decide (0x38000000 ≤ a)) || (x.space == 3 && decide (0x100000 ≤ a))))) ∧
  (∀ (s : State) (g : Gate) (x : GateAcc), 2 ≤ x.level → (∀ r, r < g.count → s.region g r PG_LO_VALID ≠ 1) → (s.gateCheck g x).isSome = true)

/-- An access is split at 4 KiB boundaries and passes only when every part passes. Every byte of an access lies in the page of one of its parts and every part lies in it; the check passes exactly when each part passes, and otherwise names the lowest part that fails (R292). -/
def Obligations.AccessPartsCoverTheAccess : Prop :=
  (∀ addr len b : Nat, addr ≤ b → b < addr + len → ∃ a ∈ gateParts addr len, a / 4096 = b / 4096) ∧
  (∀ addr len a : Nat, 0 < len → a ∈ gateParts addr len → addr ≤ a ∧ a < addr + len) ∧
  (∀ (s : State) (g : Gate) (x : GateAcc), s.gateCheck g x = none ↔ ∀ a ∈ gateParts x.addr x.len, (s.partOk g x a).1 = true) ∧
  (∀ (s : State) (g : Gate) (x : GateAcc) (a : Nat) (r : Option Nat), s.gateCheck g x = some (a, r) →
    a ∈ gateParts x.addr x.len ∧ s.partOk g x a = (false, r) ∧ ∀ b ∈ gateParts x.addr x.len, b < a → (s.partOk g x b).1 = true)

/-- A Sirfin link trains, retrains, refuses and is lost as its states give. A far end at an enabled DOWN link whose tile is not gated starts training; in another state, or while the device is not operational, it is only noted. The end of equalisation leads to search, a lane that fails takes the link DOWN with LANE_FAIL, and a REFUSED link that is enabled trains again. The eighth equal TRAIN frame brings the link UP with the peer's identity and an empty replay buffer, or REFUSED where the peer has this device's serial; a different one starts the count again; one on an UP link retrains it. A retrain keeps the replay buffer and the counts sent, and ends, locked and with TRAIN frames seen, with the buffer sent again. A loss, a retrain's timeout or a disable of a link with nothing left to conclude takes it DOWN with LINK_DOWN, and a loss concludes the request of its one unacknowledged frame. A replay timeout sends the buffer again, or, at REPLAY_RETRAIN of them, retrains. In the states where these have no effect nothing happens (R315, R320, R324 to R328). Each clause concludes that exec answers a next state, from hypotheses on the state and the operands alone, for: SIRFIN_FAR_END_PRESENCE, SIRFIN_EQUALISATION_DONE, SIRFIN_LANE_FAIL, SIRFIN_REFUSED_RETRY, SIRFIN_TRAIN_FRAME, SIRFIN_RETRAIN, RETRAIN_COMPLETE, SIRFIN_LINK_LOSS, RETRAIN_TIMEOUT, SIRFIN_LINK_DISABLE, REPLAY_TIMEOUT. -/
def Obligations.LinkTrainingAndLoss : Prop :=
  (∀ (s : State) (l : LinkId), s.up = true → s.linkState l = 0 → s.on SRF_CFG_EN l = true → s.on HJ_GATE_CLK_GATED (48 + l / 2) = false → s.on HJ_GATE_PWR_GATED (48 + l / 2) = false →
      Completes (.sirfinFarEndPresence l) s (fun t => t.linkState l = 1 ∧ t.g SRF_STATUS_CAUSE l = 0 ∧ t.g SRF_STATUS_LOCKED l = 0 ∧ (t.link l).present = true)) ∧
  (∀ (s : State) (l : LinkId), (s.up = false ∨ s.linkState l ≠ 0) →
      Completes (.sirfinFarEndPresence l) s (fun t => t = s.linkMod l (fun x => { x with present := true }))) ∧
  (∀ (s : State) (l : LinkId), s.up = true → s.linkState l = 1 →
      Completes (.sirfinEqualisationDone l) s (fun t => t.linkState l = 2 ∧ (t.link l).good = 0 ∧ (t.link l).train = [])) ∧
  (∀ (s : State) (l : LinkId), s.up = true → s.linkState l = 1 →
      Completes (.sirfinLaneFail l) s (fun t => t.linkState l = 0 ∧ t.g SRF_STATUS_CAUSE l = 6 ∧ t.g SRF_ERR_LANE_FAIL l = 1 ∧ t.reported (src 0x0E SRF_ERR_LANE_FAIL.lsb) CE (scope 7 l) = true)) ∧
  (∀ (s : State) (l : LinkId), s.up = true → s.linkState l ≠ 1 →
      Completes (.sirfinEqualisationDone l) s (fun t => t = s)) ∧
  (∀ (s : State) (l : LinkId), s.up = true → s.linkState l ≠ 1 →
      Completes (.sirfinLaneFail l) s (fun t => t = s)) ∧
  (∀ (s : State) (l : LinkId), s.up = true → s.linkState l = 6 → s.on SRF_CFG_EN l = true → s.on HJ_GATE_CLK_GATED (48 + l / 2) = false → s.on HJ_GATE_PWR_GATED (48 + l / 2) = false →
      Completes (.sirfinRefusedRetry l) s (fun t => t.linkState l = 1 ∧ t.g SRF_STATUS_CAUSE l = 0)) ∧
  (∀ (s : State) (l : LinkId) (bytes : List Byte) (n : Nat) (h : FrameHdr) (pl : List Byte), s.up = true → s.on SRF_STATUS_LOCKED l = true → readFrame bytes = .good n h pl → h.type = 3 → s.linkState l = 3 → (s.link l).train = pl → 6 < (s.link l).trainCnt → plField pl 20 8 ≠ s.g ID_SERIAL_UNIQUE_ID → (bit (plField pl 0 1) 2 = false ∨ s.masterStrap = false) →
      Completes (.sirfinTrainFrame l bytes) s (fun t => t.linkState l = 4 ∧ t.g SRF_PEER_DEV l = (plField pl 0 1) % 4 ∧ t.g SRF_PEER_MASTER_STRAP l = b2n (bit (plField pl 0 1) 2) ∧ t.g SRF_PEER_LINK l = plField pl 1 1 % 4 ∧ t.g SRF_PEER_SI_REV l = plField pl 2 2 ∧ t.g SRF_PEER_FW_VERSION l = plField pl 4 4 ∧ t.g SRF_STATUS_TX_SEQ l = 0 ∧ t.g SRF_STATUS_RX_EXP l = 0 ∧ (t.link l).replay = [])) ∧
  (∀ (s : State) (l : LinkId) (bytes : List Byte) (n : Nat) (h : FrameHdr) (pl : List Byte), s.up = true → s.on SRF_STATUS_LOCKED l = true → readFrame bytes = .good n h pl → h.type = 3 → s.linkState l = 3 → (s.link l).train = pl → 6 < (s.link l).trainCnt → plField pl 20 8 = s.g ID_SERIAL_UNIQUE_ID →
      Completes (.sirfinTrainFrame l bytes) s (fun t => t.linkState l = 6 ∧ t.g SRF_STATUS_CAUSE l = 5 ∧ t.g SRF_ERR_PEER_BAD l = 1)) ∧
  (∀ (s : State) (l : LinkId) (bytes : List Byte) (n : Nat) (h : FrameHdr) (pl : List Byte), s.up = true → s.on SRF_STATUS_LOCKED l = true → readFrame bytes = .good n h pl → h.type = 3 → s.linkState l = 3 → (s.link l).train ≠ pl →
      Completes (.sirfinTrainFrame l bytes) s (fun t => t.linkState l = 3 ∧ (t.link l).train = pl ∧ (t.link l).trainCnt = 1)) ∧
  (∀ (s : State) (l : LinkId) (bytes : List Byte) (n : Nat) (h : FrameHdr) (pl : List Byte), s.up = true → s.on SRF_STATUS_LOCKED l = true → readFrame bytes = .good n h pl → h.type = 3 → s.linkState l = 4 →
      Completes (.sirfinTrainFrame l bytes) s (fun t => t.linkState l = 5 ∧ t.g SRF_STATUS_LOCKED l = 0 ∧ (t.link l).replay = (s.link l).replay)) ∧
  (∀ (s : State) (m : Master) (l : LinkId), s.up = true → s.accepts m .SRF_CFG l = true → s.linkState l = 4 →
      Completes (.sirfinRetrain m l) s (fun t => t.linkState l = 5 ∧ t.g SRF_STATUS_LOCKED l = 0 ∧ t.g SRF_ERR_RETRAIN l = 1 ∧ t.reported (src 0x0E SRF_ERR_RETRAIN.lsb) CE (scope 7 l) = true ∧ (t.link l).replay = (s.link l).replay ∧ (t.link l).sent = (s.link l).sent ∧ t.answered m ST_OK)) ∧
  (∀ (s : State) (m : Master) (l : LinkId), s.up = true → s.accepts m .SRF_CFG l = true → s.linkState l ≠ 4 →
      Completes (.sirfinRetrain m l) s (fun t => t = s.reply m ST_OK)) ∧
  (∀ (s : State) (l : LinkId), s.up = true → s.linkState l = 5 → s.on SRF_STATUS_LOCKED l = true → (s.link l).trainCnt ≠ 0 →
      Completes (.retrainComplete l) s (fun t => t.linkState l = 4 ∧ (t.link l).resend = (if (s.link l).replay = [] then none else some 0) ∧ (t.link l).replay = (s.link l).replay ∧ (t.link l).stall = 0)) ∧
  (∀ (s : State) (l : LinkId), s.up = true → s.linkState l = 5 → (s.on SRF_STATUS_LOCKED l = false ∨ (s.link l).trainCnt = 0) →
      Completes (.retrainComplete l) s (fun t => t = s)) ∧
  (∀ (s : State) (l : LinkId), s.up = true → s.linkState l ≠ 0 → (s.link l).replay = [] → (s.link l).part = [] → (s.link l).req = [] → (s.link l).snp = [] → (s.link l).rsp = [] → s.sw.txns.all (fun e => match e.2.place with | .stack _ => e.2.path / 16 != l + 1 | _ => true) = true → s.stk.join = none →
      Completes (.sirfinLinkLoss l) s (fun t => t.linkState l = 0 ∧ t.g SRF_STATUS_LOCKED l = 0 ∧ t.g SRF_STATUS_IN_SERVICE l = 0 ∧ t.g SRF_ERR_LINK_DOWN l = 1 ∧ t.reported (src 0x0E SRF_ERR_LINK_DOWN.lsb) PF (scope 7 l) = true ∧ (t.link l).replay = [] ∧ (t.link l).present = false)) ∧
  (∀ (s : State) (l : LinkId) (f : TxFrame) (id : Nat) (x : Txn), s.up = true → s.linkState l ≠ 0 → (s.link l).replay = [f] → f.reqs = [id] → f.units = [] → nsorted s.sw.txns = true → s.txn id = some x → x.dev = s.dev → x.kind = .rdCur → x.parent = none → (s.link l).part = [] → (s.link l).req = [] → (s.link l).snp = [] → (s.link l).rsp = [] → s.sw.txns.all (fun e => match e.2.place with | .stack _ => e.2.path / 16 != l + 1 | _ => true) = true → s.stk.join = none →
      Completes (.sirfinLinkLoss l) s (fun t => t.linkState l = 0 ∧ t.g SRF_STATUS_LOCKED l = 0 ∧ t.g SRF_STATUS_IN_SERVICE l = 0 ∧ t.g SRF_ERR_LINK_DOWN l = 1 ∧ t.reported (src 0x0E SRF_ERR_LINK_DOWN.lsb) PF (scope 7 l) = true ∧ (t.link l).replay = [] ∧ t.txn id = none)) ∧
  (∀ (s : State) (l : LinkId), s.up = true → s.linkState l = 0 →
      Completes (.sirfinLinkLoss l) s (fun t => t = s.linkMod l (fun x => { x with present := false }))) ∧
  (∀ (s : State) (l : LinkId), s.up = true → s.linkState l = 5 → (s.link l).replay = [] → (s.link l).part = [] → (s.link l).req = [] → (s.link l).snp = [] → (s.link l).rsp = [] → s.sw.txns.all (fun e => match e.2.place with | .stack _ => e.2.path / 16 != l + 1 | _ => true) = true → s.stk.join = none →
      Completes (.retrainTimeout l) s (fun t => t.linkState l = 0 ∧ t.g SRF_STATUS_LOCKED l = 0 ∧ t.g SRF_STATUS_IN_SERVICE l = 0 ∧ t.g SRF_ERR_LINK_DOWN l = 1 ∧ t.reported (src 0x0E SRF_ERR_LINK_DOWN.lsb) PF (scope 7 l) = true ∧ (t.link l).replay = [])) ∧
  (∀ (s : State) (l : LinkId), s.up = true → s.linkState l ≠ 5 →
      Completes (.retrainTimeout l) s (fun t => t = s)) ∧
  (∀ (s : State) (m : Master) (l : LinkId), s.up = true → s.accepts m .SRF_CFG l = true → s.linkState l ≠ 0 → (s.link l).replay = [] → (s.link l).part = [] → (s.link l).req = [] → (s.link l).snp = [] → (s.link l).rsp = [] → s.sw.txns.all (fun e => match e.2.place with | .stack _ => e.2.path / 16 != l + 1 | _ => true) = true → s.stk.join = none →
      Completes (.sirfinLinkDisable m l) s (fun t => t.g SRF_CFG_EN l = 0 ∧ t.linkState l = 0 ∧ t.g SRF_STATUS_LOCKED l = 0 ∧ t.g SRF_STATUS_IN_SERVICE l = 0 ∧ t.g SRF_ERR_LINK_DOWN l = 1 ∧ t.reported (src 0x0E SRF_ERR_LINK_DOWN.lsb) CE (scope 7 l) = true ∧ (t.link l).replay = [] ∧ t.answered m ST_OK)) ∧
  (∀ (s : State) (m : Master) (l : LinkId), s.up = true → s.accepts m .SRF_CFG l = true → s.linkState l = 0 →
      Completes (.sirfinLinkDisable m l) s (fun t => t = (s.p SRF_CFG_EN 0 l).reply m ST_OK)) ∧
  (∀ (s : State) (l : LinkId) (f : TxFrame) (fs : List TxFrame), s.up = true → s.linkState l = 4 → (s.link l).replay = f :: fs → (s.link l).resend = none → (s.link l).stall + 1 < s.g SRF_CFG_REPLAY_RETRAIN l →
      Completes (.replayTimeout l) s (fun t => (t.link l).resend = some 0 ∧ (t.link l).stall = (s.link l).stall + 1 ∧ (t.link l).replay = (s.link l).replay ∧ t.linkState l = 4 ∧ t.g SRF_CNT_REPLAYS l = min (s.g SRF_CNT_REPLAYS l + 1) (2 ^ SRF_CNT_REPLAYS.width - 1) ∧ t.reported (src 0x0E SRF_ERR_REPLAY.lsb) CE (scope 7 l) = true)) ∧
  (∀ (s : State) (l : LinkId) (f : TxFrame) (fs : List TxFrame), s.up = true → s.linkState l = 4 → (s.link l).replay = f :: fs → (s.link l).resend = none → s.g SRF_CFG_REPLAY_RETRAIN l ≤ (s.link l).stall + 1 →
      Completes (.replayTimeout l) s (fun t => t.linkState l = 5 ∧ (t.link l).stall = 0 ∧ (t.link l).replay = (s.link l).replay)) ∧
  (∀ (s : State) (l : LinkId), s.up = true → (s.link l).replay = [] →
      Completes (.replayTimeout l) s (fun t => t = s))

/-- Frames on a Sirfin link: order, credits, acknowledgement, replay, what is sent, and remote timeouts. On an UP, locked link. A DATA frame in order, within the credit, that completes no unit joins its channel and advances RX_EXP and the count taken; a duplicate changes neither; one beyond the credit sets CREDIT_ERR and retrains. A frame whose CRC fails is counted and asked for again, and the fourth in a row loses lock and retrains. An acknowledgement of the oldest frame takes it from the replay buffer. A CTRL frame sets the three limits and the times of the measure; on a member whose link goes to the master, it sets MEMBERS. The fourth good frame of a search locks it. With the tile's clock present and nothing received to be taken, what is sent is: TRAIN while aligning, CTRL where one is due, else the next frame of a replay, else a DATA frame of a waiting RSP unit within the credit, which enters the replay buffer and advances TX_SEQ, else IDLE where the link is not in service or the buffer is full. An RD_CUR of this device that expires at another ends, sets XT_TMO, is counted, and is reported NC (R317, R320 to R327). Each clause concludes that exec answers a next state, from hypotheses on the state and the operands alone, for: SIRFIN_DATA_FRAME, SIRFIN_IDLE_FRAME, SIRFIN_CTRL_FRAME, SIRFIN_FRAME_SEND, XT_TIMEOUT. -/
def Obligations.LinkFramesAndRemoteTimeouts : Prop :=
  (∀ (s : State) (l : LinkId) (bytes : List Byte) (n : Nat) (h : FrameHdr) (pl : List Byte) (rest : List Byte), s.up = true → s.on SRF_STATUS_LOCKED l = true → readFrame bytes = .good n h pl → h.type = 1 → s.linkState l = 4 → h.seq = (s.g SRF_STATUS_RX_EXP l) → ngetD (s.link l).rcvd h.vc 0 + 2 ^ 32 - ngetD (s.link l).taken h.vc 0 < 2 ^ 32 + vcSize h.vc → h.nak = false → unitsOf 300 (ngetD (s.link l).rx h.vc [] ++ pl.take (4 * h.len)) = ([], rest) →
      Completes (.sirfinDataFrame l bytes) s (fun t => t.g SRF_STATUS_RX_EXP l = ((s.g SRF_STATUS_RX_EXP l) + 1) % 4096 ∧ ngetD (t.link l).rx h.vc [] = rest ∧ ngetD (t.link l).taken h.vc 0 = (ngetD (s.link l).taken h.vc 0 + 1) % 2 ^ 32 ∧ (t.link l).nak = false ∧ t.sw = s.sw)) ∧
  (∀ (s : State) (l : LinkId) (bytes : List Byte) (n : Nat) (h : FrameHdr) (pl : List Byte), s.up = true → s.on SRF_STATUS_LOCKED l = true → readFrame bytes = .good n h pl → h.type = 1 → s.linkState l = 4 → 1 ≤ ((s.g SRF_STATUS_RX_EXP l) + 4096 - h.seq) % 4096 → ((s.g SRF_STATUS_RX_EXP l) + 4096 - h.seq) % 4096 ≤ 2048 → h.nak = false → h.seq ≠ (s.g SRF_STATUS_RX_EXP l) →
      Completes (.sirfinDataFrame l bytes) s (fun t => t.g SRF_STATUS_RX_EXP l = (s.g SRF_STATUS_RX_EXP l) ∧ (t.link l).rx = (s.link l).rx ∧ (t.link l).taken = (s.link l).taken ∧ t.sw = s.sw)) ∧
  (∀ (s : State) (l : LinkId) (bytes : List Byte) (n : Nat) (h : FrameHdr) (pl : List Byte), s.up = true → s.on SRF_STATUS_LOCKED l = true → readFrame bytes = .good n h pl → h.type = 1 → s.linkState l = 4 → h.seq = (s.g SRF_STATUS_RX_EXP l) → 2 ^ 32 + vcSize h.vc ≤ ngetD (s.link l).rcvd h.vc 0 + 2 ^ 32 - ngetD (s.link l).taken h.vc 0 →
      Completes (.sirfinDataFrame l bytes) s (fun t => t.linkState l = 5 ∧ t.g SRF_ERR_CREDIT_ERR l = 1 ∧ t.reported (src 0x0E SRF_ERR_CREDIT_ERR.lsb) PF (scope 7 l) = true ∧ (t.link l).rx = (s.link l).rx)) ∧
  (∀ (s : State) (l : LinkId) (bytes : List Byte) (n : Nat), s.up = true → s.on SRF_STATUS_LOCKED l = true → readFrame bytes = .badCrc n → s.linkState l = 4 → (s.link l).bad < 3 →
      Completes (.sirfinIdleFrame l bytes) s (fun t => (t.link l).nak = true ∧ (t.link l).bad = (s.link l).bad + 1 ∧ t.linkState l = 4 ∧ t.g SRF_CNT_CRC_FAIL l = min (s.g SRF_CNT_CRC_FAIL l + 1) (2 ^ SRF_CNT_CRC_FAIL.width - 1) ∧ t.reported (src 0x0E SRF_ERR_CRC_FAIL.lsb) CE (scope 7 l) = true)) ∧
  (∀ (s : State) (l : LinkId) (bytes : List Byte) (n : Nat), s.up = true → s.on SRF_STATUS_LOCKED l = true → readFrame bytes = .badCrc n → s.linkState l = 4 → 3 ≤ (s.link l).bad →
      Completes (.sirfinIdleFrame l bytes) s (fun t => t.linkState l = 5 ∧ t.g SRF_STATUS_LOCKED l = 0 ∧ t.g SRF_ERR_LOCK_LOST l = 1 ∧ (t.link l).replay = (s.link l).replay)) ∧
  (∀ (s : State) (l : LinkId) (bytes : List Byte) (n : Nat) (h : FrameHdr) (pl : List Byte) (f : TxFrame) (fs : List TxFrame), s.up = true → s.on SRF_STATUS_LOCKED l = true → readFrame bytes = .good n h pl → h.type = 0 → s.linkState l = 4 → h.nak = false → (s.link l).replay = f :: fs → f.seq = h.ack →
      Completes (.sirfinIdleFrame l bytes) s (fun t => (t.link l).replay = fs ∧ (t.link l).stall = 0 ∧ t.g SRF_STATUS_UNACKED l = fs.length % 2 ^ SRF_STATUS_UNACKED.width ∧ t.linkState l = 4)) ∧
  (∀ (s : State) (l : LinkId) (bytes : List Byte) (n : Nat) (h : FrameHdr) (pl : List Byte), s.up = true → s.on SRF_STATUS_LOCKED l = false → readFrame bytes = .good 0 h pl → n = 0 → h.type = 0 → s.linkState l = 2 → (s.link l).good = 3 →
      Completes (.sirfinIdleFrame l bytes) s (fun t => t.linkState l = 3 ∧ t.on SRF_STATUS_LOCKED l = true ∧ (t.link l).good = 0)) ∧
  (∀ (s : State) (l : LinkId) (bytes : List Byte) (n : Nat) (h : FrameHdr) (pl : List Byte), s.up = true → s.on SRF_STATUS_LOCKED l = true → readFrame bytes = .good n h pl → h.type = 2 → s.linkState l = 4 → h.nak = false → s.g STK_STATUS_STATE ≠ 2 →
      Completes (.sirfinCtrlFrame l bytes) s (fun t => nget? 0 (t.link l).limit = some (plField pl 0 4) ∧ nget? 1 (t.link l).limit = some (plField pl 4 4) ∧ nget? 2 (t.link l).limit = some (plField pl 8 4) ∧ (t.link l).ctrlTx = plField pl 12 8 ∧ (t.link l).ctrlRx = s.now ∧ (t.link l).sampled = true ∧ t.g STK_STATUS_MEMBERS = s.g STK_STATUS_MEMBERS)) ∧
  (∀ (s : State) (l : LinkId) (bytes : List Byte) (n : Nat) (h : FrameHdr) (pl : List Byte), s.up = true → s.on SRF_STATUS_LOCKED l = true → readFrame bytes = .good n h pl → h.type = 2 → s.linkState l = 4 → h.nak = false → s.g STK_STATUS_STATE = 2 → s.g SRF_PEER_DEV l = s.g STK_STATUS_MASTER_DEV → s.hm.departed = [] → plField pl 37 1 % 16 = 0 → bit (plField pl 36 1 % 16) s.dev = true →
      Completes (.sirfinCtrlFrame l bytes) s (fun t => t.g STK_STATUS_MEMBERS = plField pl 36 1 % 16 ∧ t.g STK_STATUS_STATE = 2 ∧ t.hm = s.hm)) ∧
  (∀ (s : State) (l : LinkId), s.up = true → s.on ISL_STATUS_CLK_PRESENT (34 + l / 2) = true → [0, 1, 2].all (fun vc => ngetD (s.link l).rx vc [] == []) = true → s.linkState l = 4 → s.ctrlDue l = false → (s.link l).resend = none → (s.on SRF_STATUS_IN_SERVICE l = false ∨ 256 ≤ (s.link l).replay.length) →
      Completes (.sirfinFrameSend l) s (fun t => t.outbox = s.outbox ++ [.frame l (frameBytes (s.hdr l 0) [])] ∧ (t.link l).sinceCtrl = (s.link l).sinceCtrl + 1 ∧ t.regs = s.regs)) ∧
  (∀ (s : State) (l : LinkId), s.up = true → s.on ISL_STATUS_CLK_PRESENT (34 + l / 2) = true → [0, 1, 2].all (fun vc => ngetD (s.link l).rx vc [] == []) = true → s.linkState l = 4 → s.ctrlDue l = true →
      Completes (.sirfinFrameSend l) s (fun t => t.outbox = s.outbox ++ [.frame l (frameBytes (s.hdr l 2) (s.ctrlPayload l))] ∧ (t.link l).sinceCtrl = 0 ∧ t.regs = s.regs)) ∧
  (∀ (s : State) (l : LinkId), s.up = true → s.on ISL_STATUS_CLK_PRESENT (34 + l / 2) = true → [0, 1, 2].all (fun vc => ngetD (s.link l).rx vc [] == []) = true → s.linkState l = 3 →
      Completes (.sirfinFrameSend l) s (fun t => t.outbox = s.outbox ++ [.frame l (frameBytes { s.hdr l 3 with seq := s.g SRF_STATUS_RX_EXP l } (s.trainPayload l))] ∧ t.regs = s.regs)) ∧
  (∀ (s : State) (l : LinkId) (f : TxFrame), s.up = true → s.on ISL_STATUS_CLK_PRESENT (34 + l / 2) = true → [0, 1, 2].all (fun vc => ngetD (s.link l).rx vc [] == []) = true → s.linkState l = 4 → s.ctrlDue l = false → (s.link l).resend = some 0 → (s.link l).replay = [f] →
      Completes (.sirfinFrameSend l) s (fun t => t.outbox = s.outbox ++ [.frame l (frameBytes { s.hdr l 1 with vc := f.vc, seq := f.seq, len := f.payload.length / 4 } f.payload)] ∧ (t.link l).resend = none ∧ (t.link l).replay = [f] ∧ t.g SRF_STATUS_TX_SEQ l = s.g SRF_STATUS_TX_SEQ l)) ∧
  (∀ (s : State) (l : LinkId) (u : StackUnit), s.up = true → s.on ISL_STATUS_CLK_PRESENT (34 + l / 2) = true → [0, 1, 2].all (fun vc => ngetD (s.link l).rx vc [] == []) = true → s.linkState l = 4 → s.ctrlDue l = false → (s.link l).resend = none → s.on SRF_STATUS_IN_SERVICE l = true → (s.link l).replay.length < 256 → 0 < (s.link l).avail 2 → (s.link l).avail 2 ≤ 512 → (s.link l).part = [] → (s.link l).rsp = [u] → u.bytes.length ≤ 228 →
      Completes (.sirfinFrameSend l) s (fun t => t.outbox = s.outbox ++ [.frame l (frameBytes { s.hdr l 1 with vc := 2, len := u.bytes.length / 4 } u.bytes)] ∧ (t.link l).replay = (s.link l).replay ++ [{ seq := s.g SRF_STATUS_TX_SEQ l, vc := 2, payload := u.bytes, reqs := [], units := [u] }] ∧ (t.link l).rsp = [] ∧ t.g SRF_STATUS_TX_SEQ l = (s.g SRF_STATUS_TX_SEQ l + 1) % 4096 ∧ ngetD (t.link l).sent 2 0 = (ngetD (s.link l).sent 2 0 + 1) % 2 ^ 32)) ∧
  (∀ (s : State) (id : Nat) (x : Txn) (l : Nat) (d : Nat), s.up = true → nsorted s.sw.txns = true → s.txn id = some x → x.place = .remote l d → x.dev = s.dev → x.parent = none → x.kind = .rdCur →
      Completes (.xtTimeout id) s (fun t => t.g STK_ERR_XT_TMO = 1 ∧ t.g STK_CNT_XT_TIMEOUTS = min (s.g STK_CNT_XT_TIMEOUTS + 1) (2 ^ STK_CNT_XT_TIMEOUTS.width - 1) ∧ t.reported (src 0x0E 39) NC (scope 1 (x.inst % 4096)) = true ∧ t.stk.late.contains id = true ∧ t.txn id = none)) ∧
  (∀ (s : State) (id : Nat), s.up = true → s.txn id = none →
      Completes (.xtTimeout id) s (fun t => t = s))

/-- Joining a stack, its splits, its time and its identity. A join under way: an authentication that fails, or runs out of time, refuses it with cause 4 and AUTH_FAIL, and a master more than a millisecond ahead in time with cause 7 and TIME_AHEAD; each releases the tile. Otherwise the device that does not join sends its copy, and both wait for it, the joiner with its time moved forward where it is behind. A copy that comes is held by the joiner. A joiner with none of its own requests in flight becomes a member under the stack's identity, and the other side enters it in MEMBERS; both count the join. A device of the stack that is cut off leaves MEMBERS and is departed; a member that is cut off from its master becomes ISOLATED and alone. A measure of time sets OFFSET_NS, the fourth in tolerance in a row locks, and one more than 1,000 ns behind steps the time forward. A member's step forward takes effect. A failed draw of the identity is repeated where the generator is ready. Without the state that each needs nothing happens (R329 to R336). Each clause concludes that exec answers a next state, from hypotheses on the state and the operands alone, for: JOIN_AUTH_DONE, JOIN_AUTH_TIMEOUT, JOIN_COPY_DONE, JOIN_COMPLETE, SPLIT_TIMEOUT, TIME_MEASURE, STACK_ID_DRAW_RETRY. -/
def Obligations.StackJoinsSplitsAndTime : Prop :=
  (∀ (s : State) (ahead : Int) (d : Nat) (l : Nat), s.up = true → s.stk.join = some (d, l, 3) →
      Completes (.joinAuthDone false ahead) s (fun t => t.g SRF_STATUS_CAUSE l = 4 ∧ t.g STK_ERR_AUTH_FAIL = 1 ∧ t.reported (src 0x0E (32 + STK_ERR_AUTH_FAIL.lsb)) PF 0 = true ∧ t.stk.join = none ∧ t.g HJ_GATE_HELD (48 + l / 2) = 0)) ∧
  (∀ (s : State) (ahead : Int) (d : Nat) (l : Nat), s.up = true → s.stk.join = some (d, l, 3) → 1000000 < ahead →
      Completes (.joinAuthDone true ahead) s (fun t => t.g SRF_STATUS_CAUSE l = 7 ∧ t.g STK_ERR_TIME_AHEAD = 1 ∧ t.reported (src 0x0E (32 + STK_ERR_TIME_AHEAD.lsb)) CE 0 = true ∧ t.stk.join = none ∧ t.g HJ_GATE_HELD (48 + l / 2) = 0)) ∧
  (∀ (s : State) (ahead : Int) (d : Nat) (l : Nat), s.up = true → s.stk.join = some (d, l, 3) → s.g STK_STATUS_STATE ≠ 1 → ahead ≤ 0 →
      Completes (.joinAuthDone true ahead) s (fun t => t.outbox = s.outbox ++ [.joinCopy d (s.joinImage d l)] ∧ t.stk.join = some (d, l, 5) ∧ t.g HJ_GATE_HELD (48 + l / 2) = 0 ∧ t.now = s.now)) ∧
  (∀ (s : State) (ahead : Int) (d : Nat) (l : Nat), s.up = true → s.stk.join = some (d, l, 3) → s.g STK_STATUS_STATE = 1 → ahead ≤ 1000000 →
      Completes (.joinAuthDone true ahead) s (fun t => t.outbox = s.outbox ∧ t.stk.join = some (d, l, 5) ∧ t.g HJ_GATE_HELD (48 + l / 2) = 0 ∧ (ahead = 0 ∨ 0 < ahead ∨ t.now = (s.now + (-ahead).toNat) % 2 ^ 64) ∧ (ahead < 0 ∨ t.now = s.now))) ∧
  (∀ (s : State) (ahead : Int), s.up = true → s.stk.join = none → s.g STK_STATUS_STATE = 2 → 0 < ahead → ahead ≤ 1000000 →
      Completes (.joinAuthDone true ahead) s (fun t => t.now = (s.now + ahead.toNat) % 2 ^ 64 ∧ t.stk = s.stk)) ∧
  (∀ (s : State) (d : Nat) (l : Nat), s.up = true → s.stk.join = some (d, l, 3) →
      Completes (.joinAuthTimeout) s (fun t => t.g SRF_STATUS_CAUSE l = 4 ∧ t.g STK_ERR_AUTH_FAIL = 1 ∧ t.reported (src 0x0E (32 + STK_ERR_AUTH_FAIL.lsb)) PF 0 = true ∧ t.stk.join = none ∧ t.g HJ_GATE_HELD (48 + l / 2) = 0)) ∧
  (∀ (s : State), s.up = true → s.stk.join = none →
      Completes (.joinAuthTimeout) s (fun t => t = s)) ∧
  (∀ (s : State) (x : JoinImage) (d : Nat) (l : Nat), s.up = true → s.stk.join = some (d, l, 5) → s.g STK_STATUS_STATE = 1 →
      Completes (.joinCopyDone x) s (fun t => t.stk.join = some (d, l, 6) ∧ t.stk.copy = some x ∧ t.regs = s.regs)) ∧
  (∀ (s : State) (x : JoinImage) (d : Nat) (l : Nat), s.up = true → s.stk.join = some (d, l, 5) → s.g STK_STATUS_STATE ≠ 1 →
      Completes (.joinCopyDone x) s (fun t => t.stk.join = some (d, l, 6) ∧ t.regs = s.regs)) ∧
  (∀ (s : State) (x : JoinImage) (d : Nat) (l : Nat), s.up = true → s.stk.join = some (d, l, 6) → s.g STK_STATUS_STATE = 1 → s.stk.copy = some x → s.sw.txns.any (fun e => e.2.dev == s.dev && e.2.kind.composed) = false →
      Completes (.joinComplete) s (fun t => t.g STK_STATUS_STATE = 2 ∧ t.g STK_STATUS_MASTER_DEV = d % 2 ^ STK_STATUS_MASTER_DEV.width ∧ t.g STK_STATUS_STACK_ID = x.stackId % 2 ^ STK_STATUS_STACK_ID.width ∧ t.g STK_STATUS_MEMBERS = (2 ^ s.dev ||| 2 ^ d) % 2 ^ STK_STATUS_MEMBERS.width ∧ t.stk.join = none ∧ t.g STK_CNT_JOINS = min (s.g STK_CNT_JOINS + 1) (2 ^ STK_CNT_JOINS.width - 1))) ∧
  (∀ (s : State) (d : Nat) (l : Nat), s.up = true → s.stk.join = some (d, l, 6) → s.g STK_STATUS_STATE ≠ 1 →
      Completes (.joinComplete) s (fun t => t.g STK_STATUS_MEMBERS = (s.g STK_STATUS_MEMBERS ||| 2 ^ d) % 2 ^ STK_STATUS_MEMBERS.width ∧ t.g STK_CNT_JOINS = min (s.g STK_CNT_JOINS + 1) (2 ^ STK_CNT_JOINS.width - 1))) ∧
  (∀ (s : State), s.up = true → s.stk.join = none →
      Completes (.joinComplete) s (fun t => t = s)) ∧
  (∀ (s : State) (d : DevId), s.up = true → s.cutOff d = true → d.val ≠ s.dev → s.g STK_STATUS_STATE = 3 → bit (s.g STK_STATUS_MEMBERS) d = true → s.hm.departed.contains d.val = false →
      Completes (.splitTimeout d) s (fun t => t.g STK_STATUS_MEMBERS = (s.g STK_STATUS_MEMBERS &&& (15 - 2 ^ d.val)) % 2 ^ STK_STATUS_MEMBERS.width ∧ t.hm.departed.contains d.val = true ∧ t.g STK_ERR_SPLIT = 1 ∧ t.reported (src 0x0E (32 + STK_ERR_SPLIT.lsb)) PF 0 = true ∧ t.g STK_STATUS_STATE = 3)) ∧
  (∀ (s : State) (d : DevId), s.up = true → s.cutOff d = true → d.val ≠ s.dev → s.g STK_STATUS_STATE = 2 → s.g STK_STATUS_MASTER_DEV = d →
      Completes (.splitTimeout d) s (fun t => t.g STK_STATUS_STATE = 4 ∧ t.g STK_STATUS_MEMBERS = 2 ^ s.dev % 2 ^ STK_STATUS_MEMBERS.width ∧ t.g STK_TIME_LOCKED = 0 ∧ t.g STK_ERR_SPLIT = 1)) ∧
  (∀ (s : State) (d : DevId), s.up = true → (s.cutOff d = false ∨ d.val = s.dev) →
      Completes (.splitTimeout d) s (fun t => t = s)) ∧
  (∀ (s : State) (l : Nat) (num : Int), s.up = true → (List.range 4).find? (fun l => s.linkState l == 4 && s.g SRF_PEER_DEV l == s.g STK_STATUS_MASTER_DEV) = some l → s.g STK_STATUS_STATE = 2 → (s.link l).sampled = true → num = ((((s.link l).ctrlRx : Int) - (s.link l).ctrlTx) - (((s.link l).echoRx : Int) - (s.link l).echoTx)) * 1000 - sext (s.g SRF_CFG_ASYM_PS l) 16 → -20000 ≤ num → num ≤ 20000 →
      Completes (.timeMeasure) s (fun t => t.g STK_TIME_OFFSET_NS = wrap (num / 2000) 32 ∧ t.stk.inTol = min (s.stk.inTol + 1) 4 ∧ t.stk.outTol = 0 ∧ (s.stk.inTol < 3 ∨ t.on STK_TIME_LOCKED = true) ∧ t.now = s.now)) ∧
  (∀ (s : State) (l : Nat) (num : Int), s.up = true → (List.range 4).find? (fun l => s.linkState l == 4 && s.g SRF_PEER_DEV l == s.g STK_STATUS_MASTER_DEV) = some l → s.g STK_STATUS_STATE = 2 → (s.link l).sampled = true → num = ((((s.link l).ctrlRx : Int) - (s.link l).ctrlTx) - (((s.link l).echoRx : Int) - (s.link l).echoTx)) * 1000 - sext (s.g SRF_CFG_ASYM_PS l) 16 → num / 2000 < -1000 →
      Completes (.timeMeasure) s (fun t => t.g STK_TIME_OFFSET_NS = wrap (num / 2000) 32 ∧ t.stk.inTol = 0 ∧ t.now = (s.now + (-(num / 2000)).toNat) % 2 ^ 64)) ∧
  (∀ (s : State), s.up = true → (List.range 4).find? (fun l => s.linkState l == 4 && s.g SRF_PEER_DEV l == s.g STK_STATUS_MASTER_DEV) = none →
      Completes (.timeMeasure) s (fun t => t = s)) ∧
  (∀ (s : State), s.up = true → s.stk.drawFailed = true → s.drbgOk = true →
      Completes (.stackIdDrawRetry) s (fun t => t.stk.drawFailed = false ∧ t.g STK_STATUS_STACK_ID = s.draw.1 % 2 ^ STK_STATUS_STACK_ID.width ∧ t.hj.draws = s.hj.draws + 1)) ∧
  (∀ (s : State), s.up = true → s.stk.drawFailed = false →
      Completes (.stackIdDrawRetry) s (fun t => t = s))

/-- Damper: power commands, curve selection, samples, trips, warnings, capture and the power-fail signals, case by case. POWER_ON of a slot in OFF without pilot hold or short, with a fast limit and a valid selected curve: OK and RAMP when the budget fits, RESOURCE_EXHAUSTED when not; of a powered slot LATE; in another state, with no fast limit or an invalid curve ACCESS_DENIED. POWER_OFF of a powered slot without a port: OK, OFF, counters cleared; without FORCE and its port ACTIVE or DRAINING ACCESS_DENIED; unpowered LATE. CLEAR of TRIPPED, or of FAULT without a short: OK, OFF, cause 0; of FAULT with a short ACCESS_DENIED; else LATE. A curve selection is taken, counters cleared, for an unpowered slot or a valid curve, else ACCESS_DENIED. With a one-point curve a sample at or over it counts, under it (dwell not 0) resets, and at the dwell trips (cause 1, point, TRIPS, PF record); an unpowered slot is only measured. A fast trip of a powered slot: TRIPPED, cause 2; unpowered nothing. A gate timeout in RAMP: FAULT with cause 3, or 4 with overdrive; else nothing. A voltage sample in RAMP over its limits: ON; one of an OFF slot that completes the short delay: FAULT, cause 5; VIN first below its warning: WARN_VIN. CAPTURE_WINDOW_END moves peak and minimum into their registers. The end of the PWRWARN hold releases PWRWARN unless a warning stands. PFAIL_N asserted shows PFAIL_NOW and, with PF_EN, no response active and PF_MSC_OFF, starts the response (PF record, MSC_EN 0; done at once without PF_FLUSH, FLUSH_BUSY with it and no dirty line); else starts none. Its release ends the condition. A hold-up timeout of an active response not done records PF_LATE as DF; else nothing (R338 to R355). Each clause concludes that exec answers a next state, from hypotheses on the state and the operands alone, for: POWER_ON, POWER_OFF, DAMPER_CLEAR, CURVE_SELECT_WRITE, DAMPER_CURRENT_SAMPLE, FAST_TRIP, GATE_TIMEOUT, DAMPER_VOLTAGE_SAMPLE, CAPTURE_WINDOW_END, PWRWARN_HOLD_END, PFAIL_ASSERT, PFAIL_RELEASE, HOLDUP_TIMEOUT. -/
def Obligations.DamperCommands : Prop :=
  (∀ (s : State) (m : Master) (c : SlotId), s.accepts m .DMP_CTRL c = true → s.powered c = false → s.g DMP_STATUS_STATE c = 0 → s.on PU_STATUS_PILOT = false → s.g DMP_LIM_FAST_MA c ≠ 0 → s.curveValid (s.g DMP_CFG_CURVE_SEL c) = true → s.on DMP_STATUS_SHORT_NOW c = false → s.g DMP_CFG_BUDGET_W c + s.g DMP_GSTATUS_BUDGET_USED_W ≤ s.g DMP_GCFG_TOTAL_W →
      Completes (.powerOn m c) s (fun t => t.g DMP_STATUS_STATE c = 1 ∧ t.mem = s.mem ∧ t.g DMP_STATUS_CMD_STATUS c = ST_OK ∧ t.answered m ST_OK)) ∧
  (∀ (s : State) (m : Master) (c : SlotId), s.accepts m .DMP_CTRL c = true → s.powered c = false → s.g DMP_STATUS_STATE c = 0 → s.on PU_STATUS_PILOT = false → s.g DMP_LIM_FAST_MA c ≠ 0 → s.curveValid (s.g DMP_CFG_CURVE_SEL c) = true → s.on DMP_STATUS_SHORT_NOW c = false → s.g DMP_GCFG_TOTAL_W < s.g DMP_CFG_BUDGET_W c + s.g DMP_GSTATUS_BUDGET_USED_W →
      Completes (.powerOn m c) s (fun t => t.g DMP_STATUS_STATE c = 0 ∧ t.dmp = s.dmp ∧ t.g DMP_STATUS_CMD_STATUS c = ST_RESOURCE_EXHAUSTED ∧ t.answered m ST_RESOURCE_EXHAUSTED)) ∧
  (∀ (s : State) (m : Master) (c : SlotId), s.accepts m .DMP_CTRL c = true → s.powered c = true →
      Completes (.powerOn m c) s (fun t => t.dmp = s.dmp ∧ t.g DMP_STATUS_CMD_STATUS c = ST_LATE ∧ t.answered m ST_LATE)) ∧
  (∀ (s : State) (m : Master) (c : SlotId), s.accepts m .DMP_CTRL c = true → s.powered c = false → (s.g DMP_STATUS_STATE c ≠ 0 ∨ s.g DMP_LIM_FAST_MA c = 0 ∨ s.curveValid (s.g DMP_CFG_CURVE_SEL c) = false) →
      Completes (.powerOn m c) s (fun t => t.dmp = s.dmp ∧ t.g DMP_STATUS_CMD_STATUS c = ST_ACCESS_DENIED ∧ t.answered m ST_ACCESS_DENIED)) ∧
  (∀ (s : State) (m : Master) (c : SlotId) (f : Bool), s.accepts m .DMP_CTRL c = true → s.powered c = true → s.on DMP_CFG_PORT_VALID c = false →
      Completes (.powerOff m c f) s (fun t => t.g DMP_STATUS_STATE c = 0 ∧ (t.dm c).counts = [] ∧ t.mem = s.mem ∧ t.g DMP_STATUS_CMD_STATUS c = ST_OK ∧ t.answered m ST_OK)) ∧
  (∀ (s : State) (m : Master) (c : SlotId) (f : Bool), s.accepts m .DMP_CTRL c = true → s.powered c = true → s.on DMP_CFG_PORT_VALID c = true → f = false → s.up = true → (s.portState (s.g DMP_CFG_PORT c) = 0 ∨ s.portState (s.g DMP_CFG_PORT c) = 1) →
      Completes (.powerOff m c f) s (fun t => t.dmp = s.dmp ∧ t.g DMP_STATUS_STATE c = s.g DMP_STATUS_STATE c ∧ t.g DMP_STATUS_CMD_STATUS c = ST_ACCESS_DENIED ∧ t.answered m ST_ACCESS_DENIED)) ∧
  (∀ (s : State) (m : Master) (c : SlotId) (f : Bool), s.accepts m .DMP_CTRL c = true → s.powered c = false →
      Completes (.powerOff m c f) s (fun t => t.dmp = s.dmp ∧ t.g DMP_STATUS_CMD_STATUS c = ST_LATE ∧ t.answered m ST_LATE)) ∧
  (∀ (s : State) (m : Master) (c : SlotId), s.accepts m .DMP_CTRL c = true → (s.g DMP_STATUS_STATE c = 3 ∨ (s.g DMP_STATUS_STATE c = 4 ∧ s.on DMP_STATUS_SHORT_NOW c = false)) →
      Completes (.damperClear m c) s (fun t => t.g DMP_STATUS_STATE c = 0 ∧ t.g DMP_STATUS_TRIP_CAUSE c = 0 ∧ t.g DMP_STATUS_CMD_STATUS c = ST_OK ∧ t.answered m ST_OK)) ∧
  (∀ (s : State) (m : Master) (c : SlotId), s.accepts m .DMP_CTRL c = true → s.g DMP_STATUS_STATE c = 4 → s.on DMP_STATUS_SHORT_NOW c = true →
      Completes (.damperClear m c) s (fun t => t.g DMP_STATUS_STATE c = 4 ∧ t.g DMP_STATUS_CMD_STATUS c = ST_ACCESS_DENIED ∧ t.answered m ST_ACCESS_DENIED)) ∧
  (∀ (s : State) (m : Master) (c : SlotId), s.accepts m .DMP_CTRL c = true → s.g DMP_STATUS_STATE c ≠ 3 → s.g DMP_STATUS_STATE c ≠ 4 →
      Completes (.damperClear m c) s (fun t => t.g DMP_STATUS_STATE c = s.g DMP_STATUS_STATE c ∧ t.g DMP_STATUS_CMD_STATUS c = ST_LATE ∧ t.answered m ST_LATE)) ∧
  (∀ (s : State) (m : Master) (c : SlotId) (n : Fin 8), s.accepts m .DMP_CFG c = true → (s.powered c = false ∨ s.curveValid n = true) →
      Completes (.curveSelectWrite m c n) s (fun t => t.g DMP_CFG_CURVE_SEL c = n ∧ (t.dm c).counts = [] ∧ t.answered m ST_OK)) ∧
  (∀ (s : State) (m : Master) (c : SlotId) (n : Fin 8), s.accepts m .DMP_CFG c = true → s.powered c = true → s.curveValid n = false →
      Completes (.curveSelectWrite m c n) s (fun t => t.regs = s.regs ∧ t.dmp = s.dmp ∧ t.answered m ST_ACCESS_DENIED)) ∧
  (∀ (s : State) (c : SlotId) (ma : Fin 40001) (p : Nat × Nat × Nat), s.powered c = true → s.curve (s.g DMP_CFG_CURVE_SEL c) = [p] → p.2.1 ≤ ma.val → p.2.2 ≤ ngetD (s.dm c).counts p.1 0 + 1 →
      Completes (.damperCurrentSample c ma) s (fun t => t.g DMP_STATUS_STATE c = 3 ∧ t.g DMP_STATUS_TRIP_CAUSE c = 1 ∧ t.g DMP_STATUS_TRIP_POINT c = p.1 % 2 ^ DMP_STATUS_TRIP_POINT.width ∧ t.g DMP_MEAS_I_MA c = ma ∧ t.g DMP_STATUS_TRIPS c = min (s.g DMP_STATUS_TRIPS c + 1) (2 ^ DMP_STATUS_TRIPS.width - 1) ∧ t.reported (src 0x0F DMP_ERR_TRIP_CURVE.lsb) PF (scope 8 c) = true)) ∧
  (∀ (s : State) (c : SlotId) (ma : Fin 40001) (p : Nat × Nat × Nat), s.powered c = true → s.curve (s.g DMP_CFG_CURVE_SEL c) = [p] → p.2.1 ≤ ma.val → ngetD (s.dm c).counts p.1 0 + 1 < p.2.2 →
      Completes (.damperCurrentSample c ma) s (fun t => t.g DMP_STATUS_STATE c = s.g DMP_STATUS_STATE c ∧ (t.dm c).counts = [(p.1, ngetD (s.dm c).counts p.1 0 + 1)] ∧ t.fu = s.fu)) ∧
  (∀ (s : State) (c : SlotId) (ma : Fin 40001) (p : Nat × Nat × Nat), s.powered c = true → s.curve (s.g DMP_CFG_CURVE_SEL c) = [p] → ma.val < p.2.1 → 0 < p.2.2 →
      Completes (.damperCurrentSample c ma) s (fun t => t.g DMP_STATUS_STATE c = s.g DMP_STATUS_STATE c ∧ (t.dm c).counts = [] ∧ t.fu = s.fu)) ∧
  (∀ (s : State) (c : SlotId) (ma : Fin 40001), s.powered c = false →
      Completes (.damperCurrentSample c ma) s (fun t => t.g DMP_MEAS_I_MA c = ma ∧ t.g DMP_CAP_PEAK_HOLD_MA c = max (s.g DMP_CAP_PEAK_HOLD_MA c) ma % 2 ^ DMP_CAP_PEAK_HOLD_MA.width ∧ (t.dm c).peak = max (s.dm c).peak ma ∧ t.fu = s.fu)) ∧
  (∀ (s : State) (c : SlotId), s.powered c = true →
      Completes (.fastTrip c) s (fun t => t.g DMP_STATUS_STATE c = 3 ∧ t.g DMP_STATUS_TRIP_CAUSE c = 2 ∧ t.reported (src 0x0F DMP_ERR_TRIP_FAST.lsb) PF (scope 8 c) = true)) ∧
  (∀ (s : State) (c : SlotId), s.powered c = false →
      Completes (.fastTrip c) s (fun t => t = s)) ∧
  (∀ (s : State) (c : SlotId), s.g DMP_STATUS_STATE c = 1 → (s.dm c).overdrive = false →
      Completes (.gateTimeout c) s (fun t => t.g DMP_STATUS_STATE c = 4 ∧ t.g DMP_STATUS_TRIP_CAUSE c = 3 ∧ t.reported (src 0x0F DMP_ERR_GATE_FAIL.lsb) PF (scope 8 c) = true)) ∧
  (∀ (s : State) (c : SlotId), s.g DMP_STATUS_STATE c = 1 → (s.dm c).overdrive = true →
      Completes (.gateTimeout c) s (fun t => t.g DMP_STATUS_STATE c = 4 ∧ t.g DMP_STATUS_TRIP_CAUSE c = 4 ∧ t.reported (src 0x0F DMP_ERR_PG_FAIL.lsb) PF (scope 8 c) = true)) ∧
  (∀ (s : State) (c : SlotId), s.g DMP_STATUS_STATE c ≠ 1 →
      Completes (.gateTimeout c) s (fun t => t = s)) ∧
  (∀ (s : State) (c : SlotId) (vin : Fin 16001) (vout : Fin 16001) (ov : BitVec 16), s.g DMP_STATUS_STATE c = 1 → s.g DMP_LIM_PG_MV c ≤ vout.val → 4000 < sext ov.toNat 16 → s.on DMP_STATUS_SHORT_NOW c = false →
      Completes (.damperVoltageSample c vin vout ov) s (fun t => t.g DMP_MEAS_VIN_MV c = vin ∧ t.g DMP_MEAS_VOUT_MV c = vout ∧ t.g DMP_MEAS_GATE_OV_MV c = ov.toNat ∧ t.g DMP_STATUS_STATE c = 2)) ∧
  (∀ (s : State) (c : SlotId) (vin : Fin 16001) (vout : Fin 16001) (ov : BitVec 16), s.g DMP_STATUS_STATE c = 0 → s.g DMP_LIM_SHORT_MV c ≤ vout.val → s.on DMP_STATUS_SHORT_NOW c = false → s.g DMP_LIM_SHORT_DLY_MS c * 125 ≤ (s.dm c).low + 1 →
      Completes (.damperVoltageSample c vin vout ov) s (fun t => t.g DMP_MEAS_VIN_MV c = vin ∧ t.g DMP_MEAS_VOUT_MV c = vout ∧ t.g DMP_MEAS_GATE_OV_MV c = ov.toNat ∧ t.g DMP_STATUS_STATE c = 4 ∧ t.g DMP_STATUS_TRIP_CAUSE c = 5 ∧ t.g DMP_STATUS_SHORT_NOW c = 1 ∧ t.reported (src 0x0F DMP_ERR_FET_SHORT.lsb) PF (scope 8 c) = true)) ∧
  (∀ (s : State) (c : SlotId) (vin : Fin 16001) (vout : Fin 16001) (ov : BitVec 16), vin.val < s.g DMP_GCFG_WARN_VIN_MV → (s.dm c).belowVin = false →
      Completes (.damperVoltageSample c vin vout ov) s (fun t => t.g DMP_MEAS_VIN_MV c = vin ∧ t.g DMP_MEAS_VOUT_MV c = vout ∧ t.g DMP_MEAS_GATE_OV_MV c = ov.toNat ∧ (t.dm c).belowVin = true ∧ t.g DMP_ERR_WARN_VIN c = 1 ∧ t.reported (src 0x0F DMP_ERR_WARN_VIN.lsb) CE (scope 8 c) = true)) ∧
  (∀ (s : State) (c : SlotId),
      Completes (.captureWindowEnd) s (fun t => t.g DMP_CAP_PEAK_MA c = (s.dm c).peak % 2 ^ DMP_CAP_PEAK_MA.width ∧ t.g DMP_CAP_MIN_VOUT_MV c = (match (s.dm c).minVout with | some v => v % 2 ^ DMP_CAP_MIN_VOUT_MV.width | none => s.g DMP_CAP_MIN_VOUT_MV c) ∧ (t.dm c).peak = 0 ∧ (t.dm c).minVout = none ∧ (t.dm c).counts = (s.dm c).counts)) ∧
  (∀ (s : State) (c : SlotId), s.warns c = false →
      Completes (.pwrwarnHoldEnd c) s (fun t => t.g DMP_STATUS_PWRWARN c = 0 ∧ (t.dm c).hold = false)) ∧
  (∀ (s : State) (c : SlotId), s.warns c = true → s.on DMP_STATUS_PWRWARN c = true →
      Completes (.pwrwarnHoldEnd c) s (fun t => t.on DMP_STATUS_PWRWARN c = true ∧ (t.dm c).hold = false)) ∧
  (∀ (s : State), (s.on DMP_PFAIL_CFG_PF_EN = false ∨ (s.on DMP_GSTATUS_PF_ACTIVE = true ∧ s.on DMP_GSTATUS_PF_DONE = false)) →
      Completes (.pfailAssert) s (fun t => t.g DMP_GSTATUS_PFAIL_NOW = 1 ∧ t.pins.pfailN = false ∧ t.g DMP_GSTATUS_PF_ACTIVE = s.g DMP_GSTATUS_PF_ACTIVE ∧ t.fu = s.fu)) ∧
  (∀ (s : State), s.up = true → s.on DMP_PFAIL_CFG_PF_EN = true → s.on DMP_GSTATUS_PF_ACTIVE = false → s.on DMP_PFAIL_CFG_PF_MSC_OFF = true → s.on DMP_PFAIL_CFG_PF_FLUSH = false →
      Completes (.pfailAssert) s (fun t => t.g DMP_GSTATUS_PFAIL_NOW = 1 ∧ t.pins.pfailN = false ∧ t.g DMP_GSTATUS_PF_ACTIVE = 1 ∧ t.g DMP_GERR_PFAIL = 1 ∧ t.reported (gerrSrc DMP_GERR_PFAIL) PF 0 = true ∧ t.g HOME_CFG_MSC_EN = 0 ∧ t.g DMP_GSTATUS_PF_DONE = 1)) ∧
  (∀ (s : State), s.up = true → s.on DMP_PFAIL_CFG_PF_EN = true → s.on DMP_GSTATUS_PF_ACTIVE = false → s.on DMP_PFAIL_CFG_PF_MSC_OFF = true → s.on DMP_PFAIL_CFG_PF_FLUSH = true → s.on MSC_CTRL_FLUSH_BUSY = false → s.hm.msc.all (fun e => !e.2.dirty) = true →
      Completes (.pfailAssert) s (fun t => t.g DMP_GSTATUS_PFAIL_NOW = 1 ∧ t.pins.pfailN = false ∧ t.g DMP_GSTATUS_PF_ACTIVE = 1 ∧ t.g DMP_GERR_PFAIL = 1 ∧ t.reported (gerrSrc DMP_GERR_PFAIL) PF 0 = true ∧ t.g HOME_CFG_MSC_EN = 0 ∧ t.g DMP_GSTATUS_PF_DONE = 0 ∧ t.g MSC_CTRL_FLUSH_BUSY = 1)) ∧
  (∀ (s : State),
      Completes (.pfailRelease) s (fun t => t.g DMP_GSTATUS_PFAIL_NOW = 0 ∧ t.pins.pfailN = true ∧ t.fu.conds.contains (gerrSrc DMP_GERR_PFAIL, 0) = false ∧ t.g DMP_GSTATUS_PF_ACTIVE = s.g DMP_GSTATUS_PF_ACTIVE ∧ t.mem = s.mem)) ∧
  (∀ (s : State), s.on DMP_GSTATUS_PF_ACTIVE = true → s.on DMP_GSTATUS_PF_DONE = false → s.cond (gerrSrc DMP_GERR_PF_LATE) 0 = false →
      Completes (.holdupTimeout) s (fun t => t.g DMP_GERR_PF_LATE = 1 ∧ t.reported (gerrSrc DMP_GERR_PF_LATE) DF 0 = true ∧ t.cond (gerrSrc DMP_GERR_PF_LATE) 0 = true)) ∧
  (∀ (s : State), (s.on DMP_GSTATUS_PF_ACTIVE = false ∨ s.on DMP_GSTATUS_PF_DONE = true) →
      Completes (.holdupTimeout) s (fun t => t = s))

/-- The sixteen writes of HJ_CMD: a command started, a busy channel, a repeated tag, the error state and a refused master. For each of the sixteen commands: on an idle channel with a new tag, no other command of Hjelvon held, no error state and every start check passing (the master may use it, its slot, the random generator and its input and output ranges where it has them), the write answers OK, the command runs with its opcode and tag and the channel is BUSY; the commands that use a key hold the key their slot has then; KEY_ERASE makes its slot ERASING, ZEROISE_ALL leaves slots 1 to 255 with state 0 and the DRBG not instantiated, and every other command leaves the key slots as they are; a busy channel answers RESOURCE_EXHAUSTED and nothing else changes; the last tag repeated answers the stored status. In the error state KEY_GEN and HASH end with INTERNAL; ANCHOR_SET, RB_ADVANCE and GCM_ENC of a master that may not use them end with ACCESS_DENIED and leave memory and key slots alone (R361 to R365, R375). Each clause concludes that exec answers a next state, from hypotheses on the state and the operands alone, for: KEY_GEN, KEY_IMPORT, KEY_ERASE, KEY_INFO, ANCHOR_SET, GCM_ENC, GCM_DEC, SIGN, VERIFY_DUAL, HASH, HMAC, RANDOM, TALLY_WRITE, RB_ADVANCE, SELFTEST, ZEROISE_ALL. -/
def Obligations.HjelvonStarts : Prop :=
  (∀ (s : State) (m : Master) (k : ChanId) (tag : Fin 65536) (o : HjOp), s.accepts m .HJ_CMD k = true → s.on HJ_RESP_BUSY k = false → (s.hj.done.contains k.val = false ∨ s.g HJ_RESP_TAG k ≠ tag) → s.on HJ_STATUS_ERROR_STATE = false → s.hj.ops = [] → o = { master := m, opcode := 1, tag := tag, args := (List.range 4).map (fun a => s.g HJ_ARG_ARG k a) } → s.hjMay m 1 = true → s.hjStartStatus o = ST_OK → s.drbgOk = true → (pubLen (bits (o.arg 0) 12 4) = 0 ∨ (s.rangeCheck m (o.arg 1) (pubLen (bits (o.arg 0) 12 4)) 1).2 = true) →
      Completes (.keyGen m k tag) s (fun t => t.g HJ_RESP_BUSY k = 1 ∧ (t.hjOp k).map (fun x => (x.running, x.opcode, x.tag)) = some (true, 1, tag.val) ∧ t.answered m ST_OK ∧ t.mem = s.mem ∧ t.hj.slots = s.hj.slots)) ∧
  (∀ (s : State) (m : Master) (k : ChanId) (tag : Fin 65536), s.accepts m .HJ_CMD k = true → s.on HJ_RESP_BUSY k = true →
      Completes (.keyGen m k tag) s (fun t => t = s.reply m ST_RESOURCE_EXHAUSTED)) ∧
  (∀ (s : State) (m : Master) (k : ChanId) (tag : Fin 65536), s.accepts m .HJ_CMD k = true → s.on HJ_RESP_BUSY k = false → s.hj.done.contains k.val = true → s.g HJ_RESP_TAG k = tag →
      Completes (.keyGen m k tag) s (fun t => t = s.reply m (s.g HJ_RESP_STATUS k))) ∧
  (∀ (s : State) (m : Master) (k : ChanId) (tag : Fin 65536) (o : HjOp), s.accepts m .HJ_CMD k = true → s.on HJ_RESP_BUSY k = false → (s.hj.done.contains k.val = false ∨ s.g HJ_RESP_TAG k ≠ tag) → s.on HJ_STATUS_ERROR_STATE = false → s.hj.ops = [] → o = { master := m, opcode := 2, tag := tag, args := (List.range 4).map (fun a => s.g HJ_ARG_ARG k a) } → s.hjMay m 2 = true → s.hjStartStatus o = ST_OK → (match o.uses with | some u => s.slotUse m u.1 u.2.1 u.2.2 | none => ST_OK) = ST_OK → o.inputs.all (fun x => (s.rangeCheck m x.1 x.2 0).2) = true →
      Completes (.keyImport m k tag) s (fun t => t.g HJ_RESP_BUSY k = 1 ∧ (t.hjOp k).map (fun x => (x.running, x.opcode, x.tag)) = some (true, 2, tag.val) ∧ t.answered m ST_OK ∧ t.mem = s.mem ∧ (t.hjOp k).map (·.key) = some (s.slot (o.arg 1)).key ∧ t.hj.slots = s.hj.slots)) ∧
  (∀ (s : State) (m : Master) (k : ChanId) (tag : Fin 65536), s.accepts m .HJ_CMD k = true → s.on HJ_RESP_BUSY k = true →
      Completes (.keyImport m k tag) s (fun t => t = s.reply m ST_RESOURCE_EXHAUSTED)) ∧
  (∀ (s : State) (m : Master) (k : ChanId) (tag : Fin 65536), s.accepts m .HJ_CMD k = true → s.on HJ_RESP_BUSY k = false → s.hj.done.contains k.val = true → s.g HJ_RESP_TAG k = tag →
      Completes (.keyImport m k tag) s (fun t => t = s.reply m (s.g HJ_RESP_STATUS k))) ∧
  (∀ (s : State) (m : Master) (k : ChanId) (tag : Fin 65536) (o : HjOp), s.accepts m .HJ_CMD k = true → s.on HJ_RESP_BUSY k = false → (s.hj.done.contains k.val = false ∨ s.g HJ_RESP_TAG k ≠ tag) → s.on HJ_STATUS_ERROR_STATE = false → s.hj.ops = [] → o = { master := m, opcode := 3, tag := tag, args := (List.range 4).map (fun a => s.g HJ_ARG_ARG k a) } → s.hjMay m 3 = true → s.hjStartStatus o = ST_OK →
      Completes (.keyErase m k tag) s (fun t => t.g HJ_RESP_BUSY k = 1 ∧ (t.hjOp k).map (fun x => (x.running, x.opcode, x.tag)) = some (true, 3, tag.val) ∧ t.answered m ST_OK ∧ t.mem = s.mem ∧ (t.slot (o.arg 0)).state = 2)) ∧
  (∀ (s : State) (m : Master) (k : ChanId) (tag : Fin 65536), s.accepts m .HJ_CMD k = true → s.on HJ_RESP_BUSY k = true →
      Completes (.keyErase m k tag) s (fun t => t = s.reply m ST_RESOURCE_EXHAUSTED)) ∧
  (∀ (s : State) (m : Master) (k : ChanId) (tag : Fin 65536), s.accepts m .HJ_CMD k = true → s.on HJ_RESP_BUSY k = false → s.hj.done.contains k.val = true → s.g HJ_RESP_TAG k = tag →
      Completes (.keyErase m k tag) s (fun t => t = s.reply m (s.g HJ_RESP_STATUS k))) ∧
  (∀ (s : State) (m : Master) (k : ChanId) (tag : Fin 65536) (o : HjOp), s.accepts m .HJ_CMD k = true → s.on HJ_RESP_BUSY k = false → (s.hj.done.contains k.val = false ∨ s.g HJ_RESP_TAG k ≠ tag) → s.on HJ_STATUS_ERROR_STATE = false → s.hj.ops = [] → o = { master := m, opcode := 4, tag := tag, args := (List.range 4).map (fun a => s.g HJ_ARG_ARG k a) } → s.hjMay m 4 = true → s.hjStartStatus o = ST_OK →
      Completes (.keyInfo m k tag) s (fun t => t.g HJ_RESP_BUSY k = 1 ∧ (t.hjOp k).map (fun x => (x.running, x.opcode, x.tag)) = some (true, 4, tag.val) ∧ t.answered m ST_OK ∧ t.mem = s.mem ∧ t.hj.slots = s.hj.slots)) ∧
  (∀ (s : State) (m : Master) (k : ChanId) (tag : Fin 65536), s.accepts m .HJ_CMD k = true → s.on HJ_RESP_BUSY k = true →
      Completes (.keyInfo m k tag) s (fun t => t = s.reply m ST_RESOURCE_EXHAUSTED)) ∧
  (∀ (s : State) (m : Master) (k : ChanId) (tag : Fin 65536), s.accepts m .HJ_CMD k = true → s.on HJ_RESP_BUSY k = false → s.hj.done.contains k.val = true → s.g HJ_RESP_TAG k = tag →
      Completes (.keyInfo m k tag) s (fun t => t = s.reply m (s.g HJ_RESP_STATUS k))) ∧
  (∀ (s : State) (m : Master) (k : ChanId) (tag : Fin 65536) (o : HjOp), s.accepts m .HJ_CMD k = true → s.on HJ_RESP_BUSY k = false → (s.hj.done.contains k.val = false ∨ s.g HJ_RESP_TAG k ≠ tag) → s.on HJ_STATUS_ERROR_STATE = false → s.hj.ops = [] → o = { master := m, opcode := 5, tag := tag, args := (List.range 4).map (fun a => s.g HJ_ARG_ARG k a) } → s.hjMay m 5 = true → s.hjStartStatus o = ST_OK → o.inputs.all (fun x => (s.rangeCheck m x.1 x.2 0).2) = true →
      Completes (.anchorSet m k tag) s (fun t => t.g HJ_RESP_BUSY k = 1 ∧ (t.hjOp k).map (fun x => (x.running, x.opcode, x.tag)) = some (true, 5, tag.val) ∧ t.answered m ST_OK ∧ t.mem = s.mem ∧ t.hj.slots = s.hj.slots)) ∧
  (∀ (s : State) (m : Master) (k : ChanId) (tag : Fin 65536), s.accepts m .HJ_CMD k = true → s.on HJ_RESP_BUSY k = true →
      Completes (.anchorSet m k tag) s (fun t => t = s.reply m ST_RESOURCE_EXHAUSTED)) ∧
  (∀ (s : State) (m : Master) (k : ChanId) (tag : Fin 65536), s.accepts m .HJ_CMD k = true → s.on HJ_RESP_BUSY k = false → s.hj.done.contains k.val = true → s.g HJ_RESP_TAG k = tag →
      Completes (.anchorSet m k tag) s (fun t => t = s.reply m (s.g HJ_RESP_STATUS k))) ∧
  (∀ (s : State) (m : Master) (k : ChanId) (tag : Fin 65536) (o : HjOp), s.accepts m .HJ_CMD k = true → s.on HJ_RESP_BUSY k = false → (s.hj.done.contains k.val = false ∨ s.g HJ_RESP_TAG k ≠ tag) → s.on HJ_STATUS_ERROR_STATE = false → s.hj.ops = [] → o = { master := m, opcode := 16, tag := tag, args := (List.range 4).map (fun a => s.g HJ_ARG_ARG k a) } → s.hjMay m 16 = true → s.hjStartStatus o = ST_OK → (match o.uses with | some u => s.slotUse m u.1 u.2.1 u.2.2 | none => ST_OK) = ST_OK → s.drbgOk = true → o.inputs.all (fun x => (s.rangeCheck m x.1 x.2 0).2) = true →
      Completes (.gcmEnc m k tag) s (fun t => t.g HJ_RESP_BUSY k = 1 ∧ (t.hjOp k).map (fun x => (x.running, x.opcode, x.tag)) = some (true, 16, tag.val) ∧ t.answered m ST_OK ∧ t.mem = s.mem ∧ (t.hjOp k).map (·.key) = some (s.slot (o.arg 0)).key ∧ t.hj.slots = s.hj.slots)) ∧
  (∀ (s : State) (m : Master) (k : ChanId) (tag : Fin 65536), s.accepts m .HJ_CMD k = true → s.on HJ_RESP_BUSY k = true →
      Completes (.gcmEnc m k tag) s (fun t => t = s.reply m ST_RESOURCE_EXHAUSTED)) ∧
  (∀ (s : State) (m : Master) (k : ChanId) (tag : Fin 65536), s.accepts m .HJ_CMD k = true → s.on HJ_RESP_BUSY k = false → s.hj.done.contains k.val = true → s.g HJ_RESP_TAG k = tag →
      Completes (.gcmEnc m k tag) s (fun t => t = s.reply m (s.g HJ_RESP_STATUS k))) ∧
  (∀ (s : State) (m : Master) (k : ChanId) (tag : Fin 65536) (o : HjOp), s.accepts m .HJ_CMD k = true → s.on HJ_RESP_BUSY k = false → (s.hj.done.contains k.val = false ∨ s.g HJ_RESP_TAG k ≠ tag) → s.on HJ_STATUS_ERROR_STATE = false → s.hj.ops = [] → o = { master := m, opcode := 17, tag := tag, args := (List.range 4).map (fun a => s.g HJ_ARG_ARG k a) } → s.hjMay m 17 = true → s.hjStartStatus o = ST_OK → (match o.uses with | some u => s.slotUse m u.1 u.2.1 u.2.2 | none => ST_OK) = ST_OK → o.inputs.all (fun x => (s.rangeCheck m x.1 x.2 0).2) = true →
      Completes (.gcmDec m k tag) s (fun t => t.g HJ_RESP_BUSY k = 1 ∧ (t.hjOp k).map (fun x => (x.running, x.opcode, x.tag)) = some (true, 17, tag.val) ∧ t.answered m ST_OK ∧ t.mem = s.mem ∧ (t.hjOp k).map (·.key) = some (s.slot (o.arg 0)).key ∧ t.hj.slots = s.hj.slots)) ∧
  (∀ (s : State) (m : Master) (k : ChanId) (tag : Fin 65536), s.accepts m .HJ_CMD k = true → s.on HJ_RESP_BUSY k = true →
      Completes (.gcmDec m k tag) s (fun t => t = s.reply m ST_RESOURCE_EXHAUSTED)) ∧
  (∀ (s : State) (m : Master) (k : ChanId) (tag : Fin 65536), s.accepts m .HJ_CMD k = true → s.on HJ_RESP_BUSY k = false → s.hj.done.contains k.val = true → s.g HJ_RESP_TAG k = tag →
      Completes (.gcmDec m k tag) s (fun t => t = s.reply m (s.g HJ_RESP_STATUS k))) ∧
  (∀ (s : State) (m : Master) (k : ChanId) (tag : Fin 65536) (o : HjOp), s.accepts m .HJ_CMD k = true → s.on HJ_RESP_BUSY k = false → (s.hj.done.contains k.val = false ∨ s.g HJ_RESP_TAG k ≠ tag) → s.on HJ_STATUS_ERROR_STATE = false → s.hj.ops = [] → o = { master := m, opcode := 18, tag := tag, args := (List.range 4).map (fun a => s.g HJ_ARG_ARG k a) } → s.hjMay m 18 = true → s.hjStartStatus o = ST_OK → (match o.uses with | some u => s.slotUse m u.1 u.2.1 u.2.2 | none => ST_OK) = ST_OK → s.drbgOk = true → o.inputs.all (fun x => (s.rangeCheck m x.1 x.2 0).2) = true →
      Completes (.sign m k tag) s (fun t => t.g HJ_RESP_BUSY k = 1 ∧ (t.hjOp k).map (fun x => (x.running, x.opcode, x.tag)) = some (true, 18, tag.val) ∧ t.answered m ST_OK ∧ t.mem = s.mem ∧ (t.hjOp k).map (·.key) = some (s.slot (o.arg 0)).key ∧ t.hj.slots = s.hj.slots)) ∧
  (∀ (s : State) (m : Master) (k : ChanId) (tag : Fin 65536), s.accepts m .HJ_CMD k = true → s.on HJ_RESP_BUSY k = true →
      Completes (.sign m k tag) s (fun t => t = s.reply m ST_RESOURCE_EXHAUSTED)) ∧
  (∀ (s : State) (m : Master) (k : ChanId) (tag : Fin 65536), s.accepts m .HJ_CMD k = true → s.on HJ_RESP_BUSY k = false → s.hj.done.contains k.val = true → s.g HJ_RESP_TAG k = tag →
      Completes (.sign m k tag) s (fun t => t = s.reply m (s.g HJ_RESP_STATUS k))) ∧
  (∀ (s : State) (m : Master) (k : ChanId) (tag : Fin 65536) (o : HjOp), s.accepts m .HJ_CMD k = true → s.on HJ_RESP_BUSY k = false → (s.hj.done.contains k.val = false ∨ s.g HJ_RESP_TAG k ≠ tag) → s.on HJ_STATUS_ERROR_STATE = false → s.hj.ops = [] → o = { master := m, opcode := 19, tag := tag, args := (List.range 4).map (fun a => s.g HJ_ARG_ARG k a) } → s.hjMay m 19 = true → s.hjStartStatus o = ST_OK → o.inputs.all (fun x => (s.rangeCheck m x.1 x.2 0).2) = true →
      Completes (.verifyDual m k tag) s (fun t => t.g HJ_RESP_BUSY k = 1 ∧ (t.hjOp k).map (fun x => (x.running, x.opcode, x.tag)) = some (true, 19, tag.val) ∧ t.answered m ST_OK ∧ t.mem = s.mem ∧ t.hj.slots = s.hj.slots)) ∧
  (∀ (s : State) (m : Master) (k : ChanId) (tag : Fin 65536), s.accepts m .HJ_CMD k = true → s.on HJ_RESP_BUSY k = true →
      Completes (.verifyDual m k tag) s (fun t => t = s.reply m ST_RESOURCE_EXHAUSTED)) ∧
  (∀ (s : State) (m : Master) (k : ChanId) (tag : Fin 65536), s.accepts m .HJ_CMD k = true → s.on HJ_RESP_BUSY k = false → s.hj.done.contains k.val = true → s.g HJ_RESP_TAG k = tag →
      Completes (.verifyDual m k tag) s (fun t => t = s.reply m (s.g HJ_RESP_STATUS k))) ∧
  (∀ (s : State) (m : Master) (k : ChanId) (tag : Fin 65536) (o : HjOp), s.accepts m .HJ_CMD k = true → s.on HJ_RESP_BUSY k = false → (s.hj.done.contains k.val = false ∨ s.g HJ_RESP_TAG k ≠ tag) → s.on HJ_STATUS_ERROR_STATE = false → s.hj.ops = [] → o = { master := m, opcode := 20, tag := tag, args := (List.range 4).map (fun a => s.g HJ_ARG_ARG k a) } → s.hjMay m 20 = true → s.hjStartStatus o = ST_OK → o.inputs.all (fun x => (s.rangeCheck m x.1 x.2 0).2) = true →
      Completes (.hash m k tag) s (fun t => t.g HJ_RESP_BUSY k = 1 ∧ (t.hjOp k).map (fun x => (x.running, x.opcode, x.tag)) = some (true, 20, tag.val) ∧ t.answered m ST_OK ∧ t.mem = s.mem ∧ t.hj.slots = s.hj.slots)) ∧
  (∀ (s : State) (m : Master) (k : ChanId) (tag : Fin 65536), s.accepts m .HJ_CMD k = true → s.on HJ_RESP_BUSY k = true →
      Completes (.hash m k tag) s (fun t => t = s.reply m ST_RESOURCE_EXHAUSTED)) ∧
  (∀ (s : State) (m : Master) (k : ChanId) (tag : Fin 65536), s.accepts m .HJ_CMD k = true → s.on HJ_RESP_BUSY k = false → s.hj.done.contains k.val = true → s.g HJ_RESP_TAG k = tag →
      Completes (.hash m k tag) s (fun t => t = s.reply m (s.g HJ_RESP_STATUS k))) ∧
  (∀ (s : State) (m : Master) (k : ChanId) (tag : Fin 65536) (o : HjOp), s.accepts m .HJ_CMD k = true → s.on HJ_RESP_BUSY k = false → (s.hj.done.contains k.val = false ∨ s.g HJ_RESP_TAG k ≠ tag) → s.on HJ_STATUS_ERROR_STATE = false → s.hj.ops = [] → o = { master := m, opcode := 21, tag := tag, args := (List.range 4).map (fun a => s.g HJ_ARG_ARG k a) } → s.hjMay m 21 = true → s.hjStartStatus o = ST_OK → (match o.uses with | some u => s.slotUse m u.1 u.2.1 u.2.2 | none => ST_OK) = ST_OK → o.inputs.all (fun x => (s.rangeCheck m x.1 x.2 0).2) = true →
      Completes (.hmac m k tag) s (fun t => t.g HJ_RESP_BUSY k = 1 ∧ (t.hjOp k).map (fun x => (x.running, x.opcode, x.tag)) = some (true, 21, tag.val) ∧ t.answered m ST_OK ∧ t.mem = s.mem ∧ (t.hjOp k).map (·.key) = some (s.slot (o.arg 0)).key ∧ t.hj.slots = s.hj.slots)) ∧
  (∀ (s : State) (m : Master) (k : ChanId) (tag : Fin 65536), s.accepts m .HJ_CMD k = true → s.on HJ_RESP_BUSY k = true →
      Completes (.hmac m k tag) s (fun t => t = s.reply m ST_RESOURCE_EXHAUSTED)) ∧
  (∀ (s : State) (m : Master) (k : ChanId) (tag : Fin 65536), s.accepts m .HJ_CMD k = true → s.on HJ_RESP_BUSY k = false → s.hj.done.contains k.val = true → s.g HJ_RESP_TAG k = tag →
      Completes (.hmac m k tag) s (fun t => t = s.reply m (s.g HJ_RESP_STATUS k))) ∧
  (∀ (s : State) (m : Master) (k : ChanId) (tag : Fin 65536) (o : HjOp), s.accepts m .HJ_CMD k = true → s.on HJ_RESP_BUSY k = false → (s.hj.done.contains k.val = false ∨ s.g HJ_RESP_TAG k ≠ tag) → s.on HJ_STATUS_ERROR_STATE = false → s.hj.ops = [] → o = { master := m, opcode := 32, tag := tag, args := (List.range 4).map (fun a => s.g HJ_ARG_ARG k a) } → s.hjMay m 32 = true → s.hjStartStatus o = ST_OK → s.drbgOk = true →
      Completes (.random m k tag) s (fun t => t.g HJ_RESP_BUSY k = 1 ∧ (t.hjOp k).map (fun x => (x.running, x.opcode, x.tag)) = some (true, 32, tag.val) ∧ t.answered m ST_OK ∧ t.mem = s.mem ∧ t.hj.slots = s.hj.slots)) ∧
  (∀ (s : State) (m : Master) (k : ChanId) (tag : Fin 65536), s.accepts m .HJ_CMD k = true → s.on HJ_RESP_BUSY k = true →
      Completes (.random m k tag) s (fun t => t = s.reply m ST_RESOURCE_EXHAUSTED)) ∧
  (∀ (s : State) (m : Master) (k : ChanId) (tag : Fin 65536), s.accepts m .HJ_CMD k = true → s.on HJ_RESP_BUSY k = false → s.hj.done.contains k.val = true → s.g HJ_RESP_TAG k = tag →
      Completes (.random m k tag) s (fun t => t = s.reply m (s.g HJ_RESP_STATUS k))) ∧
  (∀ (s : State) (m : Master) (k : ChanId) (tag : Fin 65536) (o : HjOp), s.accepts m .HJ_CMD k = true → s.on HJ_RESP_BUSY k = false → (s.hj.done.contains k.val = false ∨ s.g HJ_RESP_TAG k ≠ tag) → s.on HJ_STATUS_ERROR_STATE = false → s.hj.ops = [] → o = { master := m, opcode := 48, tag := tag, args := (List.range 4).map (fun a => s.g HJ_ARG_ARG k a) } → s.hjMay m 48 = true → s.hjStartStatus o = ST_OK →
      Completes (.tallyWrite m k tag) s (fun t => t.g HJ_RESP_BUSY k = 1 ∧ (t.hjOp k).map (fun x => (x.running, x.opcode, x.tag)) = some (true, 48, tag.val) ∧ t.answered m ST_OK ∧ t.mem = s.mem ∧ t.hj.slots = s.hj.slots)) ∧
  (∀ (s : State) (m : Master) (k : ChanId) (tag : Fin 65536), s.accepts m .HJ_CMD k = true → s.on HJ_RESP_BUSY k = true →
      Completes (.tallyWrite m k tag) s (fun t => t = s.reply m ST_RESOURCE_EXHAUSTED)) ∧
  (∀ (s : State) (m : Master) (k : ChanId) (tag : Fin 65536), s.accepts m .HJ_CMD k = true → s.on HJ_RESP_BUSY k = false → s.hj.done.contains k.val = true → s.g HJ_RESP_TAG k = tag →
      Completes (.tallyWrite m k tag) s (fun t => t = s.reply m (s.g HJ_RESP_STATUS k))) ∧
  (∀ (s : State) (m : Master) (k : ChanId) (tag : Fin 65536) (o : HjOp), s.accepts m .HJ_CMD k = true → s.on HJ_RESP_BUSY k = false → (s.hj.done.contains k.val = false ∨ s.g HJ_RESP_TAG k ≠ tag) → s.on HJ_STATUS_ERROR_STATE = false → s.hj.ops = [] → o = { master := m, opcode := 49, tag := tag, args := (List.range 4).map (fun a => s.g HJ_ARG_ARG k a) } → s.hjMay m 49 = true → s.hjStartStatus o = ST_OK →
      Completes (.rbAdvance m k tag) s (fun t => t.g HJ_RESP_BUSY k = 1 ∧ (t.hjOp k).map (fun x => (x.running, x.opcode, x.tag)) = some (true, 49, tag.val) ∧ t.answered m ST_OK ∧ t.mem = s.mem ∧ t.hj.slots = s.hj.slots)) ∧
  (∀ (s : State) (m : Master) (k : ChanId) (tag : Fin 65536), s.accepts m .HJ_CMD k = true → s.on HJ_RESP_BUSY k = true →
      Completes (.rbAdvance m k tag) s (fun t => t = s.reply m ST_RESOURCE_EXHAUSTED)) ∧
  (∀ (s : State) (m : Master) (k : ChanId) (tag : Fin 65536), s.accepts m .HJ_CMD k = true → s.on HJ_RESP_BUSY k = false → s.hj.done.contains k.val = true → s.g HJ_RESP_TAG k = tag →
      Completes (.rbAdvance m k tag) s (fun t => t = s.reply m (s.g HJ_RESP_STATUS k))) ∧
  (∀ (s : State) (m : Master) (k : ChanId) (tag : Fin 65536) (o : HjOp), s.accepts m .HJ_CMD k = true → s.on HJ_RESP_BUSY k = false → (s.hj.done.contains k.val = false ∨ s.g HJ_RESP_TAG k ≠ tag) → s.on HJ_STATUS_ERROR_STATE = false → s.hj.ops = [] → o = { master := m, opcode := 64, tag := tag, args := (List.range 4).map (fun a => s.g HJ_ARG_ARG k a) } → s.hjMay m 64 = true → s.hjStartStatus o = ST_OK →
      Completes (.selftest m k tag) s (fun t => t.g HJ_RESP_BUSY k = 1 ∧ (t.hjOp k).map (fun x => (x.running, x.opcode, x.tag)) = some (true, 64, tag.val) ∧ t.answered m ST_OK ∧ t.mem = s.mem ∧ t.hj.slots = s.hj.slots)) ∧
  (∀ (s : State) (m : Master) (k : ChanId) (tag : Fin 65536), s.accepts m .HJ_CMD k = true → s.on HJ_RESP_BUSY k = true →
      Completes (.selftest m k tag) s (fun t => t = s.reply m ST_RESOURCE_EXHAUSTED)) ∧
  (∀ (s : State) (m : Master) (k : ChanId) (tag : Fin 65536), s.accepts m .HJ_CMD k = true → s.on HJ_RESP_BUSY k = false → s.hj.done.contains k.val = true → s.g HJ_RESP_TAG k = tag →
      Completes (.selftest m k tag) s (fun t => t = s.reply m (s.g HJ_RESP_STATUS k))) ∧
  (∀ (s : State) (m : Master) (k : ChanId) (tag : Fin 65536) (o : HjOp), s.accepts m .HJ_CMD k = true → s.on HJ_RESP_BUSY k = false → (s.hj.done.contains k.val = false ∨ s.g HJ_RESP_TAG k ≠ tag) → s.on HJ_STATUS_ERROR_STATE = false → s.hj.ops = [] → o = { master := m, opcode := 65, tag := tag, args := (List.range 4).map (fun a => s.g HJ_ARG_ARG k a) } → s.hjMay m 65 = true → s.hjStartStatus o = ST_OK →
      Completes (.zeroiseAll m k tag) s (fun t => t.g HJ_RESP_BUSY k = 1 ∧ (t.hjOp k).map (fun x => (x.running, x.opcode, x.tag)) = some (true, 65, tag.val) ∧ t.answered m ST_OK ∧ t.mem = s.mem ∧ (List.range 255).all (fun n => (t.slot (n + 1)).state == 0) = true ∧ t.g HJ_DRBG_STATUS_INSTANTIATED = 0)) ∧
  (∀ (s : State) (m : Master) (k : ChanId) (tag : Fin 65536), s.accepts m .HJ_CMD k = true → s.on HJ_RESP_BUSY k = true →
      Completes (.zeroiseAll m k tag) s (fun t => t = s.reply m ST_RESOURCE_EXHAUSTED)) ∧
  (∀ (s : State) (m : Master) (k : ChanId) (tag : Fin 65536), s.accepts m .HJ_CMD k = true → s.on HJ_RESP_BUSY k = false → s.hj.done.contains k.val = true → s.g HJ_RESP_TAG k = tag →
      Completes (.zeroiseAll m k tag) s (fun t => t = s.reply m (s.g HJ_RESP_STATUS k))) ∧
  (∀ (s : State) (m : Master) (k : ChanId) (tag : Fin 65536), s.accepts m .HJ_CMD k = true → s.on HJ_RESP_BUSY k = false → (s.hj.done.contains k.val = false ∨ s.g HJ_RESP_TAG k ≠ tag) → s.on HJ_STATUS_ERROR_STATE = true →
      Completes (.keyGen m k tag) s (fun t => t.g HJ_RESP_STATUS k = ST_INTERNAL ∧ t.g HJ_RESP_TAG k = tag ∧ t.g HJ_RESP_BUSY k = 0 ∧ t.answered m ST_INTERNAL)) ∧
  (∀ (s : State) (m : Master) (k : ChanId) (tag : Fin 65536), s.accepts m .HJ_CMD k = true → s.on HJ_RESP_BUSY k = false → (s.hj.done.contains k.val = false ∨ s.g HJ_RESP_TAG k ≠ tag) → s.on HJ_STATUS_ERROR_STATE = true →
      Completes (.hash m k tag) s (fun t => t.g HJ_RESP_STATUS k = ST_INTERNAL ∧ t.g HJ_RESP_TAG k = tag ∧ t.g HJ_RESP_BUSY k = 0 ∧ t.answered m ST_INTERNAL)) ∧
  (∀ (s : State) (m : Master) (k : ChanId) (tag : Fin 65536), s.accepts m .HJ_CMD k = true → s.on HJ_RESP_BUSY k = false → (s.hj.done.contains k.val = false ∨ s.g HJ_RESP_TAG k ≠ tag) → s.on HJ_STATUS_ERROR_STATE = false → s.hj.ops = [] → s.hjMay m 5 = false →
      Completes (.anchorSet m k tag) s (fun t => t.g HJ_RESP_STATUS k = ST_ACCESS_DENIED ∧ t.g HJ_RESP_BUSY k = 0 ∧ t.answered m ST_ACCESS_DENIED ∧ t.mem = s.mem ∧ t.hj.slots = s.hj.slots)) ∧
  (∀ (s : State) (m : Master) (k : ChanId) (tag : Fin 65536), s.accepts m .HJ_CMD k = true → s.on HJ_RESP_BUSY k = false → (s.hj.done.contains k.val = false ∨ s.g HJ_RESP_TAG k ≠ tag) → s.on HJ_STATUS_ERROR_STATE = false → s.hj.ops = [] → s.hjMay m 49 = false →
      Completes (.rbAdvance m k tag) s (fun t => t.g HJ_RESP_STATUS k = ST_ACCESS_DENIED ∧ t.g HJ_RESP_BUSY k = 0 ∧ t.answered m ST_ACCESS_DENIED ∧ t.mem = s.mem ∧ t.hj.slots = s.hj.slots)) ∧
  (∀ (s : State) (m : Master) (k : ChanId) (tag : Fin 65536), s.accepts m .HJ_CMD k = true → s.on HJ_RESP_BUSY k = false → (s.hj.done.contains k.val = false ∨ s.g HJ_RESP_TAG k ≠ tag) → s.on HJ_STATUS_ERROR_STATE = false → s.hj.ops = [] → s.hjMay m 16 = false →
      Completes (.gcmEnc m k tag) s (fun t => t.g HJ_RESP_STATUS k = ST_ACCESS_DENIED ∧ t.g HJ_RESP_BUSY k = 0 ∧ t.answered m ST_ACCESS_DENIED ∧ t.mem = s.mem ∧ t.hj.slots = s.hj.slots))

/-- HJ_COMMAND_COMPLETE: what each command that runs leaves when its work is done. With the one command running and the reads it needs ended OK: KEY_GEN of a type without a public key installs a fresh key with the next generation, or ends with ENTROPY_FAIL and leaves the slot; KEY_IMPORT installs what the wrapping key unwraps, or ends with ACCESS_DENIED; KEY_ERASE empties its slot once it has no users, keeps its generation, and waits while it has some; KEY_INFO writes the slot's record; ANCHOR_SET removes, or sets a valid certificate and otherwise ends with ACCESS_DENIED; GCM_ENC, GCM_DEC, SIGN, HASH and HMAC of the device, with an on-device destination in its place and, in HBM, its islands clocked, write their results there and end OK (GCM_DEC of a bad tag writes nothing, sets TAG_FAIL and ends with POISON; SIGN whose result does not fit its place ends with ACCESS_DENIED); RANDOM of 1 to 16 bytes writes that many of one draw; VERIFY_DUAL ends by its outcome; TALLY_WRITE changes a word within its rules and uses one change, is refused with its record outside them, and answers LATE for the value it has; RB_ADVANCE advances within its bounds, is refused with its record over the image's version, and answers LATE for a value not above; a passed SELFTEST sets SELFTEST_OK and instantiates the DRBG, a failed one enters the error state with its DF record and empties the slots and the DRBG; ZEROISE_ALL ends OK; each that ends puts its status and tag in HJ_RESP and frees the channel. With no command held nothing changes (R362 to R376). Each clause concludes that exec answers a next state, from hypotheses on the state and the operands alone, for: HJ_COMMAND_COMPLETE. -/
def Obligations.HjelvonResults : Prop :=
  (∀ (s : State) (k : ChanId) (pass : Bool) (o : HjOp), s.hjOp k = some o → s.hj.ops = [(k.val, o)] → o.running = true → o.out = none → o.opcode = 1 → o.reads = [] → (s.slot (o.arg 0 % 2 ^ 8)).state ≠ 2 → s.drbgOk = true → pubLen (bits (o.arg 0) 12 4) = 0 →
      Completes (.hjCommandComplete k pass) s (fun t => t.slot (o.arg 0 % 2 ^ 8) = { state := 1, type := (bits (o.arg 0) 12 4), usage := (bits (o.arg 0) 16 4), owner := (bits (o.arg 0) 20 1), gen := ((s.slot (o.arg 0 % 2 ^ 8)).gen + 1) % 2 ^ 16, key := s.draw.1 } ∧ t.hj.draws = s.hj.draws + 1 ∧ t.mem = s.mem ∧ t.g HJ_RESP_STATUS k = ST_OK ∧ t.g HJ_RESP_TAG k = o.tag % 2 ^ 16 ∧ t.g HJ_RESP_BUSY k = 0 ∧ t.hjOp k = none)) ∧
  (∀ (s : State) (k : ChanId) (pass : Bool) (o : HjOp), s.hjOp k = some o → s.hj.ops = [(k.val, o)] → o.running = true → o.out = none → o.opcode = 1 → o.reads = [] → (s.slot (o.arg 0 % 2 ^ 8)).state ≠ 2 → s.drbgOk = false →
      Completes (.hjCommandComplete k pass) s (fun t => t.slot (o.arg 0 % 2 ^ 8) = s.slot (o.arg 0 % 2 ^ 8) ∧ t.g HJ_RESP_STATUS k = ST_ENTROPY_FAIL ∧ t.g HJ_RESP_TAG k = o.tag % 2 ^ 16 ∧ t.g HJ_RESP_BUSY k = 0 ∧ t.hjOp k = none)) ∧
  (∀ (s : State) (k : ChanId) (pass : Bool) (o : HjOp) (p : Part), s.hjOp k = some o → s.hj.ops = [(k.val, o)] → o.running = true → o.out = none → o.opcode = 2 → o.reads = [{ parts := [p] }] → p.fin = true → p.txn = none → p.status = ST_OK → (s.slot (o.arg 0 % 2 ^ 8)).state ≠ 2 →
      Completes (.hjCommandComplete k pass) s (fun t => t.slot (o.arg 0 % 2 ^ 8) = (match Config.unwrapKey o.key p.data with | none => s.slot (o.arg 0 % 2 ^ 8) | some x => { state := 1, type := (bits (o.arg 0) 12 4), usage := (bits (o.arg 0) 16 4), owner := (bits (o.arg 0) 20 1), gen := ((s.slot (o.arg 0 % 2 ^ 8)).gen + 1) % 2 ^ 16, key := x }) ∧ t.g HJ_RESP_STATUS k = (match Config.unwrapKey o.key p.data with | none => ST_ACCESS_DENIED | some _ => ST_OK) ∧ t.g HJ_RESP_TAG k = o.tag % 2 ^ 16 ∧ t.g HJ_RESP_BUSY k = 0 ∧ t.hjOp k = none)) ∧
  (∀ (s : State) (k : ChanId) (pass : Bool) (o : HjOp), s.hjOp k = some o → s.hj.ops = [(k.val, o)] → o.running = true → o.out = none → o.opcode = 3 → o.reads = [] → s.users (o.arg 0) = [] →
      Completes (.hjCommandComplete k pass) s (fun t => t.slot (o.arg 0) = { gen := (s.slot (o.arg 0)).gen } ∧ t.g HJ_RESP_STATUS k = ST_OK ∧ t.g HJ_RESP_TAG k = o.tag % 2 ^ 16 ∧ t.g HJ_RESP_BUSY k = 0 ∧ t.hjOp k = none)) ∧
  (∀ (s : State) (k : ChanId) (pass : Bool) (o : HjOp), s.hjOp k = some o → o.running = true → o.out = none → o.opcode = 3 → o.reads = [] → s.users (o.arg 0) ≠ [] → nsorted s.hj.ops = true →
      Completes (.hjCommandComplete k pass) s (fun t => t.hj = s.hj ∧ t.regs = s.regs)) ∧
  (∀ (s : State) (k : ChanId) (pass : Bool) (o : HjOp), s.hjOp k = some o → s.hj.ops = [(k.val, o)] → o.running = true → o.out = none → o.opcode = 4 → o.reads = [] →
      Completes (.hjCommandComplete k pass) s (fun t => t.g HJ_RES_RES k 0 = s.slotRecord (o.arg 0) % 2 ^ HJ_RES_RES.width ∧ t.hj.slots = s.hj.slots ∧ t.g HJ_RESP_STATUS k = ST_OK ∧ t.g HJ_RESP_TAG k = o.tag % 2 ^ 16 ∧ t.g HJ_RESP_BUSY k = 0 ∧ t.hjOp k = none)) ∧
  (∀ (s : State) (k : ChanId) (pass : Bool) (o : HjOp), s.hjOp k = some o → s.hj.ops = [(k.val, o)] → o.running = true → o.out = none → o.opcode = 5 → o.reads = [] → o.arg 2 = 0 →
      Completes (.hjCommandComplete k pass) s (fun t => nget? (o.arg 0) t.hj.anchors = none ∧ t.g HJ_RESP_STATUS k = ST_OK ∧ t.g HJ_RESP_TAG k = o.tag % 2 ^ 16 ∧ t.g HJ_RESP_BUSY k = 0 ∧ t.hjOp k = none)) ∧
  (∀ (s : State) (k : ChanId) (pass : Bool) (o : HjOp) (p : Part), s.hjOp k = some o → s.hj.ops = [(k.val, o)] → o.running = true → o.out = none → o.opcode = 5 → o.reads = [{ parts := [p] }] → p.fin = true → p.txn = none → p.status = ST_OK → o.arg 2 ≠ 0 →
      Completes (.hjCommandComplete k pass) s (fun t => nget? (o.arg 0) t.hj.anchors = (if Config.validCert p.data then some p.data else nget? (o.arg 0) s.hj.anchors) ∧ t.g HJ_RESP_STATUS k = (if Config.validCert p.data then ST_OK else ST_ACCESS_DENIED) ∧ t.g HJ_RESP_TAG k = o.tag % 2 ^ 16 ∧ t.g HJ_RESP_BUSY k = 0 ∧ t.hjOp k = none)) ∧
  (∀ (s : State) (k : ChanId) (pass : Bool) (o : HjOp) (p : Part) (sp : Nat), s.hjOp k = some o → s.hj.ops = [(k.val, o)] → o.running = true → o.out = none → o.opcode = 16 → o.reads = [{ parts := [p] }] → p.fin = true → p.txn = none → p.status = ST_OK → o.master = .device → s.drbgOk = true → p.data.length = o.gcmLen → (sp = spHbm → s.hbmUp = true) → awMem (o.arg 2) = some sp → awOk 0 (o.arg 2) (o.gcmLen + 28) = true →
      Completes (.hjCommandComplete k pass) s (fun t => t.rd sp (awAddr (o.arg 2)) (o.gcmLen + 28) = (p.data.take o.aadLen) ++ padTo (p.data.drop o.aadLen).length (Config.gcmEncrypt o.key (s.draw.1 % 2 ^ 96) (p.data.take o.aadLen) (p.data.drop o.aadLen)) ++ leBytes 12 (s.draw.1 % 2 ^ 96) ++ padTo 16 ((Config.gcmEncrypt o.key (s.draw.1 % 2 ^ 96) (p.data.take o.aadLen) (p.data.drop o.aadLen)).drop (p.data.drop o.aadLen).length) ∧ t.hj.draws = s.hj.draws + 1 ∧ t.g HJ_RESP_STATUS k = ST_OK ∧ t.g HJ_RESP_TAG k = o.tag % 2 ^ 16 ∧ t.g HJ_RESP_BUSY k = 0 ∧ t.hjOp k = none)) ∧
  (∀ (s : State) (k : ChanId) (pass : Bool) (o : HjOp) (p : Part) (sp : Nat), s.hjOp k = some o → s.hj.ops = [(k.val, o)] → o.running = true → o.out = none → o.opcode = 17 → o.reads = [{ parts := [p] }] → p.fin = true → p.txn = none → p.status = ST_OK → o.master = .device → p.data.length = o.gcmLen + 28 → o.aadLen ≤ o.gcmLen → (sp = spHbm → s.hbmUp = true) → awMem (o.arg 2) = some sp → awOk 0 (o.arg 2) o.gcmLen = true →
      Completes (.hjCommandComplete k pass) s (fun t => t.mem = (match Config.gcmDecrypt o.key (leNat ((p.data.drop o.gcmLen).take 12)) ((p.data.take o.gcmLen).take o.aadLen) ((p.data.take o.gcmLen).drop o.aadLen ++ p.data.drop (o.gcmLen + 12)) with | none => s.mem | some x => memWrite s.mem (memKey sp (awAddr (o.arg 2))) ((p.data.take o.gcmLen).take o.aadLen ++ padTo (o.gcmLen - o.aadLen) x)) ∧ t.g HJ_RESP_TAG_FAIL k = b2n (Config.gcmDecrypt o.key (leNat ((p.data.drop o.gcmLen).take 12)) ((p.data.take o.gcmLen).take o.aadLen) ((p.data.take o.gcmLen).drop o.aadLen ++ p.data.drop (o.gcmLen + 12))).isNone ∧ t.g HJ_RESP_STATUS k = (match Config.gcmDecrypt o.key (leNat ((p.data.drop o.gcmLen).take 12)) ((p.data.take o.gcmLen).take o.aadLen) ((p.data.take o.gcmLen).drop o.aadLen ++ p.data.drop (o.gcmLen + 12)) with | none => ST_POISON | some _ => ST_OK) ∧ t.g HJ_RESP_TAG k = o.tag % 2 ^ 16 ∧ t.g HJ_RESP_BUSY k = 0 ∧ t.hjOp k = none)) ∧
  (∀ (s : State) (k : ChanId) (pass : Bool) (o : HjOp) (p : Part) (sp : Nat), s.hjOp k = some o → s.hj.ops = [(k.val, o)] → o.running = true → o.out = none → o.opcode = 18 → o.reads = [{ parts := [p] }] → p.fin = true → p.txn = none → p.status = ST_OK → o.master = .device → s.drbgOk = true → awMem (o.arg 2) = some sp → (sp = spHbm → s.hbmUp = true) →
      Completes (.hjCommandComplete k pass) s (fun t => t.hj.draws = s.hj.draws + 1 ∧ ((awOk 0 (o.arg 2) (Config.sign o.key s.draw.1 p.data).length = true → t.rd sp (awAddr (o.arg 2)) (Config.sign o.key s.draw.1 p.data).length = (Config.sign o.key s.draw.1 p.data))) ∧ t.g HJ_RESP_STATUS k = (if awOk 0 (o.arg 2) (Config.sign o.key s.draw.1 p.data).length then ST_OK else ST_ACCESS_DENIED) ∧ t.g HJ_RESP_TAG k = o.tag % 2 ^ 16 ∧ t.g HJ_RESP_BUSY k = 0 ∧ t.hjOp k = none)) ∧
  (∀ (s : State) (k : ChanId) (pass : Bool) (o : HjOp) (p : Part) (q : Part) (r : Part), s.hjOp k = some o → s.hj.ops = [(k.val, o)] → o.running = true → o.out = none → o.opcode = 19 → o.reads = [{ parts := [p] }, { parts := [q] }, { parts := [r] }] → p.fin = true → p.txn = none → p.status = ST_OK → q.fin = true → q.txn = none → q.status = ST_OK → r.fin = true → r.txn = none → r.status = ST_OK →
      Completes (.hjCommandComplete k pass) s (fun t => t.mem = s.mem ∧ t.g HJ_RESP_STATUS k = (if dualVerify p.data q.data r.data then ST_OK else ST_ACCESS_DENIED) ∧ t.g HJ_RESP_TAG k = o.tag % 2 ^ 16 ∧ t.g HJ_RESP_BUSY k = 0 ∧ t.hjOp k = none)) ∧
  (∀ (s : State) (k : ChanId) (pass : Bool) (o : HjOp) (p : Part) (sp : Nat), s.hjOp k = some o → s.hj.ops = [(k.val, o)] → o.running = true → o.out = none → o.opcode = 20 → o.reads = [{ parts := [p] }] → p.fin = true → p.txn = none → p.status = ST_OK → o.master = .device → (sp = spHbm → s.hbmUp = true) → awMem (o.arg 3) = some sp → awOk 0 (o.arg 3) 48 = true →
      Completes (.hjCommandComplete k pass) s (fun t => t.rd sp (awAddr (o.arg 3)) 48 = digest p.data ∧ t.g HJ_RESP_STATUS k = ST_OK ∧ t.g HJ_RESP_TAG k = o.tag % 2 ^ 16 ∧ t.g HJ_RESP_BUSY k = 0 ∧ t.hjOp k = none)) ∧
  (∀ (s : State) (k : ChanId) (pass : Bool) (o : HjOp) (p : Part) (sp : Nat), s.hjOp k = some o → s.hj.ops = [(k.val, o)] → o.running = true → o.out = none → o.opcode = 21 → o.reads = [{ parts := [p] }] → p.fin = true → p.txn = none → p.status = ST_OK → o.master = .device → (sp = spHbm → s.hbmUp = true) → awMem (o.arg 3) = some sp → awOk 0 (o.arg 3) 48 = true →
      Completes (.hjCommandComplete k pass) s (fun t => t.rd sp (awAddr (o.arg 3)) 48 = leBytes 48 (Config.hmac384 o.key p.data) ∧ t.g HJ_RESP_STATUS k = ST_OK ∧ t.g HJ_RESP_TAG k = o.tag % 2 ^ 16 ∧ t.g HJ_RESP_BUSY k = 0 ∧ t.hjOp k = none)) ∧
  (∀ (s : State) (k : ChanId) (pass : Bool) (o : HjOp) (sp : Nat), s.hjOp k = some o → s.hj.ops = [(k.val, o)] → o.running = true → o.out = none → o.opcode = 32 → o.reads = [] → o.master = .device → s.drbgOk = true → 0 < o.arg 2 → o.arg 2 ≤ 16 → (sp = spHbm → s.hbmUp = true) → awMem (o.arg 1) = some sp → awOk 0 (o.arg 1) (o.arg 2) = true →
      Completes (.hjCommandComplete k pass) s (fun t => t.rd sp (awAddr (o.arg 1)) (o.arg 2) = (leBytes 16 s.draw.1).take (o.arg 2) ∧ t.hj.draws = s.hj.draws + 1 ∧ t.g HJ_RESP_STATUS k = ST_OK ∧ t.g HJ_RESP_TAG k = o.tag % 2 ^ 16 ∧ t.g HJ_RESP_BUSY k = 0 ∧ t.hjOp k = none)) ∧
  (∀ (s : State) (k : ChanId) (pass : Bool) (o : HjOp), s.hjOp k = some o → s.hj.ops = [(k.val, o)] → o.running = true → o.out = none → o.opcode = 48 → o.reads = [] → o.arg 0 ≤ 63 → o.arg 1 < 2 ^ 32 → s.g TALLY_VALUE (o.arg 0) ≠ o.arg 1 → s.g TALLY_REMAIN (o.arg 0) ≠ 0 → s.tallyTakes (o.arg 0) (o.arg 1) = true →
      Completes (.hjCommandComplete k pass) s (fun t => t.g TALLY_VALUE (o.arg 0) = o.arg 1 ∧ t.g TALLY_REMAIN (o.arg 0) = (s.g TALLY_REMAIN (o.arg 0) - 1) % 2 ^ TALLY_REMAIN.width ∧ t.g HJ_RESP_STATUS k = ST_OK ∧ t.g HJ_RESP_TAG k = o.tag % 2 ^ 16 ∧ t.g HJ_RESP_BUSY k = 0 ∧ t.hjOp k = none)) ∧
  (∀ (s : State) (k : ChanId) (pass : Bool) (o : HjOp), s.hjOp k = some o → s.hj.ops = [(k.val, o)] → o.running = true → o.out = none → o.opcode = 48 → o.reads = [] → o.arg 0 ≤ 63 → o.arg 1 < 2 ^ 32 → s.g TALLY_VALUE (o.arg 0) ≠ o.arg 1 → (s.g TALLY_REMAIN (o.arg 0) = 0 ∨ s.tallyTakes (o.arg 0) (o.arg 1) = false) →
      Completes (.hjCommandComplete k pass) s (fun t => t.g TALLY_VALUE (o.arg 0) = s.g TALLY_VALUE (o.arg 0) ∧ t.reported (src 0x10 HJ_ERR_TALLY_REFUSED.lsb) CE 0 = true ∧ t.g HJ_RESP_STATUS k = ST_ACCESS_DENIED ∧ t.g HJ_RESP_TAG k = o.tag % 2 ^ 16 ∧ t.g HJ_RESP_BUSY k = 0 ∧ t.hjOp k = none)) ∧
  (∀ (s : State) (k : ChanId) (pass : Bool) (o : HjOp), s.hjOp k = some o → s.hj.ops = [(k.val, o)] → o.running = true → o.out = none → o.opcode = 48 → o.reads = [] → o.arg 0 ≤ 63 → o.arg 1 < 2 ^ 32 → s.g TALLY_VALUE (o.arg 0) = o.arg 1 →
      Completes (.hjCommandComplete k pass) s (fun t => t.g TALLY_REMAIN (o.arg 0) = s.g TALLY_REMAIN (o.arg 0) ∧ t.g HJ_RESP_STATUS k = ST_LATE ∧ t.g HJ_RESP_TAG k = o.tag % 2 ^ 16 ∧ t.g HJ_RESP_BUSY k = 0 ∧ t.hjOp k = none)) ∧
  (∀ (s : State) (k : ChanId) (pass : Bool) (o : HjOp), s.hjOp k = some o → s.hj.ops = [(k.val, o)] → o.running = true → o.out = none → o.opcode = 49 → o.reads = [] → o.arg 0 ≤ 3 → s.g RBC_COUNT (o.arg 0) < o.arg 1 → o.arg 1 ≤ 128 → (o.arg 0 ≠ 0 ∨ o.arg 1 ≤ s.hj.svn) → (o.arg 0 ≠ 1 ∨ o.arg 1 ≤ s.p0Version / 2 ^ 24) →
      Completes (.hjCommandComplete k pass) s (fun t => t.g RBC_COUNT (o.arg 0) = o.arg 1 ∧ t.g HJ_RESP_STATUS k = ST_OK ∧ t.g HJ_RESP_TAG k = o.tag % 2 ^ 16 ∧ t.g HJ_RESP_BUSY k = 0 ∧ t.hjOp k = none)) ∧
  (∀ (s : State) (k : ChanId) (pass : Bool) (o : HjOp), s.hjOp k = some o → s.hj.ops = [(k.val, o)] → o.running = true → o.out = none → o.opcode = 49 → o.reads = [] → o.arg 0 = 0 → s.g RBC_COUNT 0 < o.arg 1 → s.hj.svn < o.arg 1 →
      Completes (.hjCommandComplete k pass) s (fun t => t.g RBC_COUNT 0 = s.g RBC_COUNT 0 ∧ t.reported (src 0x10 HJ_ERR_TALLY_REFUSED.lsb) CE 0 = true ∧ t.g HJ_RESP_STATUS k = ST_ACCESS_DENIED ∧ t.g HJ_RESP_TAG k = o.tag % 2 ^ 16 ∧ t.g HJ_RESP_BUSY k = 0 ∧ t.hjOp k = none)) ∧
  (∀ (s : State) (k : ChanId) (pass : Bool) (o : HjOp), s.hjOp k = some o → s.hj.ops = [(k.val, o)] → o.running = true → o.out = none → o.opcode = 49 → o.reads = [] → o.arg 0 ≤ 3 → o.arg 1 ≤ s.g RBC_COUNT (o.arg 0) →
      Completes (.hjCommandComplete k pass) s (fun t => t.g RBC_COUNT (o.arg 0) = s.g RBC_COUNT (o.arg 0) ∧ t.g HJ_RESP_STATUS k = ST_LATE ∧ t.g HJ_RESP_TAG k = o.tag % 2 ^ 16 ∧ t.g HJ_RESP_BUSY k = 0 ∧ t.hjOp k = none)) ∧
  (∀ (s : State) (k : ChanId) (pass : Bool) (o : HjOp), s.hjOp k = some o → s.hj.ops = [(k.val, o)] → o.running = true → o.out = none → o.opcode = 64 → o.reads = [] → pass = true →
      Completes (.hjCommandComplete k pass) s (fun t => t.g HJ_STATUS_SELFTEST_OK = 1 ∧ t.g HJ_DRBG_STATUS_INSTANTIATED = 1 ∧ t.g HJ_STATUS_APPROVED = b2n (s.g TALLY_VALUE 0 == 1 && s.g TALLY_VALUE 1 ≤ 1) ∧ t.g HJ_RESP_STATUS k = ST_OK ∧ t.g HJ_RESP_TAG k = o.tag % 2 ^ 16 ∧ t.g HJ_RESP_BUSY k = 0 ∧ t.hjOp k = none)) ∧
  (∀ (s : State) (k : ChanId) (pass : Bool) (o : HjOp), s.hjOp k = some o → s.hj.ops = [(k.val, o)] → o.running = true → o.out = none → o.opcode = 64 → o.reads = [] → pass = false →
      Completes (.hjCommandComplete k pass) s (fun t => t.g HJ_STATUS_ERROR_STATE = 1 ∧ t.g HJ_STATUS_SELFTEST_OK = 0 ∧ t.g HJ_DRBG_STATUS_INSTANTIATED = 0 ∧ t.hj.slots = [] ∧ t.g HJ_STATUS_APPROVED = 0 ∧ t.reported (src 0x10 1) DF 0 = true ∧ t.g HJ_RESP_STATUS k = ST_INTERNAL ∧ t.g HJ_RESP_TAG k = o.tag % 2 ^ 16 ∧ t.g HJ_RESP_BUSY k = 0 ∧ t.hjOp k = none)) ∧
  (∀ (s : State) (k : ChanId) (pass : Bool) (o : HjOp), s.hjOp k = some o → s.hj.ops = [(k.val, o)] → o.running = true → o.out = none → o.opcode = 65 → o.reads = [] →
      Completes (.hjCommandComplete k pass) s (fun t => t.mem = s.mem ∧ t.hj.slots = s.hj.slots ∧ t.g HJ_RESP_STATUS k = ST_OK ∧ t.g HJ_RESP_TAG k = o.tag % 2 ^ 16 ∧ t.g HJ_RESP_BUSY k = 0 ∧ t.hjOp k = none)) ∧
  (∀ (s : State) (k : ChanId) (pass : Bool), s.hj.ops = [] →
      Completes (.hjCommandComplete k pass) s (fun t => t = s))

/-- Erase waits, page reads, entropy, unit gates and SPDM messages, case by case. An erase wait that expires empties its slot and ends OK without users, and with one user aborts it with KEY_ZEROISED and records KEY_ABORT; it is ignored on a channel without a command; a page read that matches its leaf clears the tries, one that does not counts one, and the third failure records PAGE_BAD; a page without a leaf is ignored; an entropy failure with no command held clears HEALTHY and INSTANTIATED with its PF record; a recovery attempt within three tries counts, and instantiates and ends the condition when it passes; outside them it is ignored; a reseed of a healthy source counts and instantiates, of an unhealthy one does nothing; a clock or power gate request for an idle unit gates it, for an idle unit Hjelvon holds is pending with RETRY and its record, for a unit not idle answers ACCESS_DENIED and changes no gate; a clock gate request for a unit without a gate answers NO_MATCH with its record; UNGATE of the one gate requested withdraws it and answers OK; the end of Hjelvon's hold applies a pending request to an idle unit and otherwise only clears HELD, and is ignored while Hjelvon still holds; UNGATE_COMPLETE of a tile or switch unit ungates what is no longer requested, and is ignored while a gate is requested and power is on; an SPDM measurement, certificate or challenge, a key exchange, which opens a session of the port, a DOE discovery and a CDAT request at a HOST or FABRIC port whose link is up are answered in DOE objects of up to 1,024 DW, and a message at any other port is ignored (R55, R358, R365 to R368, R372, Table 3-4). Each clause concludes that exec answers a next state, from hypotheses on the state and the operands alone, for: KEY_ERASE_WAIT_EXPIRY, PAGE_READ, ENTROPY_HEALTH_FAIL, DRBG_RECOVERY_ATTEMPT, DRBG_RESEED, CLK_GATE_REQUEST, PWR_GATE_REQUEST, UNGATE, HOLD_RELEASE, UNGATE_COMPLETE, SPDM_MESSAGE. -/
def Obligations.HjelvonExpiriesGatesAndMessages : Prop :=
  (∀ (s : State) (k : ChanId) (o : HjOp), s.hjOp k = some o → s.hj.ops = [(k.val, o)] → o.running = true → o.opcode = 3 → o.reads = [] → s.users (o.arg 0) = [] →
      Completes (.keyEraseWaitExpiry k) s (fun t => t.slot (o.arg 0) = { gen := (s.slot (o.arg 0)).gen } ∧ t.g HJ_ERR_KEY_ABORT = s.g HJ_ERR_KEY_ABORT ∧ t.g HJ_RESP_STATUS k = ST_OK ∧ t.g HJ_RESP_TAG k = o.tag % 2 ^ 16 ∧ t.g HJ_RESP_BUSY k = 0 ∧ t.hjOp k = none)) ∧
  (∀ (s : State) (k : ChanId) (o : HjOp) (j : Nat) (u : HjOp), s.hj.ops = [(k.val, o), (j, u)] → k.val < j → o.running = true → o.opcode = 3 → o.reads = [] → o.slot = none → u.running = true → u.slot = some (o.arg 0) → u.out = none → u.reads = [] →
      Completes (.keyEraseWaitExpiry k) s (fun t => t.slot (o.arg 0) = { gen := (s.slot (o.arg 0)).gen } ∧ t.g HJ_RESP_STATUS j = ST_KEY_ZEROISED ∧ t.g HJ_RESP_STATUS k = ST_OK ∧ t.g HJ_ERR_KEY_ABORT = 1 ∧ t.reported (src 0x10 HJ_ERR_KEY_ABORT.lsb) CE 0 = true ∧ t.hj.ops = [])) ∧
  (∀ (s : State) (k : ChanId), s.hjOp k = none →
      Completes (.keyEraseWaitExpiry k) s (fun t => t = s)) ∧
  (∀ (s : State) (page : Nat) (bytes : List Byte) (leaf : Nat) (tries : Nat), s.hj.leaves[page]? = some leaf → tries = (if s.hj.page = page then s.hj.pageTries else 0) → tries < 2 →
      Completes (.pageRead none page bytes) s (fun t => t.hj.pageTries = (if Config.sha384 bytes = leaf then 0 else tries + 1) ∧ t.hj.page = page ∧ t.fu = s.fu)) ∧
  (∀ (s : State) (page : Nat) (bytes : List Byte) (leaf : Nat) (tries : Nat), s.hj.leaves[page]? = some leaf → tries = (if s.hj.page = page then s.hj.pageTries else 0) → tries = 2 →
      Completes (.pageRead none page bytes) s (fun t => t.hj.pageTries = 0 ∧ ((Config.sha384 bytes = leaf → t.fu = s.fu)) ∧ ((Config.sha384 bytes ≠ leaf → t.reported (src 0x10 HJ_ERR_PAGE_BAD.lsb) PF 0 = true)) ∧ t.g HJ_BOOT_STATUS_PAGES_REREAD = min (s.g HJ_BOOT_STATUS_PAGES_REREAD + 1) (2 ^ HJ_BOOT_STATUS_PAGES_REREAD.width - 1))) ∧
  (∀ (s : State) (q : Option (Fin 32)) (page : Nat) (bytes : List Byte), s.hj.leaves[page]? = none →
      Completes (.pageRead q page bytes) s (fun t => t = s)) ∧
  (∀ (s : State), s.hj.ops = [] →
      Completes (.entropyHealthFail) s (fun t => t.g HJ_DRBG_STATUS_HEALTHY = 0 ∧ t.g HJ_DRBG_STATUS_INSTANTIATED = 0 ∧ t.g HJ_DRBG_STATUS_RECOVERY_TRIES = 0 ∧ t.g HJ_ERR_ENT_FAIL = 1 ∧ t.reported (src 0x10 0) PF 0 = true ∧ t.cond (src 0x10 0) 0 = true)) ∧
  (∀ (s : State) (pass : Bool), s.cond (src 0x10 0) 0 = true → s.g HJ_DRBG_STATUS_RECOVERY_TRIES < 3 → s.on HJ_STATUS_ERROR_STATE = false →
      Completes (.drbgRecoveryAttempt pass) s (fun t => t.g HJ_DRBG_STATUS_RECOVERY_TRIES = s.g HJ_DRBG_STATUS_RECOVERY_TRIES + 1 ∧ t.g HJ_DRBG_STATUS_INSTANTIATED = (if pass then 1 else s.g HJ_DRBG_STATUS_INSTANTIATED) ∧ t.cond (src 0x10 0) 0 = !pass)) ∧
  (∀ (s : State) (pass : Bool), (s.cond (src 0x10 0) 0 = false ∨ 3 ≤ s.g HJ_DRBG_STATUS_RECOVERY_TRIES) →
      Completes (.drbgRecoveryAttempt pass) s (fun t => t = s)) ∧
  (∀ (s : State), s.on HJ_DRBG_STATUS_HEALTHY = true → s.on HJ_STATUS_ERROR_STATE = false →
      Completes (.drbgReseed) s (fun t => t.g HJ_DRBG_STATUS_INSTANTIATED = 1 ∧ t.g HJ_DRBG_STATUS_RESEEDS = min (s.g HJ_DRBG_STATUS_RESEEDS + 1) (2 ^ HJ_DRBG_STATUS_RESEEDS.width - 1) ∧ t.hj = s.hj)) ∧
  (∀ (s : State), s.on HJ_DRBG_STATUS_HEALTHY = false →
      Completes (.drbgReseed) s (fun t => t = s)) ∧
  (∀ (s : State) (m : Master) (g : Fin 50), gateable g = true → s.accepts m .HJ_GATE g = true → s.unitIdle g = true → s.on HJ_GATE_HELD g = false →
      Completes (.clkGateRequest m g) s (fun t => t.g HJ_GATE_CLK_OFF g = 1 ∧ t.g HJ_GATE_CLK_GATED g = 1 ∧ t.g HJ_GATE_LAST_STATUS g = ST_OK ∧ t.answered m ST_OK)) ∧
  (∀ (s : State) (m : Master) (g : Fin 50), gateable g = true → s.accepts m .HJ_GATE g = true → s.unitIdle g = true → s.on HJ_GATE_HELD g = true →
      Completes (.clkGateRequest m g) s (fun t => t.g HJ_GATE_PENDING g = 1 ∧ t.g HJ_GATE_CLK_GATED g = s.g HJ_GATE_CLK_GATED g ∧ t.reported (src 0x10 HJ_ERR_HOLD_PENDING.lsb) CE 0 = true ∧ t.g HJ_GATE_LAST_STATUS g = ST_RETRY ∧ t.answered m ST_RETRY)) ∧
  (∀ (s : State) (m : Master) (g : Fin 50), gateable g = true → s.accepts m .HJ_GATE g = true → s.unitIdle g = false →
      Completes (.clkGateRequest m g) s (fun t => t.g HJ_GATE_CLK_OFF g = s.g HJ_GATE_CLK_OFF g ∧ t.g HJ_GATE_CLK_GATED g = s.g HJ_GATE_CLK_GATED g ∧ t.g HJ_GATE_LAST_STATUS g = ST_ACCESS_DENIED ∧ t.answered m ST_ACCESS_DENIED)) ∧
  (∀ (s : State) (m : Master) (g : Fin 50), gateable g = true → s.accepts m .HJ_GATE g = true → s.unitIdle g = true → s.on HJ_GATE_HELD g = false →
      Completes (.pwrGateRequest m g) s (fun t => t.g HJ_GATE_PWR_OFF g = 1 ∧ t.g HJ_GATE_CLK_GATED g = 1 ∧ t.g HJ_GATE_PWR_GATED g = 1 ∧ t.g HJ_GATE_LAST_STATUS g = ST_OK ∧ t.answered m ST_OK)) ∧
  (∀ (s : State) (m : Master) (g : Fin 50), gateable g = true → s.accepts m .HJ_GATE g = true → s.unitIdle g = true → s.on HJ_GATE_HELD g = true →
      Completes (.pwrGateRequest m g) s (fun t => t.g HJ_GATE_PENDING g = 1 ∧ t.g HJ_GATE_CLK_GATED g = s.g HJ_GATE_CLK_GATED g ∧ t.reported (src 0x10 HJ_ERR_HOLD_PENDING.lsb) CE 0 = true ∧ t.g HJ_GATE_LAST_STATUS g = ST_RETRY ∧ t.answered m ST_RETRY)) ∧
  (∀ (s : State) (m : Master) (g : Fin 50), gateable g = true → s.accepts m .HJ_GATE g = true → s.unitIdle g = false →
      Completes (.pwrGateRequest m g) s (fun t => t.g HJ_GATE_PWR_OFF g = s.g HJ_GATE_PWR_OFF g ∧ t.g HJ_GATE_CLK_GATED g = s.g HJ_GATE_CLK_GATED g ∧ t.g HJ_GATE_LAST_STATUS g = ST_ACCESS_DENIED ∧ t.answered m ST_ACCESS_DENIED)) ∧
  (∀ (s : State) (m : Master) (g : Fin 50), gateable g = false →
      Completes (.clkGateRequest m g) s (fun t => (t.regs = s.regs ∨ s.on FU_INJ_ARMED = true) ∧ t.reported (src 0x01 8) CE 0 = true ∧ t.answered m ST_NO_MATCH)) ∧
  (∀ (s : State) (m : Master) (g : Fin 50), gateable g = true → s.accepts m .HJ_GATE g = true → s.on HJ_GATE_PWR_OFF g = false →
      Completes (.ungate m g false) s (fun t => t.g HJ_GATE_CLK_OFF g = 0 ∧ t.g HJ_GATE_PENDING g = 0 ∧ t.g HJ_GATE_LAST_STATUS g = ST_OK ∧ t.answered m ST_OK)) ∧
  (∀ (s : State) (m : Master) (g : Fin 50), gateable g = true → s.accepts m .HJ_GATE g = true → s.on HJ_GATE_CLK_OFF g = false →
      Completes (.ungate m g true) s (fun t => t.g HJ_GATE_PWR_OFF g = 0 ∧ t.g HJ_GATE_PENDING g = 0 ∧ t.g HJ_GATE_LAST_STATUS g = ST_OK ∧ t.answered m ST_OK)) ∧
  (∀ (s : State) (g : Fin 50), s.unitHeld g = false → s.on HJ_GATE_PENDING g = true → s.unitIdle g = true →
      Completes (.holdRelease g) s (fun t => t.g HJ_GATE_HELD g = 0 ∧ t.g HJ_GATE_PENDING g = 0 ∧ t.g HJ_GATE_CLK_GATED g = b2n (s.on HJ_GATE_CLK_OFF g || s.on HJ_GATE_PWR_OFF g) ∧ t.g HJ_GATE_LAST_STATUS g = ST_OK)) ∧
  (∀ (s : State) (g : Fin 50), s.unitHeld g = false → s.on HJ_GATE_PENDING g = false →
      Completes (.holdRelease g) s (fun t => t = s.p HJ_GATE_HELD 0 g)) ∧
  (∀ (s : State) (g : Fin 50), s.unitHeld g = true →
      Completes (.holdRelease g) s (fun t => t = s)) ∧
  (∀ (s : State) (g : Fin 50), 47 ≤ g.val → s.on HJ_GATE_CLK_OFF g = false → s.on HJ_GATE_PWR_OFF g = false →
      Completes (.ungateComplete g) s (fun t => t.g HJ_GATE_CLK_GATED g = 0 ∧ t.on HJ_GATE_PWR_GATED g = false ∧ t.mem = s.mem ∧ t.thr = s.thr)) ∧
  (∀ (s : State) (g : Fin 50), (s.on HJ_GATE_CLK_OFF g = true ∨ s.on HJ_GATE_PWR_OFF g = true) → s.on HJ_GATE_PWR_GATED g = false →
      Completes (.ungateComplete g) s (fun t => t = s)) ∧
  (∀ (s : State) (c : PortId) (n : Fin 256) (bs : List Byte), s.up = true → s.linkUp c = true → (s.g PC_LINK_STATUS_ROLE_BOUND c = 1 ∨ s.g PC_LINK_STATUS_ROLE_BOUND c = 3) → s.on HJ_STATUS_ERROR_STATE = false → s.measurement n = some bs →
      Completes (.spdmMessage c (.measurement n)) s (fun t => t.outbox = s.outbox ++ (chunks 4096 bs (bs.length + 1)).map (fun o => .doe c o) ∧ t.regs = s.regs)) ∧
  (∀ (s : State) (c : PortId) (n : Fin 8), s.up = true → s.linkUp c = true → (s.g PC_LINK_STATUS_ROLE_BOUND c = 1 ∨ s.g PC_LINK_STATUS_ROLE_BOUND c = 3) → s.on HJ_STATUS_ERROR_STATE = false → (n.val = 0 ∨ (s.slot n).state = 1) →
      Completes (.spdmMessage c (.certificate n)) s (fun t => t.outbox = s.outbox ++ (chunks 4096 (Config.certChain n) ((Config.certChain n).length + 1)).map (fun o => .doe c o) ∧ t.regs = s.regs)) ∧
  (∀ (s : State) (c : PortId) (n : Fin 8) (nonce : List Byte), s.up = true → s.linkUp c = true → (s.g PC_LINK_STATUS_ROLE_BOUND c = 1 ∨ s.g PC_LINK_STATUS_ROLE_BOUND c = 3) → s.on HJ_STATUS_ERROR_STATE = false → (n.val = 0 ∨ (s.slot n).state = 1) → s.drbgOk = true →
      Completes (.spdmMessage c (.challenge n nonce)) s (fun t => t.outbox = s.outbox ++ (chunks 4096 (Config.sign (s.slot n).key s.draw.1 nonce) ((Config.sign (s.slot n).key s.draw.1 nonce).length + 1)).map (fun o => .doe c o) ∧ t.hj.draws = s.hj.draws + 1)) ∧
  (∀ (s : State) (c : PortId) (n : Fin 8) (nonce : List Byte), s.up = true → s.linkUp c = true → (s.g PC_LINK_STATUS_ROLE_BOUND c = 1 ∨ s.g PC_LINK_STATUS_ROLE_BOUND c = 3) → s.on HJ_STATUS_ERROR_STATE = false → (n.val = 0 ∨ (s.slot n).state = 1) → s.drbgOk = true →
      Completes (.spdmMessage c (.keyExchange n nonce)) s (fun t => t.outbox = s.outbox ++ (chunks 4096 (Config.sign (s.slot n).key s.draw.1 nonce) ((Config.sign (s.slot n).key s.draw.1 nonce).length + 1)).map (fun o => .doe c o) ∧ (t.port c).session = true ∧ t.hj.draws = s.hj.draws + 1)) ∧
  (∀ (s : State) (c : PortId) (n : Fin 256), s.up = true → s.linkUp c = true → (s.g PC_LINK_STATUS_ROLE_BOUND c = 1 ∨ s.g PC_LINK_STATUS_ROLE_BOUND c = 3) → s.on HJ_STATUS_ERROR_STATE = false →
      Completes (.spdmMessage c (.discovery n)) s (fun t => t.outbox = s.outbox ++ (chunks 4096 (doeProtocol n) ((doeProtocol n).length + 1)).map (fun o => .doe c o) ∧ t.regs = s.regs)) ∧
  (∀ (s : State) (c : PortId) (h : Fin 65536), s.up = true → s.linkUp c = true → (s.g PC_LINK_STATUS_ROLE_BOUND c = 1 ∨ s.g PC_LINK_STATUS_ROLE_BOUND c = 3) → s.on HJ_STATUS_ERROR_STATE = false →
      Completes (.spdmMessage c (.cdat h)) s (fun t => t.outbox = s.outbox ++ (chunks 4096 (Config.cdat c h) ((Config.cdat c h).length + 1)).map (fun o => .doe c o) ∧ t.regs = s.regs)) ∧
  (∀ (s : State) (c : PortId) (r : SpdmRequest), s.up = true → (s.linkUp c = false ∨ (s.g PC_LINK_STATUS_ROLE_BOUND c ≠ 1 ∧ s.g PC_LINK_STATUS_ROLE_BOUND c ≠ 3)) →
      Completes (.spdmMessage c r) s (fun t => t = s))

/-- The sideband bridge: SPI frames and operations, responder messages, MCTP buffers, notices, slot polling and its commits, case by case. A 256-edge frame of a known request, with no operation waiting and a new tag, starts it and is answered; bytes that are no request are counted with the CRC record; another edge count is discarded and counted. READ64 to WRITE32 hold their operation, or nothing with one waiting. SPI_ISSUE, unless its island lost its clock, makes the access under the bridge's gate and holds its result; else nothing. A held result concludes with tag, status and data; one not issued times out with TIMEOUT and its record. Each responder message in a whole buffer is answered with R439's bytes and frees the buffer (SET_ENDPOINT_ID takes 8 to 254; the warm reset under its conditions restarts at stage 2); without buffer or responder nothing. A first SMBus packet takes a free buffer, a middle one is appended, a bad PEC is counted; with SMB_EN 0 nothing. A reassembly timeout frees an unfinished buffer with its record; a release frees the buffers whose bits are 1. A transmission with GO and length 1 to 4096 takes an idle buffer; a busy one RESOURCE_EXHAUSTED, a bad length ACCESS_DENIED; its end sends its packets, its timeout the first of them. A notice goes to its thread when there is room, else waits. A sweep reads the first valid expander, an overrun is counted; the last expander's bits are taken with change bits, or its NAK recorded. GO queues the staged entries, ABORT drops them, both BUSY RESOURCE_EXHAUSTED (R377 to R391, R398, R399, R439). Each clause concludes that exec answers a next state, from hypotheses on the state and the operands alone, for: SPI_FRAME_END, READ64, READ32, WRITE64, WRITE32, SPI_ISSUE, SPI_ACCESS_CONCLUDE, SPI_ACCESS_TIMEOUT, GET_ENDPOINT_ID, SET_ENDPOINT_ID, GET_MCTP_VERSION_SUPPORT, GET_MESSAGE_TYPE_SUPPORT, GET_STATE, READ_LOG, READ_REG, RESPONDER_WARM_RESET, SMBUS_PACKET, REASSEMBLY_TIMEOUT, RX_BUFFER_RELEASE, MCTP_TRANSMIT, MCTP_TRANSMIT_DONE, MCTP_TRANSMIT_TIMEOUT, NOTICE_RETRY, SIDEBAND_SWEEP, EXPANDER_READ_DONE, BRIDGE_COMMIT_GO, BRIDGE_COMMIT_ABORT. -/
def Obligations.BridgeAndStageResponder : Prop :=
  (∀ (s : State) (bytes : List Byte) (r : SpiReq), spiReq ((bytes ++ List.replicate 32 0).take 32) = some r → spiOps.contains r.op = true → s.br.spi = none → (s.br.spiDone = false ∨ s.g BR_STATUS_LAST_TAG ≠ r.tag) →
      Completes (.spiFrameEnd 256 bytes) s (fun t => t.br.spi = some { op := r.op, tag := r.tag, addr := r.addr, data := r.data } ∧ t.g BR_STATUS_SPI_BUSY = 1 ∧ t.outbox = s.outbox ++ [.spi (s.spiAnswer ((bytes ++ List.replicate 32 0).take 32) 32)])) ∧
  (∀ (s : State) (bytes : List Byte), spiReq ((bytes ++ List.replicate 32 0).take 32) = none →
      Completes (.spiFrameEnd 256 bytes) s (fun t => t.br = s.br ∧ t.g BR_CNT_CRC_BAD = min (s.g BR_CNT_CRC_BAD + 1) (2 ^ BR_CNT_CRC_BAD.width - 1) ∧ t.reported (src 0x11 BR_ERR_SPI_CRC.lsb) CE 0 = true)) ∧
  (∀ (s : State) (edges : Nat) (bytes : List Byte), edges ≠ 256 →
      Completes (.spiFrameEnd edges bytes) s (fun t => t.br = s.br ∧ t.mem = s.mem ∧ t.g BR_CNT_FRAME_DISCARDS = min (s.g BR_CNT_FRAME_DISCARDS + 1) (2 ^ BR_CNT_FRAME_DISCARDS.width - 1) ∧ t.g BR_ERR_SPI_FRAME = 1)) ∧
  (∀ (s : State) (tag : Fin 256) (addr : Fin 67108864), s.br.spi = none → (s.br.spiDone = false ∨ s.g BR_STATUS_LAST_TAG ≠ tag) →
      Completes (.read64 tag addr) s (fun t => t.br.spi = some { op := 16, tag := tag, addr := addr, data := 0 } ∧ t.g BR_STATUS_SPI_BUSY = 1 ∧ t.mem = s.mem)) ∧
  (∀ (s : State) (tag : Fin 256) (addr : Fin 67108864), s.br.spi.isSome = true →
      Completes (.read64 tag addr) s (fun t => t = s)) ∧
  (∀ (s : State) (tag : Fin 256) (addr : Fin 67108864), s.br.spi = none → (s.br.spiDone = false ∨ s.g BR_STATUS_LAST_TAG ≠ tag) →
      Completes (.read32 tag addr) s (fun t => t.br.spi = some { op := 17, tag := tag, addr := addr, data := 0 } ∧ t.g BR_STATUS_SPI_BUSY = 1 ∧ t.mem = s.mem)) ∧
  (∀ (s : State) (tag : Fin 256) (addr : Fin 67108864), s.br.spi.isSome = true →
      Completes (.read32 tag addr) s (fun t => t = s)) ∧
  (∀ (s : State) (tag : Fin 256) (addr : Fin 67108864) (data : Fin 18446744073709551616), s.br.spi = none → (s.br.spiDone = false ∨ s.g BR_STATUS_LAST_TAG ≠ tag) →
      Completes (.write64 tag addr data) s (fun t => t.br.spi = some { op := 32, tag := tag, addr := addr, data := data.val } ∧ t.g BR_STATUS_SPI_BUSY = 1 ∧ t.mem = s.mem)) ∧
  (∀ (s : State) (tag : Fin 256) (addr : Fin 67108864) (data : Fin 18446744073709551616), s.br.spi.isSome = true →
      Completes (.write64 tag addr data) s (fun t => t = s)) ∧
  (∀ (s : State) (tag : Fin 256) (addr : Fin 67108864) (data : Fin 4294967296), s.br.spi = none → (s.br.spiDone = false ∨ s.g BR_STATUS_LAST_TAG ≠ tag) →
      Completes (.write32 tag addr data) s (fun t => t.br.spi = some { op := 33, tag := tag, addr := addr, data := data.val } ∧ t.g BR_STATUS_SPI_BUSY = 1 ∧ t.mem = s.mem)) ∧
  (∀ (s : State) (tag : Fin 256) (addr : Fin 67108864) (data : Fin 4294967296), s.br.spi.isSome = true →
      Completes (.write32 tag addr data) s (fun t => t = s)) ∧
  (∀ (s : State) (o : SpiOp), s.br.spi = some o → o.result = none → (o.op = 0x10 ∨ o.op = 0x11) → s.cond (clkCond 36).1 (clkCond 36).2 = false →
      Completes (.spiIssue) s (fun t => t.br.spi = some { o with result := some (s.gatedAccess .bridge o.addr (if o.op = 0x10 then 64 else 32) none).2 } ∧ t.mem = s.mem)) ∧
  (∀ (s : State) (o : SpiOp), s.br.spi = some o → o.result = none → (o.op = 0x20 ∨ o.op = 0x21) → s.cond (clkCond 36).1 (clkCond 36).2 = false →
      Completes (.spiIssue) s (fun t => t.br.spi = some { o with result := some (s.gatedAccess .bridge o.addr (if o.op = 0x20 then 64 else 32) (some (if o.op = 0x20 then o.data else o.data % 2 ^ 32))).2 })) ∧
  (∀ (s : State), s.cond (clkCond 36).1 (clkCond 36).2 = true →
      Completes (.spiIssue) s (fun t => t = s)) ∧
  (∀ (s : State) (o : SpiOp), s.br.spi = some o → o.result.isSome = true →
      Completes (.spiIssue) s (fun t => t = s)) ∧
  (∀ (s : State) (o : SpiOp) (r : Nat × Nat), s.br.spi = some o → o.result = some r →
      Completes (.spiAccessConclude) s (fun t => t.br.spi = none ∧ t.br.spiDone = true ∧ t.br.spiData = r.2 ∧ t.g BR_STATUS_LAST_TAG = o.tag % 2 ^ BR_STATUS_LAST_TAG.width ∧ t.g BR_STATUS_LAST_STATUS = r.1 % 2 ^ BR_STATUS_LAST_STATUS.width ∧ t.g BR_STATUS_SPI_BUSY = 0)) ∧
  (∀ (s : State) (o : SpiOp), s.br.spi = some o → o.result = none →
      Completes (.spiAccessTimeout) s (fun t => t.br.spi = none ∧ t.br.spiDone = true ∧ t.g BR_STATUS_LAST_TAG = o.tag % 2 ^ BR_STATUS_LAST_TAG.width ∧ t.g BR_STATUS_LAST_STATUS = ST_TIMEOUT ∧ t.g BR_STATUS_SPI_BUSY = 0 ∧ t.reported (src 0x11 BR_ERR_ACC_TMO.lsb) CE 0 = true)) ∧
  (∀ (s : State), s.br.spi = none →
      Completes (.spiIssue) s (fun t => t = s)) ∧
  (∀ (s : State), s.br.spi = none →
      Completes (.spiAccessConclude) s (fun t => t = s)) ∧
  (∀ (s : State), s.br.spi = none →
      Completes (.spiAccessTimeout) s (fun t => t = s)) ∧
  (∀ (s : State) (b : Fin 8) (x : RxBuf), nget? b.val s.br.rx = some x → s.br.responder = true → x.whole = true → mctpKind (s.rxBytes b x) = some 2 →
      Completes (.getEndpointId b) s (fun t => t.outbox = s.outbox ++ [.mctp x.src x.tag (mctpHead (s.rxBytes b x) ++ [0, BitVec.ofNat 8 s.br.eid, 0, 0])] ∧ nget? b.val t.br.rx = none ∧ t.br.eid = s.br.eid)) ∧
  (∀ (s : State) (b : Fin 8) (x : RxBuf), nget? b.val s.br.rx = some x → s.br.responder = true → x.whole = true → mctpKind (s.rxBytes b x) = some 1 → 5 ≤ (s.rxBytes b x).length → (((s.rxBytes b x).getD 3 0).toNat % 4) < 2 → 8 ≤ (((s.rxBytes b x).getD 4 0).toNat) → (((s.rxBytes b x).getD 4 0).toNat) < 255 →
      Completes (.setEndpointId b) s (fun t => t.outbox = s.outbox ++ [.mctp x.src x.tag (mctpHead (s.rxBytes b x) ++ [0, 0, (s.rxBytes b x).getD 4 0, 0])] ∧ nget? b.val t.br.rx = none ∧ t.br.eid = (((s.rxBytes b x).getD 4 0).toNat))) ∧
  (∀ (s : State) (b : Fin 8) (x : RxBuf), nget? b.val s.br.rx = some x → s.br.responder = true → x.whole = true → mctpKind (s.rxBytes b x) = some 1 → 5 ≤ (s.rxBytes b x).length → (2 ≤ (((s.rxBytes b x).getD 3 0).toNat % 4) ∨ (((s.rxBytes b x).getD 4 0).toNat) < 8 ∨ (((s.rxBytes b x).getD 4 0).toNat) = 255) →
      Completes (.setEndpointId b) s (fun t => t.outbox = s.outbox ++ [.mctp x.src x.tag (mctpHead (s.rxBytes b x) ++ [0x02])] ∧ nget? b.val t.br.rx = none ∧ t.br.eid = s.br.eid)) ∧
  (∀ (s : State) (b : Fin 8) (x : RxBuf), nget? b.val s.br.rx = some x → s.br.responder = true → x.whole = true → mctpKind (s.rxBytes b x) = some 4 → 4 ≤ (s.rxBytes b x).length → [0xFF, 0x00, 0x7F].contains ((s.rxBytes b x).getD 3 0).toNat = true →
      Completes (.getMctpVersionSupport b) s (fun t => t.outbox = s.outbox ++ [.mctp x.src x.tag (mctpHead (s.rxBytes b x) ++ [0, 1, 0xF1, 0xF3, 0xF1, 0x00])] ∧ nget? b.val t.br.rx = none)) ∧
  (∀ (s : State) (b : Fin 8) (x : RxBuf), nget? b.val s.br.rx = some x → s.br.responder = true → x.whole = true → mctpKind (s.rxBytes b x) = some 4 → 4 ≤ (s.rxBytes b x).length → [0xFF, 0x00, 0x7F].contains ((s.rxBytes b x).getD 3 0).toNat = false →
      Completes (.getMctpVersionSupport b) s (fun t => t.outbox = s.outbox ++ [.mctp x.src x.tag (mctpHead (s.rxBytes b x) ++ [0x80])] ∧ nget? b.val t.br.rx = none)) ∧
  (∀ (s : State) (b : Fin 8) (x : RxBuf), nget? b.val s.br.rx = some x → s.br.responder = true → x.whole = true → mctpKind (s.rxBytes b x) = some 5 →
      Completes (.getMessageTypeSupport b) s (fun t => t.outbox = s.outbox ++ [.mctp x.src x.tag (mctpHead (s.rxBytes b x) ++ [0, 1, 0x7F])] ∧ nget? b.val t.br.rx = none)) ∧
  (∀ (s : State) (b : Fin 8) (x : RxBuf), nget? b.val s.br.rx = some x → s.br.responder = true → x.whole = true → mctpKind (s.rxBytes b x) = some 0x101 →
      Completes (.getState b) s (fun t => t.outbox = s.outbox ++ [.mctp x.src x.tag (mctpHead (s.rxBytes b x) ++ ([0] ++ leBytes 8 (s.word .PU_STATUS) ++ leBytes 8 (s.word .PU_DIAG) ++ leBytes 8 (s.word .HJ_BOOT_STATUS)))] ∧ nget? b.val t.br.rx = none)) ∧
  (∀ (s : State) (b : Fin 8) (x : RxBuf), nget? b.val s.br.rx = some x → s.br.responder = true → x.whole = true → mctpKind (s.rxBytes b x) = some 0x102 → 7 ≤ (s.rxBytes b x).length → s.fuUp = true → ((s.rxBytes b x).getD 6 0).toNat < 128 →
      Completes (.readLog b) s (fun t => t.outbox = s.outbox ++ [.mctp x.src x.tag (mctpHead (s.rxBytes b x) ++ (leBytes 1 ST_OK ++ leBytes 128 (s.windowRead (.log ((s.rxBytes b x).getD 6 0).toNat 0) 128)))] ∧ nget? b.val t.br.rx = none)) ∧
  (∀ (s : State) (b : Fin 8) (x : RxBuf), nget? b.val s.br.rx = some x → s.br.responder = true → x.whole = true → mctpKind (s.rxBytes b x) = some 0x102 → 7 ≤ (s.rxBytes b x).length → (s.fuUp = false ∨ 128 ≤ ((s.rxBytes b x).getD 6 0).toNat) →
      Completes (.readLog b) s (fun t => t.outbox = s.outbox ++ [.mctp x.src x.tag (mctpHead (s.rxBytes b x) ++ (leBytes 1 ST_NO_MATCH))] ∧ nget? b.val t.br.rx = none)) ∧
  (∀ (s : State) (b : Fin 8) (x : RxBuf), nget? b.val s.br.rx = some x → s.br.responder = true → x.whole = true → mctpKind (s.rxBytes b x) = some 0x103 → 10 ≤ (s.rxBytes b x).length →
      Completes (.readReg b) s (fun t => t.outbox = s.outbox ++ [.mctp x.src x.tag (mctpHead (s.rxBytes b x) ++ (leBytes 1 (s.gatedAccess .bridge (leNat (((s.rxBytes b x).drop 6).take 4)) 64 none).2.1 ++ leBytes 8 (s.gatedAccess .bridge (leNat (((s.rxBytes b x).drop 6).take 4)) 64 none).2.2))] ∧ nget? b.val t.br.rx = none)) ∧
  (∀ (s : State) (b : Fin 8) (x : RxBuf), nget? b.val s.br.rx = some x → s.br.responder = true → x.whole = true → mctpKind (s.rxBytes b x) = some 0x104 → 8 ≤ (s.rxBytes b x).length → s.on PU_CMD_STATUS_BUSY = false → (s.pu.cmdDone = false ∨ s.g PU_CMD_STATUS_TAG ≠ (leNat (((s.rxBytes b x).drop 6).take 2))) → s.g PU_STATUS_STAGE ≠ 0 → s.pu.held = false → s.pu.flushing = none → (s.up = false ∨ s.on PU_CFG_FLUSH_ON_RESET = false) →
      Completes (.responderWarmReset b) s (fun t => t.outbox = s.outbox ++ [.mctp x.src x.tag (mctpHead (s.rxBytes b x) ++ (leBytes 1 ST_OK))] ∧ nget? b.val t.br.rx = none ∧ t.g PU_STATUS_STAGE = 2 ∧ t.g PU_STATUS_LAST_RESET = 3 ∧ t.g PU_CMD_STATUS_TAG = (leNat (((s.rxBytes b x).drop 6).take 2)) ∧ t.thr = [])) ∧
  (∀ (s : State) (b : Fin 8), (nget? b.val s.br.rx = none ∨ s.br.responder = false) →
      Completes (.getEndpointId b) s (fun t => t = s)) ∧
  (∀ (s : State) (b : Fin 8), (nget? b.val s.br.rx = none ∨ s.br.responder = false) →
      Completes (.setEndpointId b) s (fun t => t = s)) ∧
  (∀ (s : State) (b : Fin 8), (nget? b.val s.br.rx = none ∨ s.br.responder = false) →
      Completes (.getMctpVersionSupport b) s (fun t => t = s)) ∧
  (∀ (s : State) (b : Fin 8), (nget? b.val s.br.rx = none ∨ s.br.responder = false) →
      Completes (.getMessageTypeSupport b) s (fun t => t = s)) ∧
  (∀ (s : State) (b : Fin 8), (nget? b.val s.br.rx = none ∨ s.br.responder = false) →
      Completes (.getState b) s (fun t => t = s)) ∧
  (∀ (s : State) (b : Fin 8), (nget? b.val s.br.rx = none ∨ s.br.responder = false) →
      Completes (.readLog b) s (fun t => t = s)) ∧
  (∀ (s : State) (b : Fin 8), (nget? b.val s.br.rx = none ∨ s.br.responder = false) →
      Completes (.readReg b) s (fun t => t = s)) ∧
  (∀ (s : State) (b : Fin 8), (nget? b.val s.br.rx = none ∨ s.br.responder = false) →
      Completes (.responderWarmReset b) s (fun t => t = s)) ∧
  (∀ (s : State) (p : MctpPacket) (b : Nat), s.on BR_CFG_SMB_EN = true → p.pecOk = true → p.som = true → s.rxOf p = none → (List.range 8).find? (fun b => (nget? b s.br.rx).isNone) = some b → p.payload.length ≤ 4096 → s.br.responder = false →
      Completes (.smbusPacket p) s (fun t => nget? b t.br.rx = some { src := p.src, dst := p.dst, tag := p.tag, owner := p.owner, len := p.payload.length, seq := (p.seq.val + 1) % 4, whole := p.eom } ∧ t.rd (spRx b) 0 p.payload.length = p.payload)) ∧
  (∀ (s : State) (p : MctpPacket) (b : Nat) (x : RxBuf), s.on BR_CFG_SMB_EN = true → p.pecOk = true → p.som = false → p.eom = false → s.rxOf p = some (b, x) → p.seq.val = x.seq → x.len + p.payload.length ≤ 4096 →
      Completes (.smbusPacket p) s (fun t => nget? b t.br.rx = some { x with len := x.len + p.payload.length, seq := (p.seq.val + 1) % 4, whole := false } ∧ t.rd (spRx b) x.len p.payload.length = p.payload)) ∧
  (∀ (s : State) (p : MctpPacket), s.on BR_CFG_SMB_EN = true → p.pecOk = false →
      Completes (.smbusPacket p) s (fun t => t.br = s.br ∧ t.mem = s.mem ∧ t.g BR_CNT_PEC_BAD = min (s.g BR_CNT_PEC_BAD + 1) (2 ^ BR_CNT_PEC_BAD.width - 1) ∧ t.reported (src 0x11 BR_ERR_SMB_PEC.lsb) CE 0 = true)) ∧
  (∀ (s : State) (p : MctpPacket), s.on BR_CFG_SMB_EN = false →
      Completes (.smbusPacket p) s (fun t => t = s)) ∧
  (∀ (s : State) (b : Fin 8) (x : RxBuf), nget? b.val s.br.rx = some x → x.whole = false →
      Completes (.reassemblyTimeout b) s (fun t => nget? b.val t.br.rx = none ∧ t.g BR_CNT_REASM_DROP = min (s.g BR_CNT_REASM_DROP + 1) (2 ^ BR_CNT_REASM_DROP.width - 1) ∧ t.reported (src 0x11 BR_ERR_MCTP_REASM.lsb) CE 0 = true)) ∧
  (∀ (s : State) (b : Fin 8), nget? b.val s.br.rx = none →
      Completes (.reassemblyTimeout b) s (fun t => t = s)) ∧
  (∀ (s : State) (m : Master) (v : Fin 256) (b : Fin 8), s.accepts m .SMB_RX_REL 0 = true →
      Completes (.rxBufferRelease m v) s (fun t => (bit v b = false ∨ nget? b.val t.br.rx = none) ∧ (bit v b = true ∨ nget? b.val t.br.rx = nget? b.val s.br.rx) ∧ t.answered m ST_OK)) ∧
  (∀ (s : State) (m : Master) (v : Word), s.accepts m .SMB_TX_CMD 0 = true → 1 ≤ ({ v := v.toNat } : RegW).val SMB_TX_CMD_LEN → ({ v := v.toNat } : RegW).val SMB_TX_CMD_LEN ≤ 4096 → ({ v := v.toNat } : RegW).val SMB_TX_CMD_GO = 1 → nget? (({ v := v.toNat } : RegW).val SMB_TX_CMD_BUF) s.br.tx = none →
      Completes (.mctpTransmit m v) s (fun t => nget? (({ v := v.toNat } : RegW).val SMB_TX_CMD_BUF) t.br.tx = some v.toNat ∧ t.mem = s.mem ∧ t.answered m ST_OK)) ∧
  (∀ (s : State) (m : Master) (v : Word), s.accepts m .SMB_TX_CMD 0 = true → 1 ≤ ({ v := v.toNat } : RegW).val SMB_TX_CMD_LEN → ({ v := v.toNat } : RegW).val SMB_TX_CMD_LEN ≤ 4096 → ({ v := v.toNat } : RegW).val SMB_TX_CMD_GO = 1 → (nget? (({ v := v.toNat } : RegW).val SMB_TX_CMD_BUF) s.br.tx).isSome = true →
      Completes (.mctpTransmit m v) s (fun t => t.br = s.br ∧ t.answered m ST_RESOURCE_EXHAUSTED)) ∧
  (∀ (s : State) (m : Master) (v : Word), s.accepts m .SMB_TX_CMD 0 = true → (({ v := v.toNat } : RegW).val SMB_TX_CMD_LEN = 0 ∨ 4096 < ({ v := v.toNat } : RegW).val SMB_TX_CMD_LEN) →
      Completes (.mctpTransmit m v) s (fun t => t.br = s.br ∧ t.answered m ST_ACCESS_DENIED)) ∧
  (∀ (s : State) (b : Fin 4) (w : Nat), nget? b.val s.br.tx = some w → s.on BR_CFG_NOTICE_EN = false →
      Completes (.mctpTransmitDone b) s (fun t => nget? b.val t.br.tx = none ∧ t.outbox = s.outbox ++ (s.txPackets b w).2 ∧ t.mem = s.mem)) ∧
  (∀ (s : State) (b : Fin 4) (sent : Nat) (w : Nat), nget? b.val s.br.tx = some w → s.on BR_CFG_NOTICE_EN = false →
      Completes (.mctpTransmitTimeout b sent) s (fun t => nget? b.val t.br.tx = none ∧ t.outbox = s.outbox ++ (s.txPackets b w).2.take (min sent ((s.txPackets b w).2.length - 1)) ∧ t.mem = s.mem)) ∧
  (∀ (s : State) (b : Fin 4), nget? b.val s.br.tx = none →
      Completes (.mctpTransmitDone b) s (fun t => t = s)) ∧
  (∀ (s : State) (b : Fin 4), nget? b.val s.br.tx = none →
      Completes (.mctpTransmitTimeout b 1) s (fun t => t = s)) ∧
  (∀ (s : State) (dw : Nat) (th : Nat), s.up = true → s.br.notices = [dw] → s.thrOf (s.g BR_CFG_NOTICE_TID) = some th → (s.th th).rxq.length < 16 →
      Completes (.noticeRetry) s (fun t => t.br.notices = [] ∧ (t.th th).rxq = (s.th th).rxq ++ [msgBytes 0x00C1 0 0 [dw]] ∧ (t.th th).evtPend.testBit 3 = true)) ∧
  (∀ (s : State) (dw : Nat), s.br.notices = [dw] → s.noticePut dw = none →
      Completes (.noticeRetry) s (fun t => t = s.brMod (fun b => { b with waits := b.waits + 1 }))) ∧
  (∀ (s : State) (x : Nat) (rest : List Nat), s.on SB_CFG_SB_EN = true → s.br.sweep = none → (List.range 8).filter (fun x => s.on SB_EXP_VALID x) = x :: rest →
      Completes (.sidebandSweep) s (fun t => t.br.sweep = some (x :: rest) ∧ t.br.sweepUs = 0 ∧ t.outbox = s.outbox ++ [.expanderRead x])) ∧
  (∀ (s : State), s.on SB_CFG_SB_EN = true → s.br.sweep.isSome = true →
      Completes (.sidebandSweep) s (fun t => t.br.sweep = s.br.sweep ∧ t.br.due = true ∧ t.outbox = s.outbox ∧ t.g SB_STATUS_OVERRUNS = min (s.g SB_STATUS_OVERRUNS + 1) (2 ^ SB_STATUS_OVERRUNS.width - 1))) ∧
  (∀ (s : State), s.on SB_CFG_SB_EN = false →
      Completes (.sidebandSweep) s (fun t => t = s)) ∧
  (∀ (s : State) (us : Fin 65536) (x : Nat), s.br.sweep = some [x] → s.br.due = false →
      Completes (.expanderReadDone none us) s (fun t => t.br.sweep = none ∧ t.g SB_EXP_NAK x = 1 ∧ t.reported (src 0x11 BR_ERR_EXP_NAK.lsb) CE 0 = true ∧ t.cond nakCond.1 nakCond.2 = true ∧ t.g SB_STATUS_SWEEP_US = (min (s.br.sweepUs + us) (2 ^ 16 - 1)) % 2 ^ SB_STATUS_SWEEP_US.width ∧ (List.range 32).all (fun n => t.g SB_SLOT_PRESENT n == s.g SB_SLOT_PRESENT n && t.g SB_SLOT_ATTN n == s.g SB_SLOT_ATTN n) = true)) ∧
  (∀ (s : State) (d : Fin 65536) (us : Fin 65536) (x : Nat) (j : Fin 4), s.br.sweep = some [x] → s.br.due = false →
      Completes (.expanderReadDone (some d) us) s (fun t => t.br.sweep = none ∧ t.g SB_EXP_NAK x = 0 ∧ t.on SB_SLOT_ATTN (4 * x + j) = !(bit (bits d (4 * j.val) 4) 1) ∧ t.on SB_SLOT_ALERT (4 * x + j) = !(bit (bits d (4 * j.val) 4) 2) ∧ t.on SB_SLOT_PWRGD (4 * x + j) = bit (bits d (4 * j.val) 4) 3 ∧ (s.on SB_SLOT_ATTN (4 * x + j) = t.on SB_SLOT_ATTN (4 * x + j) ∨ t.on SB_SLOT_ATTN_CHG (4 * x + j) = true))) ∧
  (∀ (s : State) (d : Option (Fin 65536)) (us : Fin 65536), s.br.sweep = none →
      Completes (.expanderReadDone d us) s (fun t => t = s)) ∧
  (∀ (s : State) (m : Master) (tag : Fin 65536) (expect : Option (Fin 4294967296)), s.accepts m .BR_CMT 0 = true → s.on BR_CMT_STATUS_BUSY = false → (s.cmt.bridgeDone = false ∨ s.g BR_CMT_STATUS_TAG ≠ tag) →
      Completes (.bridgeCommitGo m tag expect) s (fun t => t.cmt.queue = s.cmt.queue ++ [{ id := s.cmt.nextId, owner := .bridge, entries := s.cmt.bridge, expect := expect.map (·.val), control := true }] ∧ t.g BR_CMT_STATUS_TAG = tag ∧ t.g BR_CMT_STATUS_BUSY = 1 ∧ t.mem = s.mem ∧ t.answered m ST_OK)) ∧
  (∀ (s : State) (m : Master) (tag : Fin 65536), s.accepts m .BR_CMT 0 = true → s.on BR_CMT_STATUS_BUSY = false → (s.cmt.bridgeDone = false ∨ s.g BR_CMT_STATUS_TAG ≠ tag) →
      Completes (.bridgeCommitAbort m tag) s (fun t => t.cmt.bridge = [] ∧ t.cmt.queue = s.cmt.queue ∧ t.g BR_CMT_STATUS_TAG = tag ∧ t.g BR_CMT_STATUS_STATUS = ST_OK ∧ t.answered m ST_OK)) ∧
  (∀ (s : State) (m : Master) (tag : Fin 65536), s.accepts m .BR_CMT 0 = true → s.on BR_CMT_STATUS_BUSY = true →
      Completes (.bridgeCommitGo m tag none) s (fun t => t = s.reply m ST_RESOURCE_EXHAUSTED)) ∧
  (∀ (s : State) (m : Master) (tag : Fin 65536), s.accepts m .BR_CMT 0 = true → s.on BR_CMT_STATUS_BUSY = true →
      Completes (.bridgeCommitAbort m tag) s (fun t => t = s.reply m ST_RESOURCE_EXHAUSTED))

/-- Resets, self-test stages and pilot-light state, case by case. The always-on reset leaves every field outside the tally words and rollback counters at its reset value, keeps those, lists no memory, threads or Sirfin unit state, and keeps the queue; PWRGOOD_RISE of a device without PWRGOOD starts stage 1 with LAST_RESET 1, the straps in ID_STACK, no memory or threads, the fuses kept and FAULT_N released, and is ignored with PWRGOOD high; PWRGOOD_FALL leaves stage 0, no pilot light, no threads, THERMTRIP_N released and the dirty lines added to LOST_DIRTY, and is ignored with PWRGOOD low; RESET_N_ASSERT of a run that has begun leaves stage 2 with LAST_RESET 2, held, the main domain reset, the dirty lines counted and the time base and Damper kept; before it, only the pin; RESET_N_RELEASE ends the hold; a warm-reset command that is new and allowed resets so at once with LAST_RESET 3 where no flush is asked for, and with no dirty line starts the flush where one is; a busy one answers RESOURCE_EXHAUSTED, a repeated tag its stored status; the flush timeout resets with the cause it holds, and is ignored without a flush; a stage that passes gives the next (4 to 8 here, with its counts and time; the rails in their windows, Hjelvon's test), one that fails enters pilot-light state with the cause and detail of Table 20-2 (stages 4 to 9, a rail outside its window, the entropy source, a known answer, both Kindling images bad, lifecycle END); a held run ignores results; a stage timeout of stages 1 to 9 enters pilot-light state with cause 0x0D and the stage, and is otherwise ignored; THERMTRIP asserts its pin with PWRGOOD and is ignored without (R7, R392 to R403, R428). Each clause concludes that exec answers a next state, from hypotheses on the state and the operands alone, for: ALWAYS_ON_RESET, PWRGOOD_RISE, PWRGOOD_FALL, RESET_N_ASSERT, RESET_N_RELEASE, PU_WARM_RESET, RESET_FLUSH_TIMEOUT, SELF_TEST_STAGE_DONE, STAGE_TIMEOUT, THERMTRIP. -/
def Obligations.ResetsStagesAndPilotLight : Prop :=
  (∀ (s : State) (n : Nat),
      Completes (.alwaysOnReset) s (fun t => (∀ (f : Fld) (i j : Nat), f.reg ≠ .TALLY → f.reg ≠ .RBC → t.g f i j = f.resetVal i) ∧ t.g TALLY_VALUE n = s.g TALLY_VALUE n ∧ t.g RBC_COUNT n = s.g RBC_COUNT n ∧ t.mem = [] ∧ t.thr = [] ∧ t.fl = {} ∧ t.pending = s.pending)) ∧
  (∀ (s : State) (n : Nat),
      Completes (.alwaysOnReset) s (fun t => t.g TALLY_VALUE n = s.g TALLY_VALUE n ∧ t.g RBC_COUNT n = s.g RBC_COUNT n ∧ t.g MIR_CFG_EN = 0 ∧ t.g PU_STATUS_STAGE = 0 ∧ t.mem = [] ∧ t.thr = [] ∧ t.fl = {} ∧ t.pending = s.pending ∧ t.up = false)) ∧
  (∀ (s : State) (dev : DevId) (ms : Bool) (octal : Bool) (n : Nat), s.pins.pwrgood = false →
      Completes (.pwrgoodRise dev ms octal) s (fun t => t.g PU_STATUS_STAGE = 1 ∧ t.g PU_STATUS_PILOT = 0 ∧ t.g PU_STATUS_LAST_RESET = 1 ∧ t.g ID_STACK_DEV_IN_STACK = dev ∧ t.g ID_STACK_MASTER_STRAP = b2n ms ∧ t.mem = [] ∧ t.thr = [] ∧ t.fl = {} ∧ t.pins.pwrgood = true ∧ t.pins.faultN = true ∧ t.g MIR_CFG_EN = 0 ∧ t.g TALLY_VALUE n = s.g TALLY_VALUE n)) ∧
  (∀ (s : State) (dev : DevId) (ms : Bool) (octal : Bool), s.pins.pwrgood = true →
      Completes (.pwrgoodRise dev ms octal) s (fun t => t = s)) ∧
  (∀ (s : State), s.pins.pwrgood = true →
      Completes (.pwrgoodFall) s (fun t => t.g PU_STATUS_STAGE = 0 ∧ t.g PU_STATUS_PILOT = 0 ∧ t.up = false ∧ t.pins.pwrgood = false ∧ t.pins.thermtrip = false ∧ t.thr = [] ∧ t.fl = {} ∧ t.g PU_DIAG_LOST_DIRTY = min (s.g PU_DIAG_LOST_DIRTY + s.dirtyLines) (2 ^ PU_DIAG_LOST_DIRTY.width - 1))) ∧
  (∀ (s : State), s.pins.pwrgood = false →
      Completes (.pwrgoodFall) s (fun t => t = s)) ∧
  (∀ (s : State), s.g PU_STATUS_STAGE ≠ 0 →
      Completes (.resetNAssert) s (fun t => t.g PU_STATUS_STAGE = 2 ∧ t.g PU_STATUS_PILOT = 0 ∧ t.g PU_STATUS_LAST_RESET = 2 ∧ t.thr = [] ∧ t.fl = {} ∧ t.g MIR_CFG_EN = 0 ∧ t.g PU_DIAG_LOST_DIRTY = min (s.g PU_DIAG_LOST_DIRTY + s.dirtyLines) (2 ^ PU_DIAG_LOST_DIRTY.width - 1) ∧ t.now = s.now ∧ t.dmp = s.dmp ∧ t.pu.held = true ∧ t.pins.resetN = false)) ∧
  (∀ (s : State), s.g PU_STATUS_STAGE = 0 →
      Completes (.resetNAssert) s (fun t => t.pins.resetN = false ∧ t.regs = s.regs ∧ t.mem = s.mem)) ∧
  (∀ (s : State),
      Completes (.resetNRelease) s (fun t => t.pins.resetN = true ∧ t.pu.held = false ∧ t.regs = s.regs ∧ t.mem = s.mem)) ∧
  (∀ (s : State) (m : Master) (tag : Fin 65536), s.accepts m .PU_CMD 0 = true → s.on PU_CMD_STATUS_BUSY = false → (s.pu.cmdDone = false ∨ s.g PU_CMD_STATUS_TAG ≠ tag) → s.g PU_STATUS_STAGE ≠ 0 → s.pu.held = false → s.pu.flushing = none → (s.up = false ∨ s.on PU_CFG_FLUSH_ON_RESET = false) →
      Completes (.puWarmReset m tag) s (fun t => t.g PU_STATUS_STAGE = 2 ∧ t.g PU_STATUS_PILOT = 0 ∧ t.g PU_STATUS_LAST_RESET = 3 ∧ t.thr = [] ∧ t.fl = {} ∧ t.g MIR_CFG_EN = 0 ∧ t.g PU_DIAG_LOST_DIRTY = min (s.g PU_DIAG_LOST_DIRTY + s.dirtyLines) (2 ^ PU_DIAG_LOST_DIRTY.width - 1) ∧ t.now = s.now ∧ t.dmp = s.dmp ∧ t.g PU_CMD_STATUS_TAG = tag ∧ t.g PU_CMD_STATUS_STATUS = ST_OK ∧ t.answered m ST_OK)) ∧
  (∀ (s : State) (m : Master) (tag : Fin 65536), s.accepts m .PU_CMD 0 = true → s.on PU_CMD_STATUS_BUSY = false → (s.pu.cmdDone = false ∨ s.g PU_CMD_STATUS_TAG ≠ tag) → s.g PU_STATUS_STAGE ≠ 0 → s.pu.held = false → s.pu.flushing = none → s.up = true → s.on PU_CFG_FLUSH_ON_RESET = true → s.hm.msc.all (fun e => !e.2.dirty) = true →
      Completes (.puWarmReset m tag) s (fun t => t.pu.flushing = some 3 ∧ t.g PU_STATUS_STAGE = s.g PU_STATUS_STAGE ∧ t.on MSC_CTRL_FLUSH_BUSY = true ∧ t.g PU_CMD_STATUS_STATUS = ST_OK ∧ t.answered m ST_OK)) ∧
  (∀ (s : State) (m : Master) (tag : Fin 65536), s.accepts m .PU_CMD 0 = true → s.on PU_CMD_STATUS_BUSY = true →
      Completes (.puWarmReset m tag) s (fun t => t = s.reply m ST_RESOURCE_EXHAUSTED)) ∧
  (∀ (s : State) (m : Master) (tag : Fin 65536), s.accepts m .PU_CMD 0 = true → s.on PU_CMD_STATUS_BUSY = false → s.pu.cmdDone = true → s.g PU_CMD_STATUS_TAG = tag →
      Completes (.puWarmReset m tag) s (fun t => t = s.reply m (s.g PU_CMD_STATUS_STATUS))) ∧
  (∀ (s : State) (k : Nat), s.pu.flushing = some k →
      Completes (.resetFlushTimeout) s (fun t => t.g PU_STATUS_STAGE = 2 ∧ t.g PU_STATUS_PILOT = 0 ∧ t.g PU_STATUS_LAST_RESET = k % 2 ^ PU_STATUS_LAST_RESET.width ∧ t.thr = [] ∧ t.fl = {} ∧ t.g MIR_CFG_EN = 0 ∧ t.g PU_DIAG_LOST_DIRTY = min (s.g PU_DIAG_LOST_DIRTY + s.dirtyLines) (2 ^ PU_DIAG_LOST_DIRTY.width - 1) ∧ t.now = s.now ∧ t.dmp = s.dmp)) ∧
  (∀ (s : State), s.pu.flushing = none →
      Completes (.resetFlushTimeout) s (fun t => t = s)) ∧
  (∀ (s : State) (k : Nat) (us : Fin 4294967296), (s.g PU_STATUS_STAGE = 5 ∨ s.g PU_STATUS_STAGE = 7 ∨ s.g PU_STATUS_STAGE = 8) → s.pu.held = false →
      Completes (.selfTestStageDone (.pass k) us) s (fun t => t.g PU_STATUS_STAGE = s.g PU_STATUS_STAGE + 1 ∧ t.g PU_STAGE_US_US (s.g PU_STATUS_STAGE) = us ∧ t.mem = s.mem)) ∧
  (∀ (s : State) (k : Nat) (us : Fin 4294967296), s.g PU_STATUS_STAGE = 4 → s.pu.held = false →
      Completes (.selfTestStageDone (.pass k) us) s (fun t => t.g PU_STATUS_STAGE = 5 ∧ t.g PU_DIAG_SRAM_REPAIRS = min k 0xFFFF % 2 ^ PU_DIAG_SRAM_REPAIRS.width ∧ t.g PU_STAGE_US_US 4 = us)) ∧
  (∀ (s : State) (k : Nat) (us : Fin 4294967296), s.g PU_STATUS_STAGE = 6 → s.pu.held = false →
      Completes (.selfTestStageDone (.pass k) us) s (fun t => t.g PU_STATUS_STAGE = 7 ∧ t.g PU_DIAG_HBM_REPAIRS = min k 0xFFFF % 2 ^ PU_DIAG_HBM_REPAIRS.width ∧ t.g PU_STAGE_US_US 6 = us)) ∧
  (∀ (s : State) (d : Fin 65536) (us : Fin 4294967296), 4 ≤ s.g PU_STATUS_STAGE → s.g PU_STATUS_STAGE ≤ 9 → s.pu.held = false →
      Completes (.selfTestStageDone (.fail d) us) s (fun t => t.g PU_STATUS_STAGE = 15 ∧ t.g PU_STATUS_PILOT = 1 ∧ t.g PU_STATUS_CAUSE = s.g PU_STATUS_STAGE + 2 ∧ t.g PU_STATUS_DETAIL = d ∧ t.g FU_STATUS_EMBER_RUN = 0 ∧ t.g BR_ALERT_PEND = 1 ∧ t.pins.mgmtAlertN = false ∧ t.br.responder = true ∧ t.up = false ∧ t.g PU_STAGE_US_US (s.g PU_STATUS_STAGE) = us)) ∧
  (∀ (s : State) (mv : List (Fin 65536)) (us : Fin 4294967296), s.g PU_STATUS_STAGE = 1 → (List.range 7).all (fun r => !(decide ((mv.map (·.val)).getD r 0 * 10 < (railWindows.getD r (0, 0)).1)) && !(decide ((mv.map (·.val)).getD r 0 * 10 > (railWindows.getD r (0, 0)).2))) = true → s.pu.held = false →
      Completes (.selfTestStageDone (.rails mv) us) s (fun t => t.g PU_STATUS_STAGE = 2 ∧ (List.range 7).all (fun r => t.g PU_RAIL_MV r == (mv.map (·.val)).getD r 0 && !(t.on PU_RAIL_LOW r) && !(t.on PU_RAIL_HIGH r)) = true)) ∧
  (∀ (s : State) (mv : List (Fin 65536)) (us : Fin 4294967296) (r : Fin 7), s.g PU_STATUS_STAGE = 1 → (decide ((mv.map (·.val)).getD r 0 * 10 < (railWindows.getD r (0, 0)).1) = true ∨ decide ((mv.map (·.val)).getD r 0 * 10 > (railWindows.getD r (0, 0)).2) = true) → (List.range r).all (fun r => !(decide ((mv.map (·.val)).getD r 0 * 10 < (railWindows.getD r (0, 0)).1)) && !(decide ((mv.map (·.val)).getD r 0 * 10 > (railWindows.getD r (0, 0)).2))) = true → s.pu.held = false →
      Completes (.selfTestStageDone (.rails mv) us) s (fun t => t.g PU_STATUS_STAGE = 15 ∧ t.g PU_STATUS_PILOT = 1 ∧ t.g PU_STATUS_CAUSE = 1 ∧ t.g PU_STATUS_DETAIL = r ∧ t.g FU_STATUS_EMBER_RUN = 0 ∧ t.g BR_ALERT_PEND = 1 ∧ t.pins.mgmtAlertN = false ∧ t.br.responder = true ∧ t.up = false)) ∧
  (∀ (s : State) (n : Fin 4) (us : Fin 4294967296), s.g PU_STATUS_STAGE = 3 → s.pu.held = false →
      Completes (.selfTestStageDone (.hjTest none n true) us) s (fun t => t.g PU_STATUS_STAGE = 4 ∧ t.g HJ_STATUS_SELFTEST_OK = 1 ∧ t.g HJ_DRBG_STATUS_INSTANTIATED = 1)) ∧
  (∀ (s : State) (n : Fin 4) (us : Fin 4294967296), s.g PU_STATUS_STAGE = 3 → s.pu.held = false →
      Completes (.selfTestStageDone (.hjTest none n false) us) s (fun t => t.g PU_STATUS_STAGE = 15 ∧ t.g PU_STATUS_PILOT = 1 ∧ t.g PU_STATUS_CAUSE = 5 ∧ t.g PU_STATUS_DETAIL = n ∧ t.g FU_STATUS_EMBER_RUN = 0 ∧ t.g BR_ALERT_PEND = 1 ∧ t.pins.mgmtAlertN = false ∧ t.br.responder = true ∧ t.up = false ∧ t.g HJ_DRBG_STATUS_HEALTHY = 0)) ∧
  (∀ (s : State) (k : Fin 16) (n : Fin 4) (e : Bool) (us : Fin 4294967296), s.g PU_STATUS_STAGE = 3 → s.pu.held = false →
      Completes (.selfTestStageDone (.hjTest (some k) n e) us) s (fun t => t.g PU_STATUS_STAGE = 15 ∧ t.g PU_STATUS_PILOT = 1 ∧ t.g PU_STATUS_CAUSE = 4 ∧ t.g PU_STATUS_DETAIL = k ∧ t.g FU_STATUS_EMBER_RUN = 0 ∧ t.g BR_ALERT_PEND = 1 ∧ t.pins.mgmtAlertN = false ∧ t.br.responder = true ∧ t.up = false ∧ t.g HJ_STATUS_ERROR_STATE = 1 ∧ t.hj.slots = [])) ∧
  (∀ (s : State) (a : List Byte) (b : List Byte) (us : Fin 4294967296), s.g PU_STATUS_STAGE = 2 → s.g TALLY_VALUE 0 ≠ 3 → fieldOf ((a ++ List.replicate 0x3000 0).take 0x3000) 0 4 ≠ 0x4B424A48 → fieldOf ((b ++ List.replicate 0x3000 0).take 0x3000) 0 4 ≠ 0x4B424A48 → s.pu.held = false →
      Completes (.selfTestStageDone (.kindling a b) us) s (fun t => t.g PU_STATUS_STAGE = 15 ∧ t.g PU_STATUS_PILOT = 1 ∧ t.g PU_STATUS_CAUSE = 2 ∧ t.g PU_STATUS_DETAIL = 2 + 2 * 2 ^ 8 ∧ t.g FU_STATUS_EMBER_RUN = 0 ∧ t.g BR_ALERT_PEND = 1 ∧ t.pins.mgmtAlertN = false ∧ t.br.responder = true ∧ t.up = false ∧ t.g HJ_BOOT_STATUS_FAIL_A = 2 ∧ t.g HJ_BOOT_STATUS_FAIL_B = 2 ∧ t.g HJ_BOOT_STATUS_BOOT_US = (s.g PU_STAGE_US_US 1 + us) % 2 ^ 32)) ∧
  (∀ (s : State) (a : List Byte) (b : List Byte) (us : Fin 4294967296), s.g PU_STATUS_STAGE = 2 → s.g TALLY_VALUE 0 = 3 → s.pu.held = false →
      Completes (.selfTestStageDone (.kindling a b) us) s (fun t => t.g PU_STATUS_STAGE = 15 ∧ t.g PU_STATUS_PILOT = 1 ∧ t.g PU_STATUS_CAUSE = 3 ∧ t.g PU_STATUS_DETAIL = 0 ∧ t.g FU_STATUS_EMBER_RUN = 0 ∧ t.g BR_ALERT_PEND = 1 ∧ t.pins.mgmtAlertN = false ∧ t.br.responder = true ∧ t.up = false)) ∧
  (∀ (s : State) (r : StageResult) (us : Fin 4294967296), s.pu.held = true →
      Completes (.selfTestStageDone r us) s (fun t => t = s)) ∧
  (∀ (s : State), 1 ≤ s.g PU_STATUS_STAGE → s.g PU_STATUS_STAGE ≤ 9 → s.pu.held = false →
      Completes (.stageTimeout) s (fun t => t.g PU_STATUS_STAGE = 15 ∧ t.g PU_STATUS_PILOT = 1 ∧ t.g PU_STATUS_CAUSE = 0x0D ∧ t.g PU_STATUS_DETAIL = s.g PU_STATUS_STAGE ∧ t.g FU_STATUS_EMBER_RUN = 0 ∧ t.g BR_ALERT_PEND = 1 ∧ t.pins.mgmtAlertN = false ∧ t.br.responder = true ∧ t.up = false)) ∧
  (∀ (s : State), (s.g PU_STATUS_STAGE = 0 ∨ 9 < s.g PU_STATUS_STAGE ∨ s.pu.held = true) →
      Completes (.stageTimeout) s (fun t => t = s)) ∧
  (∀ (s : State), s.pins.pwrgood = true →
      Completes (.thermtrip) s (fun t => t.pins.thermtrip = true ∧ t.regs = s.regs ∧ t.mem = s.mem)) ∧
  (∀ (s : State), s.pins.pwrgood = false →
      Completes (.thermtrip) s (fun t => t = s))

/-- Counter sweeps, counter sets, counter notices and Chimney writes, case by case. A sweep command with none running starts one with the next number and the start time and answers OK, with one running answers RETRY; a periodic sweep with its period set starts so, or with one running counts an overrun and is due, and with period 0 does nothing; a sweep's end that succeeds writes the header, the swept counters and the number at the end of the header into the snapshot, one that fails records SNAP_FAIL, with one due the next starts, and without a sweep nothing happens; CSET_MAP with USED 1 into a free slot of a valid set, of a counter that exists and is free, binds it with its instance where the selected event may be filtered by instance and otherwise answers ACCESS_DENIED; with USED 0 it gives the counter up and keeps its value; of a frozen set it answers ACCESS_DENIED; a waiting notice goes to its thread's queue when it has room and otherwise waits; a Chimney write that fails is recorded, one that succeeds changes nothing (R404 to R415). Each clause concludes that exec answers a next state, from hypotheses on the state and the operands alone, for: COUNTER_SWEEP, PERIODIC_SWEEP, SWEEP_COMPLETE, COUNTER_SET_BIND, COUNTER_NOTICE_RETRY, CHIMNEY_WRITE_CONCLUDE. -/
def Obligations.CountersAndChimney : Prop :=
  (∀ (s : State) (m : Master), s.up = true → s.accepts m .CNT_CTRL 0 = true → s.on CNT_STATUS_SWEEPING = false →
      Completes (.counterSweep m) s (fun t => t.g CNT_STATUS_SWEEPING = 1 ∧ t.g CNT_STATUS_SWEEP_SEQ = (s.g CNT_STATUS_SWEEP_SEQ + 1) % 2 ^ CNT_STATUS_SWEEP_SEQ.width ∧ t.cnt.startNs = s.now ∧ t.g CNT_STATUS_CMD_STATUS = ST_OK ∧ t.mem = s.mem ∧ t.answered m ST_OK)) ∧
  (∀ (s : State) (m : Master), s.up = true → s.accepts m .CNT_CTRL 0 = true → s.on CNT_STATUS_SWEEPING = true →
      Completes (.counterSweep m) s (fun t => t.g CNT_STATUS_SWEEP_SEQ = s.g CNT_STATUS_SWEEP_SEQ ∧ t.cnt = s.cnt ∧ t.g CNT_STATUS_CMD_STATUS = ST_RETRY ∧ t.answered m ST_RETRY)) ∧
  (∀ (s : State), s.up = true → s.g CNT_CFG_SWEEP_PERIOD_US ≠ 0 → s.on CNT_STATUS_SWEEPING = false →
      Completes (.periodicSweep) s (fun t => t.g CNT_STATUS_SWEEPING = 1 ∧ t.g CNT_STATUS_SWEEP_SEQ = (s.g CNT_STATUS_SWEEP_SEQ + 1) % 2 ^ CNT_STATUS_SWEEP_SEQ.width ∧ t.cnt.startNs = s.now)) ∧
  (∀ (s : State), s.up = true → s.g CNT_CFG_SWEEP_PERIOD_US ≠ 0 → s.on CNT_STATUS_SWEEPING = true →
      Completes (.periodicSweep) s (fun t => t.cnt.due = true ∧ t.g CNT_STATUS_OVERRUNS = min (s.g CNT_STATUS_OVERRUNS + 1) (2 ^ CNT_STATUS_OVERRUNS.width - 1) ∧ t.g CNT_STATUS_SWEEP_SEQ = s.g CNT_STATUS_SWEEP_SEQ)) ∧
  (∀ (s : State), s.up = true → s.g CNT_CFG_SWEEP_PERIOD_US = 0 →
      Completes (.periodicSweep) s (fun t => t = s)) ∧
  (∀ (s : State), s.up = true → s.on CNT_STATUS_SWEEPING = true → s.cnt.due = false → s.on CNT_CFG_NOTE_EN = false →
      Completes (.sweepComplete true) s (fun t => t.g CNT_STATUS_SWEEPING = 0 ∧ t.rd spHbm (s.g CNT_SNAP_SNAP_BASE * 64) 64 = leBytes 8 ((s.g CNT_STATUS_SWEEP_SEQ) + s.swept.length * 2 ^ 32) ++ leBytes 8 s.cnt.startNs ++ leBytes 8 s.now ++ leBytes 8 (s.g CNT_CFG_BANK_FIRST + s.g CNT_CFG_BANK_LAST * 256) ++ List.replicate 24 0 ++ leBytes 8 (s.g CNT_STATUS_SWEEP_SEQ) ∧ t.rd spHbm ((s.g CNT_SNAP_SNAP_BASE * 64) + 64) (8 * s.swept.length) = s.swept.flatMap (fun c => leBytes 8 (s.g CNT_VAL_VALUE c.1 c.2 + s.g CNT_VAL_OVF c.1 c.2 * 2 ^ 48)))) ∧
  (∀ (s : State), s.up = true → s.on CNT_STATUS_SWEEPING = true → s.cnt.due = false →
      Completes (.sweepComplete false) s (fun t => t.g CNT_STATUS_SWEEPING = 0 ∧ t.g CNT_ERR_SNAP_FAIL = 1 ∧ t.reported (src 0x12 CNT_ERR_SNAP_FAIL.lsb) CE 0 = true)) ∧
  (∀ (s : State) (ok : Bool), s.up = true → s.on CNT_STATUS_SWEEPING = true → s.cnt.due = true → s.on CNT_CFG_NOTE_EN = false →
      Completes (.sweepComplete ok) s (fun t => t.g CNT_STATUS_SWEEPING = 1 ∧ t.g CNT_STATUS_SWEEP_SEQ = ((s.g CNT_STATUS_SWEEP_SEQ) + 1) % 2 ^ CNT_STATUS_SWEEP_SEQ.width ∧ t.cnt.due = false)) ∧
  (∀ (s : State) (ok : Bool), s.up = true → s.on CNT_STATUS_SWEEPING = false →
      Completes (.sweepComplete ok) s (fun t => t = s)) ∧
  (∀ (s : State) (m : Master) (c : Fin 256) (j : Fin 8) (v : Word), s.up = true → s.accepts m .CSET_MAP c j = true → s.setFrozen c = false → ({ v := v.toNat } : RegW).val CSET_MAP_USED = 1 → s.on CSET_CFG_VALID c = true → (({ v := v.toNat } : RegW).val CSET_MAP_COUNTER) < bankCount (({ v := v.toNat } : RegW).val CSET_MAP_BANK) → s.on CNT_SEL_BOUND (({ v := v.toNat } : RegW).val CSET_MAP_BANK) (({ v := v.toNat } : RegW).val CSET_MAP_COUNTER) = false → s.on CNT_SEL_EN (({ v := v.toNat } : RegW).val CSET_MAP_BANK) (({ v := v.toNat } : RegW).val CSET_MAP_COUNTER) = false → s.slotCounter c j = none →
      Completes (.counterSetBind m c j v) s (fun t => (if evtListed (({ v := v.toNat } : RegW).val CSET_MAP_BANK) (s.g CNT_SEL_EVENT (({ v := v.toNat } : RegW).val CSET_MAP_BANK) (({ v := v.toNat } : RegW).val CSET_MAP_COUNTER)) (fun e => bit e 14) then t.g CSET_MAP_USED c j = 1 ∧ t.g CSET_MAP_BANK c j = (({ v := v.toNat } : RegW).val CSET_MAP_BANK) ∧ t.g CSET_MAP_COUNTER c j = (({ v := v.toNat } : RegW).val CSET_MAP_COUNTER) ∧ t.g CNT_SEL_BOUND (({ v := v.toNat } : RegW).val CSET_MAP_BANK) (({ v := v.toNat } : RegW).val CSET_MAP_COUNTER) = 1 ∧ t.g CNT_SEL_INST_EN (({ v := v.toNat } : RegW).val CSET_MAP_BANK) (({ v := v.toNat } : RegW).val CSET_MAP_COUNTER) = 1 ∧ t.g CNT_SEL_INST (({ v := v.toNat } : RegW).val CSET_MAP_BANK) (({ v := v.toNat } : RegW).val CSET_MAP_COUNTER) = s.instId (s.g CSET_CFG_INST c) % 2 ^ CNT_SEL_INST.width ∧ t.answered m ST_OK else t.regs = s.regs ∧ t.answered m ST_ACCESS_DENIED))) ∧
  (∀ (s : State) (m : Master) (c : Fin 256) (j : Fin 8) (v : Word) (b : Nat) (k : Nat), s.up = true → s.accepts m .CSET_MAP c j = true → s.setFrozen c = false → ({ v := v.toNat } : RegW).val CSET_MAP_USED = 0 → s.slotCounter c j = some (b, k) →
      Completes (.counterSetBind m c j v) s (fun t => t.g CSET_MAP_USED c j = 0 ∧ t.g CNT_SEL_BOUND b k = 0 ∧ t.g CNT_VAL_VALUE b k = s.g CNT_VAL_VALUE b k ∧ t.mem = s.mem ∧ t.answered m ST_OK)) ∧
  (∀ (s : State) (m : Master) (c : Fin 256) (j : Fin 8) (v : Word), s.up = true → s.accepts m .CSET_MAP c j = true → s.setFrozen c = true →
      Completes (.counterSetBind m c j v) s (fun t => t.regs = s.regs ∧ t.answered m ST_ACCESS_DENIED)) ∧
  (∀ (s : State) (x : Nat × Nat × Nat) (th : Nat), s.up = true → s.cnt.notices = [x] → s.thrOf (s.g CNT_CFG_NOTE_TID) = some th → (s.th th).rxq.length < 16 →
      Completes (.counterNoticeRetry) s (fun t => t.cnt.notices = [] ∧ (t.th th).rxq = (s.th th).rxq ++ [msgBytes 0x00C2 0 0 [x.1 + x.2.1 * 256 + x.2.2 * 65536]] ∧ t.regs = s.regs)) ∧
  (∀ (s : State) (x : Nat × Nat × Nat) (th : Nat), s.up = true → s.cnt.notices = [x] → s.thrOf (s.g CNT_CFG_NOTE_TID) = some th → 16 ≤ (s.th th).rxq.length →
      Completes (.counterNoticeRetry) s (fun t => t = s)) ∧
  (∀ (s : State) (h : HearthId) (ok : Bool) (q : Nat), s.up = true → ok = false → nget? h.val s.cnt.chmSeq = some q →
      Completes (.chimneyWriteConclude h ok) s (fun t => t.g CNT_ERR_CHM_FAIL = 1 ∧ t.reported (src 0x12 CNT_ERR_CHM_FAIL.lsb) CE 0 = true ∧ t.cnt = s.cnt ∧ t.mem = s.mem)) ∧
  (∀ (s : State) (h : HearthId) (ok : Bool), s.up = true → ok = true →
      Completes (.chimneyWriteConclude h ok) s (fun t => t = s))

/-- Division raises no exception and has its corner results; shifts use the low six bits of the amount. On a thread that runs an ALU or SHI instruction, whose hearth does not sample and for which no STOP waits: a division completes at the next instruction with some value in RD; by 0 it is all ones for DIVU and DIV and RA for REMU and REM, and -2^63 by -1 gives -2^63 and 0; a shift or rotation of RA uses RB mod 64, or the low six bits of IMM (R172). -/
def Obligations.DivisionAndShifts : Prop :=
  (∀ (th : ThrId) (s : State) (w : Nat), s.up = true → s.runs th .alu w = true → s.quiet th = true → wFn w = 0x10 ∨ wFn w = 0x11 ∨ wFn w = 0x12 ∨ wFn w = 0x13 →
    ∃ v, exec (.alu th) s = .next ((s.grSet th (wRd w) v).goesTo th ((s.th th).pc + 4)) ∧
      (s.gr th (wRb w) = 0 → wFn w = 0x10 ∨ wFn w = 0x12 → v = 2 ^ 64 - 1) ∧
      (s.gr th (wRb w) = 0 → wFn w = 0x11 ∨ wFn w = 0x13 → v = s.gr th (wRa w)) ∧
      (s.gr th (wRa w) = 2 ^ 63 → s.gr th (wRb w) = 2 ^ 64 - 1 → (wFn w = 0x12 → v = 2 ^ 63) ∧ (wFn w = 0x13 → v = 0))) ∧
  (∀ (th : ThrId) (s : State) (w v n : Nat), s.up = true → s.runs th .alu w = true → s.quiet th = true → v = s.gr th (wRa w) →
    n = s.gr th (wRb w) % 64 →
    (wFn w = 0x07 → exec (.alu th) s = .next ((s.grSet th (wRd w) (v * 2 ^ n % 2 ^ 64)).goesTo th ((s.th th).pc + 4))) ∧
    (wFn w = 0x08 → exec (.alu th) s = .next ((s.grSet th (wRd w) (v / 2 ^ n)).goesTo th ((s.th th).pc + 4))) ∧
    (wFn w = 0x09 → exec (.alu th) s = .next ((s.grSet th (wRd w) (wrap (sext v 64 / 2 ^ n) 64)).goesTo th ((s.th th).pc + 4))) ∧
    (wFn w = 0x0A → exec (.alu th) s =
      .next ((s.grSet th (wRd w) ((v / 2 ^ n + v * 2 ^ (64 - n) % 2 ^ 64) % 2 ^ 64)).goesTo th ((s.th th).pc + 4)))) ∧
  (∀ (th : ThrId) (s : State) (w v n : Nat), s.up = true → s.runs th .shi w = true → s.quiet th = true → v = s.gr th (wRa w) → n = wImm w % 64 →
    (bits w 6 2 = 0 → exec (.shi th) s = .next ((s.grSet th (wRd w) (v * 2 ^ n % 2 ^ 64)).goesTo th ((s.th th).pc + 4))) ∧
    (bits w 6 2 = 1 → exec (.shi th) s = .next ((s.grSet th (wRd w) (v / 2 ^ n)).goesTo th ((s.th th).pc + 4))) ∧
    (bits w 6 2 = 2 → exec (.shi th) s = .next ((s.grSet th (wRd w) (wrap (sext v 64 / 2 ^ n) 64)).goesTo th ((s.th th).pc + 4))) ∧
    (bits w 6 2 = 3 → exec (.shi th) s =
      .next ((s.grSet th (wRd w) ((v / 2 ^ n + v * 2 ^ (64 - n) % 2 ^ 64) % 2 ^ 64)).goesTo th ((s.th th).pc + 4))))

/-- Outside stage 0x0A a command of the main domain changes nothing. While the device is not operational, or is in pilot-light state, every command of a block of the main domain leaves the state as it is (R393, R395; that the command is taken and changes nothing is the model's choice, log 42). -/
def Obligations.MainDomainHoldsOutsideService : Prop :=
  ∀ (c : Instr) (s : State), inMainDomain c = true → s.up = false → exec c s = .next s

/-- Each command changes only the parts of the state its rules reach. For every command and every state: the queue of waiting commands is as it was, and every part of the state beside the register file (memory with every byte, threads, line caches, units in the switch, home, placement, flues, instances, stack, Damper, Hjelvon, bridge, counters, pins, answers, messages) that the command's row of the frame table does not name is as it was. -/
def Obligations.CommandsLeaveOtherParts : Prop :=
  ∀ (c : Instr) (s t : State), exec c s = .next t → t.pending = s.pending ∧ ∀ p : StatePart, p ∉ partsOf c → p.same s t

/-- Each command changes only the registers its rules name. For every command with a row of at most 20 registers in the frame table, every state, and every field of every register the row does not name, at every copy: the field reads after the command as it read before. -/
def Obligations.CommandsLeaveOtherRegisters : Prop :=
  ∀ (c : Instr) (s t : State) (rs : List RegName), exec c s = .next t → regsOf c = some rs → ∀ (f : Fld) (i j : Nat), f.reg ∉ rs → t.g f i j = s.g f i j
end

