-- ==== Sys2Proof/Laws/Store.lean ====
section
/-! SUPPORT. Reading after writing in the sparse maps and the memory, and the canonical form that every memory operation keeps. -/

namespace Sys2Proof.Machine

variable {α : Type}

/-! ## Reading after writing -/

/-- What a map with an entry set reads as: the value at its key, and everywhere else what it read before. -/
theorem nget?_nset (k k' : Nat) (v : α) (m : NMap α) : nget? k' (nset k v m) = if k = k' then some v else nget? k' m := by
  induction m with
  | nil => rfl
  | cons e m ih =>
    by_cases hlt : e.1 < k
    · simp only [nset, if_pos hlt, nget?, ih]
      split <;> first | rfl | (split <;> first | rfl | omega)
    · by_cases heq : e.1 = k
      · subst heq
        simp only [nset, lt_irrefl, if_false, if_true, nget?]
        split <;> rfl
      · simp only [nset, if_neg hlt, if_neg heq, nget?]

theorem nget?_nset_self (k : Nat) (v : α) (m : NMap α) : nget? k (nset k v m) = some v := by rw [nget?_nset, if_pos rfl]

theorem nget?_nset_of_ne {k k' : Nat} (h : k ≠ k') (v : α) (m : NMap α) : nget? k' (nset k v m) = nget? k' m := by
  rw [nget?_nset, if_neg h]

/-- What a map with a key erased reads as: nothing there, and everywhere else what it read before. -/
theorem nget?_nerase (k k' : Nat) (m : NMap α) : nget? k' (nerase k m) = if k = k' then none else nget? k' m := by
  induction m with
  | nil => simp [nerase, nget?]
  | cons e m ih =>
    unfold nerase at ih ⊢
    by_cases he : e.1 = k
    · rw [List.filter_cons_of_neg (by simp [he]), ih]
      simp only [nget?, he]
      split <;> rfl
    · rw [List.filter_cons_of_pos (by simp [he])]
      simp only [nget?, ih]
      split <;> first | rfl | (split <;> first | rfl | omega)

theorem nget?_nerase_self (k : Nat) (m : NMap α) : nget? k (nerase k m) = none := by rw [nget?_nerase, if_pos rfl]

theorem nget?_nerase_of_ne {k k' : Nat} (h : k ≠ k') (m : NMap α) : nget? k' (nerase k m) = nget? k' m := by
  rw [nget?_nerase, if_neg h]

/-- An entry put reads as itself, and as the default where it was erased. -/
theorem ngetD_nput_self [DecidableEq α] (d v : α) (k : Nat) (m : NMap α) : ngetD (nput d k v m) k d = v := by
  unfold nput ngetD
  split
  · rw [nget?_nerase_self]; simp_all
  · rw [nget?_nset_self]; rfl

/-- Every other entry reads as before. -/
theorem ngetD_nput_of_ne [DecidableEq α] {k k' : Nat} (h : k ≠ k') (d d' v : α) (m : NMap α) : ngetD (nput d k v m) k' d' = ngetD m k' d' := by
  unfold nput ngetD
  split
  · rw [nget?_nerase_of_ne h]
  · rw [nget?_nset_of_ne h]

theorem ngetD_nset_self (d v : α) (k : Nat) (m : NMap α) : ngetD (nset k v m) k d = v := by simp [ngetD, nget?_nset_self]

theorem ngetD_nset_of_ne {k k' : Nat} (h : k ≠ k') (d v : α) (m : NMap α) : ngetD (nset k v m) k' d = ngetD m k' d := by
  simp [ngetD, nget?_nset_of_ne h]

/-! ## The canonical form (R64, log 3) -/

/-- Every key of a map is above a bound. -/
def nabove (b : Nat) (m : NMap α) : Prop := ∀ e ∈ m, b < e.1

theorem nsorted_cons {k : Nat} {v : α} {m : NMap α} : nsorted ((k, v) :: m) = true ↔ nabove k m ∧ nsorted m = true := by
  induction m generalizing k v with
  | nil => simp [nsorted, nabove]
  | cons e m ih =>
    obtain ⟨k', v'⟩ := e
    simp only [nsorted, Bool.and_eq_true, decide_eq_true_eq, nabove, List.mem_cons, forall_eq_or_imp]
    constructor
    · rintro ⟨h, hs⟩
      exact ⟨⟨h, fun e he => Nat.lt_trans h ((ih.mp hs).1 e he)⟩, hs⟩
    · rintro ⟨⟨h, _⟩, hs⟩
      exact ⟨h, hs⟩

/-- An entry of a map after a set is the one set or stood there before. -/
theorem mem_nset {k : Nat} {v : α} {m : NMap α} {e : Nat × α} : e ∈ nset k v m → e = (k, v) ∨ e ∈ m := by
  induction m with
  | nil => simp [nset]
  | cons x m ih =>
    simp only [nset]
    split_ifs <;> simp only [List.mem_cons]
    all_goals tauto

/-- An entry of a map after an erasure stood there before. -/
theorem mem_nerase {k : Nat} {m : NMap α} {e : Nat × α} (h : e ∈ nerase k m) : e ∈ m := (List.mem_filter.mp h).1

/-- A map set keeps its keys strictly rising. -/
theorem nsorted_nset (k : Nat) (v : α) (m : NMap α) (h : nsorted m = true) : nsorted (nset k v m) = true := by
  induction m with
  | nil => rfl
  | cons x m ih =>
    have hc := nsorted_cons.mp h
    simp only [nset]
    split_ifs with hlt heq
    · exact nsorted_cons.mpr ⟨fun e he => (mem_nset he).elim (fun hk => hk ▸ hlt) (hc.1 e), ih hc.2⟩
    · exact nsorted_cons.mpr ⟨heq ▸ hc.1, hc.2⟩
    · have hk : k < x.1 := by omega
      exact nsorted_cons.mpr ⟨List.forall_mem_cons.mpr ⟨hk, fun e he => hk.trans (hc.1 e he)⟩, h⟩

/-- A key erased leaves the keys strictly rising. -/
theorem nsorted_nerase (k : Nat) (m : NMap α) (h : nsorted m = true) : nsorted (nerase k m) = true := by
  induction m with
  | nil => rfl
  | cons x m ih =>
    have hc := nsorted_cons.mp h
    unfold nerase at ih ⊢
    by_cases hx : x.1 = k
    · rw [List.filter_cons_of_neg (by simp [hx])]
      exact ih hc.2
    · rw [List.filter_cons_of_pos (by simp [hx])]
      exact nsorted_cons.mpr ⟨fun e he => hc.1 e (mem_nerase he), ih hc.2⟩

/-- One byte written keeps the canonical form of memory. -/
theorem memWf_memSet (m : List Host.Cell) (a : Nat) (b : Byte) (h : memWf m = true) : memWf (memSet m a b) = true := by
  simp only [memWf, Bool.and_eq_true, List.all_eq_true] at h ⊢
  unfold memSet nput
  split
  · exact ⟨nsorted_nerase a m h.1, fun e he => h.2 e (mem_nerase he)⟩
  · rename_i hb
    refine ⟨nsorted_nset a b m h.1, fun e he => ?_⟩
    rcases mem_nset he with rfl | he
    · simpa using hb
    · exact h.2 e he

/-- Bytes written keep the canonical form of memory. -/
theorem memWf_memWrite (m : List Host.Cell) (a : Nat) (bs : List Byte) (h : memWf m = true) : memWf (memWrite m a bs) = true := by
  induction bs generalizing m a with
  | nil => exact h
  | cons b bs ih => exact ih _ _ (memWf_memSet m a b h)

/-- A byte written reads as itself. -/
theorem memByte_memSet_self (m : List Host.Cell) (a : Nat) (b : Byte) : memByte (memSet m a b) a = b := ngetD_nput_self memUnlisted b a m

/-- A byte written leaves every other byte. -/
theorem memByte_memSet_of_ne {a a' : Nat} (h : a ≠ a') (m : List Host.Cell) (b : Byte) : memByte (memSet m a b) a' = memByte m a' :=
  ngetD_nput_of_ne h _ _ _ _

/-- Bytes written leave every byte outside their run. -/
theorem memByte_memWrite_outside (m : List Host.Cell) (a : Nat) (bs : List Byte) (x : Nat) (h : x < a ∨ a + bs.length ≤ x) :
    memByte (memWrite m a bs) x = memByte m x := by
  induction bs generalizing m a with
  | nil => rfl
  | cons b bs ih =>
    simp only [List.length_cons] at h
    unfold memWrite
    rw [ih (memSet m a b) (a + 1) (by omega), memByte_memSet_of_ne (by omega)]

/-- As many bytes are read as were asked for. -/
@[simp] theorem memBytes_length (m : List Host.Cell) (a n : Nat) : (memBytes m a n).length = n := by
  induction n generalizing a with
  | zero => rfl
  | succ n ih => simp [memBytes, ih]

/-- Bytes written read back. -/
theorem memBytes_memWrite_self (m : List Host.Cell) (a : Nat) (bs : List Byte) : memBytes (memWrite m a bs) a bs.length = bs := by
  induction bs generalizing m a with
  | nil => rfl
  | cons b bs ih =>
    simp only [memWrite, List.length_cons, memBytes]
    rw [memByte_memWrite_outside _ _ _ _ (.inl (Nat.lt_succ_self a)), memByte_memSet_self, ih]

/-- Bytes beside those written read as before. -/
theorem memBytes_memWrite_outside (m : List Host.Cell) (a : Nat) (bs : List Byte) (x n : Nat) (h : x + n ≤ a ∨ a + bs.length ≤ x) :
    memBytes (memWrite m a bs) x n = memBytes m x n := by
  induction n generalizing x with
  | zero => rfl
  | succ n ih =>
    simp only [memBytes]
    rw [memByte_memWrite_outside _ _ _ _ (by omega), ih _ (by omega)]

@[simp] theorem leBytes_length (n v : Nat) : (leBytes n v).length = n := by
  induction n generalizing v with
  | zero => rfl
  | succ n ih => simp [leBytes, ih]

/-- The number of a number's bytes is the number, cut to them (R168). -/
theorem leNat_leBytes (n v : Nat) : leNat (leBytes n v) = v % 256 ^ n := by
  induction n generalizing v with
  | zero => simp [leBytes, leNat, Nat.mod_one]
  | succ n ih =>
    have e : 256 ^ (n + 1) = 256 * 256 ^ n := by rw [Nat.pow_succ, Nat.mul_comm]
    have b : (BitVec.ofNat 8 v).toNat = v % 256 := BitVec.toNat_ofNat v 8
    simp only [leBytes, leNat, ih, b]
    rw [e, Nat.mod_mul]

end Sys2Proof.Machine
end

