-- ==== Sys2Proof/Laws/Fields.lean ====
section
/-! SUPPORT. Reading a register field after a write of it or of another. -/

namespace Sys2Proof.Machine

/-- Two field copies that differ in register, place or number have different keys. -/
theorem Fld.key_ne {f f' : Fld} {i j i' j' : Nat} (h : f.reg.ctorIdx ≠ f'.reg.ctorIdx ∨ f.lsb ≠ f'.lsb ∨ i ≠ i' ∨ j ≠ j') : f.key i j ≠ f'.key i' j' := by
  intro hk
  simp only [Fld.key, Nat.pair_eq_pair] at hk
  omega

/-- Equal keys name the same register, place and numbers. -/
theorem Fld.key_eq {f f' : Fld} {i j i' j' : Nat} (h : f.key i j = f'.key i' j') : f.reg.ctorIdx = f'.reg.ctorIdx ∧ f.lsb = f'.lsb ∧ i = i' ∧ j = j' := by
  simp only [Fld.key, Nat.pair_eq_pair] at h
  omega

/-- A field written reads as the value cut to its width. -/
theorem State.g_p_self (s : State) (f : Fld) (v i j : Nat) : (s.p f v i j).g f i j = v % 2 ^ f.width := ngetD_nput_self _ _ _ _

/-- A field written leaves every other. -/
theorem State.g_p_of_key_ne (s : State) {f f' : Fld} {v i j i' j' : Nat} (h : f.key i j ≠ f'.key i' j') : (s.p f v i j).g f' i' j' = s.g f' i' j' :=
  ngetD_nput_of_ne h _ _ _ _

/-- A field written leaves every field of another register, place or number. -/
theorem State.g_p_of_ne (s : State) {f f' : Fld} {v i j i' j' : Nat} (h : f.reg.ctorIdx ≠ f'.reg.ctorIdx ∨ f.lsb ≠ f'.lsb ∨ i ≠ i' ∨ j ≠ j') :
    (s.p f v i j).g f' i' j' = s.g f' i' j' := s.g_p_of_key_ne (Fld.key_ne h)

/-! Reading after the other writers, each a write. -/

theorem State.setF_eq (s : State) (f : Fld) (i j : Nat) : s.setF f i j = s.p f 1 i j := rfl
theorem State.pb_eq (s : State) (f : Fld) (b : Bool) (i j : Nat) : s.pb f b i j = s.p f (b2n b) i j := rfl
theorem State.inc_eq (s : State) (f : Fld) (i j : Nat) : s.inc f i j = s.p f (min (s.g f i j + 1) (2 ^ f.width - 1)) i j := rfl
theorem State.add_eq (s : State) (f : Fld) (n i j : Nat) : s.add f n i j = s.p f (min (s.g f i j + n) (2 ^ f.width - 1)) i j := rfl
theorem State.hwm_eq (s : State) (f : Fld) (v i j : Nat) : s.hwm f v i j = s.p f (max (s.g f i j) (min v (2 ^ f.width - 1))) i j := rfl
theorem State.clr_eq (s : State) (f : Fld) (i j : Nat) : s.clr f i j = s.p f (f.resetVal i) i j := rfl

/-- What does not stand in the register file does not change what a field reads. -/
theorem State.g_of_regs {s t : State} (h : t.regs = s.regs) (f : Fld) (i j : Nat) : t.g f i j = s.g f i j := by unfold State.g; rw [h]

/-- Whether the device is operational is what PU_STATUS says. -/
theorem State.up_of_regs {s t : State} (h : t.regs = s.regs) : t.up = s.up := by unfold State.up State.on State.g; rw [h]

/-- A field of another register written leaves the device operational or not. -/
theorem State.up_p (s : State) {f : Fld} {v i j : Nat} (h : f.reg.ctorIdx ≠ RegName.PU_STATUS.ctorIdx) : (s.p f v i j).up = s.up := by
  unfold State.up State.on
  rw [State.g_p_of_ne s (.inl h), State.g_p_of_ne s (.inl h)]

/-- An effect of the main domain, while it runs. -/
theorem whenUp_up {s : State} {f : State → State} (h : s.up = true) : whenUp s f = .next (f s) := by simp [whenUp, h]

/-- An effect of the main domain, while it does not run. -/
theorem whenUp_down {s : State} {f : State → State} (h : s.up = false) : whenUp s f = .next s := by simp [whenUp, h]

/-- The canonical form of memory is kept by every write of bytes. -/
theorem State.memWf_wr (s : State) (sp a : Nat) (bs : List Byte) (h : memWf s.mem = true) : memWf (s.wr sp a bs).mem = true := memWf_memWrite _ _ _ h

end Sys2Proof.Machine
end

