-- ==== Sys2Proof/Laws/State.lean ====
section
/-! SUPPORT. What each shared update of the state leaves: one lemma for each field. -/

namespace Sys2Proof.Machine


@[simp] theorem State.p_mem (s : State) (f : Fld) (v i j : Nat) : (s.p f v i j).mem = s.mem := rfl
@[simp] theorem State.p_pending (s : State) (f : Fld) (v i j : Nat) : (s.p f v i j).pending = s.pending := rfl
@[simp] theorem State.p_ans (s : State) (f : Fld) (v i j : Nat) : (s.p f v i j).ans = s.ans := rfl
@[simp] theorem State.p_free (s : State) (f : Fld) (v i j : Nat) : (s.p f v i j).free = s.free := rfl
@[simp] theorem State.p_pins (s : State) (f : Fld) (v i j : Nat) : (s.p f v i j).pins = s.pins := rfl
@[simp] theorem State.p_fu (s : State) (f : Fld) (v i j : Nat) : (s.p f v i j).fu = s.fu := rfl
@[simp] theorem State.p_sw (s : State) (f : Fld) (v i j : Nat) : (s.p f v i j).sw = s.sw := rfl
@[simp] theorem State.p_ports (s : State) (f : Fld) (v i j : Nat) : (s.p f v i j).ports = s.ports := rfl
@[simp] theorem State.p_outbox (s : State) (f : Fld) (v i j : Nat) : (s.p f v i j).outbox = s.outbox := rfl
@[simp] theorem State.p_thr (s : State) (f : Fld) (v i j : Nat) : (s.p f v i j).thr = s.thr := rfl
@[simp] theorem State.p_flc (s : State) (f : Fld) (v i j : Nat) : (s.p f v i j).flc = s.flc := rfl
@[simp] theorem State.p_cnt (s : State) (f : Fld) (v i j : Nat) : (s.p f v i j).cnt = s.cnt := rfl
@[simp] theorem State.p_hm (s : State) (f : Fld) (v i j : Nat) : (s.p f v i j).hm = s.hm := rfl
@[simp] theorem State.p_plc (s : State) (f : Fld) (v i j : Nat) : (s.p f v i j).plc = s.plc := rfl
@[simp] theorem State.p_stk (s : State) (f : Fld) (v i j : Nat) : (s.p f v i j).stk = s.stk := rfl
@[simp] theorem State.p_cmt (s : State) (f : Fld) (v i j : Nat) : (s.p f v i j).cmt = s.cmt := rfl
@[simp] theorem State.p_loads (s : State) (f : Fld) (v i j : Nat) : (s.p f v i j).loads = s.loads := rfl
@[simp] theorem State.p_loadTags (s : State) (f : Fld) (v i j : Nat) : (s.p f v i j).loadTags = s.loadTags := rfl
@[simp] theorem State.p_hj (s : State) (f : Fld) (v i j : Nat) : (s.p f v i j).hj = s.hj := rfl
@[simp] theorem State.p_fl (s : State) (f : Fld) (v i j : Nat) : (s.p f v i j).fl = s.fl := rfl
@[simp] theorem State.p_inst (s : State) (f : Fld) (v i j : Nat) : (s.p f v i j).inst = s.inst := rfl
@[simp] theorem State.p_dmp (s : State) (f : Fld) (v i j : Nat) : (s.p f v i j).dmp = s.dmp := rfl
@[simp] theorem State.p_pu (s : State) (f : Fld) (v i j : Nat) : (s.p f v i j).pu = s.pu := rfl
@[simp] theorem State.p_br (s : State) (f : Fld) (v i j : Nat) : (s.p f v i j).br = s.br := rfl
@[simp] theorem State.p_clk (s : State) (f : Fld) (v i j : Nat) : (s.p f v i j).clk = s.clk := rfl

@[simp] theorem State.setF_mem (s : State) (f : Fld) (i j : Nat) : (s.setF f i j).mem = s.mem := rfl
@[simp] theorem State.setF_pending (s : State) (f : Fld) (i j : Nat) : (s.setF f i j).pending = s.pending := rfl
@[simp] theorem State.setF_ans (s : State) (f : Fld) (i j : Nat) : (s.setF f i j).ans = s.ans := rfl
@[simp] theorem State.setF_free (s : State) (f : Fld) (i j : Nat) : (s.setF f i j).free = s.free := rfl
@[simp] theorem State.setF_pins (s : State) (f : Fld) (i j : Nat) : (s.setF f i j).pins = s.pins := rfl
@[simp] theorem State.setF_fu (s : State) (f : Fld) (i j : Nat) : (s.setF f i j).fu = s.fu := rfl
@[simp] theorem State.setF_sw (s : State) (f : Fld) (i j : Nat) : (s.setF f i j).sw = s.sw := rfl
@[simp] theorem State.setF_ports (s : State) (f : Fld) (i j : Nat) : (s.setF f i j).ports = s.ports := rfl
@[simp] theorem State.setF_outbox (s : State) (f : Fld) (i j : Nat) : (s.setF f i j).outbox = s.outbox := rfl
@[simp] theorem State.setF_thr (s : State) (f : Fld) (i j : Nat) : (s.setF f i j).thr = s.thr := rfl
@[simp] theorem State.setF_flc (s : State) (f : Fld) (i j : Nat) : (s.setF f i j).flc = s.flc := rfl
@[simp] theorem State.setF_cnt (s : State) (f : Fld) (i j : Nat) : (s.setF f i j).cnt = s.cnt := rfl
@[simp] theorem State.setF_hm (s : State) (f : Fld) (i j : Nat) : (s.setF f i j).hm = s.hm := rfl
@[simp] theorem State.setF_plc (s : State) (f : Fld) (i j : Nat) : (s.setF f i j).plc = s.plc := rfl
@[simp] theorem State.setF_stk (s : State) (f : Fld) (i j : Nat) : (s.setF f i j).stk = s.stk := rfl
@[simp] theorem State.setF_cmt (s : State) (f : Fld) (i j : Nat) : (s.setF f i j).cmt = s.cmt := rfl
@[simp] theorem State.setF_loads (s : State) (f : Fld) (i j : Nat) : (s.setF f i j).loads = s.loads := rfl
@[simp] theorem State.setF_loadTags (s : State) (f : Fld) (i j : Nat) : (s.setF f i j).loadTags = s.loadTags := rfl
@[simp] theorem State.setF_hj (s : State) (f : Fld) (i j : Nat) : (s.setF f i j).hj = s.hj := rfl
@[simp] theorem State.setF_fl (s : State) (f : Fld) (i j : Nat) : (s.setF f i j).fl = s.fl := rfl
@[simp] theorem State.setF_inst (s : State) (f : Fld) (i j : Nat) : (s.setF f i j).inst = s.inst := rfl
@[simp] theorem State.setF_dmp (s : State) (f : Fld) (i j : Nat) : (s.setF f i j).dmp = s.dmp := rfl
@[simp] theorem State.setF_pu (s : State) (f : Fld) (i j : Nat) : (s.setF f i j).pu = s.pu := rfl
@[simp] theorem State.setF_br (s : State) (f : Fld) (i j : Nat) : (s.setF f i j).br = s.br := rfl
@[simp] theorem State.setF_clk (s : State) (f : Fld) (i j : Nat) : (s.setF f i j).clk = s.clk := rfl

@[simp] theorem State.pb_mem (s : State) (f : Fld) (b : Bool) (i j : Nat) : (s.pb f b i j).mem = s.mem := rfl
@[simp] theorem State.pb_pending (s : State) (f : Fld) (b : Bool) (i j : Nat) : (s.pb f b i j).pending = s.pending := rfl
@[simp] theorem State.pb_ans (s : State) (f : Fld) (b : Bool) (i j : Nat) : (s.pb f b i j).ans = s.ans := rfl
@[simp] theorem State.pb_free (s : State) (f : Fld) (b : Bool) (i j : Nat) : (s.pb f b i j).free = s.free := rfl
@[simp] theorem State.pb_pins (s : State) (f : Fld) (b : Bool) (i j : Nat) : (s.pb f b i j).pins = s.pins := rfl
@[simp] theorem State.pb_fu (s : State) (f : Fld) (b : Bool) (i j : Nat) : (s.pb f b i j).fu = s.fu := rfl
@[simp] theorem State.pb_sw (s : State) (f : Fld) (b : Bool) (i j : Nat) : (s.pb f b i j).sw = s.sw := rfl
@[simp] theorem State.pb_ports (s : State) (f : Fld) (b : Bool) (i j : Nat) : (s.pb f b i j).ports = s.ports := rfl
@[simp] theorem State.pb_outbox (s : State) (f : Fld) (b : Bool) (i j : Nat) : (s.pb f b i j).outbox = s.outbox := rfl
@[simp] theorem State.pb_thr (s : State) (f : Fld) (b : Bool) (i j : Nat) : (s.pb f b i j).thr = s.thr := rfl
@[simp] theorem State.pb_flc (s : State) (f : Fld) (b : Bool) (i j : Nat) : (s.pb f b i j).flc = s.flc := rfl
@[simp] theorem State.pb_cnt (s : State) (f : Fld) (b : Bool) (i j : Nat) : (s.pb f b i j).cnt = s.cnt := rfl
@[simp] theorem State.pb_hm (s : State) (f : Fld) (b : Bool) (i j : Nat) : (s.pb f b i j).hm = s.hm := rfl
@[simp] theorem State.pb_plc (s : State) (f : Fld) (b : Bool) (i j : Nat) : (s.pb f b i j).plc = s.plc := rfl
@[simp] theorem State.pb_stk (s : State) (f : Fld) (b : Bool) (i j : Nat) : (s.pb f b i j).stk = s.stk := rfl
@[simp] theorem State.pb_cmt (s : State) (f : Fld) (b : Bool) (i j : Nat) : (s.pb f b i j).cmt = s.cmt := rfl
@[simp] theorem State.pb_loads (s : State) (f : Fld) (b : Bool) (i j : Nat) : (s.pb f b i j).loads = s.loads := rfl
@[simp] theorem State.pb_loadTags (s : State) (f : Fld) (b : Bool) (i j : Nat) : (s.pb f b i j).loadTags = s.loadTags := rfl
@[simp] theorem State.pb_hj (s : State) (f : Fld) (b : Bool) (i j : Nat) : (s.pb f b i j).hj = s.hj := rfl
@[simp] theorem State.pb_fl (s : State) (f : Fld) (b : Bool) (i j : Nat) : (s.pb f b i j).fl = s.fl := rfl
@[simp] theorem State.pb_inst (s : State) (f : Fld) (b : Bool) (i j : Nat) : (s.pb f b i j).inst = s.inst := rfl
@[simp] theorem State.pb_dmp (s : State) (f : Fld) (b : Bool) (i j : Nat) : (s.pb f b i j).dmp = s.dmp := rfl
@[simp] theorem State.pb_pu (s : State) (f : Fld) (b : Bool) (i j : Nat) : (s.pb f b i j).pu = s.pu := rfl
@[simp] theorem State.pb_br (s : State) (f : Fld) (b : Bool) (i j : Nat) : (s.pb f b i j).br = s.br := rfl
@[simp] theorem State.pb_clk (s : State) (f : Fld) (b : Bool) (i j : Nat) : (s.pb f b i j).clk = s.clk := rfl

@[simp] theorem State.add_mem (s : State) (f : Fld) (n i j : Nat) : (s.add f n i j).mem = s.mem := rfl
@[simp] theorem State.add_pending (s : State) (f : Fld) (n i j : Nat) : (s.add f n i j).pending = s.pending := rfl
@[simp] theorem State.add_ans (s : State) (f : Fld) (n i j : Nat) : (s.add f n i j).ans = s.ans := rfl
@[simp] theorem State.add_free (s : State) (f : Fld) (n i j : Nat) : (s.add f n i j).free = s.free := rfl
@[simp] theorem State.add_pins (s : State) (f : Fld) (n i j : Nat) : (s.add f n i j).pins = s.pins := rfl
@[simp] theorem State.add_fu (s : State) (f : Fld) (n i j : Nat) : (s.add f n i j).fu = s.fu := rfl
@[simp] theorem State.add_sw (s : State) (f : Fld) (n i j : Nat) : (s.add f n i j).sw = s.sw := rfl
@[simp] theorem State.add_ports (s : State) (f : Fld) (n i j : Nat) : (s.add f n i j).ports = s.ports := rfl
@[simp] theorem State.add_outbox (s : State) (f : Fld) (n i j : Nat) : (s.add f n i j).outbox = s.outbox := rfl
@[simp] theorem State.add_thr (s : State) (f : Fld) (n i j : Nat) : (s.add f n i j).thr = s.thr := rfl
@[simp] theorem State.add_flc (s : State) (f : Fld) (n i j : Nat) : (s.add f n i j).flc = s.flc := rfl
@[simp] theorem State.add_cnt (s : State) (f : Fld) (n i j : Nat) : (s.add f n i j).cnt = s.cnt := rfl
@[simp] theorem State.add_hm (s : State) (f : Fld) (n i j : Nat) : (s.add f n i j).hm = s.hm := rfl
@[simp] theorem State.add_plc (s : State) (f : Fld) (n i j : Nat) : (s.add f n i j).plc = s.plc := rfl
@[simp] theorem State.add_stk (s : State) (f : Fld) (n i j : Nat) : (s.add f n i j).stk = s.stk := rfl
@[simp] theorem State.add_cmt (s : State) (f : Fld) (n i j : Nat) : (s.add f n i j).cmt = s.cmt := rfl
@[simp] theorem State.add_loads (s : State) (f : Fld) (n i j : Nat) : (s.add f n i j).loads = s.loads := rfl
@[simp] theorem State.add_loadTags (s : State) (f : Fld) (n i j : Nat) : (s.add f n i j).loadTags = s.loadTags := rfl
@[simp] theorem State.add_hj (s : State) (f : Fld) (n i j : Nat) : (s.add f n i j).hj = s.hj := rfl
@[simp] theorem State.add_fl (s : State) (f : Fld) (n i j : Nat) : (s.add f n i j).fl = s.fl := rfl
@[simp] theorem State.add_inst (s : State) (f : Fld) (n i j : Nat) : (s.add f n i j).inst = s.inst := rfl
@[simp] theorem State.add_dmp (s : State) (f : Fld) (n i j : Nat) : (s.add f n i j).dmp = s.dmp := rfl
@[simp] theorem State.add_pu (s : State) (f : Fld) (n i j : Nat) : (s.add f n i j).pu = s.pu := rfl
@[simp] theorem State.add_br (s : State) (f : Fld) (n i j : Nat) : (s.add f n i j).br = s.br := rfl
@[simp] theorem State.add_clk (s : State) (f : Fld) (n i j : Nat) : (s.add f n i j).clk = s.clk := rfl

@[simp] theorem State.inc_mem (s : State) (f : Fld) (i j : Nat) : (s.inc f i j).mem = s.mem := rfl
@[simp] theorem State.inc_pending (s : State) (f : Fld) (i j : Nat) : (s.inc f i j).pending = s.pending := rfl
@[simp] theorem State.inc_ans (s : State) (f : Fld) (i j : Nat) : (s.inc f i j).ans = s.ans := rfl
@[simp] theorem State.inc_free (s : State) (f : Fld) (i j : Nat) : (s.inc f i j).free = s.free := rfl
@[simp] theorem State.inc_pins (s : State) (f : Fld) (i j : Nat) : (s.inc f i j).pins = s.pins := rfl
@[simp] theorem State.inc_fu (s : State) (f : Fld) (i j : Nat) : (s.inc f i j).fu = s.fu := rfl
@[simp] theorem State.inc_sw (s : State) (f : Fld) (i j : Nat) : (s.inc f i j).sw = s.sw := rfl
@[simp] theorem State.inc_ports (s : State) (f : Fld) (i j : Nat) : (s.inc f i j).ports = s.ports := rfl
@[simp] theorem State.inc_outbox (s : State) (f : Fld) (i j : Nat) : (s.inc f i j).outbox = s.outbox := rfl
@[simp] theorem State.inc_thr (s : State) (f : Fld) (i j : Nat) : (s.inc f i j).thr = s.thr := rfl
@[simp] theorem State.inc_flc (s : State) (f : Fld) (i j : Nat) : (s.inc f i j).flc = s.flc := rfl
@[simp] theorem State.inc_cnt (s : State) (f : Fld) (i j : Nat) : (s.inc f i j).cnt = s.cnt := rfl
@[simp] theorem State.inc_hm (s : State) (f : Fld) (i j : Nat) : (s.inc f i j).hm = s.hm := rfl
@[simp] theorem State.inc_plc (s : State) (f : Fld) (i j : Nat) : (s.inc f i j).plc = s.plc := rfl
@[simp] theorem State.inc_stk (s : State) (f : Fld) (i j : Nat) : (s.inc f i j).stk = s.stk := rfl
@[simp] theorem State.inc_cmt (s : State) (f : Fld) (i j : Nat) : (s.inc f i j).cmt = s.cmt := rfl
@[simp] theorem State.inc_loads (s : State) (f : Fld) (i j : Nat) : (s.inc f i j).loads = s.loads := rfl
@[simp] theorem State.inc_loadTags (s : State) (f : Fld) (i j : Nat) : (s.inc f i j).loadTags = s.loadTags := rfl
@[simp] theorem State.inc_hj (s : State) (f : Fld) (i j : Nat) : (s.inc f i j).hj = s.hj := rfl
@[simp] theorem State.inc_fl (s : State) (f : Fld) (i j : Nat) : (s.inc f i j).fl = s.fl := rfl
@[simp] theorem State.inc_inst (s : State) (f : Fld) (i j : Nat) : (s.inc f i j).inst = s.inst := rfl
@[simp] theorem State.inc_dmp (s : State) (f : Fld) (i j : Nat) : (s.inc f i j).dmp = s.dmp := rfl
@[simp] theorem State.inc_pu (s : State) (f : Fld) (i j : Nat) : (s.inc f i j).pu = s.pu := rfl
@[simp] theorem State.inc_br (s : State) (f : Fld) (i j : Nat) : (s.inc f i j).br = s.br := rfl
@[simp] theorem State.inc_clk (s : State) (f : Fld) (i j : Nat) : (s.inc f i j).clk = s.clk := rfl

@[simp] theorem State.hwm_mem (s : State) (f : Fld) (v i j : Nat) : (s.hwm f v i j).mem = s.mem := rfl
@[simp] theorem State.hwm_pending (s : State) (f : Fld) (v i j : Nat) : (s.hwm f v i j).pending = s.pending := rfl
@[simp] theorem State.hwm_ans (s : State) (f : Fld) (v i j : Nat) : (s.hwm f v i j).ans = s.ans := rfl
@[simp] theorem State.hwm_free (s : State) (f : Fld) (v i j : Nat) : (s.hwm f v i j).free = s.free := rfl
@[simp] theorem State.hwm_pins (s : State) (f : Fld) (v i j : Nat) : (s.hwm f v i j).pins = s.pins := rfl
@[simp] theorem State.hwm_fu (s : State) (f : Fld) (v i j : Nat) : (s.hwm f v i j).fu = s.fu := rfl
@[simp] theorem State.hwm_sw (s : State) (f : Fld) (v i j : Nat) : (s.hwm f v i j).sw = s.sw := rfl
@[simp] theorem State.hwm_ports (s : State) (f : Fld) (v i j : Nat) : (s.hwm f v i j).ports = s.ports := rfl
@[simp] theorem State.hwm_outbox (s : State) (f : Fld) (v i j : Nat) : (s.hwm f v i j).outbox = s.outbox := rfl
@[simp] theorem State.hwm_thr (s : State) (f : Fld) (v i j : Nat) : (s.hwm f v i j).thr = s.thr := rfl
@[simp] theorem State.hwm_flc (s : State) (f : Fld) (v i j : Nat) : (s.hwm f v i j).flc = s.flc := rfl
@[simp] theorem State.hwm_cnt (s : State) (f : Fld) (v i j : Nat) : (s.hwm f v i j).cnt = s.cnt := rfl
@[simp] theorem State.hwm_hm (s : State) (f : Fld) (v i j : Nat) : (s.hwm f v i j).hm = s.hm := rfl
@[simp] theorem State.hwm_plc (s : State) (f : Fld) (v i j : Nat) : (s.hwm f v i j).plc = s.plc := rfl
@[simp] theorem State.hwm_stk (s : State) (f : Fld) (v i j : Nat) : (s.hwm f v i j).stk = s.stk := rfl
@[simp] theorem State.hwm_cmt (s : State) (f : Fld) (v i j : Nat) : (s.hwm f v i j).cmt = s.cmt := rfl
@[simp] theorem State.hwm_loads (s : State) (f : Fld) (v i j : Nat) : (s.hwm f v i j).loads = s.loads := rfl
@[simp] theorem State.hwm_loadTags (s : State) (f : Fld) (v i j : Nat) : (s.hwm f v i j).loadTags = s.loadTags := rfl
@[simp] theorem State.hwm_hj (s : State) (f : Fld) (v i j : Nat) : (s.hwm f v i j).hj = s.hj := rfl
@[simp] theorem State.hwm_fl (s : State) (f : Fld) (v i j : Nat) : (s.hwm f v i j).fl = s.fl := rfl
@[simp] theorem State.hwm_inst (s : State) (f : Fld) (v i j : Nat) : (s.hwm f v i j).inst = s.inst := rfl
@[simp] theorem State.hwm_dmp (s : State) (f : Fld) (v i j : Nat) : (s.hwm f v i j).dmp = s.dmp := rfl
@[simp] theorem State.hwm_pu (s : State) (f : Fld) (v i j : Nat) : (s.hwm f v i j).pu = s.pu := rfl
@[simp] theorem State.hwm_br (s : State) (f : Fld) (v i j : Nat) : (s.hwm f v i j).br = s.br := rfl
@[simp] theorem State.hwm_clk (s : State) (f : Fld) (v i j : Nat) : (s.hwm f v i j).clk = s.clk := rfl

@[simp] theorem State.clr_mem (s : State) (f : Fld) (i j : Nat) : (s.clr f i j).mem = s.mem := rfl
@[simp] theorem State.clr_pending (s : State) (f : Fld) (i j : Nat) : (s.clr f i j).pending = s.pending := rfl
@[simp] theorem State.clr_ans (s : State) (f : Fld) (i j : Nat) : (s.clr f i j).ans = s.ans := rfl
@[simp] theorem State.clr_free (s : State) (f : Fld) (i j : Nat) : (s.clr f i j).free = s.free := rfl
@[simp] theorem State.clr_pins (s : State) (f : Fld) (i j : Nat) : (s.clr f i j).pins = s.pins := rfl
@[simp] theorem State.clr_fu (s : State) (f : Fld) (i j : Nat) : (s.clr f i j).fu = s.fu := rfl
@[simp] theorem State.clr_sw (s : State) (f : Fld) (i j : Nat) : (s.clr f i j).sw = s.sw := rfl
@[simp] theorem State.clr_ports (s : State) (f : Fld) (i j : Nat) : (s.clr f i j).ports = s.ports := rfl
@[simp] theorem State.clr_outbox (s : State) (f : Fld) (i j : Nat) : (s.clr f i j).outbox = s.outbox := rfl
@[simp] theorem State.clr_thr (s : State) (f : Fld) (i j : Nat) : (s.clr f i j).thr = s.thr := rfl
@[simp] theorem State.clr_flc (s : State) (f : Fld) (i j : Nat) : (s.clr f i j).flc = s.flc := rfl
@[simp] theorem State.clr_cnt (s : State) (f : Fld) (i j : Nat) : (s.clr f i j).cnt = s.cnt := rfl
@[simp] theorem State.clr_hm (s : State) (f : Fld) (i j : Nat) : (s.clr f i j).hm = s.hm := rfl
@[simp] theorem State.clr_plc (s : State) (f : Fld) (i j : Nat) : (s.clr f i j).plc = s.plc := rfl
@[simp] theorem State.clr_stk (s : State) (f : Fld) (i j : Nat) : (s.clr f i j).stk = s.stk := rfl
@[simp] theorem State.clr_cmt (s : State) (f : Fld) (i j : Nat) : (s.clr f i j).cmt = s.cmt := rfl
@[simp] theorem State.clr_loads (s : State) (f : Fld) (i j : Nat) : (s.clr f i j).loads = s.loads := rfl
@[simp] theorem State.clr_loadTags (s : State) (f : Fld) (i j : Nat) : (s.clr f i j).loadTags = s.loadTags := rfl
@[simp] theorem State.clr_hj (s : State) (f : Fld) (i j : Nat) : (s.clr f i j).hj = s.hj := rfl
@[simp] theorem State.clr_fl (s : State) (f : Fld) (i j : Nat) : (s.clr f i j).fl = s.fl := rfl
@[simp] theorem State.clr_inst (s : State) (f : Fld) (i j : Nat) : (s.clr f i j).inst = s.inst := rfl
@[simp] theorem State.clr_dmp (s : State) (f : Fld) (i j : Nat) : (s.clr f i j).dmp = s.dmp := rfl
@[simp] theorem State.clr_pu (s : State) (f : Fld) (i j : Nat) : (s.clr f i j).pu = s.pu := rfl
@[simp] theorem State.clr_br (s : State) (f : Fld) (i j : Nat) : (s.clr f i j).br = s.br := rfl
@[simp] theorem State.clr_clk (s : State) (f : Fld) (i j : Nat) : (s.clr f i j).clk = s.clk := rfl

@[simp] theorem State.clrWhere_mem (s : State) (q : Nat → Bool) : (s.clrWhere q).mem = s.mem := rfl
@[simp] theorem State.clrWhere_pending (s : State) (q : Nat → Bool) : (s.clrWhere q).pending = s.pending := rfl
@[simp] theorem State.clrWhere_ans (s : State) (q : Nat → Bool) : (s.clrWhere q).ans = s.ans := rfl
@[simp] theorem State.clrWhere_free (s : State) (q : Nat → Bool) : (s.clrWhere q).free = s.free := rfl
@[simp] theorem State.clrWhere_pins (s : State) (q : Nat → Bool) : (s.clrWhere q).pins = s.pins := rfl
@[simp] theorem State.clrWhere_fu (s : State) (q : Nat → Bool) : (s.clrWhere q).fu = s.fu := rfl
@[simp] theorem State.clrWhere_sw (s : State) (q : Nat → Bool) : (s.clrWhere q).sw = s.sw := rfl
@[simp] theorem State.clrWhere_ports (s : State) (q : Nat → Bool) : (s.clrWhere q).ports = s.ports := rfl
@[simp] theorem State.clrWhere_outbox (s : State) (q : Nat → Bool) : (s.clrWhere q).outbox = s.outbox := rfl
@[simp] theorem State.clrWhere_thr (s : State) (q : Nat → Bool) : (s.clrWhere q).thr = s.thr := rfl
@[simp] theorem State.clrWhere_flc (s : State) (q : Nat → Bool) : (s.clrWhere q).flc = s.flc := rfl
@[simp] theorem State.clrWhere_cnt (s : State) (q : Nat → Bool) : (s.clrWhere q).cnt = s.cnt := rfl
@[simp] theorem State.clrWhere_hm (s : State) (q : Nat → Bool) : (s.clrWhere q).hm = s.hm := rfl
@[simp] theorem State.clrWhere_plc (s : State) (q : Nat → Bool) : (s.clrWhere q).plc = s.plc := rfl
@[simp] theorem State.clrWhere_stk (s : State) (q : Nat → Bool) : (s.clrWhere q).stk = s.stk := rfl
@[simp] theorem State.clrWhere_cmt (s : State) (q : Nat → Bool) : (s.clrWhere q).cmt = s.cmt := rfl
@[simp] theorem State.clrWhere_loads (s : State) (q : Nat → Bool) : (s.clrWhere q).loads = s.loads := rfl
@[simp] theorem State.clrWhere_loadTags (s : State) (q : Nat → Bool) : (s.clrWhere q).loadTags = s.loadTags := rfl
@[simp] theorem State.clrWhere_hj (s : State) (q : Nat → Bool) : (s.clrWhere q).hj = s.hj := rfl
@[simp] theorem State.clrWhere_fl (s : State) (q : Nat → Bool) : (s.clrWhere q).fl = s.fl := rfl
@[simp] theorem State.clrWhere_inst (s : State) (q : Nat → Bool) : (s.clrWhere q).inst = s.inst := rfl
@[simp] theorem State.clrWhere_dmp (s : State) (q : Nat → Bool) : (s.clrWhere q).dmp = s.dmp := rfl
@[simp] theorem State.clrWhere_pu (s : State) (q : Nat → Bool) : (s.clrWhere q).pu = s.pu := rfl
@[simp] theorem State.clrWhere_br (s : State) (q : Nat → Bool) : (s.clrWhere q).br = s.br := rfl
@[simp] theorem State.clrWhere_clk (s : State) (q : Nat → Bool) : (s.clrWhere q).clk = s.clk := rfl

@[simp] theorem State.reply_regs (s : State) (m : Master) (st d : Nat) : (s.reply m st d).regs = s.regs := rfl
@[simp] theorem State.reply_mem (s : State) (m : Master) (st d : Nat) : (s.reply m st d).mem = s.mem := rfl
@[simp] theorem State.reply_pending (s : State) (m : Master) (st d : Nat) : (s.reply m st d).pending = s.pending := rfl
@[simp] theorem State.reply_free (s : State) (m : Master) (st d : Nat) : (s.reply m st d).free = s.free := rfl
@[simp] theorem State.reply_pins (s : State) (m : Master) (st d : Nat) : (s.reply m st d).pins = s.pins := rfl
@[simp] theorem State.reply_fu (s : State) (m : Master) (st d : Nat) : (s.reply m st d).fu = s.fu := rfl
@[simp] theorem State.reply_sw (s : State) (m : Master) (st d : Nat) : (s.reply m st d).sw = s.sw := rfl
@[simp] theorem State.reply_ports (s : State) (m : Master) (st d : Nat) : (s.reply m st d).ports = s.ports := rfl
@[simp] theorem State.reply_outbox (s : State) (m : Master) (st d : Nat) : (s.reply m st d).outbox = s.outbox := rfl
@[simp] theorem State.reply_thr (s : State) (m : Master) (st d : Nat) : (s.reply m st d).thr = s.thr := rfl
@[simp] theorem State.reply_flc (s : State) (m : Master) (st d : Nat) : (s.reply m st d).flc = s.flc := rfl
@[simp] theorem State.reply_cnt (s : State) (m : Master) (st d : Nat) : (s.reply m st d).cnt = s.cnt := rfl
@[simp] theorem State.reply_hm (s : State) (m : Master) (st d : Nat) : (s.reply m st d).hm = s.hm := rfl
@[simp] theorem State.reply_plc (s : State) (m : Master) (st d : Nat) : (s.reply m st d).plc = s.plc := rfl
@[simp] theorem State.reply_stk (s : State) (m : Master) (st d : Nat) : (s.reply m st d).stk = s.stk := rfl
@[simp] theorem State.reply_cmt (s : State) (m : Master) (st d : Nat) : (s.reply m st d).cmt = s.cmt := rfl
@[simp] theorem State.reply_loads (s : State) (m : Master) (st d : Nat) : (s.reply m st d).loads = s.loads := rfl
@[simp] theorem State.reply_loadTags (s : State) (m : Master) (st d : Nat) : (s.reply m st d).loadTags = s.loadTags := rfl
@[simp] theorem State.reply_hj (s : State) (m : Master) (st d : Nat) : (s.reply m st d).hj = s.hj := rfl
@[simp] theorem State.reply_fl (s : State) (m : Master) (st d : Nat) : (s.reply m st d).fl = s.fl := rfl
@[simp] theorem State.reply_inst (s : State) (m : Master) (st d : Nat) : (s.reply m st d).inst = s.inst := rfl
@[simp] theorem State.reply_dmp (s : State) (m : Master) (st d : Nat) : (s.reply m st d).dmp = s.dmp := rfl
@[simp] theorem State.reply_pu (s : State) (m : Master) (st d : Nat) : (s.reply m st d).pu = s.pu := rfl
@[simp] theorem State.reply_br (s : State) (m : Master) (st d : Nat) : (s.reply m st d).br = s.br := rfl
@[simp] theorem State.reply_clk (s : State) (m : Master) (st d : Nat) : (s.reply m st d).clk = s.clk := rfl

@[simp] theorem State.send_regs (s : State) (m : Msg) : (s.send m).regs = s.regs := rfl
@[simp] theorem State.send_mem (s : State) (m : Msg) : (s.send m).mem = s.mem := rfl
@[simp] theorem State.send_pending (s : State) (m : Msg) : (s.send m).pending = s.pending := rfl
@[simp] theorem State.send_ans (s : State) (m : Msg) : (s.send m).ans = s.ans := rfl
@[simp] theorem State.send_free (s : State) (m : Msg) : (s.send m).free = s.free := rfl
@[simp] theorem State.send_pins (s : State) (m : Msg) : (s.send m).pins = s.pins := rfl
@[simp] theorem State.send_fu (s : State) (m : Msg) : (s.send m).fu = s.fu := rfl
@[simp] theorem State.send_sw (s : State) (m : Msg) : (s.send m).sw = s.sw := rfl
@[simp] theorem State.send_ports (s : State) (m : Msg) : (s.send m).ports = s.ports := rfl
@[simp] theorem State.send_thr (s : State) (m : Msg) : (s.send m).thr = s.thr := rfl
@[simp] theorem State.send_flc (s : State) (m : Msg) : (s.send m).flc = s.flc := rfl
@[simp] theorem State.send_cnt (s : State) (m : Msg) : (s.send m).cnt = s.cnt := rfl
@[simp] theorem State.send_hm (s : State) (m : Msg) : (s.send m).hm = s.hm := rfl
@[simp] theorem State.send_plc (s : State) (m : Msg) : (s.send m).plc = s.plc := rfl
@[simp] theorem State.send_stk (s : State) (m : Msg) : (s.send m).stk = s.stk := rfl
@[simp] theorem State.send_cmt (s : State) (m : Msg) : (s.send m).cmt = s.cmt := rfl
@[simp] theorem State.send_loads (s : State) (m : Msg) : (s.send m).loads = s.loads := rfl
@[simp] theorem State.send_loadTags (s : State) (m : Msg) : (s.send m).loadTags = s.loadTags := rfl
@[simp] theorem State.send_hj (s : State) (m : Msg) : (s.send m).hj = s.hj := rfl
@[simp] theorem State.send_fl (s : State) (m : Msg) : (s.send m).fl = s.fl := rfl
@[simp] theorem State.send_inst (s : State) (m : Msg) : (s.send m).inst = s.inst := rfl
@[simp] theorem State.send_dmp (s : State) (m : Msg) : (s.send m).dmp = s.dmp := rfl
@[simp] theorem State.send_pu (s : State) (m : Msg) : (s.send m).pu = s.pu := rfl
@[simp] theorem State.send_br (s : State) (m : Msg) : (s.send m).br = s.br := rfl
@[simp] theorem State.send_clk (s : State) (m : Msg) : (s.send m).clk = s.clk := rfl

@[simp] theorem State.fresh_regs (s : State) : (s.fresh.2).regs = s.regs := rfl
@[simp] theorem State.fresh_mem (s : State) : (s.fresh.2).mem = s.mem := rfl
@[simp] theorem State.fresh_pending (s : State) : (s.fresh.2).pending = s.pending := rfl
@[simp] theorem State.fresh_ans (s : State) : (s.fresh.2).ans = s.ans := rfl
@[simp] theorem State.fresh_pins (s : State) : (s.fresh.2).pins = s.pins := rfl
@[simp] theorem State.fresh_fu (s : State) : (s.fresh.2).fu = s.fu := rfl
@[simp] theorem State.fresh_sw (s : State) : (s.fresh.2).sw = s.sw := rfl
@[simp] theorem State.fresh_ports (s : State) : (s.fresh.2).ports = s.ports := rfl
@[simp] theorem State.fresh_outbox (s : State) : (s.fresh.2).outbox = s.outbox := rfl
@[simp] theorem State.fresh_thr (s : State) : (s.fresh.2).thr = s.thr := rfl
@[simp] theorem State.fresh_flc (s : State) : (s.fresh.2).flc = s.flc := rfl
@[simp] theorem State.fresh_cnt (s : State) : (s.fresh.2).cnt = s.cnt := rfl
@[simp] theorem State.fresh_hm (s : State) : (s.fresh.2).hm = s.hm := rfl
@[simp] theorem State.fresh_plc (s : State) : (s.fresh.2).plc = s.plc := rfl
@[simp] theorem State.fresh_stk (s : State) : (s.fresh.2).stk = s.stk := rfl
@[simp] theorem State.fresh_cmt (s : State) : (s.fresh.2).cmt = s.cmt := rfl
@[simp] theorem State.fresh_loads (s : State) : (s.fresh.2).loads = s.loads := rfl
@[simp] theorem State.fresh_loadTags (s : State) : (s.fresh.2).loadTags = s.loadTags := rfl
@[simp] theorem State.fresh_hj (s : State) : (s.fresh.2).hj = s.hj := rfl
@[simp] theorem State.fresh_fl (s : State) : (s.fresh.2).fl = s.fl := rfl
@[simp] theorem State.fresh_inst (s : State) : (s.fresh.2).inst = s.inst := rfl
@[simp] theorem State.fresh_dmp (s : State) : (s.fresh.2).dmp = s.dmp := rfl
@[simp] theorem State.fresh_pu (s : State) : (s.fresh.2).pu = s.pu := rfl
@[simp] theorem State.fresh_br (s : State) : (s.fresh.2).br = s.br := rfl
@[simp] theorem State.fresh_clk (s : State) : (s.fresh.2).clk = s.clk := rfl

@[simp] theorem State.freshBytes_regs (s : State) (n : Nat) : ((s.freshBytes n).2).regs = s.regs := rfl
@[simp] theorem State.freshBytes_mem (s : State) (n : Nat) : ((s.freshBytes n).2).mem = s.mem := rfl
@[simp] theorem State.freshBytes_pending (s : State) (n : Nat) : ((s.freshBytes n).2).pending = s.pending := rfl
@[simp] theorem State.freshBytes_ans (s : State) (n : Nat) : ((s.freshBytes n).2).ans = s.ans := rfl
@[simp] theorem State.freshBytes_pins (s : State) (n : Nat) : ((s.freshBytes n).2).pins = s.pins := rfl
@[simp] theorem State.freshBytes_fu (s : State) (n : Nat) : ((s.freshBytes n).2).fu = s.fu := rfl
@[simp] theorem State.freshBytes_sw (s : State) (n : Nat) : ((s.freshBytes n).2).sw = s.sw := rfl
@[simp] theorem State.freshBytes_ports (s : State) (n : Nat) : ((s.freshBytes n).2).ports = s.ports := rfl
@[simp] theorem State.freshBytes_outbox (s : State) (n : Nat) : ((s.freshBytes n).2).outbox = s.outbox := rfl
@[simp] theorem State.freshBytes_thr (s : State) (n : Nat) : ((s.freshBytes n).2).thr = s.thr := rfl
@[simp] theorem State.freshBytes_flc (s : State) (n : Nat) : ((s.freshBytes n).2).flc = s.flc := rfl
@[simp] theorem State.freshBytes_cnt (s : State) (n : Nat) : ((s.freshBytes n).2).cnt = s.cnt := rfl
@[simp] theorem State.freshBytes_hm (s : State) (n : Nat) : ((s.freshBytes n).2).hm = s.hm := rfl
@[simp] theorem State.freshBytes_plc (s : State) (n : Nat) : ((s.freshBytes n).2).plc = s.plc := rfl
@[simp] theorem State.freshBytes_stk (s : State) (n : Nat) : ((s.freshBytes n).2).stk = s.stk := rfl
@[simp] theorem State.freshBytes_cmt (s : State) (n : Nat) : ((s.freshBytes n).2).cmt = s.cmt := rfl
@[simp] theorem State.freshBytes_loads (s : State) (n : Nat) : ((s.freshBytes n).2).loads = s.loads := rfl
@[simp] theorem State.freshBytes_loadTags (s : State) (n : Nat) : ((s.freshBytes n).2).loadTags = s.loadTags := rfl
@[simp] theorem State.freshBytes_hj (s : State) (n : Nat) : ((s.freshBytes n).2).hj = s.hj := rfl
@[simp] theorem State.freshBytes_fl (s : State) (n : Nat) : ((s.freshBytes n).2).fl = s.fl := rfl
@[simp] theorem State.freshBytes_inst (s : State) (n : Nat) : ((s.freshBytes n).2).inst = s.inst := rfl
@[simp] theorem State.freshBytes_dmp (s : State) (n : Nat) : ((s.freshBytes n).2).dmp = s.dmp := rfl
@[simp] theorem State.freshBytes_pu (s : State) (n : Nat) : ((s.freshBytes n).2).pu = s.pu := rfl
@[simp] theorem State.freshBytes_br (s : State) (n : Nat) : ((s.freshBytes n).2).br = s.br := rfl
@[simp] theorem State.freshBytes_clk (s : State) (n : Nat) : ((s.freshBytes n).2).clk = s.clk := rfl

@[simp] theorem State.wr_regs (s : State) (sp a : Nat) (bs : List Byte) : (s.wr sp a bs).regs = s.regs := rfl
@[simp] theorem State.wr_pending (s : State) (sp a : Nat) (bs : List Byte) : (s.wr sp a bs).pending = s.pending := rfl
@[simp] theorem State.wr_ans (s : State) (sp a : Nat) (bs : List Byte) : (s.wr sp a bs).ans = s.ans := rfl
@[simp] theorem State.wr_free (s : State) (sp a : Nat) (bs : List Byte) : (s.wr sp a bs).free = s.free := rfl
@[simp] theorem State.wr_pins (s : State) (sp a : Nat) (bs : List Byte) : (s.wr sp a bs).pins = s.pins := rfl
@[simp] theorem State.wr_fu (s : State) (sp a : Nat) (bs : List Byte) : (s.wr sp a bs).fu = s.fu := rfl
@[simp] theorem State.wr_sw (s : State) (sp a : Nat) (bs : List Byte) : (s.wr sp a bs).sw = s.sw := rfl
@[simp] theorem State.wr_ports (s : State) (sp a : Nat) (bs : List Byte) : (s.wr sp a bs).ports = s.ports := rfl
@[simp] theorem State.wr_outbox (s : State) (sp a : Nat) (bs : List Byte) : (s.wr sp a bs).outbox = s.outbox := rfl
@[simp] theorem State.wr_thr (s : State) (sp a : Nat) (bs : List Byte) : (s.wr sp a bs).thr = s.thr := rfl
@[simp] theorem State.wr_flc (s : State) (sp a : Nat) (bs : List Byte) : (s.wr sp a bs).flc = s.flc := rfl
@[simp] theorem State.wr_cnt (s : State) (sp a : Nat) (bs : List Byte) : (s.wr sp a bs).cnt = s.cnt := rfl
@[simp] theorem State.wr_hm (s : State) (sp a : Nat) (bs : List Byte) : (s.wr sp a bs).hm = s.hm := rfl
@[simp] theorem State.wr_plc (s : State) (sp a : Nat) (bs : List Byte) : (s.wr sp a bs).plc = s.plc := rfl
@[simp] theorem State.wr_stk (s : State) (sp a : Nat) (bs : List Byte) : (s.wr sp a bs).stk = s.stk := rfl
@[simp] theorem State.wr_cmt (s : State) (sp a : Nat) (bs : List Byte) : (s.wr sp a bs).cmt = s.cmt := rfl
@[simp] theorem State.wr_loads (s : State) (sp a : Nat) (bs : List Byte) : (s.wr sp a bs).loads = s.loads := rfl
@[simp] theorem State.wr_loadTags (s : State) (sp a : Nat) (bs : List Byte) : (s.wr sp a bs).loadTags = s.loadTags := rfl
@[simp] theorem State.wr_hj (s : State) (sp a : Nat) (bs : List Byte) : (s.wr sp a bs).hj = s.hj := rfl
@[simp] theorem State.wr_fl (s : State) (sp a : Nat) (bs : List Byte) : (s.wr sp a bs).fl = s.fl := rfl
@[simp] theorem State.wr_inst (s : State) (sp a : Nat) (bs : List Byte) : (s.wr sp a bs).inst = s.inst := rfl
@[simp] theorem State.wr_dmp (s : State) (sp a : Nat) (bs : List Byte) : (s.wr sp a bs).dmp = s.dmp := rfl
@[simp] theorem State.wr_pu (s : State) (sp a : Nat) (bs : List Byte) : (s.wr sp a bs).pu = s.pu := rfl
@[simp] theorem State.wr_br (s : State) (sp a : Nat) (bs : List Byte) : (s.wr sp a bs).br = s.br := rfl
@[simp] theorem State.wr_clk (s : State) (sp a : Nat) (bs : List Byte) : (s.wr sp a bs).clk = s.clk := rfl

@[simp] theorem State.wrN_regs (s : State) (sp a n v : Nat) : (s.wrN sp a n v).regs = s.regs := rfl
@[simp] theorem State.wrN_pending (s : State) (sp a n v : Nat) : (s.wrN sp a n v).pending = s.pending := rfl
@[simp] theorem State.wrN_ans (s : State) (sp a n v : Nat) : (s.wrN sp a n v).ans = s.ans := rfl
@[simp] theorem State.wrN_free (s : State) (sp a n v : Nat) : (s.wrN sp a n v).free = s.free := rfl
@[simp] theorem State.wrN_pins (s : State) (sp a n v : Nat) : (s.wrN sp a n v).pins = s.pins := rfl
@[simp] theorem State.wrN_fu (s : State) (sp a n v : Nat) : (s.wrN sp a n v).fu = s.fu := rfl
@[simp] theorem State.wrN_sw (s : State) (sp a n v : Nat) : (s.wrN sp a n v).sw = s.sw := rfl
@[simp] theorem State.wrN_ports (s : State) (sp a n v : Nat) : (s.wrN sp a n v).ports = s.ports := rfl
@[simp] theorem State.wrN_outbox (s : State) (sp a n v : Nat) : (s.wrN sp a n v).outbox = s.outbox := rfl
@[simp] theorem State.wrN_thr (s : State) (sp a n v : Nat) : (s.wrN sp a n v).thr = s.thr := rfl
@[simp] theorem State.wrN_flc (s : State) (sp a n v : Nat) : (s.wrN sp a n v).flc = s.flc := rfl
@[simp] theorem State.wrN_cnt (s : State) (sp a n v : Nat) : (s.wrN sp a n v).cnt = s.cnt := rfl
@[simp] theorem State.wrN_hm (s : State) (sp a n v : Nat) : (s.wrN sp a n v).hm = s.hm := rfl
@[simp] theorem State.wrN_plc (s : State) (sp a n v : Nat) : (s.wrN sp a n v).plc = s.plc := rfl
@[simp] theorem State.wrN_stk (s : State) (sp a n v : Nat) : (s.wrN sp a n v).stk = s.stk := rfl
@[simp] theorem State.wrN_cmt (s : State) (sp a n v : Nat) : (s.wrN sp a n v).cmt = s.cmt := rfl
@[simp] theorem State.wrN_loads (s : State) (sp a n v : Nat) : (s.wrN sp a n v).loads = s.loads := rfl
@[simp] theorem State.wrN_loadTags (s : State) (sp a n v : Nat) : (s.wrN sp a n v).loadTags = s.loadTags := rfl
@[simp] theorem State.wrN_hj (s : State) (sp a n v : Nat) : (s.wrN sp a n v).hj = s.hj := rfl
@[simp] theorem State.wrN_fl (s : State) (sp a n v : Nat) : (s.wrN sp a n v).fl = s.fl := rfl
@[simp] theorem State.wrN_inst (s : State) (sp a n v : Nat) : (s.wrN sp a n v).inst = s.inst := rfl
@[simp] theorem State.wrN_dmp (s : State) (sp a n v : Nat) : (s.wrN sp a n v).dmp = s.dmp := rfl
@[simp] theorem State.wrN_pu (s : State) (sp a n v : Nat) : (s.wrN sp a n v).pu = s.pu := rfl
@[simp] theorem State.wrN_br (s : State) (sp a n v : Nat) : (s.wrN sp a n v).br = s.br := rfl
@[simp] theorem State.wrN_clk (s : State) (sp a n v : Nat) : (s.wrN sp a n v).clk = s.clk := rfl

@[simp] theorem State.reply_ans (s : State) (m : Master) (st d : Nat) : (s.reply m st d).ans = some ⟨m, st, d⟩ := rfl
@[simp] theorem State.send_outbox (s : State) (m : Msg) : (s.send m).outbox = s.outbox ++ [m] := rfl
@[simp] theorem State.wr_mem (s : State) (sp a : Nat) (bs : List Byte) : (s.wr sp a bs).mem = memWrite s.mem (memKey sp a) bs := rfl
@[simp] theorem State.fresh_free (s : State) : s.fresh.2.free = s.free + 1 := rfl
@[simp] theorem State.reply_g (s : State) (m : Master) (st d : Nat) (f : Fld) (i j : Nat) : (s.reply m st d).g f i j = s.g f i j := rfl
@[simp] theorem State.send_g (s : State) (m : Msg) (f : Fld) (i j : Nat) : (s.send m).g f i j = s.g f i j := rfl
@[simp] theorem State.wr_g (s : State) (sp a : Nat) (bs : List Byte) (f : Fld) (i j : Nat) : (s.wr sp a bs).g f i j = s.g f i j := rfl
@[simp] theorem State.fresh_g (s : State) (f : Fld) (i j : Nat) : s.fresh.2.g f i j = s.g f i j := rfl

end Sys2Proof.Machine
end

