-- ==== Sys2Proof/Laws/Units.lean ====
section
/-! SUPPORT. What each update of one unit (a thread, a port, a link, a flue, a queue, an instance, a channel, the bridge), a report and a
condition leave of the state, and what the unit is after it. -/

namespace Sys2Proof.Machine

@[simp] theorem State.thMod_regs (s : State) (t : Nat) (f : Thread → Thread) : (s.thMod t f).regs = s.regs := rfl
@[simp] theorem State.thMod_mem (s : State) (t : Nat) (f : Thread → Thread) : (s.thMod t f).mem = s.mem := rfl
@[simp] theorem State.thMod_pending (s : State) (t : Nat) (f : Thread → Thread) : (s.thMod t f).pending = s.pending := rfl
@[simp] theorem State.thMod_ans (s : State) (t : Nat) (f : Thread → Thread) : (s.thMod t f).ans = s.ans := rfl
@[simp] theorem State.thMod_free (s : State) (t : Nat) (f : Thread → Thread) : (s.thMod t f).free = s.free := rfl
@[simp] theorem State.thMod_pins (s : State) (t : Nat) (f : Thread → Thread) : (s.thMod t f).pins = s.pins := rfl
@[simp] theorem State.thMod_fu (s : State) (t : Nat) (f : Thread → Thread) : (s.thMod t f).fu = s.fu := rfl
@[simp] theorem State.thMod_sw (s : State) (t : Nat) (f : Thread → Thread) : (s.thMod t f).sw = s.sw := rfl
@[simp] theorem State.thMod_ports (s : State) (t : Nat) (f : Thread → Thread) : (s.thMod t f).ports = s.ports := rfl
@[simp] theorem State.thMod_outbox (s : State) (t : Nat) (f : Thread → Thread) : (s.thMod t f).outbox = s.outbox := rfl
@[simp] theorem State.thMod_flc (s : State) (t : Nat) (f : Thread → Thread) : (s.thMod t f).flc = s.flc := rfl
@[simp] theorem State.thMod_cnt (s : State) (t : Nat) (f : Thread → Thread) : (s.thMod t f).cnt = s.cnt := rfl
@[simp] theorem State.thMod_hm (s : State) (t : Nat) (f : Thread → Thread) : (s.thMod t f).hm = s.hm := rfl
@[simp] theorem State.thMod_plc (s : State) (t : Nat) (f : Thread → Thread) : (s.thMod t f).plc = s.plc := rfl
@[simp] theorem State.thMod_stk (s : State) (t : Nat) (f : Thread → Thread) : (s.thMod t f).stk = s.stk := rfl
@[simp] theorem State.thMod_cmt (s : State) (t : Nat) (f : Thread → Thread) : (s.thMod t f).cmt = s.cmt := rfl
@[simp] theorem State.thMod_loads (s : State) (t : Nat) (f : Thread → Thread) : (s.thMod t f).loads = s.loads := rfl
@[simp] theorem State.thMod_loadTags (s : State) (t : Nat) (f : Thread → Thread) : (s.thMod t f).loadTags = s.loadTags := rfl
@[simp] theorem State.thMod_hj (s : State) (t : Nat) (f : Thread → Thread) : (s.thMod t f).hj = s.hj := rfl
@[simp] theorem State.thMod_fl (s : State) (t : Nat) (f : Thread → Thread) : (s.thMod t f).fl = s.fl := rfl
@[simp] theorem State.thMod_inst (s : State) (t : Nat) (f : Thread → Thread) : (s.thMod t f).inst = s.inst := rfl
@[simp] theorem State.thMod_dmp (s : State) (t : Nat) (f : Thread → Thread) : (s.thMod t f).dmp = s.dmp := rfl
@[simp] theorem State.thMod_pu (s : State) (t : Nat) (f : Thread → Thread) : (s.thMod t f).pu = s.pu := rfl
@[simp] theorem State.thMod_br (s : State) (t : Nat) (f : Thread → Thread) : (s.thMod t f).br = s.br := rfl
@[simp] theorem State.thMod_clk (s : State) (t : Nat) (f : Thread → Thread) : (s.thMod t f).clk = s.clk := rfl

@[simp] theorem State.portMod_regs (s : State) (c : Nat) (f : PortX → PortX) : (s.portMod c f).regs = s.regs := rfl
@[simp] theorem State.portMod_mem (s : State) (c : Nat) (f : PortX → PortX) : (s.portMod c f).mem = s.mem := rfl
@[simp] theorem State.portMod_pending (s : State) (c : Nat) (f : PortX → PortX) : (s.portMod c f).pending = s.pending := rfl
@[simp] theorem State.portMod_ans (s : State) (c : Nat) (f : PortX → PortX) : (s.portMod c f).ans = s.ans := rfl
@[simp] theorem State.portMod_free (s : State) (c : Nat) (f : PortX → PortX) : (s.portMod c f).free = s.free := rfl
@[simp] theorem State.portMod_pins (s : State) (c : Nat) (f : PortX → PortX) : (s.portMod c f).pins = s.pins := rfl
@[simp] theorem State.portMod_fu (s : State) (c : Nat) (f : PortX → PortX) : (s.portMod c f).fu = s.fu := rfl
@[simp] theorem State.portMod_sw (s : State) (c : Nat) (f : PortX → PortX) : (s.portMod c f).sw = s.sw := rfl
@[simp] theorem State.portMod_outbox (s : State) (c : Nat) (f : PortX → PortX) : (s.portMod c f).outbox = s.outbox := rfl
@[simp] theorem State.portMod_thr (s : State) (c : Nat) (f : PortX → PortX) : (s.portMod c f).thr = s.thr := rfl
@[simp] theorem State.portMod_flc (s : State) (c : Nat) (f : PortX → PortX) : (s.portMod c f).flc = s.flc := rfl
@[simp] theorem State.portMod_cnt (s : State) (c : Nat) (f : PortX → PortX) : (s.portMod c f).cnt = s.cnt := rfl
@[simp] theorem State.portMod_hm (s : State) (c : Nat) (f : PortX → PortX) : (s.portMod c f).hm = s.hm := rfl
@[simp] theorem State.portMod_plc (s : State) (c : Nat) (f : PortX → PortX) : (s.portMod c f).plc = s.plc := rfl
@[simp] theorem State.portMod_stk (s : State) (c : Nat) (f : PortX → PortX) : (s.portMod c f).stk = s.stk := rfl
@[simp] theorem State.portMod_cmt (s : State) (c : Nat) (f : PortX → PortX) : (s.portMod c f).cmt = s.cmt := rfl
@[simp] theorem State.portMod_loads (s : State) (c : Nat) (f : PortX → PortX) : (s.portMod c f).loads = s.loads := rfl
@[simp] theorem State.portMod_loadTags (s : State) (c : Nat) (f : PortX → PortX) : (s.portMod c f).loadTags = s.loadTags := rfl
@[simp] theorem State.portMod_hj (s : State) (c : Nat) (f : PortX → PortX) : (s.portMod c f).hj = s.hj := rfl
@[simp] theorem State.portMod_fl (s : State) (c : Nat) (f : PortX → PortX) : (s.portMod c f).fl = s.fl := rfl
@[simp] theorem State.portMod_inst (s : State) (c : Nat) (f : PortX → PortX) : (s.portMod c f).inst = s.inst := rfl
@[simp] theorem State.portMod_dmp (s : State) (c : Nat) (f : PortX → PortX) : (s.portMod c f).dmp = s.dmp := rfl
@[simp] theorem State.portMod_pu (s : State) (c : Nat) (f : PortX → PortX) : (s.portMod c f).pu = s.pu := rfl
@[simp] theorem State.portMod_br (s : State) (c : Nat) (f : PortX → PortX) : (s.portMod c f).br = s.br := rfl
@[simp] theorem State.portMod_clk (s : State) (c : Nat) (f : PortX → PortX) : (s.portMod c f).clk = s.clk := rfl

@[simp] theorem State.linkMod_regs (s : State) (l : Nat) (f : LinkX → LinkX) : (s.linkMod l f).regs = s.regs := rfl
@[simp] theorem State.linkMod_mem (s : State) (l : Nat) (f : LinkX → LinkX) : (s.linkMod l f).mem = s.mem := rfl
@[simp] theorem State.linkMod_pending (s : State) (l : Nat) (f : LinkX → LinkX) : (s.linkMod l f).pending = s.pending := rfl
@[simp] theorem State.linkMod_ans (s : State) (l : Nat) (f : LinkX → LinkX) : (s.linkMod l f).ans = s.ans := rfl
@[simp] theorem State.linkMod_free (s : State) (l : Nat) (f : LinkX → LinkX) : (s.linkMod l f).free = s.free := rfl
@[simp] theorem State.linkMod_pins (s : State) (l : Nat) (f : LinkX → LinkX) : (s.linkMod l f).pins = s.pins := rfl
@[simp] theorem State.linkMod_fu (s : State) (l : Nat) (f : LinkX → LinkX) : (s.linkMod l f).fu = s.fu := rfl
@[simp] theorem State.linkMod_sw (s : State) (l : Nat) (f : LinkX → LinkX) : (s.linkMod l f).sw = s.sw := rfl
@[simp] theorem State.linkMod_ports (s : State) (l : Nat) (f : LinkX → LinkX) : (s.linkMod l f).ports = s.ports := rfl
@[simp] theorem State.linkMod_outbox (s : State) (l : Nat) (f : LinkX → LinkX) : (s.linkMod l f).outbox = s.outbox := rfl
@[simp] theorem State.linkMod_thr (s : State) (l : Nat) (f : LinkX → LinkX) : (s.linkMod l f).thr = s.thr := rfl
@[simp] theorem State.linkMod_flc (s : State) (l : Nat) (f : LinkX → LinkX) : (s.linkMod l f).flc = s.flc := rfl
@[simp] theorem State.linkMod_cnt (s : State) (l : Nat) (f : LinkX → LinkX) : (s.linkMod l f).cnt = s.cnt := rfl
@[simp] theorem State.linkMod_hm (s : State) (l : Nat) (f : LinkX → LinkX) : (s.linkMod l f).hm = s.hm := rfl
@[simp] theorem State.linkMod_plc (s : State) (l : Nat) (f : LinkX → LinkX) : (s.linkMod l f).plc = s.plc := rfl
@[simp] theorem State.linkMod_cmt (s : State) (l : Nat) (f : LinkX → LinkX) : (s.linkMod l f).cmt = s.cmt := rfl
@[simp] theorem State.linkMod_loads (s : State) (l : Nat) (f : LinkX → LinkX) : (s.linkMod l f).loads = s.loads := rfl
@[simp] theorem State.linkMod_loadTags (s : State) (l : Nat) (f : LinkX → LinkX) : (s.linkMod l f).loadTags = s.loadTags := rfl
@[simp] theorem State.linkMod_hj (s : State) (l : Nat) (f : LinkX → LinkX) : (s.linkMod l f).hj = s.hj := rfl
@[simp] theorem State.linkMod_fl (s : State) (l : Nat) (f : LinkX → LinkX) : (s.linkMod l f).fl = s.fl := rfl
@[simp] theorem State.linkMod_inst (s : State) (l : Nat) (f : LinkX → LinkX) : (s.linkMod l f).inst = s.inst := rfl
@[simp] theorem State.linkMod_dmp (s : State) (l : Nat) (f : LinkX → LinkX) : (s.linkMod l f).dmp = s.dmp := rfl
@[simp] theorem State.linkMod_pu (s : State) (l : Nat) (f : LinkX → LinkX) : (s.linkMod l f).pu = s.pu := rfl
@[simp] theorem State.linkMod_br (s : State) (l : Nat) (f : LinkX → LinkX) : (s.linkMod l f).br = s.br := rfl
@[simp] theorem State.linkMod_clk (s : State) (l : Nat) (f : LinkX → LinkX) : (s.linkMod l f).clk = s.clk := rfl

@[simp] theorem State.fluMod_mem (s : State) (x : Nat) (g : Flue → Flue) : (s.fluMod x g).mem = s.mem := rfl
@[simp] theorem State.fluMod_pending (s : State) (x : Nat) (g : Flue → Flue) : (s.fluMod x g).pending = s.pending := rfl
@[simp] theorem State.fluMod_ans (s : State) (x : Nat) (g : Flue → Flue) : (s.fluMod x g).ans = s.ans := rfl
@[simp] theorem State.fluMod_free (s : State) (x : Nat) (g : Flue → Flue) : (s.fluMod x g).free = s.free := rfl
@[simp] theorem State.fluMod_pins (s : State) (x : Nat) (g : Flue → Flue) : (s.fluMod x g).pins = s.pins := rfl
@[simp] theorem State.fluMod_fu (s : State) (x : Nat) (g : Flue → Flue) : (s.fluMod x g).fu = s.fu := rfl
@[simp] theorem State.fluMod_sw (s : State) (x : Nat) (g : Flue → Flue) : (s.fluMod x g).sw = s.sw := rfl
@[simp] theorem State.fluMod_ports (s : State) (x : Nat) (g : Flue → Flue) : (s.fluMod x g).ports = s.ports := rfl
@[simp] theorem State.fluMod_outbox (s : State) (x : Nat) (g : Flue → Flue) : (s.fluMod x g).outbox = s.outbox := rfl
@[simp] theorem State.fluMod_thr (s : State) (x : Nat) (g : Flue → Flue) : (s.fluMod x g).thr = s.thr := rfl
@[simp] theorem State.fluMod_flc (s : State) (x : Nat) (g : Flue → Flue) : (s.fluMod x g).flc = s.flc := rfl
@[simp] theorem State.fluMod_cnt (s : State) (x : Nat) (g : Flue → Flue) : (s.fluMod x g).cnt = s.cnt := rfl
@[simp] theorem State.fluMod_hm (s : State) (x : Nat) (g : Flue → Flue) : (s.fluMod x g).hm = s.hm := rfl
@[simp] theorem State.fluMod_plc (s : State) (x : Nat) (g : Flue → Flue) : (s.fluMod x g).plc = s.plc := rfl
@[simp] theorem State.fluMod_stk (s : State) (x : Nat) (g : Flue → Flue) : (s.fluMod x g).stk = s.stk := rfl
@[simp] theorem State.fluMod_cmt (s : State) (x : Nat) (g : Flue → Flue) : (s.fluMod x g).cmt = s.cmt := rfl
@[simp] theorem State.fluMod_loads (s : State) (x : Nat) (g : Flue → Flue) : (s.fluMod x g).loads = s.loads := rfl
@[simp] theorem State.fluMod_loadTags (s : State) (x : Nat) (g : Flue → Flue) : (s.fluMod x g).loadTags = s.loadTags := rfl
@[simp] theorem State.fluMod_hj (s : State) (x : Nat) (g : Flue → Flue) : (s.fluMod x g).hj = s.hj := rfl
@[simp] theorem State.fluMod_inst (s : State) (x : Nat) (g : Flue → Flue) : (s.fluMod x g).inst = s.inst := rfl
@[simp] theorem State.fluMod_dmp (s : State) (x : Nat) (g : Flue → Flue) : (s.fluMod x g).dmp = s.dmp := rfl
@[simp] theorem State.fluMod_pu (s : State) (x : Nat) (g : Flue → Flue) : (s.fluMod x g).pu = s.pu := rfl
@[simp] theorem State.fluMod_br (s : State) (x : Nat) (g : Flue → Flue) : (s.fluMod x g).br = s.br := rfl
@[simp] theorem State.fluMod_clk (s : State) (x : Nat) (g : Flue → Flue) : (s.fluMod x g).clk = s.clk := rfl

@[simp] theorem State.wqMod_regs (s : State) (q : Nat) (g : WorkQueue → WorkQueue) : (s.wqMod q g).regs = s.regs := rfl
@[simp] theorem State.wqMod_mem (s : State) (q : Nat) (g : WorkQueue → WorkQueue) : (s.wqMod q g).mem = s.mem := rfl
@[simp] theorem State.wqMod_pending (s : State) (q : Nat) (g : WorkQueue → WorkQueue) : (s.wqMod q g).pending = s.pending := rfl
@[simp] theorem State.wqMod_ans (s : State) (q : Nat) (g : WorkQueue → WorkQueue) : (s.wqMod q g).ans = s.ans := rfl
@[simp] theorem State.wqMod_free (s : State) (q : Nat) (g : WorkQueue → WorkQueue) : (s.wqMod q g).free = s.free := rfl
@[simp] theorem State.wqMod_pins (s : State) (q : Nat) (g : WorkQueue → WorkQueue) : (s.wqMod q g).pins = s.pins := rfl
@[simp] theorem State.wqMod_fu (s : State) (q : Nat) (g : WorkQueue → WorkQueue) : (s.wqMod q g).fu = s.fu := rfl
@[simp] theorem State.wqMod_sw (s : State) (q : Nat) (g : WorkQueue → WorkQueue) : (s.wqMod q g).sw = s.sw := rfl
@[simp] theorem State.wqMod_ports (s : State) (q : Nat) (g : WorkQueue → WorkQueue) : (s.wqMod q g).ports = s.ports := rfl
@[simp] theorem State.wqMod_outbox (s : State) (q : Nat) (g : WorkQueue → WorkQueue) : (s.wqMod q g).outbox = s.outbox := rfl
@[simp] theorem State.wqMod_thr (s : State) (q : Nat) (g : WorkQueue → WorkQueue) : (s.wqMod q g).thr = s.thr := rfl
@[simp] theorem State.wqMod_flc (s : State) (q : Nat) (g : WorkQueue → WorkQueue) : (s.wqMod q g).flc = s.flc := rfl
@[simp] theorem State.wqMod_cnt (s : State) (q : Nat) (g : WorkQueue → WorkQueue) : (s.wqMod q g).cnt = s.cnt := rfl
@[simp] theorem State.wqMod_hm (s : State) (q : Nat) (g : WorkQueue → WorkQueue) : (s.wqMod q g).hm = s.hm := rfl
@[simp] theorem State.wqMod_plc (s : State) (q : Nat) (g : WorkQueue → WorkQueue) : (s.wqMod q g).plc = s.plc := rfl
@[simp] theorem State.wqMod_stk (s : State) (q : Nat) (g : WorkQueue → WorkQueue) : (s.wqMod q g).stk = s.stk := rfl
@[simp] theorem State.wqMod_cmt (s : State) (q : Nat) (g : WorkQueue → WorkQueue) : (s.wqMod q g).cmt = s.cmt := rfl
@[simp] theorem State.wqMod_loads (s : State) (q : Nat) (g : WorkQueue → WorkQueue) : (s.wqMod q g).loads = s.loads := rfl
@[simp] theorem State.wqMod_loadTags (s : State) (q : Nat) (g : WorkQueue → WorkQueue) : (s.wqMod q g).loadTags = s.loadTags := rfl
@[simp] theorem State.wqMod_hj (s : State) (q : Nat) (g : WorkQueue → WorkQueue) : (s.wqMod q g).hj = s.hj := rfl
@[simp] theorem State.wqMod_inst (s : State) (q : Nat) (g : WorkQueue → WorkQueue) : (s.wqMod q g).inst = s.inst := rfl
@[simp] theorem State.wqMod_dmp (s : State) (q : Nat) (g : WorkQueue → WorkQueue) : (s.wqMod q g).dmp = s.dmp := rfl
@[simp] theorem State.wqMod_pu (s : State) (q : Nat) (g : WorkQueue → WorkQueue) : (s.wqMod q g).pu = s.pu := rfl
@[simp] theorem State.wqMod_br (s : State) (q : Nat) (g : WorkQueue → WorkQueue) : (s.wqMod q g).br = s.br := rfl
@[simp] theorem State.wqMod_clk (s : State) (q : Nat) (g : WorkQueue → WorkQueue) : (s.wqMod q g).clk = s.clk := rfl

@[simp] theorem State.ixMod_regs (s : State) (k : Nat) (f : InstX → InstX) : (s.ixMod k f).regs = s.regs := rfl
@[simp] theorem State.ixMod_mem (s : State) (k : Nat) (f : InstX → InstX) : (s.ixMod k f).mem = s.mem := rfl
@[simp] theorem State.ixMod_pending (s : State) (k : Nat) (f : InstX → InstX) : (s.ixMod k f).pending = s.pending := rfl
@[simp] theorem State.ixMod_ans (s : State) (k : Nat) (f : InstX → InstX) : (s.ixMod k f).ans = s.ans := rfl
@[simp] theorem State.ixMod_free (s : State) (k : Nat) (f : InstX → InstX) : (s.ixMod k f).free = s.free := rfl
@[simp] theorem State.ixMod_pins (s : State) (k : Nat) (f : InstX → InstX) : (s.ixMod k f).pins = s.pins := rfl
@[simp] theorem State.ixMod_fu (s : State) (k : Nat) (f : InstX → InstX) : (s.ixMod k f).fu = s.fu := rfl
@[simp] theorem State.ixMod_sw (s : State) (k : Nat) (f : InstX → InstX) : (s.ixMod k f).sw = s.sw := rfl
@[simp] theorem State.ixMod_ports (s : State) (k : Nat) (f : InstX → InstX) : (s.ixMod k f).ports = s.ports := rfl
@[simp] theorem State.ixMod_outbox (s : State) (k : Nat) (f : InstX → InstX) : (s.ixMod k f).outbox = s.outbox := rfl
@[simp] theorem State.ixMod_thr (s : State) (k : Nat) (f : InstX → InstX) : (s.ixMod k f).thr = s.thr := rfl
@[simp] theorem State.ixMod_flc (s : State) (k : Nat) (f : InstX → InstX) : (s.ixMod k f).flc = s.flc := rfl
@[simp] theorem State.ixMod_cnt (s : State) (k : Nat) (f : InstX → InstX) : (s.ixMod k f).cnt = s.cnt := rfl
@[simp] theorem State.ixMod_hm (s : State) (k : Nat) (f : InstX → InstX) : (s.ixMod k f).hm = s.hm := rfl
@[simp] theorem State.ixMod_plc (s : State) (k : Nat) (f : InstX → InstX) : (s.ixMod k f).plc = s.plc := rfl
@[simp] theorem State.ixMod_stk (s : State) (k : Nat) (f : InstX → InstX) : (s.ixMod k f).stk = s.stk := rfl
@[simp] theorem State.ixMod_cmt (s : State) (k : Nat) (f : InstX → InstX) : (s.ixMod k f).cmt = s.cmt := rfl
@[simp] theorem State.ixMod_loads (s : State) (k : Nat) (f : InstX → InstX) : (s.ixMod k f).loads = s.loads := rfl
@[simp] theorem State.ixMod_loadTags (s : State) (k : Nat) (f : InstX → InstX) : (s.ixMod k f).loadTags = s.loadTags := rfl
@[simp] theorem State.ixMod_hj (s : State) (k : Nat) (f : InstX → InstX) : (s.ixMod k f).hj = s.hj := rfl
@[simp] theorem State.ixMod_fl (s : State) (k : Nat) (f : InstX → InstX) : (s.ixMod k f).fl = s.fl := rfl
@[simp] theorem State.ixMod_dmp (s : State) (k : Nat) (f : InstX → InstX) : (s.ixMod k f).dmp = s.dmp := rfl
@[simp] theorem State.ixMod_pu (s : State) (k : Nat) (f : InstX → InstX) : (s.ixMod k f).pu = s.pu := rfl
@[simp] theorem State.ixMod_br (s : State) (k : Nat) (f : InstX → InstX) : (s.ixMod k f).br = s.br := rfl
@[simp] theorem State.ixMod_clk (s : State) (k : Nat) (f : InstX → InstX) : (s.ixMod k f).clk = s.clk := rfl

@[simp] theorem State.dmMod_regs (s : State) (c : Nat) (f : Damper → Damper) : (s.dmMod c f).regs = s.regs := rfl
@[simp] theorem State.dmMod_mem (s : State) (c : Nat) (f : Damper → Damper) : (s.dmMod c f).mem = s.mem := rfl
@[simp] theorem State.dmMod_pending (s : State) (c : Nat) (f : Damper → Damper) : (s.dmMod c f).pending = s.pending := rfl
@[simp] theorem State.dmMod_ans (s : State) (c : Nat) (f : Damper → Damper) : (s.dmMod c f).ans = s.ans := rfl
@[simp] theorem State.dmMod_free (s : State) (c : Nat) (f : Damper → Damper) : (s.dmMod c f).free = s.free := rfl
@[simp] theorem State.dmMod_pins (s : State) (c : Nat) (f : Damper → Damper) : (s.dmMod c f).pins = s.pins := rfl
@[simp] theorem State.dmMod_fu (s : State) (c : Nat) (f : Damper → Damper) : (s.dmMod c f).fu = s.fu := rfl
@[simp] theorem State.dmMod_sw (s : State) (c : Nat) (f : Damper → Damper) : (s.dmMod c f).sw = s.sw := rfl
@[simp] theorem State.dmMod_ports (s : State) (c : Nat) (f : Damper → Damper) : (s.dmMod c f).ports = s.ports := rfl
@[simp] theorem State.dmMod_outbox (s : State) (c : Nat) (f : Damper → Damper) : (s.dmMod c f).outbox = s.outbox := rfl
@[simp] theorem State.dmMod_thr (s : State) (c : Nat) (f : Damper → Damper) : (s.dmMod c f).thr = s.thr := rfl
@[simp] theorem State.dmMod_flc (s : State) (c : Nat) (f : Damper → Damper) : (s.dmMod c f).flc = s.flc := rfl
@[simp] theorem State.dmMod_cnt (s : State) (c : Nat) (f : Damper → Damper) : (s.dmMod c f).cnt = s.cnt := rfl
@[simp] theorem State.dmMod_hm (s : State) (c : Nat) (f : Damper → Damper) : (s.dmMod c f).hm = s.hm := rfl
@[simp] theorem State.dmMod_plc (s : State) (c : Nat) (f : Damper → Damper) : (s.dmMod c f).plc = s.plc := rfl
@[simp] theorem State.dmMod_stk (s : State) (c : Nat) (f : Damper → Damper) : (s.dmMod c f).stk = s.stk := rfl
@[simp] theorem State.dmMod_cmt (s : State) (c : Nat) (f : Damper → Damper) : (s.dmMod c f).cmt = s.cmt := rfl
@[simp] theorem State.dmMod_loads (s : State) (c : Nat) (f : Damper → Damper) : (s.dmMod c f).loads = s.loads := rfl
@[simp] theorem State.dmMod_loadTags (s : State) (c : Nat) (f : Damper → Damper) : (s.dmMod c f).loadTags = s.loadTags := rfl
@[simp] theorem State.dmMod_hj (s : State) (c : Nat) (f : Damper → Damper) : (s.dmMod c f).hj = s.hj := rfl
@[simp] theorem State.dmMod_fl (s : State) (c : Nat) (f : Damper → Damper) : (s.dmMod c f).fl = s.fl := rfl
@[simp] theorem State.dmMod_inst (s : State) (c : Nat) (f : Damper → Damper) : (s.dmMod c f).inst = s.inst := rfl
@[simp] theorem State.dmMod_pu (s : State) (c : Nat) (f : Damper → Damper) : (s.dmMod c f).pu = s.pu := rfl
@[simp] theorem State.dmMod_br (s : State) (c : Nat) (f : Damper → Damper) : (s.dmMod c f).br = s.br := rfl
@[simp] theorem State.dmMod_clk (s : State) (c : Nat) (f : Damper → Damper) : (s.dmMod c f).clk = s.clk := rfl

@[simp] theorem State.brMod_regs (s : State) (f : Bridge → Bridge) : (s.brMod f).regs = s.regs := rfl
@[simp] theorem State.brMod_mem (s : State) (f : Bridge → Bridge) : (s.brMod f).mem = s.mem := rfl
@[simp] theorem State.brMod_pending (s : State) (f : Bridge → Bridge) : (s.brMod f).pending = s.pending := rfl
@[simp] theorem State.brMod_ans (s : State) (f : Bridge → Bridge) : (s.brMod f).ans = s.ans := rfl
@[simp] theorem State.brMod_free (s : State) (f : Bridge → Bridge) : (s.brMod f).free = s.free := rfl
@[simp] theorem State.brMod_pins (s : State) (f : Bridge → Bridge) : (s.brMod f).pins = s.pins := rfl
@[simp] theorem State.brMod_fu (s : State) (f : Bridge → Bridge) : (s.brMod f).fu = s.fu := rfl
@[simp] theorem State.brMod_sw (s : State) (f : Bridge → Bridge) : (s.brMod f).sw = s.sw := rfl
@[simp] theorem State.brMod_ports (s : State) (f : Bridge → Bridge) : (s.brMod f).ports = s.ports := rfl
@[simp] theorem State.brMod_outbox (s : State) (f : Bridge → Bridge) : (s.brMod f).outbox = s.outbox := rfl
@[simp] theorem State.brMod_thr (s : State) (f : Bridge → Bridge) : (s.brMod f).thr = s.thr := rfl
@[simp] theorem State.brMod_flc (s : State) (f : Bridge → Bridge) : (s.brMod f).flc = s.flc := rfl
@[simp] theorem State.brMod_cnt (s : State) (f : Bridge → Bridge) : (s.brMod f).cnt = s.cnt := rfl
@[simp] theorem State.brMod_hm (s : State) (f : Bridge → Bridge) : (s.brMod f).hm = s.hm := rfl
@[simp] theorem State.brMod_plc (s : State) (f : Bridge → Bridge) : (s.brMod f).plc = s.plc := rfl
@[simp] theorem State.brMod_stk (s : State) (f : Bridge → Bridge) : (s.brMod f).stk = s.stk := rfl
@[simp] theorem State.brMod_cmt (s : State) (f : Bridge → Bridge) : (s.brMod f).cmt = s.cmt := rfl
@[simp] theorem State.brMod_loads (s : State) (f : Bridge → Bridge) : (s.brMod f).loads = s.loads := rfl
@[simp] theorem State.brMod_loadTags (s : State) (f : Bridge → Bridge) : (s.brMod f).loadTags = s.loadTags := rfl
@[simp] theorem State.brMod_hj (s : State) (f : Bridge → Bridge) : (s.brMod f).hj = s.hj := rfl
@[simp] theorem State.brMod_fl (s : State) (f : Bridge → Bridge) : (s.brMod f).fl = s.fl := rfl
@[simp] theorem State.brMod_inst (s : State) (f : Bridge → Bridge) : (s.brMod f).inst = s.inst := rfl
@[simp] theorem State.brMod_dmp (s : State) (f : Bridge → Bridge) : (s.brMod f).dmp = s.dmp := rfl
@[simp] theorem State.brMod_pu (s : State) (f : Bridge → Bridge) : (s.brMod f).pu = s.pu := rfl
@[simp] theorem State.brMod_clk (s : State) (f : Bridge → Bridge) : (s.brMod f).clk = s.clk := rfl

@[simp] theorem State.condBegin_mem (s : State) (source sc : Nat) : (s.condBegin source sc).mem = s.mem := rfl
@[simp] theorem State.condBegin_pending (s : State) (source sc : Nat) : (s.condBegin source sc).pending = s.pending := rfl
@[simp] theorem State.condBegin_ans (s : State) (source sc : Nat) : (s.condBegin source sc).ans = s.ans := rfl
@[simp] theorem State.condBegin_free (s : State) (source sc : Nat) : (s.condBegin source sc).free = s.free := rfl
@[simp] theorem State.condBegin_pins (s : State) (source sc : Nat) : (s.condBegin source sc).pins = s.pins := rfl
@[simp] theorem State.condBegin_sw (s : State) (source sc : Nat) : (s.condBegin source sc).sw = s.sw := rfl
@[simp] theorem State.condBegin_ports (s : State) (source sc : Nat) : (s.condBegin source sc).ports = s.ports := rfl
@[simp] theorem State.condBegin_outbox (s : State) (source sc : Nat) : (s.condBegin source sc).outbox = s.outbox := rfl
@[simp] theorem State.condBegin_thr (s : State) (source sc : Nat) : (s.condBegin source sc).thr = s.thr := rfl
@[simp] theorem State.condBegin_flc (s : State) (source sc : Nat) : (s.condBegin source sc).flc = s.flc := rfl
@[simp] theorem State.condBegin_cnt (s : State) (source sc : Nat) : (s.condBegin source sc).cnt = s.cnt := rfl
@[simp] theorem State.condBegin_hm (s : State) (source sc : Nat) : (s.condBegin source sc).hm = s.hm := rfl
@[simp] theorem State.condBegin_plc (s : State) (source sc : Nat) : (s.condBegin source sc).plc = s.plc := rfl
@[simp] theorem State.condBegin_stk (s : State) (source sc : Nat) : (s.condBegin source sc).stk = s.stk := rfl
@[simp] theorem State.condBegin_cmt (s : State) (source sc : Nat) : (s.condBegin source sc).cmt = s.cmt := rfl
@[simp] theorem State.condBegin_loads (s : State) (source sc : Nat) : (s.condBegin source sc).loads = s.loads := rfl
@[simp] theorem State.condBegin_loadTags (s : State) (source sc : Nat) : (s.condBegin source sc).loadTags = s.loadTags := rfl
@[simp] theorem State.condBegin_hj (s : State) (source sc : Nat) : (s.condBegin source sc).hj = s.hj := rfl
@[simp] theorem State.condBegin_fl (s : State) (source sc : Nat) : (s.condBegin source sc).fl = s.fl := rfl
@[simp] theorem State.condBegin_inst (s : State) (source sc : Nat) : (s.condBegin source sc).inst = s.inst := rfl
@[simp] theorem State.condBegin_dmp (s : State) (source sc : Nat) : (s.condBegin source sc).dmp = s.dmp := rfl
@[simp] theorem State.condBegin_pu (s : State) (source sc : Nat) : (s.condBegin source sc).pu = s.pu := rfl
@[simp] theorem State.condBegin_br (s : State) (source sc : Nat) : (s.condBegin source sc).br = s.br := rfl
@[simp] theorem State.condBegin_clk (s : State) (source sc : Nat) : (s.condBegin source sc).clk = s.clk := rfl

@[simp] theorem State.condEnd_mem (s : State) (source sc : Nat) : (s.condEnd source sc).mem = s.mem := rfl
@[simp] theorem State.condEnd_pending (s : State) (source sc : Nat) : (s.condEnd source sc).pending = s.pending := rfl
@[simp] theorem State.condEnd_ans (s : State) (source sc : Nat) : (s.condEnd source sc).ans = s.ans := rfl
@[simp] theorem State.condEnd_free (s : State) (source sc : Nat) : (s.condEnd source sc).free = s.free := rfl
@[simp] theorem State.condEnd_pins (s : State) (source sc : Nat) : (s.condEnd source sc).pins = s.pins := rfl
@[simp] theorem State.condEnd_sw (s : State) (source sc : Nat) : (s.condEnd source sc).sw = s.sw := rfl
@[simp] theorem State.condEnd_ports (s : State) (source sc : Nat) : (s.condEnd source sc).ports = s.ports := rfl
@[simp] theorem State.condEnd_outbox (s : State) (source sc : Nat) : (s.condEnd source sc).outbox = s.outbox := rfl
@[simp] theorem State.condEnd_thr (s : State) (source sc : Nat) : (s.condEnd source sc).thr = s.thr := rfl
@[simp] theorem State.condEnd_flc (s : State) (source sc : Nat) : (s.condEnd source sc).flc = s.flc := rfl
@[simp] theorem State.condEnd_cnt (s : State) (source sc : Nat) : (s.condEnd source sc).cnt = s.cnt := rfl
@[simp] theorem State.condEnd_hm (s : State) (source sc : Nat) : (s.condEnd source sc).hm = s.hm := rfl
@[simp] theorem State.condEnd_plc (s : State) (source sc : Nat) : (s.condEnd source sc).plc = s.plc := rfl
@[simp] theorem State.condEnd_stk (s : State) (source sc : Nat) : (s.condEnd source sc).stk = s.stk := rfl
@[simp] theorem State.condEnd_cmt (s : State) (source sc : Nat) : (s.condEnd source sc).cmt = s.cmt := rfl
@[simp] theorem State.condEnd_loads (s : State) (source sc : Nat) : (s.condEnd source sc).loads = s.loads := rfl
@[simp] theorem State.condEnd_loadTags (s : State) (source sc : Nat) : (s.condEnd source sc).loadTags = s.loadTags := rfl
@[simp] theorem State.condEnd_hj (s : State) (source sc : Nat) : (s.condEnd source sc).hj = s.hj := rfl
@[simp] theorem State.condEnd_fl (s : State) (source sc : Nat) : (s.condEnd source sc).fl = s.fl := rfl
@[simp] theorem State.condEnd_inst (s : State) (source sc : Nat) : (s.condEnd source sc).inst = s.inst := rfl
@[simp] theorem State.condEnd_dmp (s : State) (source sc : Nat) : (s.condEnd source sc).dmp = s.dmp := rfl
@[simp] theorem State.condEnd_pu (s : State) (source sc : Nat) : (s.condEnd source sc).pu = s.pu := rfl
@[simp] theorem State.condEnd_br (s : State) (source sc : Nat) : (s.condEnd source sc).br = s.br := rfl
@[simp] theorem State.condEnd_clk (s : State) (source sc : Nat) : (s.condEnd source sc).clk = s.clk := rfl

@[simp] theorem State.report_mem (s : State) (r : Report) : (s.report r).mem = s.mem := by unfold State.report; dsimp only; split <;> rfl
@[simp] theorem State.report_pending (s : State) (r : Report) : (s.report r).pending = s.pending := by unfold State.report; dsimp only; split <;> rfl
@[simp] theorem State.report_ans (s : State) (r : Report) : (s.report r).ans = s.ans := by unfold State.report; dsimp only; split <;> rfl
@[simp] theorem State.report_free (s : State) (r : Report) : (s.report r).free = s.free := by unfold State.report; dsimp only; split <;> rfl
@[simp] theorem State.report_pins (s : State) (r : Report) : (s.report r).pins = s.pins := by unfold State.report; dsimp only; split <;> rfl
@[simp] theorem State.report_sw (s : State) (r : Report) : (s.report r).sw = s.sw := by unfold State.report; dsimp only; split <;> rfl
@[simp] theorem State.report_ports (s : State) (r : Report) : (s.report r).ports = s.ports := by unfold State.report; dsimp only; split <;> rfl
@[simp] theorem State.report_outbox (s : State) (r : Report) : (s.report r).outbox = s.outbox := by unfold State.report; dsimp only; split <;> rfl
@[simp] theorem State.report_thr (s : State) (r : Report) : (s.report r).thr = s.thr := by unfold State.report; dsimp only; split <;> rfl
@[simp] theorem State.report_flc (s : State) (r : Report) : (s.report r).flc = s.flc := by unfold State.report; dsimp only; split <;> rfl
@[simp] theorem State.report_cnt (s : State) (r : Report) : (s.report r).cnt = s.cnt := by unfold State.report; dsimp only; split <;> rfl
@[simp] theorem State.report_hm (s : State) (r : Report) : (s.report r).hm = s.hm := by unfold State.report; dsimp only; split <;> rfl
@[simp] theorem State.report_plc (s : State) (r : Report) : (s.report r).plc = s.plc := by unfold State.report; dsimp only; split <;> rfl
@[simp] theorem State.report_stk (s : State) (r : Report) : (s.report r).stk = s.stk := by unfold State.report; dsimp only; split <;> rfl
@[simp] theorem State.report_cmt (s : State) (r : Report) : (s.report r).cmt = s.cmt := by unfold State.report; dsimp only; split <;> rfl
@[simp] theorem State.report_loads (s : State) (r : Report) : (s.report r).loads = s.loads := by unfold State.report; dsimp only; split <;> rfl
@[simp] theorem State.report_loadTags (s : State) (r : Report) : (s.report r).loadTags = s.loadTags := by unfold State.report; dsimp only; split <;> rfl
@[simp] theorem State.report_hj (s : State) (r : Report) : (s.report r).hj = s.hj := by unfold State.report; dsimp only; split <;> rfl
@[simp] theorem State.report_fl (s : State) (r : Report) : (s.report r).fl = s.fl := by unfold State.report; dsimp only; split <;> rfl
@[simp] theorem State.report_inst (s : State) (r : Report) : (s.report r).inst = s.inst := by unfold State.report; dsimp only; split <;> rfl
@[simp] theorem State.report_dmp (s : State) (r : Report) : (s.report r).dmp = s.dmp := by unfold State.report; dsimp only; split <;> rfl
@[simp] theorem State.report_pu (s : State) (r : Report) : (s.report r).pu = s.pu := by unfold State.report; dsimp only; split <;> rfl
@[simp] theorem State.report_br (s : State) (r : Report) : (s.report r).br = s.br := by unfold State.report; dsimp only; split <;> rfl
@[simp] theorem State.report_clk (s : State) (r : Report) : (s.report r).clk = s.clk := by unfold State.report; dsimp only; split <;> rfl

@[simp] theorem State.fault_mem (s : State) (source cls sc : Nat) : (s.fault source cls sc).mem = s.mem := by unfold State.fault; simp
@[simp] theorem State.fault_pending (s : State) (source cls sc : Nat) : (s.fault source cls sc).pending = s.pending := by unfold State.fault; simp
@[simp] theorem State.fault_ans (s : State) (source cls sc : Nat) : (s.fault source cls sc).ans = s.ans := by unfold State.fault; simp
@[simp] theorem State.fault_free (s : State) (source cls sc : Nat) : (s.fault source cls sc).free = s.free := by unfold State.fault; simp
@[simp] theorem State.fault_pins (s : State) (source cls sc : Nat) : (s.fault source cls sc).pins = s.pins := by unfold State.fault; simp
@[simp] theorem State.fault_sw (s : State) (source cls sc : Nat) : (s.fault source cls sc).sw = s.sw := by unfold State.fault; simp
@[simp] theorem State.fault_ports (s : State) (source cls sc : Nat) : (s.fault source cls sc).ports = s.ports := by unfold State.fault; simp
@[simp] theorem State.fault_outbox (s : State) (source cls sc : Nat) : (s.fault source cls sc).outbox = s.outbox := by unfold State.fault; simp
@[simp] theorem State.fault_thr (s : State) (source cls sc : Nat) : (s.fault source cls sc).thr = s.thr := by unfold State.fault; simp
@[simp] theorem State.fault_flc (s : State) (source cls sc : Nat) : (s.fault source cls sc).flc = s.flc := by unfold State.fault; simp
@[simp] theorem State.fault_cnt (s : State) (source cls sc : Nat) : (s.fault source cls sc).cnt = s.cnt := by unfold State.fault; simp
@[simp] theorem State.fault_hm (s : State) (source cls sc : Nat) : (s.fault source cls sc).hm = s.hm := by unfold State.fault; simp
@[simp] theorem State.fault_plc (s : State) (source cls sc : Nat) : (s.fault source cls sc).plc = s.plc := by unfold State.fault; simp
@[simp] theorem State.fault_stk (s : State) (source cls sc : Nat) : (s.fault source cls sc).stk = s.stk := by unfold State.fault; simp
@[simp] theorem State.fault_cmt (s : State) (source cls sc : Nat) : (s.fault source cls sc).cmt = s.cmt := by unfold State.fault; simp
@[simp] theorem State.fault_loads (s : State) (source cls sc : Nat) : (s.fault source cls sc).loads = s.loads := by unfold State.fault; simp
@[simp] theorem State.fault_loadTags (s : State) (source cls sc : Nat) : (s.fault source cls sc).loadTags = s.loadTags := by unfold State.fault; simp
@[simp] theorem State.fault_hj (s : State) (source cls sc : Nat) : (s.fault source cls sc).hj = s.hj := by unfold State.fault; simp
@[simp] theorem State.fault_fl (s : State) (source cls sc : Nat) : (s.fault source cls sc).fl = s.fl := by unfold State.fault; simp
@[simp] theorem State.fault_inst (s : State) (source cls sc : Nat) : (s.fault source cls sc).inst = s.inst := by unfold State.fault; simp
@[simp] theorem State.fault_dmp (s : State) (source cls sc : Nat) : (s.fault source cls sc).dmp = s.dmp := by unfold State.fault; simp
@[simp] theorem State.fault_pu (s : State) (source cls sc : Nat) : (s.fault source cls sc).pu = s.pu := by unfold State.fault; simp
@[simp] theorem State.fault_br (s : State) (source cls sc : Nat) : (s.fault source cls sc).br = s.br := by unfold State.fault; simp
@[simp] theorem State.fault_clk (s : State) (source cls sc : Nat) : (s.fault source cls sc).clk = s.clk := by unfold State.fault; simp

@[simp] theorem State.thMod_g (s : State) (t : Nat) (f : Thread → Thread) (fl : Fld) (i j : Nat) : (s.thMod t f).g fl i j = s.g fl i j := rfl
@[simp] theorem State.thMod_up (s : State) (t : Nat) (f : Thread → Thread) : (s.thMod t f).up = s.up := rfl
@[simp] theorem State.portMod_g (s : State) (c : Nat) (f : PortX → PortX) (fl : Fld) (i j : Nat) : (s.portMod c f).g fl i j = s.g fl i j := rfl
@[simp] theorem State.portMod_up (s : State) (c : Nat) (f : PortX → PortX) : (s.portMod c f).up = s.up := rfl
@[simp] theorem State.linkMod_g (s : State) (l : Nat) (f : LinkX → LinkX) (fl : Fld) (i j : Nat) : (s.linkMod l f).g fl i j = s.g fl i j := rfl
@[simp] theorem State.linkMod_up (s : State) (l : Nat) (f : LinkX → LinkX) : (s.linkMod l f).up = s.up := rfl
@[simp] theorem State.wqMod_g (s : State) (q : Nat) (g : WorkQueue → WorkQueue) (fl : Fld) (i j : Nat) : (s.wqMod q g).g fl i j = s.g fl i j := rfl
@[simp] theorem State.wqMod_up (s : State) (q : Nat) (g : WorkQueue → WorkQueue) : (s.wqMod q g).up = s.up := rfl
@[simp] theorem State.ixMod_g (s : State) (k : Nat) (f : InstX → InstX) (fl : Fld) (i j : Nat) : (s.ixMod k f).g fl i j = s.g fl i j := rfl
@[simp] theorem State.ixMod_up (s : State) (k : Nat) (f : InstX → InstX) : (s.ixMod k f).up = s.up := rfl
@[simp] theorem State.dmMod_g (s : State) (c : Nat) (f : Damper → Damper) (fl : Fld) (i j : Nat) : (s.dmMod c f).g fl i j = s.g fl i j := rfl
@[simp] theorem State.dmMod_up (s : State) (c : Nat) (f : Damper → Damper) : (s.dmMod c f).up = s.up := rfl
@[simp] theorem State.brMod_g (s : State) (f : Bridge → Bridge) (fl : Fld) (i j : Nat) : (s.brMod f).g fl i j = s.g fl i j := rfl
@[simp] theorem State.brMod_up (s : State) (f : Bridge → Bridge) : (s.brMod f).up = s.up := rfl

/-- A thread changed is what the function gives. -/
@[simp] theorem State.th_thMod_self (s : State) (t : Nat) (f : Thread → Thread) : (s.thMod t f).th t = f (s.th t) := ngetD_nput_self _ _ _ _
/-- Another one is as it was. -/
theorem State.th_thMod_of_ne (s : State) {t u : Nat} (h : t ≠ u) (f : Thread → Thread) : (s.thMod t f).th u = s.th u := ngetD_nput_of_ne h _ _ _ _
/-- A port changed is what the function gives. -/
@[simp] theorem State.port_portMod_self (s : State) (c : Nat) (f : PortX → PortX) : (s.portMod c f).port c = f (s.port c) := ngetD_nput_self _ _ _ _
/-- Another one is as it was. -/
theorem State.port_portMod_of_ne (s : State) {c u : Nat} (h : c ≠ u) (f : PortX → PortX) : (s.portMod c f).port u = s.port u := ngetD_nput_of_ne h _ _ _ _
/-- A link changed is what the function gives. -/
@[simp] theorem State.link_linkMod_self (s : State) (l : Nat) (f : LinkX → LinkX) : (s.linkMod l f).link l = f (s.link l) := ngetD_nput_self _ _ _ _
/-- Another one is as it was. -/
theorem State.link_linkMod_of_ne (s : State) {l u : Nat} (h : l ≠ u) (f : LinkX → LinkX) : (s.linkMod l f).link u = s.link u := ngetD_nput_of_ne h _ _ _ _
/-- A flue changed is what the function gives. -/
@[simp] theorem State.flu_fluMod_self (s : State) (x : Nat) (f : Flue → Flue) : (s.fluMod x f).flu x = f (s.flu x) := ngetD_nput_self _ _ _ _
/-- Another one is as it was. -/
theorem State.flu_fluMod_of_ne (s : State) {x u : Nat} (h : x ≠ u) (f : Flue → Flue) : (s.fluMod x f).flu u = s.flu u := ngetD_nput_of_ne h _ _ _ _
/-- A work queue changed is what the function gives. -/
@[simp] theorem State.wq_wqMod_self (s : State) (q : Nat) (f : WorkQueue → WorkQueue) : (s.wqMod q f).wq q = f (s.wq q) := ngetD_nput_self _ _ _ _
/-- Another one is as it was. -/
theorem State.wq_wqMod_of_ne (s : State) {q u : Nat} (h : q ≠ u) (f : WorkQueue → WorkQueue) : (s.wqMod q f).wq u = s.wq u := ngetD_nput_of_ne h _ _ _ _
/-- An instance changed is what the function gives. -/
@[simp] theorem State.ix_ixMod_self (s : State) (k : Nat) (f : InstX → InstX) : (s.ixMod k f).ix k = f (s.ix k) := ngetD_nput_self _ _ _ _
/-- Another one is as it was. -/
theorem State.ix_ixMod_of_ne (s : State) {k u : Nat} (h : k ≠ u) (f : InstX → InstX) : (s.ixMod k f).ix u = s.ix u := ngetD_nput_of_ne h _ _ _ _
/-- A channel changed is what the function gives. -/
@[simp] theorem State.dm_dmMod_self (s : State) (c : Nat) (f : Damper → Damper) : (s.dmMod c f).dm c = f (s.dm c) := ngetD_nput_self _ _ _ _
/-- Another one is as it was. -/
theorem State.dm_dmMod_of_ne (s : State) {c u : Nat} (h : c ≠ u) (f : Damper → Damper) : (s.dmMod c f).dm u = s.dm u := ngetD_nput_of_ne h _ _ _ _

/-! ## Reports and conditions -/

theorem coalesce_any (q : Nat → Nat → Nat → Bool) (r : Report) (ws : List Report) :
    (coalesce r ws).any (fun w => q w.source w.cls w.scope) = (q r.source r.cls r.scope || ws.any (fun w => q w.source w.cls w.scope)) := by
  induction ws with
  | nil => simp [coalesce]
  | cons w ws ih =>
    unfold coalesce
    split
    · rename_i h; obtain ⟨h1, h2, h3⟩ := h; simp [h1, h2, h3]
    · simp only [List.any_cons, ih]; cases q w.source w.cls w.scope <;> cases q r.source r.cls r.scope <;> rfl

/-- The reports that wait after a report: those that waited, and the new one, merged with a waiting one of its source, class and scope (R302). -/
theorem State.report_reported (s : State) (r : Report) (a b c : Nat) :
    (s.report r).reported a b c = ((r.source == a && r.cls == b && r.scope == c) || s.reported a b c) := by
  have h : (s.report r).fu.waiting = coalesce { r with time := s.now, injected := s.injects r } s.fu.waiting := by
    unfold State.report; dsimp only; split <;> rfl
  unfold State.reported
  rw [h]
  exact coalesce_any (fun x y z => x == a && y == b && z == c) _ _

theorem State.fault_reported (s : State) (source cls sc a b c : Nat) :
    (s.fault source cls sc).reported a b c = ((source == a && cls == b && sc == c) || s.reported a b c) := State.report_reported _ _ _ _ _

/-- A report changes no field of a register but FU_INJ, whose one-shot injection it may disarm (R314). -/
theorem State.report_g (s : State) (r : Report) {f : Fld} {i j : Nat} (h : f.reg.ctorIdx ≠ RegName.FU_INJ.ctorIdx) : (s.report r).g f i j = s.g f i j := by
  unfold State.report
  dsimp only
  split
  · exact State.g_p_of_ne _ (.inl (Ne.symm h))
  · rfl

theorem State.fault_g (s : State) (source cls sc : Nat) {f : Fld} {i j : Nat} (h : f.reg.ctorIdx ≠ RegName.FU_INJ.ctorIdx) :
    (s.fault source cls sc).g f i j = s.g f i j := State.report_g _ _ h

/-- The conditions present after one begins (R309). -/
theorem State.condBegin_cond (s : State) (source sc a c : Nat) :
    (s.condBegin source sc).cond a c = (decide ((a, c) = (source, sc)) || s.cond a c) := by
  unfold State.cond State.condBegin
  simp only [State.p_fu]
  split
  · rename_i h
    by_cases e : (a, c) = (source, sc)
    · rw [e]; simpa using h
    · simp [e]
  · rw [List.contains_cons]
    by_cases e : (a, c) = (source, sc)
    · simp [e]
    · rw [beq_false_of_ne e, decide_eq_false e]

/-- The conditions present after one ends. -/
theorem State.condEnd_cond (s : State) (source sc a c : Nat) :
    (s.condEnd source sc).cond a c = (decide ((a, c) ≠ (source, sc)) && s.cond a c) := by
  unfold State.cond State.condEnd
  simp only [State.p_fu, List.contains_eq_mem, List.mem_filter]
  by_cases e : (a, c) = (source, sc)
  · simp [e]
  · simp [e]

/-! ## Commands written to registers (R13, R26) -/

/-- A command that the gate, the view and the block's masters let through is performed. -/
theorem State.cmdBy_accepted {s : State} {m : Master} {r : RegName} {i j : Nat} (h : s.accepts m r i j = true) (op : State → State) :
    s.cmdBy m r i op j = op s := by
  unfold State.accepts at h
  simp only [Bool.and_eq_true, Option.isNone_iff_eq_none] at h
  obtain ⟨⟨h1, h2⟩, h3⟩ := h
  unfold State.cmdBy
  rw [h1]
  cases m <;> simp_all

/-- What a command that a master writes can do: be performed, or be turned away with a record and an answer. -/
theorem State.cmdBy_cases (s : State) (m : Master) (r : RegName) (i j : Nat) (op : State → State) :
    s.cmdBy m r i op j = op s ∨ (∃ g, s.cmdBy m r i op j = (s.csRefuse m g).reply m ST_ACCESS_DENIED) ∨
      s.cmdBy m r i op j = s.reply m ST_ACCESS_DENIED ∨ s.cmdBy m r i op j = (s.strayAccess m (r.place i j) 2).reply m ST_NO_MATCH := by
  unfold State.cmdBy
  split
  · exact .inr (.inl ⟨_, rfl⟩)
  · repeat' split
    all_goals simp

/-- A command of the main domain that is accepted answers the status of its operation. -/
theorem command_accepted {s : State} {m : Master} {r : RegName} {i : Nat} (op : State → State × Nat) (hu : s.up = true) (h : s.accepts m r i 0 = true) :
    command m r i op s = .next ((op s).1.reply m (op s).2) := by
  unfold command
  rw [whenUp_up hu, State.cmdBy_accepted h]

/-! ## The registers of a thread -/

/-- A general register written reads as the value cut to 64 bits; g0 reads 0 (R167). -/
theorem State.gr_grSet_self (s : State) (t r v : Nat) : (s.grSet t r v).gr t r = if r = 0 then 0 else v % 2 ^ 64 := by
  unfold State.gr State.grSet
  rw [State.th_thMod_self]
  unfold Thread.grSet Thread.gr
  by_cases h : r = 0
  · simp [h]
  · simp only [h, if_false]; exact ngetD_nput_self _ _ _ _

/-- Every other register reads as before. -/
theorem State.gr_grSet_of_ne (s : State) {t r t' r' : Nat} (h : t ≠ t' ∨ r ≠ r') (v : Nat) : (s.grSet t r v).gr t' r' = s.gr t' r' := by
  unfold State.gr State.grSet
  by_cases ht : t = t'
  · subst ht
    have hr : r ≠ r' := h.resolve_left (fun k => k rfl)
    rw [State.th_thMod_self]
    unfold Thread.grSet Thread.gr
    by_cases h0 : r = 0
    · simp [h0]
    · by_cases h1 : r' = 0
      · simp [h1]
      · simp only [h0, h1, if_false]; exact ngetD_nput_of_ne hr _ _ _ _
  · rw [State.th_thMod_of_ne s ht]

end Sys2Proof.Machine
end

