-- ==== Sys2Proof/Laws/Frames.lean ====
section
/-! SUPPORT. How frames compose: a relation that says which registers may differ, and that it goes through every update, branch and fold. -/

namespace Sys2Proof.Machine

/-- Only fields of the registers named may differ. -/
def KeepsRegs (rs : List RegName) (s t : State) : Prop := ∀ (f : Fld) (i j : Nat), f.reg ∉ rs → t.g f i j = s.g f i j

/-- A register is told by its number. -/
theorem RegName.ctorIdx_ne {a b : RegName} (h : a ≠ b) : a.ctorIdx ≠ b.ctorIdx := by
  intro e
  apply h
  rw [← RegName.ofNat_ctorIdx a, ← RegName.ofNat_ctorIdx b, e]

namespace KeepsRegs

variable {rs : List RegName} {s t u : State}

theorem refl (rs : List RegName) (s : State) : KeepsRegs rs s s := fun _ _ _ _ => rfl

theorem trans (h : KeepsRegs rs s t) (k : KeepsRegs rs t u) : KeepsRegs rs s u := fun f i j m => (k f i j m).trans (h f i j m)

theorem mono {rs' : List RegName} (h : KeepsRegs rs s t) (m : ∀ r, r ∈ rs → r ∈ rs') : KeepsRegs rs' s t :=
  fun f i j n => h f i j (fun k => n (m _ k))

/-- An update of anything but the register file. -/
theorem of_regs (h : t.regs = s.regs) : KeepsRegs rs s t := fun f i j _ => State.g_of_regs h f i j

/-- A field written. -/
theorem p (h : KeepsRegs rs s t) {f : Fld} (m : f.reg ∈ rs) (v i j : Nat) : KeepsRegs rs s (t.p f v i j) := fun f' i' j' n =>
  (State.g_p_of_ne t (.inl (RegName.ctorIdx_ne (fun e => n (e ▸ m))))).trans (h f' i' j' n)

theorem setF (h : KeepsRegs rs s t) {f : Fld} (m : f.reg ∈ rs) (i j : Nat) : KeepsRegs rs s (t.setF f i j) := h.p m _ _ _
theorem pb (h : KeepsRegs rs s t) {f : Fld} (m : f.reg ∈ rs) (b : Bool) (i j : Nat) : KeepsRegs rs s (t.pb f b i j) := h.p m _ _ _
theorem add (h : KeepsRegs rs s t) {f : Fld} (m : f.reg ∈ rs) (n i j : Nat) : KeepsRegs rs s (t.add f n i j) := h.p m _ _ _
theorem inc (h : KeepsRegs rs s t) {f : Fld} (m : f.reg ∈ rs) (i j : Nat) : KeepsRegs rs s (t.inc f i j) := h.p m _ _ _
theorem hwm (h : KeepsRegs rs s t) {f : Fld} (m : f.reg ∈ rs) (v i j : Nat) : KeepsRegs rs s (t.hwm f v i j) := h.p m _ _ _
theorem clr (h : KeepsRegs rs s t) {f : Fld} (m : f.reg ∈ rs) (i j : Nat) : KeepsRegs rs s (t.clr f i j) := h.p m _ _ _

theorem putW (h : KeepsRegs rs s t) {f : Fld} (m : f.reg ∈ rs) (w : RegW) (i j : Nat) : KeepsRegs rs s (t.putW w f i j) := by
  unfold State.putW; split
  · exact h.p m _ _ _
  · exact h

theorem w1c (h : KeepsRegs rs s t) {f : Fld} (m : f.reg ∈ rs) (w : RegW) (i j : Nat) : KeepsRegs rs s (t.w1c w f i j) := by
  unfold State.w1c; split
  · exact h.p m _ _ _
  · exact h

/-- A branch. -/
theorem ite {c : Prop} [Decidable c] (h : KeepsRegs rs s t) (k : KeepsRegs rs s u) : KeepsRegs rs s (if c then t else u) := by
  split
  · exact h
  · exact k

/-- A fold whose every step keeps them. -/
theorem foldl {α : Type} (f : State → α → State) (l : List α) (h : KeepsRegs rs s t) (k : ∀ a x, x ∈ l → KeepsRegs rs a (f a x)) :
    KeepsRegs rs s (l.foldl f t) := by
  induction l generalizing t with
  | nil => exact h
  | cons x l ih => exact ih (h.trans (k t x (.head _))) (fun a y m => k a y (.tail _ m))

/-- Every field of a register returned to its reset value. -/
theorem clrReg (h : KeepsRegs rs s t) {r : RegName} (m : ∀ f ∈ r.fields, f.reg ∈ rs) (i j : Nat) : KeepsRegs rs s (t.clrReg r i j) :=
  h.trans (foldl _ _ (refl _ _) (fun a x k => (refl rs a).clr (m x k) i j))

/-- A report: FU_INJ alone. -/
theorem report (h : KeepsRegs rs s t) (m : RegName.FU_INJ ∈ rs) (r : Report) : KeepsRegs rs s (t.report r) := fun f i j n =>
  (State.report_g t r (RegName.ctorIdx_ne (fun e => n (e ▸ m)))).trans (h f i j n)

theorem fault (h : KeepsRegs rs s t) (m : RegName.FU_INJ ∈ rs) (source cls sc : Nat) : KeepsRegs rs s (t.fault source cls sc) := h.report m _

/-- A condition begun or ended: FU_SRC alone. -/
theorem condBegin (h : KeepsRegs rs s t) (m : RegName.FU_SRC ∈ rs) (source sc : Nat) : KeepsRegs rs s (t.condBegin source sc) := by
  unfold State.condBegin; exact KeepsRegs.p (h.trans (of_regs rfl)) m _ _ _

theorem condEnd (h : KeepsRegs rs s t) (m : RegName.FU_SRC ∈ rs) (source sc : Nat) : KeepsRegs rs s (t.condEnd source sc) := by
  unfold State.condEnd; exact KeepsRegs.p (h.trans (of_regs rfl)) m _ _ _

end KeepsRegs

/-- What a fold whose every step keeps a view of the state leaves of that view. -/
theorem foldl_keeps {α β : Type} (v : State → β) (f : State → α → State) (l : List α) (s : State) (h : ∀ a x, v (f a x) = v a) :
    v (l.foldl f s) = v s := by
  induction l generalizing s with
  | nil => rfl
  | cons x l ih => exact (ih _).trans (h s x)

end Sys2Proof.Machine
end

