-- ==== Sys2Proof/Machine/Package.lean ====
section
/-! DEFINITION. The land map of the package: where each lane, supply and signal lies (R416 to R418, Tables 22-1 to 22-3). -/

namespace Sys2Proof.Machine

/-- A land: its row and column, from 1 to 96. -/
structure Land where
  row : Nat
  col : Nat
deriving DecidableEq, Repr

/-- The four signal lands of a lane. -/
structure LaneLands where
  txP : Land
  txN : Land
  rxP : Land
  rxN : Land
deriving DecidableEq, Repr

/-- The row of lines a and c of cell row `q` of a port tile (Table 22-1): upper tiles count rows up, lower tiles down. -/
def tileRows (t q : Nat) : Nat × Nat :=
  match t / 2 with
  | 0 => (1 + 3 * q, 3 + 3 * q)
  | 1 => (13 + 3 * q, 15 + 3 * q)
  | 2 => (96 - 3 * q, 94 - 3 * q)
  | _ => (84 - 3 * q, 82 - 3 * q)

/-- The lands of a device lane of the ports (R416). -/
def portLane (d : Fin 512) : LaneLands :=
  let t := d.val / 64
  let l := d.val % 64
  let r := tileRows t (l / 16)
  let c := (if t % 2 = 0 then 1 else 49) + 3 * (l % 16)
  ⟨⟨r.1, c⟩, ⟨r.1, c + 1⟩, ⟨r.2, c⟩, ⟨r.2, c + 1⟩⟩

/-- The lands of a lane of a Sirfin link: the cells turned through a right angle (R417). -/
def sirfinLane (link : Fin 4) (lane : Fin 16) : LaneLands :=
  let m := 16 * (link.val % 2) + lane.val
  let r := (if link.val / 2 = 0 then 25 else 49) + 3 * (m % 8)
  let c := 1 + 3 * (m / 8)
  ⟨⟨r, c⟩, ⟨r + 1, c⟩, ⟨r, c + 2⟩, ⟨r + 1, c + 2⟩⟩

/-- What a land of the central region carries. -/
inductive LandUse
  | gnd
  | reserved
  | rail (name : String)
  | signal (name : String)
  | damper (name : String) (c : Nat)
  | request (n : Nat)
  | ack (n : Nat)
  | refclk (t : Nat) (positive : Bool)
deriving DecidableEq, Repr

/-- The rail of a supply column (Table 22-2). -/
def supplyRail (row col : Nat) : String :=
  if col ≤ 34 then "VDD_SD" else if col ≤ 42 then "VDDH_SD" else if col ≤ 78 then "VDD_CORE" else if col ≤ 82 then "VDD_HBM"
  else if row ≤ 40 then "VDD_IO" else if row ≤ 56 then "VDD_AON" else "VDD_AON_IO"

/-- The reserved lands of R418. -/
def reservedLand (row col : Nat) : Bool :=
  (row == 57 && 90 ≤ col) || (row == 59 && 92 ≤ col) || (row == 61 && col == 96) || (row == 69 && 93 ≤ col) || (row == 71 && 88 ≤ col)

/-- The signals of a row of Table 22-3, from column 88 on. -/
def rowSignals : Nat → List String
  | 57 => ["REFCLK_MAIN_P", "REFCLK_MAIN_N"]
  | 59 => ["FL_SCK", "FL_CS_N", "FL_DQS", "FL_RST_N"]
  | 61 => ["FL_DQ[0]", "FL_DQ[1]", "FL_DQ[2]", "FL_DQ[3]", "FL_DQ[4]", "FL_DQ[5]", "FL_DQ[6]", "FL_DQ[7]"]
  | 63 => ["MSPI_CS_N", "MSPI_SCK", "MSPI_MOSI", "MSPI_MISO", "SMB_SCL", "SMB_SDA", "MGMT_ALERT_N", "SB_SCL", "SB_SDA"]
  | 65 => ["AVS_CLK", "AVS_MDATA", "AVS_SDATA", "PPS_IN", "PFAIL_N", "EMBER", "FAULT_N", "THERMTRIP_N", "RESET_N"]
  | 67 => ["PWRGOOD", "STACK_MASTER", "STACK_ID[0]", "STACK_ID[1]", "FLASH_OCTAL", "TDIODE_P", "TDIODE_N", "VSENSE_CORE_P", "VSENSE_CORE_N"]
  | 69 => ["TCK", "TMS", "TDI", "TDO", "TRST_N"]
  | _ => []

/-- A land of the signal columns 85 to 96 (Table 22-3): what is not named there and is not reserved is GND. -/
def signalLand (row col : Nat) : LandUse :=
  if reservedLand row col then .reserved
  else if row ≤ 56 then
    match col with
    | 85 => .damper "GATE" (row - 25)
    | 86 => .damper "SENSE+" (row - 25)
    | 87 => .damper "SENSE-" (row - 25)
    | 88 => .damper "VOUT" (row - 25)
    | 89 => .damper "PWRWARN_N" (row - 25)
    | 91 => if row ≤ 40 then .request (row - 25) else .gnd
    | 92 => if row ≤ 40 then .ack (row - 25) else .gnd
    | _ => .gnd
  else if col ≤ 86 then (if (row - 57) % 2 = 0 then .refclk ((row - 57) / 2) (col == 85) else .gnd)
  else if col < 88 then .gnd
  else match (rowSignals row)[col - 88]? with
    | some n => .signal n
    | none => .gnd

/-- A land of the central region, rows 25 to 72 and columns 13 to 96 (R418). -/
def centralLand (row col : Nat) : LandUse :=
  if col ≤ 84 then (if (row + col) % 2 = 0 then .gnd else .rail (supplyRail row col)) else signalLand row col

end Sys2Proof.Machine
end

