-- ==== Sys2Proof/WellFormed.lean ====
section
/-! DEFINITION. Which commands are well formed: what an operand that is not a `Fin` must satisfy to be an event the part can meet. -/

namespace Sys2Proof

/-- An access width: a whole number of bytes up to 256 (R26 says which of them a block accepts). -/
def widthWf (w : Nat) : Bool := w % 8 == 0 && decide (0 < w) && decide (w ≤ 2048)

/-- A line number: a 53-bit fabric address without its six lowest bits (R64). -/
def lineWf (l : Nat) : Bool := decide (l < 2 ^ 47)

/-- A 2 MiB slot of an interleave set: a set offset is at most 53 bits (R64). -/
def slotWf (n : Nat) : Bool := decide (n < 2 ^ 32)

/-- A request of a port's partner: 64-bit addresses, at most 4,096 bytes, a line of data with its byte mask, at most 32 header bytes kept. -/
def IngressReq.wf : IngressReq → Bool
  | .mem hpa _ data mask _ _ => decide (hpa < 2 ^ 64) && decide (data.length ≤ 64) && decide (mask < 2 ^ 64)
  | .decoder _ _ base size ways gran pos => decide (base < 2 ^ 64) && decide (size < 2 ^ 64) && decide (ways < 32) && decide (gran < 2 ^ 32) && decide (pos < 32)
  | .errMsg _ | .dpc _ _ _ | .report _ => true
  | .margin _ _ offset => decide (offset < 128)
  | .pt _ _ _ hpa len data => decide (hpa < 2 ^ 64) && decide (len ≤ 4096) && decide (data.length ≤ 4096)
  | .io _ _ _ _ addr len data => decide (addr < 2 ^ 64) && decide (len ≤ 4096) && decide (data.length ≤ 4096)
  | .bar _ _ offset width _ => decide (offset < 0x4000000) && widthWf width

/-- An entry image of a commit: 128 bits. -/
def entriesWf (es : List (Bool × Nat × Nat)) : Bool := es.all (fun e => decide (e.2.2 < 2 ^ 128))

/-- A result of a self-test stage: the rails measured are seven. -/
def StageResult.wf : StageResult → Bool
  | .rails mv => mv.length == 7
  | _ => true

/-- A well-formed command. -/
def Instr.wf : Instr → Bool
  | .registerWrite _ _ width _ | .registerReadClear _ _ width | .reservedAccess _ _ width _ => widthWf width
  | .linkUp _ _ _ _ caps => decide (caps.length ≤ 16)
  | .moduleAuthentication _ shown => decide (shown.chain.length ≤ 4096)
  | .ingressRequest _ im req => decide (im.header.length ≤ 64) && req.wf
  | .homeRequestActivate line | .mscEccError line _ | .hearthSnoop _ line | .cleanEvictionNotice _ line => lineWf line
  | .snoopAnswer _ line _ | .snoopTimeout _ line => lineWf line
  | .moduleAccessComplete _ data _ => decide (data.length ≤ 64)
  | .zeroFillDone _ x => slotWf x.slot
  | .commitTake (.remote _ _ _ _ es told) => entriesWf es && told.all (fun e => decide (e.2 < 2 ^ 64))
  | .commitShadowAck _ held => entriesWf held.entries
  | .wqInlineDoorbell _ _ offset data => decide (offset < 256) && decide (data.length ≤ 256)
  | .sirfinDataFrame _ bytes | .sirfinCtrlFrame _ bytes | .sirfinIdleFrame _ bytes | .sirfinTrainFrame _ bytes => bytes.length == 256
  | .pageRead _ _ bytes => decide (bytes.length ≤ 4096)
  | .spiFrameEnd edges bytes => decide (bytes.length ≤ edges / 8)
  | .smbusPacket p => decide (p.payload.length ≤ 64)
  | .selfTestStageDone r _ => r.wf
  | _ => true

end Sys2Proof
end

