-- ==== Sys2Proof/Tests/Slice0.lean ====
section
/-! SUPPORT. Tests: the well-formedness checks, the worked examples of the spec, single steps, and for each statement with hypotheses a state and
operands that meet them. -/

namespace Sys2Proof.Tests

open Sys2Proof.Machine

set_option Elab.async false

/-! ## Well-formedness: one ill-formed command for each check, refused -/

theorem test_wf_width : Instr.wf (.registerWrite .device 0 12 0) = false ∧ Instr.wf (.registerWrite .device 0 64 0) = true := by decide
theorem test_wf_width_read : Instr.wf (.registerReadClear .device 0 0) = false := by decide
theorem test_wf_width_reserved : Instr.wf (.reservedAccess .device 0 2056 false) = false := by decide
theorem test_wf_line : Instr.wf (.homeRequestActivate (2 ^ 47)) = false ∧ Instr.wf (.homeRequestActivate (2 ^ 47 - 1)) = true := by decide
theorem test_wf_slot : Instr.wf (.zeroFillDone 0 ⟨2 ^ 32, []⟩) = false ∧ Instr.wf (.zeroFillDone 0 ⟨5, []⟩) = true := by decide
theorem test_wf_module_data : Instr.wf (.moduleAccessComplete 0 (List.replicate 65 0) false) = false := by decide
theorem test_wf_frame : Instr.wf (.sirfinDataFrame 0 [0]) = false := by decide
theorem test_wf_page : Instr.wf (.pageRead none 0 (List.replicate 4097 0)) = false := by decide +kernel
theorem test_wf_spi : Instr.wf (.spiFrameEnd 256 (List.replicate 33 0)) = false := by decide
theorem test_wf_rails : Instr.wf (.selfTestStageDone (.rails [1]) 0) = false := by decide
theorem test_wf_entries : Instr.wf (.commitShadowAck 0 ⟨[(true, 0, 2 ^ 128)], none⟩) = false := by decide
theorem test_wf_inline : Instr.wf (.wqInlineDoorbell .device 0 256 []) = false := by decide
theorem test_wf_caps : Instr.wf (.linkUp 0 16 ⟨false, false, false⟩ 0 (List.replicate 17 0)) = false := by decide
theorem test_wf_header : Instr.wf (.ingressRequest 0 { tag := 0, header := List.replicate 65 0 } (.bar 0 false 0 64 0)) = false := by decide
theorem test_wf_ingress : Instr.wf (.ingressRequest 0 { tag := 0 } (.mem (2 ^ 64) .rdS [] 0 false false)) = false ∧
    Instr.wf (.ingressRequest 0 { tag := 0 } (.pt 0 0 false 0 4097 [])) = false ∧ Instr.wf (.ingressRequest 0 { tag := 0 } (.io 0 0 true true (2 ^ 64) 0 [])) = false ∧
    Instr.wf (.ingressRequest 0 { tag := 0 } (.bar 0 false 0x4000000 64 0)) = false := by decide
theorem test_wf_packet :
    Instr.wf (.smbusPacket { src := 8, dst := 9, som := true, eom := true, seq := 0, owner := true, tag := 0, payload := List.replicate 65 0, pecOk := true }) = false := by
  decide
theorem test_wf_decoder : Instr.wf (.ingressRequest 0 { tag := 0 } (.decoder 0 0 0 0 32 0 0)) = false := by decide
theorem test_wf_margin : Instr.wf (.ingressRequest 0 { tag := 0 } (.margin 0 true 128)) = false := by decide
theorem test_wf_chain : Instr.wf (.moduleAuthentication 0 ⟨List.replicate 4097 0, true⟩) = false := by decide +kernel
theorem test_wf_remote : Instr.wf (.commitTake (.remote 0 0 none false [(true, 0, 2 ^ 128)] [])) = false ∧
    Instr.wf (.commitTake (.remote 0 0 none false [] [(0, 2 ^ 64)])) = false := by decide
/-- The table gives its rows no bits: no word spells a command. -/
theorem test_no_word_spells : Sys2Proof.decodeTableWord 32 0 = none := rfl

/-! ## Worked examples of the spec -/

/-- Chapters 0, 3, 11, 12, 13: offsets of registers. -/
theorem test_register_places : regAt 0x1040320 = some (.FLU_DOORBELL, 1027, 0) ∧ regAt 0x1040310 = some (.FLU_CTRL, 1027, 0) ∧
    regAt 0x490018 = some (.PC_LINK_STATUS, 36, 0) ∧ regAt 0x1401918 = some (.WQ_CTRL, 100, 0) ∧ regAt 0x1401920 = some (.WQ_DB, 100, 0) ∧
    regAt 0x1848D00 = some (.MBX_DB, 0x123, 0) := by decide +kernel
/-- Chapters 10, 14, 15, 17: offsets of registers with two indices. -/
theorem test_register_places_two : regAt 0x912000 = some (.IW_BASE, 512, 0) ∧ regAt 0x912008 = some (.IW_LIMIT, 512, 0) ∧ regAt 0x920900 = some (.ILS_CFG, 9, 0) ∧
    regAt 0x920918 = some (.ILS_TGT, 9, 1) ∧ regAt 0x3004800 = some (.PG_LO, 4, 0) ∧ regAt 0x3004818 = some (.PG_HI, 4, 1) ∧ regAt 0x3802140 = some (.DMP_CFG, 5, 0) := by decide +kernel
/-- Chapter 5, R85: the flow hash of the host on port 4, instance 0x123 and address term 0x017. -/
theorem test_flow_hash : flowHash 4 0x123 0x017 0 = 0x19F := by decide
/-- Chapter 7: the home slice and the HBM set of fabric address 0x102_0001_7A40. -/
theorem test_home_slice : homeSlice 0x10200017A40 = 0 ∧ (bits 0x10200017A40 6 25 ^^^ bits 0x10200017A40 31 22) = 0x7ED := by decide
/-- Chapter 4, R70: the module and its DPA of set offset 0x4_0001_7A40 in a set of 4 ways and a 4 KiB granule. -/
theorem test_interleave : ((((State.reset.p ILS_CFG_WAYS 2 5).p ILS_CFG_GRAN 4 5).p ILS_TGT_MOD 320 5 3).p ILS_TGT_BASE 32 5 3).target 5 0x400017A40 = (320, 0x300005A40) := by decide
/-- Chapter 9: the three encodings that the routine works out, and the row each is of. -/
theorem test_plovurk_words : plvOf 0xD0853001 = some .bmove ∧ (wRd 0xD0853001, wRa 0xD0853001, wRb 0xD0853001, wFn 0xD0853001 % 4) = (4, 5, 6, 1) ∧
    plvOf 0x18840001 = some .cati ∧ (wRd 0x18840001, wRa 0x18840001, wImm 0x18840001) = (4, 4, 1) ∧ plvOf 0x3C1C0000 = some .jalr ∧
    (wRd 0x3C1C0000, wRa 0x3C1C0000) = (0, 28) ∧ plvOf 0x04A04000 = some .addi := by decide
/-- Chapter 14: region 1 lets instance 0x123 read and write at P2 and region 0 does not. -/
theorem test_regions : permits (bits 0x6D9 9 3) 0 0 = true ∧ permits (bits 0x6D9 9 3) 0 1 = true ∧ permits (bits 0xD9 9 3) 0 0 = false ∧
    permits (bits 0xD9 3 3) 0 1 = true := by decide
/-- Chapter 16: the credit between SENT 0xFFFF_FFF8 and REQ_LIMIT 0x1F0. -/
theorem test_credit : ({ sent := [(0, 0xFFFFFFF8)], limit := [(0, 0x1F0)] } : LinkX).avail 0 = 504 := by decide
/-- Chapter 21: banks 133 to 148 are 1,152 counters. -/
theorem test_sweep_counters : ((State.reset.p CNT_CFG_BANK_FIRST 133).p CNT_CFG_BANK_LAST 148).swept.length = 1152 := by decide +kernel
/-- Chapter 22: lanes 148 and 151, of controller 37, and the reference of tile 2. -/
theorem test_lands : portLane 148 = ⟨⟨16, 13⟩, ⟨16, 14⟩, ⟨18, 13⟩, ⟨18, 14⟩⟩ ∧ portLane 151 = ⟨⟨16, 22⟩, ⟨16, 23⟩, ⟨18, 22⟩, ⟨18, 23⟩⟩ ∧
    centralLand 61 85 = .refclk 2 true ∧ centralLand 61 86 = .refclk 2 false := by decide
/-- R172. -/
theorem test_division_corners : divu64 7 0 = 2 ^ 64 - 1 ∧ rem64 7 0 = 7 ∧ div64 (2 ^ 63) (2 ^ 64 - 1) = 2 ^ 63 ∧ rem64 (2 ^ 63) (2 ^ 64 - 1) = 0 ∧
    sll64 1 64 = 1 ∧ sra64 (2 ^ 63) 127 = 2 ^ 64 - 1 := by decide
/-- R185: the check value of CRC-32C over "123456789" (PRESUMED: the catalogue's). -/
theorem test_crc32c : crcBytes (crcPoly 0) 0xFFFFFFFF ([0x31, 0x32, 0x33, 0x34, 0x35, 0x36, 0x37, 0x38, 0x39] : List Byte) ^^^ 0xFFFFFFFF = 0xE3069283 := by decide +kernel

/-! ## States for tests -/

/-- The device in service, every other register at its Reset column. -/
def upW : State := ((State.reset.p PU_STATUS_STAGE 10).p ISL_STATUS_CLK_PRESENT 1 32).p ISL_STATUS_CLK_PRESENT 1 33

/-- The device in service with a thread that runs and has a word at its PC. -/
def atW (th w : Nat) : State := (upW.p TH_STATUS_STATE 1 (thH th) (thI th)).wrN (spLocal (th / 4)) 0 4 w

/-- An instance image that names nothing: the header of Table 13-12 with the hash of what follows it. -/
def restoreImage : List Byte :=
  leBytes 4 0x53514E49 ++ leBytes 2 1 ++ leBytes 6 0 ++ leBytes 4 2304 ++ List.replicate 64 0 ++
    leBytes 48 (Config.sha384 (List.replicate 2048 0)) ++ List.replicate 128 0 ++ List.replicate 2048 0

/-! ## Single steps -/

/-- What a command leaves, seen through a view; nothing where it does not complete. -/
def after {α : Type} (c : Instr) (s : State) (v : State → α) : Option α :=
  match exec c s with
  | .next t => some (v t)
  | _ => none

/-- CATI g4, g4, 0x0001 after g4 = 0x0102 (chapter 9). -/
theorem test_cati : after (.cati 9) ((atW 9 0x18840001).grSet 9 4 0x0102) (fun t => (t.gr 9 4, (t.th 9).pc)) = some (0x1020001, 4) := by decide +kernel
/-- ADDI sign-extends IMM and wraps. -/
theorem test_addi_wraps : after (.addi 9) ((atW 9 0x0483FFFF).grSet 9 3 0) (fun t => t.gr 9 4) = some (2 ^ 64 - 1) := by decide +kernel
/-- ret returns to g28. -/
theorem test_ret : after (.jalr 9) ((atW 9 0x3C1C0000).grSet 9 28 0x101C) (fun t => (t.th 9).pc) = some 0x101C := by decide +kernel
/-- A word of no row is ILLEGAL: trap 1 with the word (R171). -/
theorem test_illegal : after (.alu 9) (atW 9 0) (fun t => ((t.th 9).trapCode, (t.th 9).trapArg, t.inTrap 9)) = some (1, 0, true) := by decide +kernel
/-- g0 reads 0 and discards writes (R167). -/
theorem test_g0 : ((atW 9 0).grSet 9 0 5).gr 9 0 = 0 := by decide +kernel
/-- A register write by offset reaches the field that holds the bits (R24, R26). -/
theorem test_register_write : after (.registerWrite .device 0x3E00008 64 1) upW (fun t => t.word .TB_CFG) = some 1 := by decide +kernel
/-- THERMTRIP is held until PWRGOOD falls (R428). -/
theorem test_thermtrip : after .thermtrip { upW with pins := { upW.pins with pwrgood := true } } (fun t => t.pins.thermtrip) = some true := by decide +kernel
/-- PWRGOOD rising starts a cold run at stage 1 (R393). -/
theorem test_pwrgood : after (.pwrgoodRise 2 true false) State.reset (fun t => (t.g PU_STATUS_STAGE, t.g PU_STATUS_LAST_RESET, t.dev)) = some (1, 1, 2) := by decide +kernel
/-- A stage that passes gives the next one. -/
theorem test_stage : after (.selfTestStageDone (.pass 0) 9) (State.reset.p PU_STATUS_STAGE 5) (fun t => (t.g PU_STATUS_STAGE, t.g PU_STAGE_US_US 5)) = some (6, 9) := by decide +kernel
/-- A sweep that is not enabled changes nothing. -/
theorem test_wait_changes_nothing : after .sidebandSweep (upW.p SB_CFG_SB_EN 0) (fun t => t.outbox) = some [] := by decide +kernel

/-! ## Witnesses: for each statement with hypotheses, states and operands that meet them -/

theorem witness_StepRunsFrontCommand : (∃ (s : State) (c : Instr) (rest : List Instr), s.pending = c :: rest) ∧ (∃ s : State, s.pending = []) ∧
    (∃ s : State, s.tbUp = true ∧ s.on TB_STATUS_HOLDOVER = false ∧ s.g TB_ADJ_SLEW_PPB = 0 ∧ s.clk.frac = 0) :=
  ⟨⟨{ State.reset with pending := [.thermtrip] }, .thermtrip, [], rfl⟩, ⟨State.reset, rfl⟩, ⟨State.reset.p PU_STATUS_STAGE 1, by decide +kernel⟩⟩
theorem witness_FieldsReadBack : ∃ f f' : Fld, ∃ i j i' j' : Nat, f.reg.ctorIdx ≠ f'.reg.ctorIdx ∨ f.lsb ≠ f'.lsb ∨ i ≠ i' ∨ j ≠ j' :=
  ⟨TB_NOW_NOW_NS, TB_NOW_NOW_NS, 0, 0, 0, 1, by decide⟩
theorem witness_MemoryKeepsItsCanonicalForm : ∃ s t : State, memWf s.mem = true ∧ step s = .next t :=
  ⟨{ upW.wr spHbm 5 [7] with pending := [.resetNRelease] }, _, by decide +kernel, rfl⟩
theorem witness_MainDomainHoldsOutsideService : ∃ (c : Instr) (s : State), inMainDomain c = true ∧ s.up = false := ⟨.alu 0, State.reset, rfl, by decide⟩
theorem witness_CommandsLeaveOtherParts : ∃ (c : Instr) (s t : State) (p : StatePart), exec c s = .next t ∧ p ∉ partsOf c :=
  ⟨.alu 9, State.reset, State.reset, .br, rfl, by decide⟩
theorem witness_CommandsLeaveOtherRegisters : ∃ (c : Instr) (s t : State) (rs : List RegName) (f : Fld), exec c s = .next t ∧ regsOf c = some rs ∧ f.reg ∉ rs :=
  ⟨.autoRaise, State.reset, State.reset, _, TB_NOW_NOW_NS, rfl, rfl, by decide⟩
theorem witness_DivisionAndShifts :
    (∃ (th : ThrId) (s : State) (w : Nat), s.up = true ∧ s.runs th .alu w = true ∧ s.quiet th = true ∧ wFn w = 0x12 ∧ s.gr th (wRa w) = 2 ^ 63 ∧
      s.gr th (wRb w) = 2 ^ 64 - 1) ∧
    (∃ (th : ThrId) (s : State) (w : Nat), s.up = true ∧ s.runs th .alu w = true ∧ s.quiet th = true ∧ wFn w = 0x11 ∧ s.gr th (wRb w) = 0) ∧
    (∃ (th : ThrId) (s : State) (w : Nat), s.up = true ∧ s.runs th .alu w = true ∧ s.quiet th = true ∧ wFn w = 0x0A ∧ s.gr th (wRb w) % 64 = 0) ∧
    (∃ (th : ThrId) (s : State) (w : Nat), s.up = true ∧ s.runs th .shi w = true ∧ s.quiet th = true ∧ bits w 6 2 = 3) :=
  ⟨⟨9, ((atW 9 0x00642812).grSet 9 4 (2 ^ 63)).grSet 9 5 (2 ^ 64 - 1), 0x00642812, by decide +kernel⟩, ⟨9, atW 9 0x00642811, 0x00642811, by decide +kernel⟩,
   ⟨9, (atW 9 0x0064280A).grSet 9 5 64, 0x0064280A, by decide +kernel⟩, ⟨9, atW 9 0x146400C4, 0x146400C4, by decide +kernel⟩⟩
theorem witness_TrapsOfAnyInstruction :
    (∃ (th : ThrId) (s : State) (e : Eng) (w : Nat), s.up = true ∧ s.ready th = true ∧ s.quiet th = true ∧ s.inTrap th = false ∧ s.fetchCheck th = .ok e ∧
      leNat (s.fetchBytes th e (s.th th).pc) = w ∧ plvOf w = none) ∧
    (∃ (p : Plv) (th : ThrId) (s : State) (e : Eng) (w : Nat), s.up = true ∧ s.ready th = true ∧ s.quiet th = true ∧ s.inTrap th = false ∧ s.fetchCheck th = .ok e ∧
      leNat (s.fetchBytes th e (s.th th).pc) = w ∧ plvOf w = some p ∧ p ≠ .tret ∧ plvAllowed p w (s.priv th) = false) ∧
    (∃ (th : ThrId) (s : State) (e : Eng) (w : Nat), s.up = true ∧ s.ready th = true ∧ s.quiet th = true ∧ s.inTrap th = false ∧ s.fetchCheck th = .ok e ∧
      leNat (s.fetchBytes th e (s.th th).pc) = w ∧ plvOf w = some .tret) ∧
    (∃ (th : ThrId) (s : State), s.inTrap th = true) :=
  ⟨⟨9, atW 9 0, ⟨spLocal 2, 0, 0⟩, 0, by decide +kernel⟩,
   ⟨.mts, 9, (atW 9 0xE4000003).p TH_STATUS_PRIV 2 (thH 9) (thI 9), ⟨spLocal 2, 0, 0⟩, 0xE4000003, by decide +kernel⟩,
   ⟨9, (atW 9 0xF4000000).p TH_STATUS_PRIV 2 (thH 9) (thI 9), ⟨spLocal 2, 0, 0⟩, 0xF4000000, by decide +kernel⟩,
   ⟨9, upW.p TH_STATUS_IN_TRAP 1 (thH 9) (thI 9), by decide +kernel⟩⟩
theorem witness_GateRules :
    (∃ (s : State) (g : Gate) (x : GateAcc) (a r : Nat), r < g.count ∧ regionMatches (s.region g r) (s.region g r) x a = true ∧
      ∀ q, q < r → regionMatches (s.region g q) (s.region g q) x a = false) ∧
    (∃ (s : State) (g : Gate) (x : GateAcc) (a : Nat), (∀ r, r < g.count → regionMatches (s.region g r) (s.region g r) x a = false) ∧ x.level < 2 ∧ x.kind ≤ 3 ∧ x.space ≤ 3) ∧
    (∃ (s : State) (g : Gate) (x : GateAcc), 2 ≤ x.level ∧ ∀ r, r < g.count → s.region g r PG_LO_VALID ≠ 1) :=
  ⟨⟨(((upW.p PG_LO_VALID 1 4 1).p PG_HI_LIMIT (2 ^ 41 - 1) 4 1).p PG_HI_INST_ANY 1 4 1), .port 4, { space := 0, addr := 0, len := 8, kind := 0, level := 2, inst := 5 }, 0, 1,
      by decide +kernel⟩,
   ⟨upW, .port 4, { space := 0, addr := 0, len := 8, kind := 0, level := 1, inst := 5 }, 0, by decide +kernel⟩,
   ⟨upW, .port 4, { space := 0, addr := 0, len := 8, kind := 0, level := 2, inst := 5 }, by decide +kernel⟩⟩
theorem witness_AccessPartsCoverTheAccess : (∃ addr len b : Nat, addr ≤ b ∧ b < addr + len) ∧ (∃ addr len a : Nat, 0 < len ∧ a ∈ gateParts addr len) ∧
    (∃ (s : State) (g : Gate) (x : GateAcc) (a : Nat) (r : Option Nat), s.gateCheck g x = some (a, r)) :=
  ⟨⟨0xFE0, 64, 0x1000, by decide⟩, ⟨0xFE0, 64, 0x1000, by decide +kernel⟩,
   ⟨upW, .port 4, { space := 0, addr := 0, len := 8, kind := 0, level := 2, inst := 5 }, 0, none, by decide +kernel⟩⟩

/-! The witness of RESTORE: the hash function is not evaluated, so the image is read back by the laws of memory. -/

/-- The image in memory, and the instance's argument that names its address. -/
def restoreState : State := (upW.p INST_ARG0_ARG0 0x20000038000040 5).wr spHbm 0x38000040 restoreImage

theorem restoreImage_length : restoreImage.length = 2304 := by
  unfold restoreImage
  simp only [List.length_append, List.length_replicate, leBytes_length]

theorem restoreState_rd : restoreState.rd spHbm 0x38000040 2304 = restoreImage := by
  unfold State.rd restoreState
  rw [State.wr_mem, ← restoreImage_length]
  exact memBytes_memWrite_self _ _ _

theorem memBytes_take (m : List Host.Cell) (a n k : Nat) : (memBytes m a (n + k)).take n = memBytes m a n := by
  induction n generalizing a with
  | zero => rfl
  | succ n ih => rw [Nat.add_right_comm]; simp [memBytes, ih]

theorem restoreState_rd_head : restoreState.rd spHbm 0x38000040 256 = restoreImage.take 256 := by
  rw [← restoreState_rd]
  unfold State.rd
  exact (memBytes_take _ _ 256 2048).symm

theorem restoreOk_restoreImage : restoreOk restoreImage = true := by
  have h1 : restoreImage.drop 256 = List.replicate 2048 0 := by
    have e : 256 = (leBytes 4 0x53514E49 ++ leBytes 2 1 ++ leBytes 6 0 ++ leBytes 4 2304 ++ List.replicate 64 (0 : Byte) ++
        leBytes 48 (Config.sha384 (List.replicate 2048 0)) ++ List.replicate 128 0).length := by
      simp only [List.length_append, List.length_replicate, leBytes_length]
    rw [restoreImage, e, List.drop_left]
  have h2 : fieldOf restoreImage 80 48 = Config.sha384 (List.replicate 2048 0) := by
    have e : (restoreImage.drop 80).take 48 = leBytes 48 (Config.sha384 (List.replicate 2048 0)) := rfl
    unfold fieldOf
    rw [e, leNat_leBytes]
    exact Nat.mod_eq_of_lt (by have := (Config.sha384Bits (List.replicate 2048 0)).isLt; exact this)
  have h3 : fieldOf restoreImage 256 8 = 0 := by unfold fieldOf; rw [h1]; decide +kernel
  have h4 : fieldOf restoreImage 264 8 = 0 := by
    have e : restoreImage.drop 264 = (restoreImage.drop 256).drop 8 := by rw [List.drop_drop]
    unfold fieldOf; rw [e, h1]; decide +kernel
  have h5 : countsOf restoreImage = { threads := 0, flues := 0, queues := 0, sets := 0, len := 2304 } := by decide +kernel
  have q : ∀ f : Fld, imageQuota restoreImage f = 0 := by intro f; unfold imageQuota; split <;> simp [h3, h4, bits]
  unfold restoreOk
  simp only [h1, h2, h5, q, beq_self_eq_true, Nat.le_refl, Nat.zero_le, decide_true, Bool.and_self]

theorem witness_InstanceCommands_restore :
    ∃ (s : State) (i : InstId) (tag : Fin 65536) (sp : Nat) (hd : List Byte) (img : List Byte), s.up = true ∧ s.on INST_STATUS_BUSY i = false ∧
      ((s.ix i).done = false ∨ s.g INST_STATUS_TAG i ≠ tag) ∧ s.instState i = 0 ∧ awMem (s.g INST_ARG0_ARG0 i) = some sp ∧
      hd = s.rd sp (awAddr (s.g INST_ARG0_ARG0 i)) 256 ∧ headOk hd = true ∧ (countsOf hd).len + 128 * (countsOf hd).flues ≤ 65536 ∧
      awOk 0 (s.g INST_ARG0_ARG0 i) ((countsOf hd).len + 128 * (countsOf hd).flues) = true ∧
      img = s.rd sp (awAddr (s.g INST_ARG0_ARG0 i)) ((countsOf hd).len + 128 * (countsOf hd).flues) ∧ restoreOk img = true ∧
      s.poolsHold i (imageQuota img) = true := by
  have ha : awAddr (restoreState.g INST_ARG0_ARG0 (5 : InstId)) = 0x38000040 := by decide +kernel
  have hc : countsOf (restoreImage.take 256) = { threads := 0, flues := 0, queues := 0, sets := 0, len := 2304 } := by decide +kernel
  refine ⟨restoreState, 5, 77, spHbm, restoreImage.take 256, restoreImage, by decide +kernel, by decide +kernel, by decide +kernel, by decide +kernel,
    by decide +kernel, ?_, by decide +kernel, ?_, ?_, ?_, restoreOk_restoreImage, by decide +kernel⟩
  · rw [ha, restoreState_rd_head]
  · rw [hc]; decide
  · rw [hc]; decide +kernel
  · rw [ha, hc]; exact restoreState_rd.symm

theorem frame_read_1 : readFrame (frameBytes { type := 3 } (leBytes 1 (1 + 4) ++ leBytes 1 3 ++ leBytes 2 0x0203 ++ leBytes 4 7 ++ leBytes 4 8 ++ leBytes 4 9 ++ leBytes 4 10 ++ leBytes 8 11)) = .good 0 { type := 3 } (((leBytes 1 (1 + 4) ++ leBytes 1 3 ++ leBytes 2 0x0203 ++ leBytes 4 7 ++ leBytes 4 8 ++ leBytes 4 9 ++ leBytes 4 10 ++ leBytes 8 11) ++ List.replicate 228 0).take 228) := by decide +kernel

theorem frame_read_2 : readFrame (frameBytes { type := 1, seq := 3, ack := 4095, len := 1 } [1, 2, 3, 4]) = .good 0 { type := 1, seq := 3, ack := 4095, len := 1 } (([1, 2, 3, 4] ++ List.replicate 228 0).take 228) := by decide +kernel

theorem frame_read_3 : readFrame (frameBytes { type := 0, ack := 3 } []) = .good 0 { type := 0, ack := 3 } (([] ++ List.replicate 228 0).take 228) := by decide +kernel

theorem frame_read_4 : readFrame (frameBytes { type := 2, ack := 4095 } (leBytes 4 600 ++ leBytes 4 200 ++ leBytes 4 700 ++ leBytes 8 5 ++ leBytes 8 6 ++ leBytes 8 7)) = .good 0 { type := 2, ack := 4095 } (((leBytes 4 600 ++ leBytes 4 200 ++ leBytes 4 700 ++ leBytes 8 5 ++ leBytes 8 6 ++ leBytes 8 7) ++ List.replicate 228 0).take 228) := by decide +kernel

theorem frame_read_5 : readFrame (frameBytes { type := 2, ack := 4095 } (List.replicate 36 0 ++ [3, 0])) = .good 0 { type := 2, ack := 4095 } (((List.replicate 36 0 ++ [3, 0]) ++ List.replicate 228 0).take 228) := by decide +kernel

theorem witness_TimeBaseAndVoltageCommands_1 :
    (∃ (s : State) (m : Master) (ns : Fin 4294967296), s.tbUp = true ∧ s.accepts m .TB_STEP 0 = true ∧ ns.val ≠ 0) ∧
    (∃ (s : State), s.tbUp = true ∧ s.on TB_CFG_PPS_EN = true ∧ s.g STK_STATUS_STATE ≠ 2) ∧
    (∃ (s : State), s.tbUp = true ∧ s.on TB_CFG_PPS_EN = true ∧ s.g STK_STATUS_STATE ≠ 2 ∧ s.clk.absent = false) ∧
    (∃ (s : State), s.tbUp = true ∧ s.on TB_STATUS_HOLDOVER = false) ∧
    (∃ (s : State) (i : IslandId), s.tbUp = true ∧ i.val = 38 ∧ s.on TB_STATUS_HOLDOVER = true) ∧
    (∃ (s : State) (i : IslandId), s.tbUp = true ∧ i.val = 39) ∧
    (∃ (s : State) (m : Master) (mv : Fin 1024) (autoRaise : Bool) (step : Fin 256), s.tbUp = true ∧ s.accepts m .AVS_CTRL 0 = true ∧ s.g AVS_STATUS_VMIN_FUSE_MV ≤ mv ∧ mv.val ≤ 850 ∧ 1 ≤ step.val ∧ step.val ≤ 25) :=
  ⟨⟨upW, .device, 5, by decide +kernel⟩,
   ⟨(upW.p TB_CFG_PPS_EN 1).p TB_NOW_NOW_NS 999999950, by decide +kernel⟩,
   ⟨upW.p TB_CFG_PPS_EN 1, by decide +kernel⟩,
   ⟨upW, by decide +kernel⟩,
   ⟨upW.p TB_STATUS_HOLDOVER 1, 38, by decide +kernel⟩,
   ⟨upW, 39, by decide +kernel⟩,
   ⟨upW, .device, 850, true, 25, by decide +kernel⟩⟩

theorem witness_TimeBaseAndVoltageCommands_2 :
    (∃ (s : State), s.tbUp = true) ∧
    (∃ (s : State), s.tbUp = true ∧ s.on AVS_STATUS_PACE_LOW = true ∧ s.on AVS_CTRL_AUTO_RAISE = true ∧ s.g AVS_STATUS_VCMD_MV < 850) ∧
    (∃ (s : State) (mon : Fin 64) (pace : Fin 65536) (tj : Fin 256), s.tbUp = true ∧ s.g PU_STATUS_STAGE = 10 ∧ pace.val < s.g AVS_STATUS_PACE_FLOOR) ∧
    (∃ (s : State) (mon : Fin 64) (pace : Fin 65536) (tj : Fin 256), s.tbUp = true ∧ (s.g PU_STATUS_STAGE = 10 ∨ tj.val ≤ 110) ∧ s.g AVS_STATUS_PACE_FLOOR ≤ pace) ∧
    (∃ (s : State) (i : IslandId), s.tbUp = true ∧ s.cond (clkCond i).1 (clkCond i).2 = false) ∧
    (∃ (s : State) (i : IslandId), s.tbUp = true) ∧
    (∃ (s : State) (i : IslandId), s.tbUp = true) :=
  ⟨⟨upW, by decide +kernel⟩,
   ⟨(upW.p AVS_STATUS_PACE_LOW 1).p AVS_CTRL_AUTO_RAISE 1, by decide +kernel⟩,
   ⟨upW, 63, 0, 200, by decide +kernel⟩,
   ⟨upW, 63, 60000, 200, by decide +kernel⟩,
   ⟨upW, 3, by decide +kernel⟩,
   ⟨upW, 3, by decide +kernel⟩,
   ⟨upW, 39, by decide +kernel⟩⟩

theorem witness_PortCommandsTakeEffect :
    (∃ (s : State) (m : Master) (c : PortId), s.up = true ∧ s.accepts m .PC_QUIESCE_CTRL c = true ∧ s.isFollower c = false ∧ s.g PC_QUIESCE_STATUS_STATE c = 0) ∧
    (∃ (s : State) (m : Master) (c : PortId), s.up = true ∧ s.accepts m .PC_QUIESCE_CTRL c = true ∧ s.isFollower c = false ∧ (s.g PC_QUIESCE_STATUS_STATE c = 1 ∨ s.g PC_QUIESCE_STATUS_STATE c = 2)) ∧
    (∃ (s : State) (m : Master) (c : PortId), s.up = true ∧ s.accepts m .PC_LINK_CFG c = true ∧ s.isFollower c = false ∧ s.on PC_QUIESCE_STATUS_ISOLATED c = false ∧ s.g PC_QUIESCE_STATUS_STATE c = 0) ∧
    (∃ (s : State) (m : Master) (c : PortId), s.up = true ∧ s.accepts m .PC_QUIESCE_CTRL c = true ∧ s.isFollower c = false) ∧
    (∃ (s : State) (m : Master) (c : PortId) (w : Fin 4), s.up = true ∧ s.accepts m .PC_WIDTH_CFG c = true ∧ s.isFollower c = false ∧ w.val ≠ 3 ∧ w.val ≠ s.g PC_WIDTH_CFG_WIDTH c ∧ widthAllowed c w = true ∧ (∀ d ∈ s.widthTouched c w, s.portState d = 3 ∨ s.portState d = 2)) ∧
    (∃ (s : State) (m : Master) (c : PortId) (p : PortId), s.up = true ∧ s.accepts m .PC_LOOP_CFG c = true ∧ s.isFollower c = false ∧ s.isFollower p = false ∧ c ≠ p ∧ c.val / 16 = p.val / 16 ∧ s.g PC_WIDTH_CFG_WIDTH c = s.g PC_WIDTH_CFG_WIDTH p ∧ s.on PC_LOOP_CFG_LOOP_EN c = false ∧ (s.g PC_QUIESCE_STATUS_STATE c = 2 ∨ s.g PC_QUIESCE_STATUS_STATE c = 3) ∧ (s.g PC_QUIESCE_STATUS_STATE p = 2 ∨ s.g PC_QUIESCE_STATUS_STATE p = 3)) ∧
    (∃ (s : State) (m : Master) (c : PortId), s.up = true ∧ s.accepts m .PC_LOOP_CFG c = true ∧ s.isFollower c = false ∧ s.on PC_LOOP_CFG_LOOP_EN c = true) :=
  ⟨⟨upW.p PC_QUIESCE_STATUS_STATE 0 5, .device, 5, by decide +kernel⟩,
   ⟨upW.p PC_QUIESCE_STATUS_STATE 2 5, .device, 5, by decide +kernel⟩,
   ⟨upW.p PC_QUIESCE_STATUS_STATE 0 5, .device, 5, by decide +kernel⟩,
   ⟨upW.p PC_QUIESCE_STATUS_STATE 0 5, .device, 5, by decide +kernel⟩,
   ⟨((upW.p PC_QUIESCE_STATUS_STATE 2 4).p PC_QUIESCE_STATUS_STATE 3 5).p PC_QUIESCE_STATUS_STATE 3 6 |>.p PC_QUIESCE_STATUS_STATE 3 7, .device, 4, 2, by decide +kernel⟩,
   ⟨(upW.p PC_QUIESCE_STATUS_STATE 2 4).p PC_QUIESCE_STATUS_STATE 3 15, .device, 4, 15, by decide +kernel⟩,
   ⟨(upW.p PC_LOOP_CFG_LOOP_EN 1 4).p PC_LOOP_CFG_PARTNER 5 4, .device, 4, by decide +kernel⟩⟩

theorem witness_PortCommandsRefuse :
    (∃ (s : State) (m : Master) (c : PortId), s.up = true ∧ s.accepts m .PC_QUIESCE_CTRL c = true ∧ s.isFollower c = false ∧ s.g PC_QUIESCE_STATUS_STATE c = 1) ∧
    (∃ (s : State) (m : Master) (c : PortId), s.up = true ∧ s.accepts m .PC_QUIESCE_CTRL c = true ∧ s.isFollower c = false ∧ s.g PC_QUIESCE_STATUS_STATE c = 2) ∧
    (∃ (s : State) (m : Master) (c : PortId), s.up = true ∧ s.accepts m .PC_QUIESCE_CTRL c = true ∧ s.isFollower c = false ∧ s.g PC_QUIESCE_STATUS_STATE c = 3) ∧
    (∃ (s : State) (m : Master) (c : PortId), s.up = true ∧ s.accepts m .PC_QUIESCE_CTRL c = true ∧ s.isFollower c = false ∧ s.g PC_QUIESCE_STATUS_STATE c = 4) ∧
    (∃ (s : State) (m : Master) (c : PortId), s.up = true ∧ s.accepts m .PC_QUIESCE_CTRL c = true ∧ s.isFollower c = false ∧ s.g PC_QUIESCE_STATUS_STATE c = 0) ∧
    (∃ (s : State) (m : Master) (c : PortId), s.up = true ∧ s.accepts m .PC_LINK_CFG c = true ∧ s.isFollower c = false ∧ (s.g PC_QUIESCE_STATUS_STATE c = 1 ∨ s.g PC_QUIESCE_STATUS_STATE c = 4 ∨ s.on PC_QUIESCE_STATUS_ISOLATED c = true)) ∧
    (∃ (s : State) (m : Master) (c : PortId), s.up = true ∧ s.accepts m .PC_QUIESCE_CTRL c = true ∧ s.isFollower c = true) :=
  ⟨⟨upW.p PC_QUIESCE_STATUS_STATE 1 5, .device, 5, by decide +kernel⟩,
   ⟨upW.p PC_QUIESCE_STATUS_STATE 2 5, .device, 5, by decide +kernel⟩,
   ⟨upW.p PC_QUIESCE_STATUS_STATE 3 5, .device, 5, by decide +kernel⟩,
   ⟨upW.p PC_QUIESCE_STATUS_STATE 4 5, .device, 5, by decide +kernel⟩,
   ⟨upW.p PC_QUIESCE_STATUS_STATE 0 5, .device, 5, by decide +kernel⟩,
   ⟨upW.p PC_QUIESCE_STATUS_STATE 4 5, .device, 5, by decide +kernel⟩,
   ⟨upW.p PC_WIDTH_CFG_FOLLOWER 1 5, .device, 5, by decide +kernel⟩⟩

theorem witness_PortTrainingEvents_1 :
    (∃ (s : State) (c : PortId), s.up = true ∧ s.isFollower c = false ∧ s.on HJ_GATE_CLK_GATED (c.val / 4) = false ∧ s.on HJ_GATE_PWR_GATED (c.val / 4) = false ∧ s.on PC_QUIESCE_STATUS_ISOLATED c = false ∧ s.on ISL_STATUS_CLK_PRESENT (c.val / 4) = true ∧ s.g PC_QUIESCE_STATUS_STATE c = 3) ∧
    (∃ (s : State) (c : PortId), s.up = true) ∧
    (∃ (s : State) (c : PortId) (rate : Fin 7), s.up = true ∧ (s.port c).training = true ∧ s.g PC_ROLE_CFG_ROLE_SEL c ≤ 1) ∧
    (∃ (s : State) (c : PortId) (rate : Fin 7), s.up = true ∧ (s.port c).training = true ∧ (s.g PC_ROLE_CFG_ROLE_SEL c = 0 ∨ s.g PC_ROLE_CFG_ROLE_SEL c = 2)) ∧
    (∃ (s : State) (c : PortId) (rate : Fin 7), s.up = true ∧ (s.port c).training = true ∧ s.g PC_ROLE_CFG_ROLE_SEL c = 0) ∧
    (∃ (s : State) (c : PortId) (sets : PartnerSets) (rate : Fin 7), s.up = true ∧ (s.port c).training = true) ∧
    (∃ (s : State) (c : PortId), s.up = true ∧ (s.port c).training = true) :=
  ⟨⟨(upW.p PC_QUIESCE_STATUS_STATE 3 5).p ISL_STATUS_CLK_PRESENT 1 1, 5, by decide +kernel⟩,
   ⟨upW, 5, by decide +kernel⟩,
   ⟨upW.portMod 5 (fun x => { x with training := true }), 5, 6, by decide +kernel⟩,
   ⟨(upW.portMod 5 (fun x => { x with training := true })).p PC_ROLE_CFG_ROLE_SEL 2 5, 5, 6, by decide +kernel⟩,
   ⟨(upW.portMod 5 (fun x => { x with training := true })).p PC_ROLE_CFG_ROLE_SEL 0 5, 5, 6, by decide +kernel⟩,
   ⟨upW.portMod 5 (fun x => { x with training := true }), 5, .pad, 6, by decide +kernel⟩,
   ⟨upW.portMod 5 (fun x => { x with training := true, target := 3 }), 5, by decide +kernel⟩⟩

theorem witness_PortTrainingEvents_2 :
    (∃ (s : State) (c : PortId) (lanes : Fin 17) (uses : LinkUses) (identity : Nat) (caps : List Nat), s.up = true ∧ (s.port c).training = true ∧ s.g PC_LINK_STATUS_ROLE_BOUND c = 3 ∧ lanes.val ≠ 0 ∧ (s.port c).target < 7) ∧
    (∃ (s : State) (c : PortId), s.up = true ∧ (s.port c).training = true ∧ (s.port c).partner = true) ∧
    (∃ (s : State) (c : PortId), s.up = true ∧ (s.port c).conflict = true ∧ (s.port c).partner = true ∧ s.isFollower c = false ∧ s.on HJ_GATE_CLK_GATED (c.val / 4) = false ∧ s.on HJ_GATE_PWR_GATED (c.val / 4) = false ∧ s.on PC_QUIESCE_STATUS_ISOLATED c = false ∧ s.on ISL_STATUS_CLK_PRESENT (c.val / 4) = true ∧ s.g PC_QUIESCE_STATUS_STATE c ≠ 4) ∧
    (∃ (s : State) (c : PortId) (shown : ModuleProof), s.up = true ∧ (s.port c).authPending = true ∧ 2 ≤ s.g PC_LINK_STATUS_RATE c) ∧
    (∃ (s : State) (c : PortId), s.up = true ∧ (s.port c).authPending = true) ∧
    (∃ (s : State) (c : PortId) (replays : Nat), s.up = true ∧ (s.g PC_LINK_STATUS_LINK_STATE c = 2 ∨ s.g PC_LINK_STATUS_LINK_STATE c = 3) ∧ s.on PC_LINK_CFG_DOWNSHIFT_EN c = true ∧ s.g PC_LINK_CFG_REPLAY_THR c < replays ∧ s.g PC_LINK_STATUS_RATE c ≠ 0) ∧
    (∃ (s : State) (c : PortId), s.up = true ∧ (s.port c).recovering = true ∧ (s.port c).target < 7) :=
  ⟨⟨(upW.portMod 5 (fun x => { x with training := true, target := 6 })).p PC_LINK_STATUS_ROLE_BOUND 3 5, 5, 4, ⟨true, true, false⟩, 0, [], by decide +kernel⟩,
   ⟨upW.portMod 5 (fun x => { x with training := true, partner := true }), 5, by decide +kernel⟩,
   ⟨(upW.portMod 5 (fun x => { x with conflict := true, partner := true })).p ISL_STATUS_CLK_PRESENT 1 1, 5, by decide +kernel⟩,
   ⟨(upW.portMod 5 (fun x => { x with authPending := true })).p PC_LINK_STATUS_RATE 2 5, 5, ⟨[], true⟩, by decide +kernel⟩,
   ⟨upW.portMod 5 (fun x => { x with authPending := true }), 5, by decide +kernel⟩,
   ⟨((upW.p PC_LINK_STATUS_LINK_STATE 3 5).p PC_LINK_CFG_DOWNSHIFT_EN 1 5).p PC_LINK_STATUS_RATE 6 5, 5, 5000, by decide +kernel⟩,
   ⟨upW.portMod 5 (fun x => { x with recovering := true, target := 6 }), 5, by decide +kernel⟩⟩

theorem witness_PortTrainingEvents_3 :
    (∃ (s : State) (c : PortId), s.up = true ∧ (s.port c).resetting = true) ∧
    (∃ (s : State) (c : PortId), s.up = true ∧ s.g PC_QUIESCE_STATUS_STATE c = 1 ∧ s.outOut c = 0) ∧
    (∃ (s : State) (c : PortId), s.up = true ∧ s.g PC_QUIESCE_STATUS_STATE c = 1) ∧
    (∃ (s : State) (c : PortId), s.up = true ∧ (s.g PC_LINK_STATUS_LINK_STATE c = 2 ∨ s.g PC_LINK_STATUS_LINK_STATE c = 3)) ∧
    (∃ (s : State) (c : PortId) (k : Fin 4), s.up = true ∧ (s.port c).streams.contains (k.val, 1) = true) ∧
    (∃ (s : State) (c : PortId) (stream : IdeStream), s.up = true ∧ (stream.link.isSome && (s.port c).linkStream.any (fun l => l.1 != stream.number.val)) = false ∧ s.linkUp c = true ∧ (s.port c).session = true ∧ s.on HJ_DRBG_STATUS_INSTANTIATED = true ∧ s.on HJ_STATUS_ERROR_STATE = false) :=
  ⟨⟨upW.portMod 5 (fun x => { x with resetting := true }), 5, by decide +kernel⟩,
   ⟨upW.p PC_QUIESCE_STATUS_STATE 1 5, 5, by decide +kernel⟩,
   ⟨upW.p PC_QUIESCE_STATUS_STATE 1 5, 5, by decide +kernel⟩,
   ⟨upW.p PC_LINK_STATUS_LINK_STATE 3 5, 5, by decide +kernel⟩,
   ⟨upW.portMod 5 (fun x => { x with streams := [(3, 1)] }), 5, 3, by decide +kernel⟩,
   ⟨((upW.portMod 5 (fun x => { x with session := true })).p PC_LINK_STATUS_LINK_STATE 3 5).p HJ_DRBG_STATUS_INSTANTIATED 1, 5, ⟨3, some true⟩, by decide +kernel⟩⟩

theorem witness_BindCommandsStart_1 :
    (∃ (s : State) (m : Master) (tag : Fin 65536), s.up = true ∧ s.cmt.bind = none ∧ (s.cmt.bindDone = false ∨ s.g BIND_STATUS_TAG ≠ tag) ∧ s.accepts m .BIND_CMD 0 = true ∧ s.bindReserved 0x01 = false ∧ s.dcCheck (s.bindArgs 0x01 tag) false = ST_OK ∧ (s.bindArgs 0x01 tag).pages.all (fun p => s.backed p) = true) ∧
    (∃ (s : State) (m : Master) (tag : Fin 65536), s.up = true ∧ s.cmt.bind = none ∧ (s.cmt.bindDone = false ∨ s.g BIND_STATUS_TAG ≠ tag) ∧ s.accepts m .BIND_CMD 0 = true ∧ s.bindReserved 0x02 = false ∧ s.dcCheck (s.bindArgs 0x02 tag) false = ST_OK ∧ (s.bindArgs 0x02 tag).pages.any (fun p => s.backed p) = true) ∧
    (∃ (s : State) (m : Master) (tag : Fin 65536), s.up = true ∧ s.cmt.bind = none ∧ (s.cmt.bindDone = false ∨ s.g BIND_STATUS_TAG ≠ tag) ∧ s.accepts m .BIND_CMD 0 = true ∧ s.bindReserved 0x03 = false ∧ s.dcCheck (s.bindArgs 0x03 tag) true = ST_OK ∧ (s.bindArgs 0x03 tag).pages.any (fun p => s.backed p) = true) ∧
    (∃ (s : State) (m : Master) (tag : Fin 65536), s.up = true ∧ s.cmt.bind = none ∧ (s.cmt.bindDone = false ∨ s.g BIND_STATUS_TAG ≠ tag) ∧ s.accepts m .BIND_CMD 0 = true ∧ s.bindReserved 0x10 = false ∧ s.hostPort (s.bindArgs 0x10 tag).p = true ∧ s.isFollower ((s.bindArgs 0x10 tag).mod / 16) = false ∧ s.g PC_LINK_STATUS_ROLE_BOUND ((s.bindArgs 0x10 tag).mod / 16) = 2 ∧ (s.g PC_LINK_STATUS_LINK_STATE ((s.bindArgs 0x10 tag).mod / 16) = 2 ∨ s.g PC_LINK_STATUS_LINK_STATE ((s.bindArgs 0x10 tag).mod / 16) = 3 ∨ s.g PC_LINK_STATUS_LINK_STATE ((s.bindArgs 0x10 tag).mod / 16) = 5) ∧ (s.on PC_ROLE_CFG_AUTH_REQ ((s.bindArgs 0x10 tag).mod / 16) = false ∨ (s.port ((s.bindArgs 0x10 tag).mod / 16)).authDone = true) ∧ s.on MOD_ENTRY_PRESENT (s.bindArgs 0x10 tag).mod = true ∧ s.on MOD_ENTRY_POOL (s.bindArgs 0x10 tag).mod = false ∧ s.on MOD_ENTRY_PT_BOUND (s.bindArgs 0x10 tag).mod = false ∧ s.g VPPB_ENTRY_KIND (s.bindArgs 0x10 tag).p (s.bindArgs 0x10 tag).v = 0 ∧ s.boundElsewhere (s.bindArgs 0x10 tag) = false) ∧
    (∃ (s : State) (m : Master) (tag : Fin 65536), s.up = true ∧ s.cmt.bind = none ∧ (s.cmt.bindDone = false ∨ s.g BIND_STATUS_TAG ≠ tag) ∧ s.accepts m .BIND_CMD 0 = true ∧ s.bindReserved 0x11 = false ∧ s.hostPort (s.bindArgs 0x11 tag).p = true ∧ s.g VPPB_ENTRY_KIND (s.bindArgs 0x11 tag).p (s.bindArgs 0x11 tag).v = 2 ∧ (s.bindArgs 0x11 tag).mod = 0) ∧
    (∃ (s : State) (m : Master) (tag : Fin 65536), s.up = true ∧ s.cmt.bind = none ∧ (s.cmt.bindDone = false ∨ s.g BIND_STATUS_TAG ≠ tag) ∧ s.accepts m .BIND_CMD 0 = true ∧ s.bindReserved 0x11 = false ∧ s.hostPort (s.bindArgs 0x11 tag).p = true ∧ s.g VPPB_ENTRY_KIND (s.bindArgs 0x11 tag).p (s.bindArgs 0x11 tag).v = 2 ∧ (s.bindArgs 0x11 tag).mod = 1) ∧
    (∃ (s : State) (m : Master) (tag : Fin 65536), s.up = true ∧ s.cmt.bind = none ∧ (s.cmt.bindDone = false ∨ s.g BIND_STATUS_TAG ≠ tag) ∧ s.accepts m .BIND_CMD 0 = true ∧ s.bindReserved 0x20 = false ∧ s.hostPort (s.bindArgs 0x20 tag).p = true ∧ s.instState (s.bindArgs 0x20 tag).inst ≠ 0 ∧ s.instState (s.bindArgs 0x20 tag).inst ≠ 2 ∧ s.instState (s.bindArgs 0x20 tag).inst ≠ 3 ∧ (s.vppbOfInst (s.bindArgs 0x20 tag).inst).isNone = true ∧ s.g VPPB_ENTRY_KIND (s.bindArgs 0x20 tag).p (s.bindArgs 0x20 tag).v = 0) :=
  ⟨⟨(let X := (((((upW.p INST_STATUS_STATE 1 3).p IW_BASE_VALID 1 3).p IW_LIMIT_SIZE_GIB 1 3).p VPPB_ENTRY_KIND 1 5 2).p VPPB_ENTRY_INST 3 5 2).p BIND_ARG0_ARG 3 |>.p BIND_ARG1_ARG (2 * 2 ^ 32 + 1); { X with plc := { X.plc with segs := [(0, { valid := true })] } }), .device, 0, by decide +kernel⟩,
   ⟨(let X := (((((upW.p INST_STATUS_STATE 1 3).p IW_BASE_VALID 1 3).p IW_LIMIT_SIZE_GIB 1 3).p VPPB_ENTRY_KIND 1 5 2).p VPPB_ENTRY_INST 3 5 2).p BIND_ARG0_ARG 3 |>.p BIND_ARG1_ARG (2 * 2 ^ 32 + 1); { X with plc := { X.plc with segs := [(0, { valid := true })] } }), .device, 0, by decide +kernel⟩,
   ⟨(let X := (((upW.p INST_STATUS_STATE 1 3).p IW_BASE_VALID 1 3).p IW_LIMIT_SIZE_GIB 1 3).p BIND_ARG0_ARG 3 |>.p BIND_ARG1_ARG (2 * 2 ^ 32 + 511 - 1); { X with plc := { X.plc with segs := [(0, { valid := true })] } }), .device, 0, by decide +kernel⟩,
   ⟨((((((upW.p PC_ROLE_CFG_AUTH_REQ 0 6).p PC_LINK_STATUS_ROLE_BOUND 1 5).p PC_LINK_STATUS_ROLE_BOUND 2 6).p PC_LINK_STATUS_LINK_STATE 3 6).p MOD_ENTRY_PRESENT 1 97)).p BIND_ARG0_ARG (2 * 65536 + 5) |>.p BIND_ARG1_ARG 97, .device, 65535, by decide +kernel⟩,
   ⟨(((upW.p PC_LINK_STATUS_ROLE_BOUND 1 5).p VPPB_ENTRY_KIND 2 5 2)).p BIND_ARG0_ARG (2 * 65536 + 5) |>.p BIND_ARG1_ARG 0, .device, 1, by decide +kernel⟩,
   ⟨(((upW.p PC_LINK_STATUS_ROLE_BOUND 1 5).p VPPB_ENTRY_KIND 2 5 2)).p BIND_ARG0_ARG (2 * 65536 + 5) |>.p BIND_ARG1_ARG 1, .device, 1, by decide +kernel⟩,
   ⟨(((upW.p PC_LINK_STATUS_ROLE_BOUND 1 5).p INST_STATUS_STATE 1 3)).p BIND_ARG0_ARG (63 * 65536 + 5) |>.p BIND_ARG1_ARG 3, .device, 1, by decide +kernel⟩⟩

theorem witness_BindCommandsStart_2 :
    (∃ (s : State) (m : Master) (tag : Fin 65536), s.up = true ∧ s.cmt.bind = none ∧ (s.cmt.bindDone = false ∨ s.g BIND_STATUS_TAG ≠ tag) ∧ s.accepts m .BIND_CMD 0 = true ∧ s.bindReserved 0x21 = false ∧ s.hostPort (s.bindArgs 0x21 tag).p = true ∧ s.g VPPB_ENTRY_KIND (s.bindArgs 0x21 tag).p (s.bindArgs 0x21 tag).v = 1) :=
  ⟨(((upW.p PC_LINK_STATUS_ROLE_BOUND 1 5).p VPPB_ENTRY_KIND 1 5 2)).p BIND_ARG0_ARG (2 * 65536 + 5) |>.p BIND_ARG1_ARG 0, .device, 1, by decide +kernel⟩

theorem witness_BindAnswersAndTimeouts :
    (∃ (s : State) (i : InstId) (pages : List Nat) (b : BindOp), s.up = true ∧ s.dcWaiting 0x01 i = some b ∧ (∀ k < b.count, b.first + k ∈ pages)) ∧
    (∃ (s : State) (i : InstId) (pages : List Nat) (b : BindOp), s.up = true ∧ s.dcWaiting 0x02 i = some b ∧ pages = [] ∧ b.count ≠ 0) ∧
    (∃ (s : State) (i : InstId) (pages : List Nat) (b : BindOp), s.up = true ∧ s.dcWaiting 0x02 i = some b ∧ (∀ k < b.count, b.first + k ∈ pages) ∧ b.pages.any (fun p => s.backed p) = true) ∧
    (∃ (s : State) (b : BindOp), s.up = true ∧ s.cmt.bind = some b ∧ b.waiting = true ∧ b.op = 0x02) ∧
    (∃ (s : State) (p : PortId) (v : Fin 64) (b : BindOp), s.up = true ∧ s.cmt.bind = some b ∧ b.op = 0x11 ∧ b.waiting = true ∧ b.p = p ∧ b.v = v) ∧
    (∃ (s : State) (b : BindOp), s.up = true ∧ s.cmt.bind = some b ∧ b.op = 0x11 ∧ b.waiting = true) :=
  ⟨⟨{ upW with cmt := { upW.cmt with bind := some { op := 1, tag := 7, inst := 3, p := 5, v := 2, waiting := true, first := 4, count := 2 } } }, 3, [5, 4], { op := 1, tag := 7, inst := 3, p := 5, v := 2, waiting := true, first := 4, count := 2 }, by decide +kernel⟩,
   ⟨{ upW with cmt := { upW.cmt with bind := some { op := 2, tag := 7, inst := 3, p := 5, v := 2, waiting := true, first := 4, count := 2 } } }, 3, [], { op := 2, tag := 7, inst := 3, p := 5, v := 2, waiting := true, first := 4, count := 2 }, by decide +kernel⟩,
   ⟨(let X := { upW with cmt := { upW.cmt with bind := some { op := 2, tag := 7, inst := 3, p := 5, v := 2, waiting := true, first := 4, count := 2 } } }; { X with plc := { X.plc with segs := [(0, { valid := true })] } }), 3, [4, 5], { op := 2, tag := 7, inst := 3, p := 5, v := 2, waiting := true, first := 4, count := 2 }, by decide +kernel⟩,
   ⟨{ upW with cmt := { upW.cmt with bind := some { op := 2, tag := 7, inst := 3, p := 5, v := 2, waiting := true, first := 4, count := 2 } } }, { op := 2, tag := 7, inst := 3, p := 5, v := 2, waiting := true, first := 4, count := 2 }, by decide +kernel⟩,
   ⟨{ upW with cmt := { upW.cmt with bind := some { op := 17, tag := 7, inst := 3, p := 5, v := 2, waiting := true, first := 4, count := 2 } } }, 5, 2, { op := 17, tag := 7, inst := 3, p := 5, v := 2, waiting := true, first := 4, count := 2 }, by decide +kernel⟩,
   ⟨{ upW with cmt := { upW.cmt with bind := some { op := 17, tag := 7, inst := 3, p := 5, v := 2, waiting := true, first := 4, count := 2 } } }, { op := 17, tag := 7, inst := 3, p := 5, v := 2, waiting := true, first := 4, count := 2 }, by decide +kernel⟩⟩

theorem witness_BindCommandRefusals :
    (∃ (s : State) (m : Master) (tag : Fin 65536), s.up = true ∧ s.accepts m .BIND_CMD 0 = true ∧ s.cmt.bind.isSome = true) ∧
    (∃ (s : State) (m : Master) (tag : Fin 65536), s.up = true ∧ s.accepts m .BIND_CMD 0 = true ∧ s.cmt.bind = none ∧ s.cmt.bindDone = true ∧ s.g BIND_STATUS_TAG = tag) :=
  ⟨⟨{ upW with cmt := { upW.cmt with bind := some { op := 17, tag := 7, inst := 3, p := 5, v := 2, waiting := true, first := 4, count := 2 } } }, .device, 1, by decide +kernel⟩,
   ⟨{ upW with cmt := { upW.cmt with bindDone := true } }, .device, 0, by decide +kernel⟩⟩

theorem witness_BuffersAgeingAndDeparture_1 :
    (∃ (s : State) (id : Nat) (u : Txn), s.up = true ∧ s.txn id = some u ∧ u.place.waits = true ∧ s.hbmUp = true ∧ 2 * (s.g SW_OVF_CFG_SPILL_THR_U * 256) < s.freeShared u.die ∧ u.spilled ≤ s.freeFor u.die u.cls) ∧
    (∃ (s : State) (id : Nat) (u : Txn), s.up = true ∧ s.txn id = some u ∧ u.place.waits = true ∧ u.kind ≠ .modRead ∧ u.kind ≠ .modWrite ∧ u.kind ≠ .ioCpl ∧ u.kind ≠ .far) ∧
    (∃ (s : State) (id : Nat) (u : Txn), s.up = true ∧ s.txn id = some u ∧ u.spilled ≠ 0) ∧
    (∃ (s : State) (id : Nat) (u : Txn), s.up = true ∧ s.txn id = some u ∧ u.cells ≠ u.spilled) ∧
    (∃ (s : State) (id : Nat) (u : Txn), s.up = true ∧ s.txn id = some u) ∧
    (∃ (s : State) (sl : SliceId) (id : Nat) (u : Txn), s.up = true ∧ s.headOf (fun x => x.place == .toHome sl) = some (id, u) ∧ u.spilled = 0) ∧
    (∃ (s : State) (c : PortId) (q : Nat) (r : State) (id : Nat) (u : Txn), s.up = true ∧ s.portState c = 0 ∧ s.wrrPick c = some (q, r) ∧ s.nextFor c q = some (id, u) ∧ u.kind ≠ .ioPosted ∧ u.kind ≠ .ioCpl ∧ u.kind ≠ .pbr) :=
  ⟨⟨{ ((upW.p ISL_STATUS_CLK_PRESENT 1 32).p ISL_STATUS_CLK_PRESENT 1 33) with sw := { (((upW.p ISL_STATUS_CLK_PRESENT 1 32).p ISL_STATUS_CLK_PRESENT 1 33)).sw with txns := [(7, ({ src := 5, tag := 9, dev := 0, inst := 3, cls := 0, kind := .rdCur, addr := 0x40, len := 64, place := .fenced, cells := 4, spilled := 2 } : Txn))] } }, 7, ({ src := 5, tag := 9, dev := 0, inst := 3, cls := 0, kind := .rdCur, addr := 0x40, len := 64, place := .fenced, cells := 4, spilled := 2 } : Txn), by decide +kernel⟩,
   ⟨{ upW with sw := { (upW).sw with txns := [(7, ({ src := 5, tag := 9, dev := 0, inst := 3, cls := 0, kind := .rdCur, addr := 0x40, len := 64, place := .toHome 0, slice := some 0 } : Txn))] } }, 7, ({ src := 5, tag := 9, dev := 0, inst := 3, cls := 0, kind := .rdCur, addr := 0x40, len := 64, place := .toHome 0, slice := some 0 } : Txn), by decide +kernel⟩,
   ⟨{ upW with sw := { (upW).sw with txns := [(7, ({ src := 5, tag := 9, dev := 0, inst := 3, cls := 0, kind := .rdCur, addr := 0x40, len := 64, place := .home, cells := 4, spilled := 2 } : Txn))] } }, 7, ({ src := 5, tag := 9, dev := 0, inst := 3, cls := 0, kind := .rdCur, addr := 0x40, len := 64, place := .home, cells := 4, spilled := 2 } : Txn), by decide +kernel⟩,
   ⟨{ upW with sw := { (upW).sw with txns := [(7, ({ src := 5, tag := 9, dev := 0, inst := 3, cls := 0, kind := .rdCur, addr := 0x40, len := 64, place := .home, cells := 4, spilled := 2 } : Txn))] } }, 7, ({ src := 5, tag := 9, dev := 0, inst := 3, cls := 0, kind := .rdCur, addr := 0x40, len := 64, place := .home, cells := 4, spilled := 2 } : Txn), by decide +kernel⟩,
   ⟨{ upW with sw := { (upW).sw with txns := [(7, ({ src := 5, tag := 9, dev := 0, inst := 3, cls := 0, kind := .rdCur, addr := 0x40, len := 64, place := .home, cells := 4, spilled := 2 } : Txn))] } }, 7, ({ src := 5, tag := 9, dev := 0, inst := 3, cls := 0, kind := .rdCur, addr := 0x40, len := 64, place := .home, cells := 4, spilled := 2 } : Txn), by decide +kernel⟩,
   ⟨{ upW with sw := { (upW).sw with txns := [(7, ({ src := 5, tag := 9, dev := 0, inst := 3, cls := 0, kind := .rdCur, addr := 0x40, len := 64, place := .toHome 1 } : Txn))] } }, 1, 7, ({ src := 5, tag := 9, dev := 0, inst := 3, cls := 0, kind := .rdCur, addr := 0x40, len := 64, place := .toHome 1 } : Txn), by decide +kernel⟩,
   ⟨{ (upW.p PC_WIDTH_CFG_LEAD 5 5 |>.p PC_QUIESCE_STATUS_STATE 0 5 |>.p PC_LINK_STATUS_LINK_STATE 3 5) with sw := { ((upW.p PC_WIDTH_CFG_LEAD 5 5 |>.p PC_QUIESCE_STATUS_STATE 0 5 |>.p PC_LINK_STATUS_LINK_STATE 3 5)).sw with txns := [(7, ({ src := 5, tag := 9, dev := 0, inst := 3, cls := 0, kind := .ptRead, addr := 0x40, len := 64, place := .egress 5 3, mod := 80 } : Txn))] } }, 5, 3, (({ (upW.p PC_WIDTH_CFG_LEAD 5 5 |>.p PC_QUIESCE_STATUS_STATE 0 5 |>.p PC_LINK_STATUS_LINK_STATE 3 5) with sw := { ((upW.p PC_WIDTH_CFG_LEAD 5 5 |>.p PC_QUIESCE_STATUS_STATE 0 5 |>.p PC_LINK_STATUS_LINK_STATE 3 5)).sw with txns := [(7, ({ src := 5, tag := 9, dev := 0, inst := 3, cls := 0, kind := .ptRead, addr := 0x40, len := 64, place := .egress 5 3, mod := 80 } : Txn))] } }).wrrPick 5).elim ({ (upW.p PC_WIDTH_CFG_LEAD 5 5 |>.p PC_QUIESCE_STATUS_STATE 0 5 |>.p PC_LINK_STATUS_LINK_STATE 3 5) with sw := { ((upW.p PC_WIDTH_CFG_LEAD 5 5 |>.p PC_QUIESCE_STATUS_STATE 0 5 |>.p PC_LINK_STATUS_LINK_STATE 3 5)).sw with txns := [(7, ({ src := 5, tag := 9, dev := 0, inst := 3, cls := 0, kind := .ptRead, addr := 0x40, len := 64, place := .egress 5 3, mod := 80 } : Txn))] } }) (·.2), 7, ({ src := 5, tag := 9, dev := 0, inst := 3, cls := 0, kind := .ptRead, addr := 0x40, len := 64, place := .egress 5 3, mod := 80 } : Txn), by decide +kernel⟩⟩

theorem witness_BuffersAgeingAndDeparture_2 :
    (∃ (s : State) (c : PortId) (q : Nat) (r : State) (id : Nat) (u : Txn), s.up = true ∧ s.portState c = 0 ∧ s.wrrPick c = some (q, r) ∧ s.nextFor c q = some (id, u) ∧ u.kind = .ioPosted) ∧
    (∃ (s : State), s.up = true) ∧
    (∃ (s : State) (inst : Fin 16384) (core : Fin 4096) (id : Nat) (u : Txn), s.up = true ∧ s.headOf (fun x => x.place == .penalty && x.inst == inst.val && x.src == core.val && x.dev == s.dev) = some (id, u) ∧ (s.handled (meterOf u) u.len u.inst (if u.spilled = 0 then s.spillOf u else 0) u.die).1 = 2) ∧
    (∃ (s : State) (inst : Fin 16384) (core : Fin 4096) (id : Nat) (u : Txn), s.up = true ∧ s.headOf (fun x => x.place == .penalty && x.inst == inst.val && x.src == core.val && x.dev == s.dev) = some (id, u) ∧ (s.handled (meterOf u) u.len u.inst (if u.spilled = 0 then s.spillOf u else 0) u.die).1 ≠ 2 ∧ u.width = 0) ∧
    (∃ (s : State) (id : Nat) (u : Txn), s.up = true ∧ s.txn id = some u ∧ u.place = .fenced ∧ s.sw.txns.any (fun e => sameFlow e.2 u && s.underWay e.1 e.2 && e.2.path != s.pathOf u) = false ∧ s.sw.txns.all (fun e => !(sameFlow e.2 u) || e.2.slice.isSome || !e.2.kind.composed) = true) :=
  ⟨⟨{ (upW.p PC_WIDTH_CFG_LEAD 5 5 |>.p PC_QUIESCE_STATUS_STATE 0 5 |>.p PC_LINK_STATUS_LINK_STATE 3 5) with sw := { ((upW.p PC_WIDTH_CFG_LEAD 5 5 |>.p PC_QUIESCE_STATUS_STATE 0 5 |>.p PC_LINK_STATUS_LINK_STATE 3 5)).sw with txns := [(7, ({ src := 5, tag := 9, dev := 0, inst := 3, cls := 3, kind := .ioPosted, addr := 0x40, len := 64, place := .egress 5 3, mod := 80 } : Txn))] } }, 5, 3, (({ (upW.p PC_WIDTH_CFG_LEAD 5 5 |>.p PC_QUIESCE_STATUS_STATE 0 5 |>.p PC_LINK_STATUS_LINK_STATE 3 5) with sw := { ((upW.p PC_WIDTH_CFG_LEAD 5 5 |>.p PC_QUIESCE_STATUS_STATE 0 5 |>.p PC_LINK_STATUS_LINK_STATE 3 5)).sw with txns := [(7, ({ src := 5, tag := 9, dev := 0, inst := 3, cls := 3, kind := .ioPosted, addr := 0x40, len := 64, place := .egress 5 3, mod := 80 } : Txn))] } }).wrrPick 5).elim ({ (upW.p PC_WIDTH_CFG_LEAD 5 5 |>.p PC_QUIESCE_STATUS_STATE 0 5 |>.p PC_LINK_STATUS_LINK_STATE 3 5) with sw := { ((upW.p PC_WIDTH_CFG_LEAD 5 5 |>.p PC_QUIESCE_STATUS_STATE 0 5 |>.p PC_LINK_STATUS_LINK_STATE 3 5)).sw with txns := [(7, ({ src := 5, tag := 9, dev := 0, inst := 3, cls := 3, kind := .ioPosted, addr := 0x40, len := 64, place := .egress 5 3, mod := 80 } : Txn))] } }) (·.2), 7, ({ src := 5, tag := 9, dev := 0, inst := 3, cls := 3, kind := .ioPosted, addr := 0x40, len := 64, place := .egress 5 3, mod := 80 } : Txn), by decide +kernel⟩,
   ⟨{ upW with sw := { (upW).sw with txns := [(7, ({ src := 5, tag := 9, dev := 0, inst := 3, cls := 0, kind := .rdCur, addr := 0x40, len := 64, place := .toHome 1 } : Txn))] } }, by decide +kernel⟩,
   ⟨(({ upW with sw := { (upW).sw with txns := [(7, ({ src := 5, tag := 9, dev := 0, inst := 3, cls := 0, kind := .rdCur, addr := 0x40, len := 64, place := .penalty } : Txn))] } }).p MTR_CFG_EN 1 12).p MS_CFG_MTR_GLOBAL_EN 1 |>.p MTR_BURST_PEBS_U 0 12, 3, 5, 7, ({ src := 5, tag := 9, dev := 0, inst := 3, cls := 0, kind := .rdCur, addr := 0x40, len := 64, place := .penalty } : Txn), by decide +kernel⟩,
   ⟨{ upW with sw := { (upW).sw with txns := [(7, ({ src := 5, tag := 9, dev := 0, inst := 3, cls := 0, kind := .rdCur, addr := 0x40, len := 64, place := .penalty } : Txn))] } }, 3, 5, 7, ({ src := 5, tag := 9, dev := 0, inst := 3, cls := 0, kind := .rdCur, addr := 0x40, len := 64, place := .penalty } : Txn), by decide +kernel⟩,
   ⟨{ upW with sw := { (upW).sw with txns := [(7, ({ src := 5, tag := 9, dev := 0, inst := 3, cls := 0, kind := .rdCur, addr := 0x40, len := 64, slice := some 0, place := .fenced } : Txn))] } }, 7, ({ src := 5, tag := 9, dev := 0, inst := 3, cls := 0, kind := .rdCur, addr := 0x40, len := 64, slice := some 0, place := .fenced } : Txn), by decide +kernel⟩⟩

theorem witness_ResponsesAndFabricFlits_1 :
    (∃ (s : State) (c : PortId) (id : Nat) (data : List Byte) (poison : Bool) (u : Txn), s.up = true ∧ s.portState c ≠ 4 ∧ s.txn id = some u ∧ u.place = .sent c ∧ u.kind ≠ .modRead ∧ u.kind ≠ .modWrite ∧ u.kind ≠ .ioPosted ∧ u.kind ≠ .pbr ∧ u.dev = s.dev ∧ u.dropped = false ∧ u.src < 128 ∧ s.portState u.src ≠ 4) ∧
    (∃ (s : State) (c : PortId) (dest : PortId) (inst : InstId) (cls : Fin 6) (ro : Bool) (data : List Byte), s.up = true ∧ s.portState c ≠ 3 ∧ s.portState dest ≠ 3 ∧ s.portState dest ≠ 4 ∧ (cls.val = 1 ∨ cls.val = 2 ∨ (cls.val = 5 ∧ ro = true))) ∧
    (∃ (s : State) (c : PortId) (dest : PortId) (inst : InstId) (cls : Fin 6) (ro : Bool) (data : List Byte), s.up = true ∧ s.portState c ≠ 3 ∧ s.portState dest = 3 ∧ (cls.val = 1 ∨ cls.val = 2 ∨ (cls.val = 5 ∧ ro = true))) ∧
    (∃ (s : State) (c : PortId) (dest : Fin 4096) (tag : Nat) (data : List Byte) (w : PbrWay) (id : Nat) (u : Txn), s.up = true ∧ s.isFollower c = false ∧ s.portState c ≠ 3 ∧ s.portState c ≠ 4 ∧ s.ioOnly c = false ∧ s.streamShut c = false ∧ (s.port c).latePbr.contains tag = false ∧ s.pbrWay dest.val = some w ∧ s.sw.txns.find? (fun e => e.2.kind == .pbr && e.2.place == .sent c && e.2.tag == tag && e.2.dev == w.dev && (e.2.src == w.egress || w.alt == some e.2.src)) = some (id, u) ∧ u.dev = s.dev ∧ u.src < 128 ∧ s.portState u.src = 0 ∧ u.dropped = false) ∧
    (∃ (s : State) (c : PortId) (dest : Fin 4096) (tag : Nat) (data : List Byte) (w : PbrWay) (e : Nat), s.up = true ∧ s.isFollower c = false ∧ s.portState c ≠ 3 ∧ s.portState c ≠ 4 ∧ s.ioOnly c = false ∧ s.streamShut c = false ∧ (s.port c).latePbr.contains tag = false ∧ s.sw.txns.any (fun e => e.2.kind == .pbr && e.2.place == .sent c && e.2.tag == tag) = false ∧ s.pbrWay dest.val = some w ∧ w.dev = s.dev ∧ e = s.pbrOut (w.mask false) ∧ s.portState e ≠ 3 ∧ s.portState e ≠ 4) ∧
    (∃ (s : State) (c : PortId) (dest : Fin 4096) (tag : Nat) (data : List Byte) (w : PbrWay) (e : Nat), s.up = true ∧ s.isFollower c = false ∧ s.portState c ≠ 3 ∧ s.portState c ≠ 4 ∧ s.ioOnly c = false ∧ s.streamShut c = false ∧ (s.port c).latePbr.contains tag = false ∧ s.sw.txns.any (fun e => e.2.kind == .pbr && e.2.place == .sent c && e.2.tag == tag) = false ∧ s.pbrWay dest.val = some w ∧ w.dev = s.dev ∧ e = s.pbrOut (w.mask false) ∧ s.portState e = 3) ∧
    (∃ (s : State) (c : PortId) (dest : Fin 4096) (tag : Nat) (data : List Byte) (w : PbrWay), s.up = true ∧ s.isFollower c = false ∧ s.portState c ≠ 3 ∧ s.portState c ≠ 4 ∧ s.ioOnly c = false ∧ s.streamShut c = false ∧ (s.port c).latePbr.contains tag = false ∧ s.sw.txns.any (fun e => e.2.kind == .pbr && e.2.place == .sent c && e.2.tag == tag) = false ∧ s.pbrWay dest.val = some w ∧ w.dev ≠ s.dev) :=
  ⟨⟨{ upW with sw := { (upW).sw with txns := [(7, ({ src := 5, tag := 9, dev := 0, inst := 3, cls := 0, kind := .ptRead, addr := 0x40, len := 64, place := .sent 5 } : Txn))] } }, 5, 7, [1, 2], false, ({ src := 5, tag := 9, dev := 0, inst := 3, cls := 0, kind := .ptRead, addr := 0x40, len := 64, place := .sent 5 } : Txn), by decide +kernel⟩,
   ⟨((upW.p PC_WIDTH_CFG_LEAD 5 5).p PC_WIDTH_CFG_LEAD 6 6).p PC_QUIESCE_STATUS_STATE 0 5 |>.p PC_QUIESCE_STATUS_STATE 0 6, 5, 6, 3, 5, true, [7], by decide +kernel⟩,
   ⟨((upW.p PC_WIDTH_CFG_LEAD 5 5).p PC_WIDTH_CFG_LEAD 6 6).p PC_QUIESCE_STATUS_STATE 0 5 |>.p PC_QUIESCE_STATUS_STATE 3 6, 5, 6, 3, 5, true, [7], by decide +kernel⟩,
   ⟨(let X := ((((((((upW.p PC_WIDTH_CFG_LEAD 5 5).p PC_QUIESCE_STATUS_STATE 0 5).p PC_LINK_STATUS_LINK_STATE 3 5).p PC_LINK_STATUS_ROLE_BOUND 3 5).p PC_ROLE_CFG_PBR_ID 77 6).p PC_LINK_STATUS_ROLE_BOUND 1 6).p PC_WIDTH_CFG_LEAD 6 6).p PC_QUIESCE_STATUS_STATE 0 6); { X with sw := { X.sw with txns := [(7, ({ src := 6, tag := 5, dev := 0, inst := 3, cls := 0, kind := .pbr, addr := 0x40, len := 64, place := .sent 5 } : Txn))] } }), 5, 77, 5, [3], ⟨0, 6, none⟩, 7, ({ src := 6, tag := 5, dev := 0, inst := 3, cls := 0, kind := .pbr, addr := 0x40, len := 64, place := .sent 5 } : Txn), by decide +kernel⟩,
   ⟨((((((((upW.p PC_WIDTH_CFG_LEAD 5 5).p PC_QUIESCE_STATUS_STATE 0 5).p PC_LINK_STATUS_LINK_STATE 3 5).p PC_LINK_STATUS_ROLE_BOUND 3 5).p PC_ROLE_CFG_PBR_ID 77 6).p PC_LINK_STATUS_ROLE_BOUND 1 6).p PC_WIDTH_CFG_LEAD 6 6).p PC_QUIESCE_STATUS_STATE 0 6), 5, 77, 5, [3], ⟨0, 6, none⟩, 6, by decide +kernel⟩,
   ⟨((((((((upW.p PC_WIDTH_CFG_LEAD 5 5).p PC_QUIESCE_STATUS_STATE 0 5).p PC_LINK_STATUS_LINK_STATE 3 5).p PC_LINK_STATUS_ROLE_BOUND 3 5).p PC_ROLE_CFG_PBR_ID 77 6).p PC_LINK_STATUS_ROLE_BOUND 1 6).p PC_WIDTH_CFG_LEAD 6 6).p PC_QUIESCE_STATUS_STATE 3 6), 5, 77, 5, [3], ⟨0, 6, none⟩, 6, by decide +kernel⟩,
   ⟨(((((((upW.p PC_WIDTH_CFG_LEAD 5 5).p PC_QUIESCE_STATUS_STATE 0 5).p PC_LINK_STATUS_LINK_STATE 3 5).p PC_LINK_STATUS_ROLE_BOUND 3 5).p PBR_ROUTE_VALID 1 77).p PBR_ROUTE_DEV 2 77).p PBR_ROUTE_EGRESS 9 77), 5, 77, 5, [3], ⟨2, 9, none⟩, by decide +kernel⟩⟩

theorem witness_ResponsesAndFabricFlits_2 :
    (∃ (s : State) (c : PortId) (dest : Fin 4096) (tag : Nat) (data : List Byte), s.up = true ∧ s.isFollower c = false ∧ s.portState c ≠ 3 ∧ s.portState c ≠ 4 ∧ s.ioOnly c = false ∧ s.streamShut c = false ∧ (s.port c).latePbr.contains tag = false ∧ s.pbrWay dest.val = none) ∧
    (∃ (s : State) (c : PortId) (dest : Fin 4096) (tag : Nat) (data : List Byte), s.up = true ∧ s.isFollower c = false ∧ s.portState c ≠ 3 ∧ s.portState c ≠ 4 ∧ s.ioOnly c = false ∧ s.streamShut c = false ∧ (s.port c).latePbr.contains tag = true) ∧
    (∃ (s : State) (c : PortId) (dest : Fin 4096) (inst : InstId) (read : Bool) (tag : Nat) (data : List Byte) (w : PbrWay) (id : Nat), s.up = true ∧ s.ingressOpen c (s.outStreamOf c) false false = true ∧ s.portState c = 0 ∧ s.pbrWay dest.val = some w ∧ (w.dev = s.dev ∨ (s.g STK_STATUS_STATE ≠ 4 ∧ s.on STK_PEER_DEPARTED w.dev = false)) ∧ (s.takeUnit (s.pbrTxn c dest.val inst tag read data w)).2 = .inFlight id) ∧
    (∃ (s : State) (c : PortId) (dest : Fin 4096) (inst : InstId) (read : Bool) (tag : Nat) (data : List Byte) (w : PbrWay), s.up = true ∧ s.ingressOpen c (s.outStreamOf c) false false = true ∧ s.portState c = 0 ∧ s.pbrWay dest.val = some w ∧ w.dev ≠ s.dev ∧ (s.g STK_STATUS_STATE = 4 ∨ s.on STK_PEER_DEPARTED w.dev = true)) ∧
    (∃ (s : State) (c : PortId) (dest : Fin 4096) (inst : InstId) (read : Bool) (tag : Nat) (data : List Byte), s.up = true ∧ s.ingressOpen c (s.outStreamOf c) false false = true ∧ s.portState c = 0 ∧ s.pbrWay dest.val = none) :=
  ⟨⟨((((upW.p PC_WIDTH_CFG_LEAD 5 5).p PC_QUIESCE_STATUS_STATE 0 5).p PC_LINK_STATUS_LINK_STATE 3 5).p PC_LINK_STATUS_ROLE_BOUND 3 5), 5, 4095, 5, [3], by decide +kernel⟩,
   ⟨(((((upW.p PC_WIDTH_CFG_LEAD 5 5).p PC_QUIESCE_STATUS_STATE 0 5).p PC_LINK_STATUS_LINK_STATE 3 5).p PC_LINK_STATUS_ROLE_BOUND 3 5).portMod 5 (fun x => { x with latePbr := [5] })), 5, 77, 5, [3], by decide +kernel⟩,
   ⟨((((((((upW.p PC_WIDTH_CFG_LEAD 5 5).p PC_QUIESCE_STATUS_STATE 0 5).p PC_LINK_STATUS_LINK_STATE 3 5).p PC_LINK_STATUS_ROLE_BOUND 3 5).p PC_ROLE_CFG_PBR_ID 77 6).p PC_LINK_STATUS_ROLE_BOUND 1 6).p PC_WIDTH_CFG_LEAD 6 6).p PC_QUIESCE_STATUS_STATE 0 6), 5, 77, 3, true, 5, [3], ⟨0, 6, none⟩, 1, by decide +kernel⟩,
   ⟨(((((((upW.p PC_WIDTH_CFG_LEAD 5 5).p PC_QUIESCE_STATUS_STATE 0 5).p PC_LINK_STATUS_LINK_STATE 3 5).p PC_LINK_STATUS_ROLE_BOUND 3 5).p PBR_ROUTE_VALID 1 77).p PBR_ROUTE_DEV 2 77).p PBR_ROUTE_EGRESS 9 77).p STK_PEER_DEPARTED 1 2, 5, 77, 3, true, 5, [3], ⟨2, 9, none⟩, by decide +kernel⟩,
   ⟨((((upW.p PC_WIDTH_CFG_LEAD 5 5).p PC_QUIESCE_STATUS_STATE 0 5).p PC_LINK_STATUS_LINK_STATE 3 5).p PC_LINK_STATUS_ROLE_BOUND 3 5), 5, 4094, 4095, true, 5, [3], by decide +kernel⟩⟩

theorem witness_IngressRequests_1 :
    (∃ (s : State) (c : PortId) (im : IngressMeta) (hpa : Nat) (kind : MemKind) (data : List Byte) (mask : Nat) (poison : Bool) (keepS : Bool), s.up = true ∧ s.ingressOpen c (im.stream.map (·.val)) false false = true ∧ s.portState c = 0 ∧ s.g PC_LINK_STATUS_ROLE_BOUND c = 1 ∧ s.hdmDecode c hpa = none) ∧
    (∃ (s : State) (c : PortId) (im : IngressMeta) (hpa : Nat) (kind : MemKind) (data : List Byte) (mask : Nat) (poison : Bool) (keepS : Bool) (k : Nat) (dpa : Nat) (i : Nat) (id : Nat), s.up = true ∧ s.ingressOpen c (im.stream.map (·.val)) false false = true ∧ s.portState c = 0 ∧ s.g PC_LINK_STATUS_ROLE_BOUND c = 1 ∧ s.hdmDecode c hpa = some (k, dpa) ∧ s.g VPPB_ENTRY_INST c k = i ∧ s.instState i ≠ 4 ∧ s.instState i ≠ 5 ∧ s.on IW_BASE_VALID i = true ∧ dpa < s.g IW_LIMIT_SIZE_GIB i * 2 ^ 30 ∧ (s.gateCheck (.port c) { space := 0, addr := (s.memUnit c im i hpa dpa kind data mask poison keepS).addr, len := 64, kind := if (s.memUnit c im i hpa dpa kind data mask poison keepS).kind.writes then 1 else 0, level := 2, inst := s.dev * 4096 + i }).isNone = true ∧ (s.admitComposed (s.memUnit c im i hpa dpa kind data mask poison keepS)).2 = .inFlight id) ∧
    (∃ (s : State) (c : PortId) (im : IngressMeta) (hpa : Nat) (kind : MemKind) (data : List Byte) (mask : Nat) (poison : Bool) (keepS : Bool) (k : Nat) (dpa : Nat) (i : Nat), s.up = true ∧ s.ingressOpen c (im.stream.map (·.val)) false false = true ∧ s.portState c = 0 ∧ s.g PC_LINK_STATUS_ROLE_BOUND c = 1 ∧ s.hdmDecode c hpa = some (k, dpa) ∧ s.g VPPB_ENTRY_INST c k = i ∧ s.instState i ≠ 4 ∧ s.instState i ≠ 5 ∧ (s.on IW_BASE_VALID i = false ∨ s.g IW_LIMIT_SIZE_GIB i * 2 ^ 30 ≤ dpa)) ∧
    (∃ (s : State) (c : PortId) (im : IngressMeta) (hpa : Nat) (kind : MemKind) (data : List Byte) (mask : Nat) (poison : Bool) (keepS : Bool) (k : Nat) (dpa : Nat) (i : Nat), s.up = true ∧ s.ingressOpen c (im.stream.map (·.val)) false false = true ∧ s.portState c = 0 ∧ s.g PC_LINK_STATUS_ROLE_BOUND c = 1 ∧ s.hdmDecode c hpa = some (k, dpa) ∧ s.g VPPB_ENTRY_INST c k = i ∧ (s.instState i = 4 ∨ s.instState i = 5)) ∧
    (∃ (s : State) (c : PortId) (im : IngressMeta) (v : Fin 64) (inst : InstId) (write : Bool) (hpa : Nat) (len : Nat) (data : List Byte) (m : Nat) (id : Nat), s.up = true ∧ s.ingressOpen c (im.stream.map (·.val)) false false = true ∧ s.portState c = 0 ∧ s.instState inst.val ≠ 4 ∧ s.instState inst.val ≠ 5 ∧ s.ptDest c v = some m ∧ (s.takeUnit { s.ingressTxn c im (s.dev * 4096 + inst.val) (if write then .ptWrite else .ptRead) hpa len (if write then data else []) with mod := m, dpa := hpa }).2 = .inFlight id) ∧
    (∃ (s : State) (c : PortId) (im : IngressMeta) (v : Fin 64) (inst : InstId) (posted : Bool) (read : Bool) (addr : Nat) (len : Nat) (data : List Byte) (m : Nat) (id : Nat), s.up = true ∧ s.ingressOpen c (im.stream.map (·.val)) true posted = true ∧ s.portState c = 0 ∧ s.instState inst.val ≠ 4 ∧ s.instState inst.val ≠ 5 ∧ s.ptDest c v = some m ∧ (s.takeUnit { s.ingressTxn c im (s.dev * 4096 + inst.val) (if posted then .ioPosted else if read then .ioRead else .ioNp) addr len data with mod := m, dpa := addr }).2 = .inFlight id) ∧
    (∃ (s : State) (c : PortId) (im : IngressMeta) (inst : InstId) (offset : Nat) (width : Nat) (data : Nat) (u : Txn), s.up = true ∧ s.ingressOpen c (im.stream.map (·.val)) true true = true ∧ s.portState c = 0 ∧ s.g PC_LINK_STATUS_ROLE_BOUND c = 1 ∧ u = { s.ingressTxn c im (s.dev * 4096 + inst.val) .ioPosted offset (width / 8) (leBytes (width / 8) data) with width := width } ∧ (s.vppbOfInst (u.inst % 4096)).any (fun b => b.1 == c.val) = true ∧ s.penList u.inst c = [] ∧ (s.handled (meterOf u) u.len u.inst 0 (dieOf c)).1 ≠ 2) :=
  ⟨⟨((((upW.p PC_WIDTH_CFG_LEAD 5 5).p PC_QUIESCE_STATUS_STATE 0 5).p PC_LINK_STATUS_LINK_STATE 3 5).p PC_LINK_STATUS_ROLE_BOUND 1 5), 5, { tag := 9 }, 0x10000040, .memWr false, [1], 0, false, true, by decide +kernel⟩,
   ⟨(let X := ((((((((((upW.p PC_WIDTH_CFG_LEAD 5 5).p PC_QUIESCE_STATUS_STATE 0 5).p PC_LINK_STATUS_LINK_STATE 3 5).p PC_LINK_STATUS_ROLE_BOUND 1 5).p VPPB_ENTRY_KIND 1 5 2).p VPPB_ENTRY_INST 3 5 2).p INST_STATUS_STATE 1 3).p IW_BASE_VALID 1 3).p IW_LIMIT_SIZE_GIB 1 3).p PG_LO_VALID 1 5 |>.p PG_LO_P2_RWX 3 5 |>.p PG_HI_INST_ANY 1 5 |>.p PG_HI_LIMIT 0xFFFFFF 5 |>.portMod 5 (fun x => { x with decs := [(8, ⟨0x10000000, 0x80000000, 1, 256, 0⟩)] })); { X with plc := { X.plc with segs := [(0, { valid := true })] } }), 5, { tag := 9 }, 0x10000040, .memWr false, [1], 0, false, true, 2, 0x40, 3, 1, by decide +kernel⟩,
   ⟨(let X := ((((((((((upW.p PC_WIDTH_CFG_LEAD 5 5).p PC_QUIESCE_STATUS_STATE 0 5).p PC_LINK_STATUS_LINK_STATE 3 5).p PC_LINK_STATUS_ROLE_BOUND 1 5).p VPPB_ENTRY_KIND 1 5 2).p VPPB_ENTRY_INST 3 5 2).p INST_STATUS_STATE 1 3).p IW_BASE_VALID 1 3).p IW_LIMIT_SIZE_GIB 1 3).p PG_LO_VALID 1 5 |>.p PG_LO_P2_RWX 3 5 |>.p PG_HI_INST_ANY 1 5 |>.p PG_HI_LIMIT 0xFFFFFF 5 |>.portMod 5 (fun x => { x with decs := [(8, ⟨0x10000000, 0x80000000, 1, 256, 0⟩)] })); { X with plc := { X.plc with segs := [(0, { valid := true })] } }), 5, { tag := 9 }, 0x50000000, .memWr false, [1], 0, false, true, 2, 0x40000000, 3, by decide +kernel⟩,
   ⟨((let X := ((((((((((upW.p PC_WIDTH_CFG_LEAD 5 5).p PC_QUIESCE_STATUS_STATE 0 5).p PC_LINK_STATUS_LINK_STATE 3 5).p PC_LINK_STATUS_ROLE_BOUND 1 5).p VPPB_ENTRY_KIND 1 5 2).p VPPB_ENTRY_INST 3 5 2).p INST_STATUS_STATE 1 3).p IW_BASE_VALID 1 3).p IW_LIMIT_SIZE_GIB 1 3).p PG_LO_VALID 1 5 |>.p PG_LO_P2_RWX 3 5 |>.p PG_HI_INST_ANY 1 5 |>.p PG_HI_LIMIT 0xFFFFFF 5 |>.portMod 5 (fun x => { x with decs := [(8, ⟨0x10000000, 0x80000000, 1, 256, 0⟩)] })); { X with plc := { X.plc with segs := [(0, { valid := true })] } })).p INST_STATUS_STATE 5 3, 5, { tag := 9 }, 0x10000040, .memWr false, [1], 0, false, true, 2, 0x40, 3, by decide +kernel⟩,
   ⟨((((upW.p PC_WIDTH_CFG_LEAD 5 5).p PC_QUIESCE_STATUS_STATE 0 5).p PC_LINK_STATUS_LINK_STATE 3 5).p PC_LINK_STATUS_ROLE_BOUND 1 5).p VPPB_ENTRY_KIND 2 5 2 |>.p VPPB_ENTRY_MOD 97 5 2, 5, { tag := 9 }, 2, 3, true, 0x1000, 64, [1], 97, 1, by decide +kernel⟩,
   ⟨((((upW.p PC_WIDTH_CFG_LEAD 5 5).p PC_QUIESCE_STATUS_STATE 0 5).p PC_LINK_STATUS_LINK_STATE 3 5).p PC_LINK_STATUS_ROLE_BOUND 1 5).p VPPB_ENTRY_KIND 2 5 2 |>.p VPPB_ENTRY_MOD 97 5 2, 5, { tag := 9 }, 2, 3, true, true, 0x1000, 4, [1], 97, 1, by decide +kernel⟩,
   ⟨((((((((((upW.p PC_WIDTH_CFG_LEAD 5 5).p PC_QUIESCE_STATUS_STATE 0 5).p PC_LINK_STATUS_LINK_STATE 3 5).p PC_LINK_STATUS_ROLE_BOUND 1 5).p VPPB_ENTRY_KIND 1 5 2).p VPPB_ENTRY_INST 3 5 2).p INST_STATUS_STATE 1 3).p IW_BASE_VALID 1 3).p IW_LIMIT_SIZE_GIB 1 3).p PG_LO_VALID 1 5 |>.p PG_LO_P2_RWX 3 5 |>.p PG_HI_INST_ANY 1 5 |>.p PG_HI_LIMIT 0xFFFFFF 5 |>.portMod 5 (fun x => { x with decs := [(8, ⟨0x10000000, 0x80000000, 1, 256, 0⟩)] })), 5, { tag := 9 }, 3, 0, 64, 5, { (((((((((((upW.p PC_WIDTH_CFG_LEAD 5 5).p PC_QUIESCE_STATUS_STATE 0 5).p PC_LINK_STATUS_LINK_STATE 3 5).p PC_LINK_STATUS_ROLE_BOUND 1 5).p VPPB_ENTRY_KIND 1 5 2).p VPPB_ENTRY_INST 3 5 2).p INST_STATUS_STATE 1 3).p IW_BASE_VALID 1 3).p IW_LIMIT_SIZE_GIB 1 3).p PG_LO_VALID 1 5 |>.p PG_LO_P2_RWX 3 5 |>.p PG_HI_INST_ANY 1 5 |>.p PG_HI_LIMIT 0xFFFFFF 5 |>.portMod 5 (fun x => { x with decs := [(8, ⟨0x10000000, 0x80000000, 1, 256, 0⟩)] }))).ingressTxn (5 : PortId) ({ tag := 9 } : IngressMeta) ((((((((((((upW.p PC_WIDTH_CFG_LEAD 5 5).p PC_QUIESCE_STATUS_STATE 0 5).p PC_LINK_STATUS_LINK_STATE 3 5).p PC_LINK_STATUS_ROLE_BOUND 1 5).p VPPB_ENTRY_KIND 1 5 2).p VPPB_ENTRY_INST 3 5 2).p INST_STATUS_STATE 1 3).p IW_BASE_VALID 1 3).p IW_LIMIT_SIZE_GIB 1 3).p PG_LO_VALID 1 5 |>.p PG_LO_P2_RWX 3 5 |>.p PG_HI_INST_ANY 1 5 |>.p PG_HI_LIMIT 0xFFFFFF 5 |>.portMod 5 (fun x => { x with decs := [(8, ⟨0x10000000, 0x80000000, 1, 256, 0⟩)] }))).dev * 4096 + (3 : InstId).val) .ioPosted (0 : Nat) ((64 : Nat) / 8) (leBytes ((64 : Nat) / 8) (5 : Nat)) with width := (64 : Nat) }, by decide +kernel⟩⟩

theorem witness_IngressRequests_2 :
    (∃ (s : State) (c : PortId) (im : IngressMeta) (inst : InstId) (offset : Nat) (width : Nat) (data : Nat) (u : Txn), s.up = true ∧ s.ingressOpen c (im.stream.map (·.val)) true false = true ∧ s.portState c = 0 ∧ s.g PC_LINK_STATUS_ROLE_BOUND c = 1 ∧ u = { s.ingressTxn c im (s.dev * 4096 + inst.val) .ioRead offset (width / 8) [] with width := width } ∧ (s.vppbOfInst (u.inst % 4096)).any (fun b => b.1 == c.val) = true ∧ s.penList u.inst c = [] ∧ (s.handled (meterOf u) u.len u.inst 0 (dieOf c)).1 ≠ 2) ∧
    (∃ (s : State) (c : PortId) (im : IngressMeta) (v : Fin 64) (k : Fin 4) (base : Nat) (size : Nat) (ways : Nat) (gran : Nat) (pos : Nat), s.up = true ∧ s.ingressOpen c (im.stream.map (·.val)) true true = true ∧ s.portState c = 0 ∧ s.g PC_LINK_STATUS_ROLE_BOUND c = 1 ∧ ways ≠ 0 ∧ s.hdmOk c v k ⟨base, size, ways, gran, pos⟩ = true) ∧
    (∃ (s : State) (c : PortId) (im : IngressMeta), s.up = true ∧ s.ingressOpen c (im.stream.map (·.val)) true true = true ∧ s.portState c = 0 ∧ s.g PC_LINK_STATUS_ROLE_BOUND c = 2 ∧ (s.port c).dpc = true) ∧
    (∃ (s : State) (c : PortId) (im : IngressMeta) (v : Fin 64), s.up = true ∧ s.ingressOpen c (im.stream.map (·.val)) true true = true ∧ s.portState c = 0 ∧ s.g PC_LINK_STATUS_ROLE_BOUND c = 1 ∧ s.g VPPB_ENTRY_KIND c v = 1) ∧
    (∃ (s : State) (c : PortId) (im : IngressMeta) (lane : Fin 16) (timing : Bool) (offset : Nat), s.up = true ∧ s.ingressOpen c (im.stream.map (·.val)) true true = true ∧ s.portState c = 0 ∧ s.linkUp c = true ∧ 3 ≤ s.g PC_LINK_STATUS_RATE c ∧ lane.val < s.g PC_LINK_STATUS_WIDTH_TRAINED c) :=
  ⟨⟨((((((((((upW.p PC_WIDTH_CFG_LEAD 5 5).p PC_QUIESCE_STATUS_STATE 0 5).p PC_LINK_STATUS_LINK_STATE 3 5).p PC_LINK_STATUS_ROLE_BOUND 1 5).p VPPB_ENTRY_KIND 1 5 2).p VPPB_ENTRY_INST 3 5 2).p INST_STATUS_STATE 1 3).p IW_BASE_VALID 1 3).p IW_LIMIT_SIZE_GIB 1 3).p PG_LO_VALID 1 5 |>.p PG_LO_P2_RWX 3 5 |>.p PG_HI_INST_ANY 1 5 |>.p PG_HI_LIMIT 0xFFFFFF 5 |>.portMod 5 (fun x => { x with decs := [(8, ⟨0x10000000, 0x80000000, 1, 256, 0⟩)] })), 5, { tag := 9 }, 3, 0, 64, 5, { (((((((((((upW.p PC_WIDTH_CFG_LEAD 5 5).p PC_QUIESCE_STATUS_STATE 0 5).p PC_LINK_STATUS_LINK_STATE 3 5).p PC_LINK_STATUS_ROLE_BOUND 1 5).p VPPB_ENTRY_KIND 1 5 2).p VPPB_ENTRY_INST 3 5 2).p INST_STATUS_STATE 1 3).p IW_BASE_VALID 1 3).p IW_LIMIT_SIZE_GIB 1 3).p PG_LO_VALID 1 5 |>.p PG_LO_P2_RWX 3 5 |>.p PG_HI_INST_ANY 1 5 |>.p PG_HI_LIMIT 0xFFFFFF 5 |>.portMod 5 (fun x => { x with decs := [(8, ⟨0x10000000, 0x80000000, 1, 256, 0⟩)] }))).ingressTxn (5 : PortId) ({ tag := 9 } : IngressMeta) ((((((((((((upW.p PC_WIDTH_CFG_LEAD 5 5).p PC_QUIESCE_STATUS_STATE 0 5).p PC_LINK_STATUS_LINK_STATE 3 5).p PC_LINK_STATUS_ROLE_BOUND 1 5).p VPPB_ENTRY_KIND 1 5 2).p VPPB_ENTRY_INST 3 5 2).p INST_STATUS_STATE 1 3).p IW_BASE_VALID 1 3).p IW_LIMIT_SIZE_GIB 1 3).p PG_LO_VALID 1 5 |>.p PG_LO_P2_RWX 3 5 |>.p PG_HI_INST_ANY 1 5 |>.p PG_HI_LIMIT 0xFFFFFF 5 |>.portMod 5 (fun x => { x with decs := [(8, ⟨0x10000000, 0x80000000, 1, 256, 0⟩)] }))).dev * 4096 + (3 : InstId).val) .ioRead (0 : Nat) ((64 : Nat) / 8) [] with width := (64 : Nat) }, by decide +kernel⟩,
   ⟨((((((((((upW.p PC_WIDTH_CFG_LEAD 5 5).p PC_QUIESCE_STATUS_STATE 0 5).p PC_LINK_STATUS_LINK_STATE 3 5).p PC_LINK_STATUS_ROLE_BOUND 1 5).p VPPB_ENTRY_KIND 1 5 2).p VPPB_ENTRY_INST 3 5 2).p INST_STATUS_STATE 1 3).p IW_BASE_VALID 1 3).p IW_LIMIT_SIZE_GIB 1 3).p PG_LO_VALID 1 5 |>.p PG_LO_P2_RWX 3 5 |>.p PG_HI_INST_ANY 1 5 |>.p PG_HI_LIMIT 0xFFFFFF 5 |>.portMod 5 (fun x => { x with decs := [(8, ⟨0x10000000, 0x80000000, 1, 256, 0⟩)] })), 5, { tag := 9 }, 2, 1, 0x90000000, 0x20000000, 2, 1024, 1, by decide +kernel⟩,
   ⟨((((((upW.p PC_WIDTH_CFG_LEAD 5 5).p PC_QUIESCE_STATUS_STATE 0 5).p PC_LINK_STATUS_LINK_STATE 3 5).p PC_LINK_STATUS_ROLE_BOUND 1 5).p PC_LINK_STATUS_ROLE_BOUND 2 5).portMod 5 (fun x => { x with dpc := true })), 5, { tag := 9 }, by decide +kernel⟩,
   ⟨((((((((((upW.p PC_WIDTH_CFG_LEAD 5 5).p PC_QUIESCE_STATUS_STATE 0 5).p PC_LINK_STATUS_LINK_STATE 3 5).p PC_LINK_STATUS_ROLE_BOUND 1 5).p VPPB_ENTRY_KIND 1 5 2).p VPPB_ENTRY_INST 3 5 2).p INST_STATUS_STATE 1 3).p IW_BASE_VALID 1 3).p IW_LIMIT_SIZE_GIB 1 3).p PG_LO_VALID 1 5 |>.p PG_LO_P2_RWX 3 5 |>.p PG_HI_INST_ANY 1 5 |>.p PG_HI_LIMIT 0xFFFFFF 5 |>.portMod 5 (fun x => { x with decs := [(8, ⟨0x10000000, 0x80000000, 1, 256, 0⟩)] })), 5, { tag := 9 }, 2, by decide +kernel⟩,
   ⟨((((((upW.p PC_WIDTH_CFG_LEAD 5 5).p PC_QUIESCE_STATUS_STATE 0 5).p PC_LINK_STATUS_LINK_STATE 3 5).p PC_LINK_STATUS_ROLE_BOUND 1 5).p PC_LINK_STATUS_RATE 5 5).p PC_LINK_STATUS_WIDTH_TRAINED 16 5), 5, { tag := 9 }, 2, true, 7, by decide +kernel⟩⟩

theorem witness_HomeArrivalAndActivation :
    (∃ (s : State) (id : Nat) (u : Txn), s.up = true ∧ s.txn id = some u ∧ u.place = .home ∧ u.kind ≠ .wb ∧ u.heldSync = false ∧ (s.req id).isNone = true ∧ u.parent = none ∧ s.sw.txns.any (fun e => e.2.heldSync && e.2.addr / 64 == u.addr / 64) = false ∧ (s.inSync (bits u.addr 21 32) && u.kind.writes) = false) ∧
    (∃ (s : State) (id : Nat) (u : Txn), s.up = true ∧ s.txn id = some u ∧ u.place = .home ∧ u.kind ≠ .wb ∧ u.heldSync = false ∧ (s.req id).isNone = true ∧ u.parent = none ∧ s.inSync (bits u.addr 21 32) = true ∧ u.kind.writes = true) ∧
    (∃ (s : State) (line : Nat) (r : HomeReq) (u : Txn) (l : MscLine), s.up = true ∧ s.on ISL_STATUS_CLK_PRESENT (32 + homeSlice (line * 64)) = true ∧ s.nextOfLine line = some r ∧ s.txn r.id = some u ∧ s.isDegraded r.line = false ∧ s.sfFind r.line = none ∧ u.kind = .rdCur ∧ nget? r.line s.hm.msc = some l ∧ l.poison = false ∧ s.locDead u.loc = false ∧ r.status = ST_OK ∧ r.bad = false ∧ r.fwd = false ∧ r.data = none ∧ u.dev = s.dev ∧ u.src < 128 ∧ u.dropped = false ∧ s.portState u.src ≠ 4) ∧
    (∃ (s : State) (line : Nat) (r : HomeReq) (u : Txn), s.up = true ∧ s.on ISL_STATUS_CLK_PRESENT (32 + homeSlice (line * 64)) = true ∧ s.nextOfLine line = some r ∧ s.txn r.id = some u ∧ s.isDegraded r.line = false ∧ s.sfFind r.line = none ∧ u.kind = .rdCur ∧ nget? r.line s.hm.msc = none ∧ r.status = ST_OK ∧ r.data = none) ∧
    (∃ (s : State) (line : Nat) (r : HomeReq) (u : Txn) (l : MscLine), s.up = true ∧ s.on ISL_STATUS_CLK_PRESENT (32 + homeSlice (line * 64)) = true ∧ s.nextOfLine line = some r ∧ s.txn r.id = some u ∧ s.isDegraded r.line = false ∧ s.sfFind r.line = none ∧ u.kind = .wr ∧ u.addr / 64 = r.line ∧ nget? r.line s.hm.msc = some l ∧ (s.reqLocs u).any (fun l => s.locDead l) = false ∧ r.status = ST_OK ∧ r.bad = false ∧ r.fwd = false ∧ r.data = none ∧ u.dev = s.dev ∧ u.src < 128 ∧ u.dropped = false ∧ s.portState u.src ≠ 4) ∧
    (∃ (s : State) (line : Nat) (r : HomeReq) (u : Txn) (e : SfEntry) (h : Nat), s.up = true ∧ s.on ISL_STATUS_CLK_PRESENT (32 + homeSlice (line * 64)) = true ∧ s.nextOfLine line = some r ∧ s.txn r.id = some u ∧ s.isDegraded r.line = false ∧ s.sfFind r.line = some e ∧ e.owned = true ∧ e.coarse = false ∧ e.holders = [h] ∧ r.x ≠ some h ∧ s.hm.departed = [] ∧ h / 4096 = s.dev ∧ h % 4096 < 0x80 ∧ s.portState (h % 4096) ≠ 3 ∧ (u.kind = .rdS ∨ u.kind = .rdA ∨ u.kind = .rdCur ∨ u.kind = .wr ∨ u.kind = .wrPtl)) :=
  ⟨⟨{ (upW.p ISL_STATUS_CLK_PRESENT 1 32 |>.p ISL_STATUS_CLK_PRESENT 1 33) with sw := { ((upW.p ISL_STATUS_CLK_PRESENT 1 32 |>.p ISL_STATUS_CLK_PRESENT 1 33)).sw with txns := [(7, ({ src := 5, tag := 9, dev := 0, inst := 3, cls := 0, kind := .rdCur, addr := 0x40, len := 64, place := .home } : Txn))], nextId := 20 }, hm := { ((upW.p ISL_STATUS_CLK_PRESENT 1 32 |>.p ISL_STATUS_CLK_PRESENT 1 33)).hm with nextOrder := 2 } }, 7, ({ src := 5, tag := 9, dev := 0, inst := 3, cls := 0, kind := .rdCur, addr := 0x40, len := 64, place := .home } : Txn), by decide +kernel⟩,
   ⟨let X := ({ (upW.p ISL_STATUS_CLK_PRESENT 1 32 |>.p ISL_STATUS_CLK_PRESENT 1 33) with sw := { ((upW.p ISL_STATUS_CLK_PRESENT 1 32 |>.p ISL_STATUS_CLK_PRESENT 1 33)).sw with txns := [(7, ({ src := 5, tag := 9, dev := 0, inst := 3, cls := 0, kind := .wr, addr := 0x40, len := 64, place := .home } : Txn))], nextId := 20 }, hm := { ((upW.p ISL_STATUS_CLK_PRESENT 1 32 |>.p ISL_STATUS_CLK_PRESENT 1 33)).hm with nextOrder := 2 } }); { X with plc := { X.plc with migs := [(0, { page := 0, tag := 0, inst := 0, state := 3, srcSet := 0, srcSo := 0, dstSet := 1, dstSo := 0 })] } }, 7, ({ src := 5, tag := 9, dev := 0, inst := 3, cls := 0, kind := .wr, addr := 0x40, len := 64, place := .home } : Txn), by decide +kernel⟩,
   ⟨{ (upW.p ISL_STATUS_CLK_PRESENT 1 32 |>.p ISL_STATUS_CLK_PRESENT 1 33) with sw := { ((upW.p ISL_STATUS_CLK_PRESENT 1 32 |>.p ISL_STATUS_CLK_PRESENT 1 33)).sw with txns := [(7, ({ src := 5, tag := 9, dev := 0, inst := 3, cls := 0, kind := .rdCur, addr := 0x40, len := 64, place := .home } : Txn))], nextId := 20 }, hm := { ((upW.p ISL_STATUS_CLK_PRESENT 1 32 |>.p ISL_STATUS_CLK_PRESENT 1 33)).hm with nextOrder := 2, reqs := [(7, ({ id := 7, line := 1, order := 1 } : HomeReq))], msc := [(1, ⟨[4], false, false⟩)] } }, 1, ({ id := 7, line := 1, order := 1 } : HomeReq), ({ src := 5, tag := 9, dev := 0, inst := 3, cls := 0, kind := .rdCur, addr := 0x40, len := 64, place := .home } : Txn), ⟨[4], false, false⟩, by decide +kernel⟩,
   ⟨{ (upW.p ISL_STATUS_CLK_PRESENT 1 32 |>.p ISL_STATUS_CLK_PRESENT 1 33) with sw := { ((upW.p ISL_STATUS_CLK_PRESENT 1 32 |>.p ISL_STATUS_CLK_PRESENT 1 33)).sw with txns := [(7, ({ src := 5, tag := 9, dev := 0, inst := 3, cls := 0, kind := .rdCur, addr := 0x40, len := 64, place := .home } : Txn))], nextId := 20 }, hm := { ((upW.p ISL_STATUS_CLK_PRESENT 1 32 |>.p ISL_STATUS_CLK_PRESENT 1 33)).hm with nextOrder := 2, reqs := [(7, ({ id := 7, line := 1, order := 1 } : HomeReq))] } }, 1, ({ id := 7, line := 1, order := 1 } : HomeReq), ({ src := 5, tag := 9, dev := 0, inst := 3, cls := 0, kind := .rdCur, addr := 0x40, len := 64, place := .home } : Txn), by decide +kernel⟩,
   ⟨{ (upW.p ISL_STATUS_CLK_PRESENT 1 32 |>.p ISL_STATUS_CLK_PRESENT 1 33) with sw := { ((upW.p ISL_STATUS_CLK_PRESENT 1 32 |>.p ISL_STATUS_CLK_PRESENT 1 33)).sw with txns := [(7, ({ src := 5, tag := 9, dev := 0, inst := 3, cls := 0, kind := .wr, addr := 0x40, len := 64, place := .home, data := [8] } : Txn))], nextId := 20 }, hm := { ((upW.p ISL_STATUS_CLK_PRESENT 1 32 |>.p ISL_STATUS_CLK_PRESENT 1 33)).hm with nextOrder := 2, reqs := [(7, ({ id := 7, line := 1, order := 1 } : HomeReq))], msc := [(1, ⟨[4], false, false⟩)] } }, 1, ({ id := 7, line := 1, order := 1 } : HomeReq), ({ src := 5, tag := 9, dev := 0, inst := 3, cls := 0, kind := .wr, addr := 0x40, len := 64, place := .home, data := [8] } : Txn), ⟨[4], false, false⟩, by decide +kernel⟩,
   ⟨{ (upW.p ISL_STATUS_CLK_PRESENT 1 32 |>.p ISL_STATUS_CLK_PRESENT 1 33 |>.p PC_WIDTH_CFG_LEAD 6 6 |>.p PC_QUIESCE_STATUS_STATE 0 6) with sw := { ((upW.p ISL_STATUS_CLK_PRESENT 1 32 |>.p ISL_STATUS_CLK_PRESENT 1 33 |>.p PC_WIDTH_CFG_LEAD 6 6 |>.p PC_QUIESCE_STATUS_STATE 0 6)).sw with txns := [(7, ({ src := 5, tag := 9, dev := 0, inst := 3, cls := 0, kind := .rdS, addr := 0x40, len := 64, place := .home } : Txn))], nextId := 20 }, hm := { ((upW.p ISL_STATUS_CLK_PRESENT 1 32 |>.p ISL_STATUS_CLK_PRESENT 1 33 |>.p PC_WIDTH_CFG_LEAD 6 6 |>.p PC_QUIESCE_STATUS_STATE 0 6)).hm with nextOrder := 2, reqs := [(7, ({ id := 7, line := 1, order := 1 } : HomeReq))], sf := [(sfKey 1, [{ line := 1, owned := true, holders := [6] }])] } }, 1, ({ id := 7, line := 1, order := 1 } : HomeReq), ({ src := 5, tag := 9, dev := 0, inst := 3, cls := 0, kind := .rdS, addr := 0x40, len := 64, place := .home } : Txn), { line := 1, owned := true, holders := [6] }, 6, by decide +kernel⟩⟩

theorem witness_HomeSnoopAnswers_1 :
    (∃ (s : State) (holder : Fin 16384) (line : Nat) (kept : Bool) (r : HomeReq) (sn : SnoopOut) (u : Txn) (d : List Byte) (x : Nat), s.up = true ∧ holder.val / 4096 = s.dev ∧ holder.val % 4096 < 0x80 ∧ s.hm.answers.find? (fun a => a.holder == holder.val && a.line == line) = none ∧ s.homeDev line = s.dev ∧ s.snoopOwner holder line = some (r, sn) ∧ r.rebuild = false ∧ r.snoops.filter (· != sn) = [] ∧ r.phase = .snoops ∧ s.txn r.id = some u ∧ u.kind = .rdA ∧ r.data = some d ∧ r.bad = false ∧ r.status = ST_OK ∧ r.fwd = false ∧ r.x = some x ∧ s.isDegraded r.line = false ∧ u.dev = s.dev ∧ u.src < 128 ∧ u.dropped = false ∧ s.portState u.src ≠ 4) ∧
    (∃ (s : State) (holder : Fin 16384) (line : Nat) (kept : Bool) (r : HomeReq) (sn : SnoopOut), s.up = true ∧ holder.val / 4096 = s.dev ∧ holder.val % 4096 < 0x80 ∧ s.hm.answers.find? (fun a => a.holder == holder.val && a.line == line) = none ∧ s.homeDev line = s.dev ∧ s.snoopOwner holder line = some (r, sn) ∧ r.rebuild = false ∧ r.snoops.filter (· != sn) ≠ []) ∧
    (∃ (s : State) (holder : Fin 16384) (line : Nat) (kept : Bool) (r : HomeReq) (sn : SnoopOut) (u : Txn) (a : HearthAns) (d : List Byte), s.up = true ∧ holder.val / 4096 = s.dev ∧ s.hm.answers.find? (fun a => a.holder == holder.val && a.line == line) = some a ∧ a.data = some d ∧ s.homeDev line = s.dev ∧ s.snoopOwner holder line = some (r, sn) ∧ r.rebuild = false ∧ sn.victim = false ∧ sn.degraded = false ∧ r.snoops.filter (· != sn) = [] ∧ r.phase = .snoops ∧ s.txn r.id = some u ∧ (u.kind = .rdA ∨ u.kind = .rdCur) ∧ u.dev = s.dev ∧ a.dst = none ∧ r.status = ST_OK) ∧
    (∃ (s : State) (holder : Fin 16384) (line : Nat) (kept : Bool), s.up = true ∧ holder.val / 4096 = s.dev ∧ holder.val % 4096 < 0x80 ∧ s.hm.answers.find? (fun a => a.holder == holder.val && a.line == line) = none ∧ s.homeDev line = s.dev ∧ s.snoopOwner holder line = none ∧ s.hm.expired.any (fun x => x.holder == holder.val && x.line == line) = true) ∧
    (∃ (s : State) (holder : Fin 16384) (line : Nat) (r : HomeReq) (sn : SnoopOut), s.up = true ∧ s.snoopOwner holder line = some (r, sn) ∧ sn.owner = false ∧ sn.degraded = false ∧ r.snoops.filter (· != sn) ≠ []) ∧
    (∃ (s : State) (holder : Fin 16384) (line : Nat) (r : HomeReq) (sn : SnoopOut), s.up = true ∧ s.snoopOwner holder line = some (r, sn) ∧ sn.owner = true ∧ sn.victim = false ∧ sn.degraded = false ∧ r.data = none ∧ sn.got = false ∧ (nget? sn.line s.hm.msc).isSome = true ∧ (s.writeLocs (sn.line * 64)).any (fun l => s.locDead l) = false ∧ r.snoops.filter (· != sn) ≠ []) ∧
    (∃ (s : State) (id : Nat) (u : Txn) (r : HomeReq) (sn : SnoopOut), s.up = true ∧ s.txn id = some u ∧ u.kind = .wb ∧ u.place = .home ∧ s.snoopOwner (u.dev * 4096 + u.src) (u.addr / 64) = some (r, sn) ∧ sn.degraded = false ∧ r.rebuild = false) :=
  ⟨⟨{ (upW.p ISL_STATUS_CLK_PRESENT 1 32 |>.p ISL_STATUS_CLK_PRESENT 1 33) with sw := { ((upW.p ISL_STATUS_CLK_PRESENT 1 32 |>.p ISL_STATUS_CLK_PRESENT 1 33)).sw with txns := [(7, ({ src := 5, tag := 9, dev := 0, inst := 3, cls := 0, kind := .rdA, addr := 0x40, len := 64, place := .home } : Txn))], nextId := 20 }, hm := { ((upW.p ISL_STATUS_CLK_PRESENT 1 32 |>.p ISL_STATUS_CLK_PRESENT 1 33)).hm with nextOrder := 2, reqs := [(7, ({ id := 7, line := 1, order := 1, phase := .snoops, snoops := [{ holder := 6, kind := 0, owner := true, line := 1 }], x := some 5, data := some [3] } : HomeReq))] } }, 6, 1, false, ({ id := 7, line := 1, order := 1, phase := .snoops, snoops := [{ holder := 6, kind := 0, owner := true, line := 1 }], x := some 5, data := some [3] } : HomeReq), { holder := 6, kind := 0, owner := true, line := 1 }, ({ src := 5, tag := 9, dev := 0, inst := 3, cls := 0, kind := .rdA, addr := 0x40, len := 64, place := .home } : Txn), [3], 5, by decide +kernel⟩,
   ⟨{ (upW.p ISL_STATUS_CLK_PRESENT 1 32 |>.p ISL_STATUS_CLK_PRESENT 1 33) with sw := { ((upW.p ISL_STATUS_CLK_PRESENT 1 32 |>.p ISL_STATUS_CLK_PRESENT 1 33)).sw with txns := [(7, ({ src := 5, tag := 9, dev := 0, inst := 3, cls := 0, kind := .rdA, addr := 0x40, len := 64, place := .home } : Txn))], nextId := 20 }, hm := { ((upW.p ISL_STATUS_CLK_PRESENT 1 32 |>.p ISL_STATUS_CLK_PRESENT 1 33)).hm with nextOrder := 2, reqs := [(7, ({ id := 7, line := 1, order := 1, phase := .snoops, snoops := [{ holder := 6, kind := 0, owner := true, line := 1 }, { holder := 9, kind := 0, owner := false, line := 1 }] } : HomeReq))] } }, 6, 1, false, ({ id := 7, line := 1, order := 1, phase := .snoops, snoops := [{ holder := 6, kind := 0, owner := true, line := 1 }, { holder := 9, kind := 0, owner := false, line := 1 }] } : HomeReq), { holder := 6, kind := 0, owner := true, line := 1 }, by decide +kernel⟩,
   ⟨{ (upW.p ISL_STATUS_CLK_PRESENT 1 32 |>.p ISL_STATUS_CLK_PRESENT 1 33) with sw := { ((upW.p ISL_STATUS_CLK_PRESENT 1 32 |>.p ISL_STATUS_CLK_PRESENT 1 33)).sw with txns := [(7, ({ src := 5, tag := 9, dev := 0, inst := 3, cls := 0, kind := .rdCur, addr := 0x40, len := 64, place := .home } : Txn))], nextId := 20 }, hm := { ((upW.p ISL_STATUS_CLK_PRESENT 1 32 |>.p ISL_STATUS_CLK_PRESENT 1 33)).hm with nextOrder := 2, reqs := [(7, ({ id := 7, line := 1, order := 1, phase := .snoops, snoops := [{ holder := 0x83, kind := 2, owner := true, line := 1 }], x := some 5 } : HomeReq))], answers := [{ holder := 0x83, line := 1, data := some [3], poison := false, kept := true }] } }, 0x83, 1, false, ({ id := 7, line := 1, order := 1, phase := .snoops, snoops := [{ holder := 0x83, kind := 2, owner := true, line := 1 }], x := some 5 } : HomeReq), { holder := 0x83, kind := 2, owner := true, line := 1 }, ({ src := 5, tag := 9, dev := 0, inst := 3, cls := 0, kind := .rdCur, addr := 0x40, len := 64, place := .home } : Txn), { holder := 0x83, line := 1, data := some [3], poison := false, kept := true }, [3], by decide +kernel⟩,
   ⟨{ (upW.p ISL_STATUS_CLK_PRESENT 1 32 |>.p ISL_STATUS_CLK_PRESENT 1 33) with sw := { ((upW.p ISL_STATUS_CLK_PRESENT 1 32 |>.p ISL_STATUS_CLK_PRESENT 1 33)).sw with txns := [], nextId := 20 }, hm := { ((upW.p ISL_STATUS_CLK_PRESENT 1 32 |>.p ISL_STATUS_CLK_PRESENT 1 33)).hm with nextOrder := 2, expired := [{ holder := 6, kind := 0, owner := true, line := 1 }] } }, 6, 1, false, by decide +kernel⟩,
   ⟨{ (upW.p ISL_STATUS_CLK_PRESENT 1 32 |>.p ISL_STATUS_CLK_PRESENT 1 33) with sw := { ((upW.p ISL_STATUS_CLK_PRESENT 1 32 |>.p ISL_STATUS_CLK_PRESENT 1 33)).sw with txns := [(7, ({ src := 5, tag := 9, dev := 0, inst := 3, cls := 0, kind := .rdA, addr := 0x40, len := 64, place := .home } : Txn))], nextId := 20 }, hm := { ((upW.p ISL_STATUS_CLK_PRESENT 1 32 |>.p ISL_STATUS_CLK_PRESENT 1 33)).hm with nextOrder := 2, reqs := [(7, ({ id := 7, line := 1, order := 1, phase := .snoops, snoops := [{ holder := 9, kind := 0, owner := false, line := 1 }, { holder := 6, kind := 0, owner := true, line := 1 }] } : HomeReq))] } }, 9, 1, ({ id := 7, line := 1, order := 1, phase := .snoops, snoops := [{ holder := 9, kind := 0, owner := false, line := 1 }, { holder := 6, kind := 0, owner := true, line := 1 }] } : HomeReq), { holder := 9, kind := 0, owner := false, line := 1 }, by decide +kernel⟩,
   ⟨{ (upW.p ISL_STATUS_CLK_PRESENT 1 32 |>.p ISL_STATUS_CLK_PRESENT 1 33) with sw := { ((upW.p ISL_STATUS_CLK_PRESENT 1 32 |>.p ISL_STATUS_CLK_PRESENT 1 33)).sw with txns := [(7, ({ src := 5, tag := 9, dev := 0, inst := 3, cls := 0, kind := .rdA, addr := 0x40, len := 64, place := .home } : Txn))], nextId := 20 }, hm := { ((upW.p ISL_STATUS_CLK_PRESENT 1 32 |>.p ISL_STATUS_CLK_PRESENT 1 33)).hm with nextOrder := 2, reqs := [(7, ({ id := 7, line := 1, order := 1, phase := .snoops, snoops := [{ holder := 9, kind := 0, owner := false, line := 1 }, { holder := 6, kind := 0, owner := true, line := 1 }] } : HomeReq))], msc := [(1, ⟨[4], false, false⟩)] } }, 6, 1, ({ id := 7, line := 1, order := 1, phase := .snoops, snoops := [{ holder := 9, kind := 0, owner := false, line := 1 }, { holder := 6, kind := 0, owner := true, line := 1 }] } : HomeReq), { holder := 6, kind := 0, owner := true, line := 1 }, by decide +kernel⟩,
   ⟨{ (upW.p ISL_STATUS_CLK_PRESENT 1 32 |>.p ISL_STATUS_CLK_PRESENT 1 33) with sw := { ((upW.p ISL_STATUS_CLK_PRESENT 1 32 |>.p ISL_STATUS_CLK_PRESENT 1 33)).sw with txns := [(8, ({ src := 6, tag := 9, dev := 0, inst := 3, cls := 0, kind := .wb, addr := 0x40, len := 64, place := .home, data := [5] } : Txn))], nextId := 20 }, hm := { ((upW.p ISL_STATUS_CLK_PRESENT 1 32 |>.p ISL_STATUS_CLK_PRESENT 1 33)).hm with nextOrder := 2, reqs := [(7, ({ id := 7, line := 1, order := 1, phase := .snoops, snoops := [{ holder := 6, kind := 0, owner := true, line := 1 }], x := some 5, data := some [3] } : HomeReq))] } }, 8, ({ src := 6, tag := 9, dev := 0, inst := 3, cls := 0, kind := .wb, addr := 0x40, len := 64, place := .home, data := [5] } : Txn), ({ id := 7, line := 1, order := 1, phase := .snoops, snoops := [{ holder := 6, kind := 0, owner := true, line := 1 }], x := some 5, data := some [3] } : HomeReq), { holder := 6, kind := 0, owner := true, line := 1 }, by decide +kernel⟩⟩

theorem witness_HomeSnoopAnswers_2 :
    (∃ (s : State) (id : Nat) (u : Txn) (e : SfEntry), s.up = true ∧ s.txn id = some u ∧ u.kind = .wb ∧ u.place = .home ∧ s.snoopOwner (u.dev * 4096 + u.src) (u.addr / 64) = none ∧ s.sfFind (u.addr / 64) = some e ∧ e.owned = true ∧ e.holders.contains (u.dev * 4096 + u.src) = true ∧ s.isDegraded (u.addr / 64) = false ∧ (nget? (u.addr / 64) s.hm.msc).isSome = true ∧ (s.reqLocs u).any (fun l => s.locDead l) = false) ∧
    (∃ (s : State) (id : Nat) (u : Txn), s.up = true ∧ s.txn id = some u ∧ u.kind = .wb ∧ u.place = .home ∧ s.snoopOwner (u.dev * 4096 + u.src) (u.addr / 64) = none ∧ s.sfFind (u.addr / 64) = none ∧ s.isDegraded (u.addr / 64) = false) ∧
    (∃ (s : State) (h : HearthId) (line : Nat) (e : SfEntry), s.up = true ∧ s.hm.notices.contains (h.val, line) = true ∧ s.homeDev line = s.dev ∧ s.sfFind line = some e ∧ e.coarse = false) ∧
    (∃ (s : State) (c : PortId) (tag : Nat), s.up = true ∧ s.portState c ≠ 3 ∧ s.portState c ≠ 4) ∧
    (∃ (s : State) (id : Nat) (r : HomeReq), s.up = true ∧ s.req id = some r ∧ r.id = id ∧ r.fwd = true ∧ r.granted = false) ∧
    (∃ (s : State) (id : Nat) (r : HomeReq) (u : Txn), s.up = true ∧ s.req id = some r ∧ r.id = id ∧ r.phase = .granting ∧ r.arrived = true ∧ s.txn id = some u ∧ r.status = ST_OK ∧ u.kind ≠ .ioPosted ∧ u.dev = s.dev ∧ u.src < 128 ∧ u.dropped = false ∧ s.portState u.src ≠ 4) ∧
    (∃ (s : State) (id : Nat) (r : HomeReq), s.up = true ∧ s.req id = some r ∧ r.id = id ∧ r.phase = .granting ∧ r.arrived = false ∧ r.status = ST_OK) :=
  ⟨⟨{ (upW.p ISL_STATUS_CLK_PRESENT 1 32 |>.p ISL_STATUS_CLK_PRESENT 1 33) with sw := { ((upW.p ISL_STATUS_CLK_PRESENT 1 32 |>.p ISL_STATUS_CLK_PRESENT 1 33)).sw with txns := [(8, ({ src := 6, tag := 9, dev := 0, inst := 3, cls := 0, kind := .wb, addr := 0x40, len := 64, place := .home, data := [5] } : Txn))], nextId := 20 }, hm := { ((upW.p ISL_STATUS_CLK_PRESENT 1 32 |>.p ISL_STATUS_CLK_PRESENT 1 33)).hm with nextOrder := 2, sf := [(sfKey 1, [{ line := 1, owned := true, holders := [6] }])], msc := [(1, ⟨[4], false, false⟩)] } }, 8, ({ src := 6, tag := 9, dev := 0, inst := 3, cls := 0, kind := .wb, addr := 0x40, len := 64, place := .home, data := [5] } : Txn), { line := 1, owned := true, holders := [6] }, by decide +kernel⟩,
   ⟨{ (upW.p ISL_STATUS_CLK_PRESENT 1 32 |>.p ISL_STATUS_CLK_PRESENT 1 33) with sw := { ((upW.p ISL_STATUS_CLK_PRESENT 1 32 |>.p ISL_STATUS_CLK_PRESENT 1 33)).sw with txns := [(8, ({ src := 6, tag := 9, dev := 0, inst := 3, cls := 0, kind := .wb, addr := 0x40, len := 64, place := .home, data := [5] } : Txn))], nextId := 20 }, hm := { ((upW.p ISL_STATUS_CLK_PRESENT 1 32 |>.p ISL_STATUS_CLK_PRESENT 1 33)).hm with nextOrder := 2 } }, 8, ({ src := 6, tag := 9, dev := 0, inst := 3, cls := 0, kind := .wb, addr := 0x40, len := 64, place := .home, data := [5] } : Txn), by decide +kernel⟩,
   ⟨{ (upW.p ISL_STATUS_CLK_PRESENT 1 32 |>.p ISL_STATUS_CLK_PRESENT 1 33) with sw := { ((upW.p ISL_STATUS_CLK_PRESENT 1 32 |>.p ISL_STATUS_CLK_PRESENT 1 33)).sw with txns := [], nextId := 20 }, hm := { ((upW.p ISL_STATUS_CLK_PRESENT 1 32 |>.p ISL_STATUS_CLK_PRESENT 1 33)).hm with nextOrder := 2, sf := [(sfKey 1, [{ line := 1, holders := [0x83, 6] }])], notices := [(3, 1)] } }, 3, 1, { line := 1, holders := [0x83, 6] }, by decide +kernel⟩,
   ⟨((upW.p PC_WIDTH_CFG_LEAD 5 5).p PC_QUIESCE_STATUS_STATE 0 5), 5, 9, by decide +kernel⟩,
   ⟨{ (upW.p ISL_STATUS_CLK_PRESENT 1 32 |>.p ISL_STATUS_CLK_PRESENT 1 33) with sw := { ((upW.p ISL_STATUS_CLK_PRESENT 1 32 |>.p ISL_STATUS_CLK_PRESENT 1 33)).sw with txns := [(7, ({ src := 5, tag := 9, dev := 0, inst := 3, cls := 0, kind := .rdCur, addr := 0x40, len := 64, place := .home } : Txn))], nextId := 20 }, hm := { ((upW.p ISL_STATUS_CLK_PRESENT 1 32 |>.p ISL_STATUS_CLK_PRESENT 1 33)).hm with nextOrder := 2, reqs := [(7, ({ id := 7, line := 1, order := 1, phase := .granting, fwd := true, data := some [3] } : HomeReq))] } }, 7, ({ id := 7, line := 1, order := 1, phase := .granting, fwd := true, data := some [3] } : HomeReq), by decide +kernel⟩,
   ⟨{ (upW.p ISL_STATUS_CLK_PRESENT 1 32 |>.p ISL_STATUS_CLK_PRESENT 1 33) with sw := { ((upW.p ISL_STATUS_CLK_PRESENT 1 32 |>.p ISL_STATUS_CLK_PRESENT 1 33)).sw with txns := [(7, ({ src := 5, tag := 9, dev := 0, inst := 3, cls := 0, kind := .rdCur, addr := 0x40, len := 64, place := .home } : Txn))], nextId := 20 }, hm := { ((upW.p ISL_STATUS_CLK_PRESENT 1 32 |>.p ISL_STATUS_CLK_PRESENT 1 33)).hm with nextOrder := 2, reqs := [(7, ({ id := 7, line := 1, order := 1, phase := .granting, fwd := true, data := some [3], arrived := true } : HomeReq))] } }, 7, ({ id := 7, line := 1, order := 1, phase := .granting, fwd := true, data := some [3], arrived := true } : HomeReq), ({ src := 5, tag := 9, dev := 0, inst := 3, cls := 0, kind := .rdCur, addr := 0x40, len := 64, place := .home } : Txn), by decide +kernel⟩,
   ⟨{ (upW.p ISL_STATUS_CLK_PRESENT 1 32 |>.p ISL_STATUS_CLK_PRESENT 1 33) with sw := { ((upW.p ISL_STATUS_CLK_PRESENT 1 32 |>.p ISL_STATUS_CLK_PRESENT 1 33)).sw with txns := [(7, ({ src := 5, tag := 9, dev := 0, inst := 3, cls := 0, kind := .rdCur, addr := 0x40, len := 64, place := .home } : Txn))], nextId := 20 }, hm := { ((upW.p ISL_STATUS_CLK_PRESENT 1 32 |>.p ISL_STATUS_CLK_PRESENT 1 33)).hm with nextOrder := 2, reqs := [(7, ({ id := 7, line := 1, order := 1, phase := .granting, fwd := true, data := some [3] } : HomeReq))] } }, 7, ({ id := 7, line := 1, order := 1, phase := .granting, fwd := true, data := some [3] } : HomeReq), by decide +kernel⟩⟩

theorem witness_HomeModuleAccesses :
    (∃ (s : State) (id : Nat) (data : List Byte) (poison : Bool) (u : Txn) (v : Txn) (c : Nat) (p : Nat) (r : HomeReq), s.up = true ∧ s.portState v.src ≠ 4 ∧ s.txn id = some u ∧ u.place = .sent c ∧ s.loopPeer c = none ∧ u.parent = some p ∧ p ≠ id ∧ s.req p = some r ∧ r.id = p ∧ s.txn p = some v ∧ v.dev = s.dev ∧ v.src < 128 ∧ v.dropped = false ∧ r.status = ST_OK ∧ r.fwd = false ∧ u.kind = .modRead ∧ r.phase = .reading ∧ v.kind = .rdCur ∧ s.on HOME_CFG_MSC_EN = false) ∧
    (∃ (s : State) (id : Nat) (data : List Byte) (poison : Bool) (u : Txn) (v : Txn) (c : Nat) (p : Nat) (r : HomeReq), s.up = true ∧ s.portState v.src ≠ 4 ∧ s.txn id = some u ∧ u.place = .sent c ∧ s.loopPeer c = none ∧ u.parent = some p ∧ p ≠ id ∧ s.req p = some r ∧ r.id = p ∧ s.txn p = some v ∧ v.dev = s.dev ∧ v.src < 128 ∧ v.dropped = false ∧ r.status = ST_OK ∧ r.fwd = false ∧ u.kind = .modWrite ∧ r.phase = .writing ∧ v.kind = .wr ∧ r.mods = [id]) ∧
    (∃ (s : State) (id : Nat) (u : Txn) (v : Txn) (p : Nat) (r : HomeReq), s.up = true ∧ s.portState v.src ≠ 4 ∧ s.txn id = some u ∧ u.parent = some p ∧ p ≠ id ∧ s.req p = some r ∧ r.id = p ∧ s.txn p = some v ∧ v.dev = s.dev ∧ v.src < 128 ∧ v.dropped = false ∧ r.status = ST_OK ∧ r.fwd = false ∧ u.kind = .modRead ∧ r.phase = .reading ∧ v.kind = .rdCur) ∧
    (∃ (s : State) (k : Fin 4096) (m : Migration), s.up = true ∧ nget? k.val s.plc.migs = some m ∧ m.state ≠ 4 ∧ s.hbmUp = true) :=
  ⟨⟨{ (upW.p HOME_CFG_MSC_EN 0) with sw := { ((upW.p HOME_CFG_MSC_EN 0)).sw with txns := [(7, ({ src := 5, tag := 9, dev := 0, inst := 3, cls := 0, kind := .rdCur, addr := 0x40, len := 64, place := .home } : Txn)), (8, ({ src := 0x90, tag := 9, dev := 0, inst := 3, cls := 0, kind := .modRead, addr := 0x40, len := 64, place := .sent 4, parent := some 7 } : Txn))], nextId := 20 }, hm := { ((upW.p HOME_CFG_MSC_EN 0)).hm with nextOrder := 2, reqs := [(7, ({ id := 7, line := 1, order := 1, phase := .reading, mods := [8] } : HomeReq))] } }, 8, [5], false, ({ src := 0x90, tag := 9, dev := 0, inst := 3, cls := 0, kind := .modRead, addr := 0x40, len := 64, place := .sent 4, parent := some 7 } : Txn), ({ src := 5, tag := 9, dev := 0, inst := 3, cls := 0, kind := .rdCur, addr := 0x40, len := 64, place := .home } : Txn), 4, 7, ({ id := 7, line := 1, order := 1, phase := .reading, mods := [8] } : HomeReq), by decide +kernel⟩,
   ⟨{ (upW.p ISL_STATUS_CLK_PRESENT 1 32 |>.p ISL_STATUS_CLK_PRESENT 1 33) with sw := { ((upW.p ISL_STATUS_CLK_PRESENT 1 32 |>.p ISL_STATUS_CLK_PRESENT 1 33)).sw with txns := [(7, ({ src := 5, tag := 9, dev := 0, inst := 3, cls := 0, kind := .wr, addr := 0x40, len := 64, place := .home } : Txn)), (8, ({ src := 0x90, tag := 9, dev := 0, inst := 3, cls := 0, kind := .modWrite, addr := 0x40, len := 64, place := .sent 4, parent := some 7 } : Txn))], nextId := 20 }, hm := { ((upW.p ISL_STATUS_CLK_PRESENT 1 32 |>.p ISL_STATUS_CLK_PRESENT 1 33)).hm with nextOrder := 2, reqs := [(7, ({ id := 7, line := 1, order := 1, phase := .writing, mods := [8] } : HomeReq))] } }, 8, [], false, ({ src := 0x90, tag := 9, dev := 0, inst := 3, cls := 0, kind := .modWrite, addr := 0x40, len := 64, place := .sent 4, parent := some 7 } : Txn), ({ src := 5, tag := 9, dev := 0, inst := 3, cls := 0, kind := .wr, addr := 0x40, len := 64, place := .home } : Txn), 4, 7, ({ id := 7, line := 1, order := 1, phase := .writing, mods := [8] } : HomeReq), by decide +kernel⟩,
   ⟨{ (upW.p ISL_STATUS_CLK_PRESENT 1 32 |>.p ISL_STATUS_CLK_PRESENT 1 33) with sw := { ((upW.p ISL_STATUS_CLK_PRESENT 1 32 |>.p ISL_STATUS_CLK_PRESENT 1 33)).sw with txns := [(7, ({ src := 5, tag := 9, dev := 0, inst := 3, cls := 0, kind := .rdCur, addr := 0x40, len := 64, place := .home } : Txn)), (8, ({ src := 0x90, tag := 9, dev := 0, inst := 3, cls := 0, kind := .modRead, addr := 0x40, len := 64, place := .sent 4, parent := some 7 } : Txn))], nextId := 20 }, hm := { ((upW.p ISL_STATUS_CLK_PRESENT 1 32 |>.p ISL_STATUS_CLK_PRESENT 1 33)).hm with nextOrder := 2, reqs := [(7, ({ id := 7, line := 1, order := 1, phase := .reading, mods := [8] } : HomeReq))] } }, 8, ({ src := 0x90, tag := 9, dev := 0, inst := 3, cls := 0, kind := .modRead, addr := 0x40, len := 64, place := .sent 4, parent := some 7 } : Txn), ({ src := 5, tag := 9, dev := 0, inst := 3, cls := 0, kind := .rdCur, addr := 0x40, len := 64, place := .home } : Txn), 7, ({ id := 7, line := 1, order := 1, phase := .reading, mods := [8] } : HomeReq), by decide +kernel⟩,
   ⟨{ upW with plc := { upW.plc with migs := [(4, { page := 9, tag := 0, inst := 0, state := 1, srcSet := 0, srcSo := 0, dstSet := 1, dstSo := 0 })] } }, 4, { page := 9, tag := 0, inst := 0, state := 1, srcSet := 0, srcSo := 0, dstSet := 1, dstSo := 0 }, by decide +kernel⟩⟩

theorem witness_HomeErrorsProbeAndFlush_1 :
    (∃ (s : State) (slice : SliceId) (set : Fin 33554432), s.up = true) ∧
    (∃ (s : State) (slice : SliceId) (set : Fin 33554432), s.up = true ∧ s.hm.degraded.contains (slice.val * 2 ^ 25 + set.val) = false ∧ s.on HOME_SLICE_STATUS_DEGRADED_ALL slice = false ∧ (s.hm.degraded.filter (fun k => k / 2 ^ 25 == slice.val)).length < 64) ∧
    (∃ (s : State) (slice : SliceId) (set : Fin 33554432), s.up = true ∧ s.hm.degraded.contains (slice.val * 2 ^ 25 + set.val) = false ∧ s.on HOME_SLICE_STATUS_DEGRADED_ALL slice = false ∧ 64 ≤ (s.hm.degraded.filter (fun k => k / 2 ^ 25 == slice.val)).length) ∧
    (∃ (s : State) (line : Nat) (l : MscLine), s.up = true ∧ nget? line s.hm.msc = some l) ∧
    (∃ (s : State) (line : Nat) (l : MscLine) (q : Loc), s.up = true ∧ nget? line s.hm.msc = some l ∧ l.dirty = false ∧ s.resolve (line * 64) = some q ∧ s.locDead (s.locAt q.set q.so) = false) ∧
    (∃ (s : State) (line : Nat) (l : MscLine), s.up = true ∧ nget? line s.hm.msc = some l ∧ l.dirty = true) ∧
    (∃ (s : State) (m : Master), s.up = true ∧ s.accepts m .SF_PROBE_CTRL 0 = true) :=
  ⟨⟨upW, 1, 33554431, by decide +kernel⟩,
   ⟨upW, 1, 33554431, by decide +kernel⟩,
   ⟨{ (upW.p ISL_STATUS_CLK_PRESENT 1 32 |>.p ISL_STATUS_CLK_PRESENT 1 33) with sw := { ((upW.p ISL_STATUS_CLK_PRESENT 1 32 |>.p ISL_STATUS_CLK_PRESENT 1 33)).sw with txns := [], nextId := 20 }, hm := { ((upW.p ISL_STATUS_CLK_PRESENT 1 32 |>.p ISL_STATUS_CLK_PRESENT 1 33)).hm with nextOrder := 2, degraded := List.range 64 } }, 0, 70, by decide +kernel⟩,
   ⟨{ (upW.p ISL_STATUS_CLK_PRESENT 1 32 |>.p ISL_STATUS_CLK_PRESENT 1 33) with sw := { ((upW.p ISL_STATUS_CLK_PRESENT 1 32 |>.p ISL_STATUS_CLK_PRESENT 1 33)).sw with txns := [], nextId := 20 }, hm := { ((upW.p ISL_STATUS_CLK_PRESENT 1 32 |>.p ISL_STATUS_CLK_PRESENT 1 33)).hm with nextOrder := 2, msc := [(1, ⟨[4], true, false⟩)] } }, 1, ⟨[4], true, false⟩, by decide +kernel⟩,
   ⟨let X := { (upW.p ISL_STATUS_CLK_PRESENT 1 32 |>.p ISL_STATUS_CLK_PRESENT 1 33) with sw := { ((upW.p ISL_STATUS_CLK_PRESENT 1 32 |>.p ISL_STATUS_CLK_PRESENT 1 33)).sw with txns := [], nextId := 20 }, hm := { ((upW.p ISL_STATUS_CLK_PRESENT 1 32 |>.p ISL_STATUS_CLK_PRESENT 1 33)).hm with nextOrder := 2, msc := [(1, ⟨[4], false, false⟩)] } }; { X with plc := { X.plc with segs := [(0, { valid := true })] } }, 1, ⟨[4], false, false⟩, ((let X := { (upW.p ISL_STATUS_CLK_PRESENT 1 32 |>.p ISL_STATUS_CLK_PRESENT 1 33) with sw := { ((upW.p ISL_STATUS_CLK_PRESENT 1 32 |>.p ISL_STATUS_CLK_PRESENT 1 33)).sw with txns := [], nextId := 20 }, hm := { ((upW.p ISL_STATUS_CLK_PRESENT 1 32 |>.p ISL_STATUS_CLK_PRESENT 1 33)).hm with nextOrder := 2, msc := [(1, ⟨[4], false, false⟩)] } }; { X with plc := { X.plc with segs := [(0, { valid := true })] } }).resolve 64).getD ⟨0, 0, 0⟩, by decide +kernel⟩,
   ⟨{ (upW.p ISL_STATUS_CLK_PRESENT 1 32 |>.p ISL_STATUS_CLK_PRESENT 1 33) with sw := { ((upW.p ISL_STATUS_CLK_PRESENT 1 32 |>.p ISL_STATUS_CLK_PRESENT 1 33)).sw with txns := [], nextId := 20 }, hm := { ((upW.p ISL_STATUS_CLK_PRESENT 1 32 |>.p ISL_STATUS_CLK_PRESENT 1 33)).hm with nextOrder := 2, msc := [(1, ⟨[4], true, false⟩)] } }, 1, ⟨[4], true, false⟩, by decide +kernel⟩,
   ⟨{ (upW.p SF_PROBE_CTRL_LINE 1) with sw := { ((upW.p SF_PROBE_CTRL_LINE 1)).sw with txns := [], nextId := 20 }, hm := { ((upW.p SF_PROBE_CTRL_LINE 1)).hm with nextOrder := 2, sf := [(sfKey 1, [{ line := 1, owned := true, holders := [6] }])] } }, .device, by decide +kernel⟩⟩

theorem witness_HomeErrorsProbeAndFlush_2 :
    (∃ (s : State) (m : Master), s.up = true ∧ s.accepts m .SF_PROBE_CTRL 0 = true ∧ s.isDegraded (s.g SF_PROBE_CTRL_LINE) = true ∧ s.hm.reqs.any (fun e => e.2.rebuild) = false) ∧
    (∃ (s : State) (m : Master), s.up = true ∧ s.accepts m .SF_PROBE_CTRL 0 = true ∧ s.isDegraded (s.g SF_PROBE_CTRL_LINE) = false) ∧
    (∃ (s : State) (e : Nat × HomeReq), s.up = true ∧ s.hm.reqs.find? (fun e => e.2.rebuild && e.2.snoops == []) = some e) ∧
    (∃ (s : State) (m : Master), s.up = true ∧ s.accepts m .MSC_CTRL 0 = true ∧ s.on MSC_CTRL_FLUSH_BUSY = false ∧ nsorted s.hm.msc = true) ∧
    (∃ (s : State) (m : Master), s.up = true ∧ s.accepts m .MSC_CTRL 0 = true ∧ s.on MSC_CTRL_FLUSH_BUSY = true) ∧
    (∃ (s : State), s.up = true ∧ s.on MSC_CTRL_FLUSH_BUSY = true ∧ s.hm.flushIds.all (fun id => (s.txn id).isNone) = true ∧ s.pu.flushing = none ∧ s.on DMP_GSTATUS_PF_ACTIVE = false) :=
  ⟨⟨{ (upW.p SF_PROBE_CTRL_LINE 1) with sw := { ((upW.p SF_PROBE_CTRL_LINE 1)).sw with txns := [], nextId := 20 }, hm := { ((upW.p SF_PROBE_CTRL_LINE 1)).hm with nextOrder := 2, degraded := [sfKey 1] } }, .device, by decide +kernel⟩,
   ⟨upW, .device, by decide +kernel⟩,
   ⟨{ (upW.p ISL_STATUS_CLK_PRESENT 1 32 |>.p ISL_STATUS_CLK_PRESENT 1 33) with sw := { ((upW.p ISL_STATUS_CLK_PRESENT 1 32 |>.p ISL_STATUS_CLK_PRESENT 1 33)).sw with txns := [], nextId := 20 }, hm := { ((upW.p ISL_STATUS_CLK_PRESENT 1 32 |>.p ISL_STATUS_CLK_PRESENT 1 33)).hm with nextOrder := 2, reqs := [(7, ({ id := 7, line := 1, order := 1, phase := .snoops, rebuild := true } : HomeReq))], degraded := [sfKey 1] } }, (7, ({ id := 7, line := 1, order := 1, phase := .snoops, rebuild := true } : HomeReq)), by decide +kernel⟩,
   ⟨{ (upW.p ISL_STATUS_CLK_PRESENT 1 32 |>.p ISL_STATUS_CLK_PRESENT 1 33) with sw := { ((upW.p ISL_STATUS_CLK_PRESENT 1 32 |>.p ISL_STATUS_CLK_PRESENT 1 33)).sw with txns := [], nextId := 20 }, hm := { ((upW.p ISL_STATUS_CLK_PRESENT 1 32 |>.p ISL_STATUS_CLK_PRESENT 1 33)).hm with nextOrder := 2, msc := [(1, ⟨[4], true, false⟩), (2, ⟨[4], false, false⟩)] } }, .device, by decide +kernel⟩,
   ⟨upW.p MSC_CTRL_FLUSH_BUSY 1, .device, by decide +kernel⟩,
   ⟨upW.p MSC_CTRL_FLUSH_BUSY 1, by decide +kernel⟩⟩

theorem witness_MoveRequestsAndPasses_1 :
    (∃ (s : State), s.up = true ∧ s.on PLC_CTRL_RUN = true ∧ s.g PLC_REQ_IDX_PROD ≠ s.g PLC_REQ_IDX_CONS ∧ (s.g PLC_REQ_IDX_PROD + 2 ^ 32 - s.g PLC_REQ_IDX_CONS) % 2 ^ 32 ≤ 2 ^ s.g PLC_REQ_RING_REQ_LOG2 ∧ (s.g PLC_LOG_IDX_PROD + 2 ^ 32 - s.g PLC_LOG_IDX_CONS) % 2 ^ 32 + s.plc.migs.length + 1 ≤ 2 ^ s.g PLC_LOG_CFG_LOG_LOG2 ∧ s.admitCheck (s.moveReqAt (s.g PLC_REQ_RING_REQ_BASE * 32 + s.g PLC_REQ_IDX_CONS % 2 ^ s.g PLC_REQ_RING_REQ_LOG2 * 32)) = ST_OK ∧ (s.moveReqAt (s.g PLC_REQ_RING_REQ_BASE * 32 + s.g PLC_REQ_IDX_CONS % 2 ^ s.g PLC_REQ_RING_REQ_LOG2 * 32)).auto = false) ∧
    (∃ (s : State), s.up = true ∧ s.on PLC_CTRL_RUN = true ∧ s.g PLC_REQ_IDX_PROD ≠ s.g PLC_REQ_IDX_CONS ∧ (s.g PLC_REQ_IDX_PROD + 2 ^ 32 - s.g PLC_REQ_IDX_CONS) % 2 ^ 32 ≤ 2 ^ s.g PLC_REQ_RING_REQ_LOG2 ∧ (s.g PLC_LOG_IDX_PROD + 2 ^ 32 - s.g PLC_LOG_IDX_CONS) % 2 ^ 32 + s.plc.migs.length + 1 ≤ 2 ^ s.g PLC_LOG_CFG_LOG_LOG2 ∧ s.admitCheck (s.moveReqAt (s.g PLC_REQ_RING_REQ_BASE * 32 + s.g PLC_REQ_IDX_CONS % 2 ^ s.g PLC_REQ_RING_REQ_LOG2 * 32)) ≠ ST_OK ∧ s.hbmUp = true) ∧
    (∃ (s : State), s.up = true ∧ s.on PLC_CTRL_RUN = true ∧ s.g PLC_REQ_IDX_PROD ≠ s.g PLC_REQ_IDX_CONS ∧ (s.g PLC_REQ_IDX_PROD + 2 ^ 32 - s.g PLC_REQ_IDX_CONS) % 2 ^ 32 ≤ 2 ^ s.g PLC_REQ_RING_REQ_LOG2 ∧ 2 ^ s.g PLC_LOG_CFG_LOG_LOG2 < (s.g PLC_LOG_IDX_PROD + 2 ^ 32 - s.g PLC_LOG_IDX_CONS) % 2 ^ 32 + s.plc.migs.length + 1 ∧ s.plc.backpressure = false) ∧
    (∃ (s : State) (k : Fin 4096) (m : Migration) (poison : Nat) (ue : Nat), s.up = true ∧ nget? k.val s.plc.migs = some m ∧ m.state = 1 ∧ popcount32 m.dirty ≤ s.g PLC_SYNC_CFG_SYNC_SG ∧ s.g PLC_STATUS_SYNCING < s.g PLC_SYNC_CFG_SYNC_MAX) ∧
    (∃ (s : State) (k : Fin 4096) (m : Migration) (poison : Nat) (ue : Nat), s.up = true ∧ nget? k.val s.plc.migs = some m ∧ m.state = 1 ∧ popcount32 m.dirty ≤ s.g PLC_SYNC_CFG_SYNC_SG ∧ s.g PLC_SYNC_CFG_SYNC_MAX ≤ s.g PLC_STATUS_SYNCING) ∧
    (∃ (s : State) (k : Fin 4096) (m : Migration) (poison : Nat) (ue : Nat), s.up = true ∧ nget? k.val s.plc.migs = some m ∧ m.state = 1 ∧ s.g PLC_SYNC_CFG_SYNC_SG < popcount32 m.dirty ∧ m.pass < s.g PLC_SYNC_CFG_MAX_PASSES) ∧
    (∃ (s : State) (k : Fin 4096) (m : Migration) (poison : Nat) (ue : Nat), s.up = true ∧ nget? k.val s.plc.migs = some m ∧ m.state = 1 ∧ s.g PLC_SYNC_CFG_SYNC_SG < popcount32 m.dirty ∧ s.g PLC_SYNC_CFG_MAX_PASSES ≤ m.pass) :=
  ⟨⟨(let X := (((((((((upW.p PLC_CTRL_RUN 1).p PLC_REQ_IDX_PROD 1).p PLC_LOG_CFG_LOG_LOG2 8).p IW_BASE_VALID 1 3).p IW_LIMIT_SIZE_GIB 1 3).p INST_STATUS_STATE 1 3).p PLC_INST_MOVE_EN 1 3).p PLC_SET_PLACE_EN 1 1).p ILS_CFG_TGT_SIZE 1 1 |>.p PLC_LIMIT_MAX_ACTIVE 8 |>.p PLC_INST_MAX_ACTIVE_I 8 3); let Y := { X with plc := { X.plc with segs := [(0, { valid := true })] } }; Y.wr (spShared (Y.g PLC_CFG_POLICY_HEARTH)) (Y.g PLC_REQ_RING_REQ_BASE * 32) (leBytes 8 (9 + 6 * 2 ^ 32) ++ leBytes 8 (1 * 2 ^ 4 + 7 * 2 ^ 16))), by decide +kernel⟩,
   ⟨((upW.p PLC_CTRL_RUN 1).p PLC_REQ_IDX_PROD 1).p PLC_LOG_CFG_LOG_LOG2 8, by decide +kernel⟩,
   ⟨(((upW.p PLC_CTRL_RUN 1).p PLC_REQ_IDX_PROD 1).p PLC_LOG_CFG_LOG_LOG2 8).p PLC_LOG_IDX_PROD 256, by decide +kernel⟩,
   ⟨{ (((upW.p PLC_SYNC_CFG_SYNC_SG 2).p PLC_SYNC_CFG_SYNC_MAX 4).p PLC_SYNC_CFG_MAX_PASSES 3) with plc := { ((((upW.p PLC_SYNC_CFG_SYNC_SG 2).p PLC_SYNC_CFG_SYNC_MAX 4).p PLC_SYNC_CFG_MAX_PASSES 3)).plc with migs := [(4, ({ page := 9, tag := 6, inst := 3, state := 1, srcSet := 0, srcSo := 0, dstSet := 1, dstSo := 2, dirty := 3 } : Migration))] } }, 4, ({ page := 9, tag := 6, inst := 3, state := 1, srcSet := 0, srcSo := 0, dstSet := 1, dstSo := 2, dirty := 3 } : Migration), 1, 1, by decide +kernel⟩,
   ⟨{ (((upW.p PLC_SYNC_CFG_SYNC_SG 2).p PLC_SYNC_CFG_SYNC_MAX 4).p PLC_SYNC_CFG_MAX_PASSES 3).p PLC_STATUS_SYNCING 4 with plc := { ((((upW.p PLC_SYNC_CFG_SYNC_SG 2).p PLC_SYNC_CFG_SYNC_MAX 4).p PLC_SYNC_CFG_MAX_PASSES 3).p PLC_STATUS_SYNCING 4).plc with migs := [(4, ({ page := 9, tag := 6, inst := 3, state := 1, srcSet := 0, srcSo := 0, dstSet := 1, dstSo := 2, dirty := 3 } : Migration))] } }, 4, ({ page := 9, tag := 6, inst := 3, state := 1, srcSet := 0, srcSo := 0, dstSet := 1, dstSo := 2, dirty := 3 } : Migration), 1, 1, by decide +kernel⟩,
   ⟨{ (((upW.p PLC_SYNC_CFG_SYNC_SG 2).p PLC_SYNC_CFG_SYNC_MAX 4).p PLC_SYNC_CFG_MAX_PASSES 3) with plc := { ((((upW.p PLC_SYNC_CFG_SYNC_SG 2).p PLC_SYNC_CFG_SYNC_MAX 4).p PLC_SYNC_CFG_MAX_PASSES 3)).plc with migs := [(4, ({ page := 9, tag := 6, inst := 3, state := 1, srcSet := 0, srcSo := 0, dstSet := 1, dstSo := 2, dirty := 0xFF } : Migration))] } }, 4, ({ page := 9, tag := 6, inst := 3, state := 1, srcSet := 0, srcSo := 0, dstSet := 1, dstSo := 2, dirty := 0xFF } : Migration), 1, 1, by decide +kernel⟩,
   ⟨{ (((upW.p PLC_SYNC_CFG_SYNC_SG 2).p PLC_SYNC_CFG_SYNC_MAX 4).p PLC_SYNC_CFG_MAX_PASSES 3) with plc := { ((((upW.p PLC_SYNC_CFG_SYNC_SG 2).p PLC_SYNC_CFG_SYNC_MAX 4).p PLC_SYNC_CFG_MAX_PASSES 3)).plc with migs := [(4, ({ page := 9, tag := 6, inst := 3, state := 1, srcSet := 0, srcSo := 0, dstSet := 1, dstSo := 2, dirty := 0xFF, pass := 3 } : Migration))] } }, 4, ({ page := 9, tag := 6, inst := 3, state := 1, srcSet := 0, srcSo := 0, dstSet := 1, dstSo := 2, dirty := 0xFF, pass := 3 } : Migration), 1, 1, by decide +kernel⟩⟩

theorem witness_MoveRequestsAndPasses_2 :
    (∃ (s : State) (k : Fin 4096) (m : Migration) (poison : Nat) (ue : Nat), s.up = true ∧ nget? k.val s.plc.migs = some m ∧ m.state = 2 ∧ m.taken ≠ 0 ∧ s.passBlocked m = false ∧ popcount32 m.dirty ≤ s.g PLC_SYNC_CFG_SYNC_SG ∧ s.g PLC_STATUS_SYNCING < s.g PLC_SYNC_CFG_SYNC_MAX) ∧
    (∃ (s : State) (k : Fin 4096) (m : Migration) (poison : Nat) (ue : Nat), s.up = true ∧ nget? k.val s.plc.migs = some m ∧ m.state = 2 ∧ m.taken ≠ 0 ∧ s.passBlocked m = false ∧ popcount32 m.dirty ≤ s.g PLC_SYNC_CFG_SYNC_SG ∧ s.g PLC_SYNC_CFG_SYNC_MAX ≤ s.g PLC_STATUS_SYNCING) ∧
    (∃ (s : State) (k : Fin 4096) (m : Migration) (poison : Nat) (ue : Nat), s.up = true ∧ nget? k.val s.plc.migs = some m ∧ m.state = 2 ∧ m.taken ≠ 0 ∧ s.passBlocked m = false ∧ s.g PLC_SYNC_CFG_SYNC_SG < popcount32 m.dirty ∧ m.pass + 1 < s.g PLC_SYNC_CFG_MAX_PASSES) ∧
    (∃ (s : State) (k : Fin 4096) (m : Migration) (poison : Nat) (ue : Nat), s.up = true ∧ nget? k.val s.plc.migs = some m ∧ m.state = 2 ∧ m.taken ≠ 0 ∧ s.passBlocked m = false ∧ s.g PLC_SYNC_CFG_SYNC_SG < popcount32 m.dirty ∧ s.g PLC_SYNC_CFG_MAX_PASSES ≤ m.pass + 1) :=
  ⟨⟨{ (((upW.p PLC_SYNC_CFG_SYNC_SG 2).p PLC_SYNC_CFG_SYNC_MAX 4).p PLC_SYNC_CFG_MAX_PASSES 3) with plc := { ((((upW.p PLC_SYNC_CFG_SYNC_SG 2).p PLC_SYNC_CFG_SYNC_MAX 4).p PLC_SYNC_CFG_MAX_PASSES 3)).plc with migs := [(4, ({ page := 9, tag := 6, inst := 3, state := 2, srcSet := 0, srcSo := 0, dstSet := 1, dstSo := 2, taken := 0xFF, dirty := 3 } : Migration))] } }, 4, ({ page := 9, tag := 6, inst := 3, state := 2, srcSet := 0, srcSo := 0, dstSet := 1, dstSo := 2, taken := 0xFF, dirty := 3 } : Migration), 1, 1, by decide +kernel⟩,
   ⟨{ (((upW.p PLC_SYNC_CFG_SYNC_SG 2).p PLC_SYNC_CFG_SYNC_MAX 4).p PLC_SYNC_CFG_MAX_PASSES 3).p PLC_STATUS_SYNCING 4 with plc := { ((((upW.p PLC_SYNC_CFG_SYNC_SG 2).p PLC_SYNC_CFG_SYNC_MAX 4).p PLC_SYNC_CFG_MAX_PASSES 3).p PLC_STATUS_SYNCING 4).plc with migs := [(4, ({ page := 9, tag := 6, inst := 3, state := 2, srcSet := 0, srcSo := 0, dstSet := 1, dstSo := 2, taken := 0xFF, dirty := 3 } : Migration))] } }, 4, ({ page := 9, tag := 6, inst := 3, state := 2, srcSet := 0, srcSo := 0, dstSet := 1, dstSo := 2, taken := 0xFF, dirty := 3 } : Migration), 1, 1, by decide +kernel⟩,
   ⟨{ (((upW.p PLC_SYNC_CFG_SYNC_SG 2).p PLC_SYNC_CFG_SYNC_MAX 4).p PLC_SYNC_CFG_MAX_PASSES 3) with plc := { ((((upW.p PLC_SYNC_CFG_SYNC_SG 2).p PLC_SYNC_CFG_SYNC_MAX 4).p PLC_SYNC_CFG_MAX_PASSES 3)).plc with migs := [(4, ({ page := 9, tag := 6, inst := 3, state := 2, srcSet := 0, srcSo := 0, dstSet := 1, dstSo := 2, taken := 0xFF, dirty := 0xFF } : Migration))] } }, 4, ({ page := 9, tag := 6, inst := 3, state := 2, srcSet := 0, srcSo := 0, dstSet := 1, dstSo := 2, taken := 0xFF, dirty := 0xFF } : Migration), 1, 1, by decide +kernel⟩,
   ⟨{ (((upW.p PLC_SYNC_CFG_SYNC_SG 2).p PLC_SYNC_CFG_SYNC_MAX 4).p PLC_SYNC_CFG_MAX_PASSES 3) with plc := { ((((upW.p PLC_SYNC_CFG_SYNC_SG 2).p PLC_SYNC_CFG_SYNC_MAX 4).p PLC_SYNC_CFG_MAX_PASSES 3)).plc with migs := [(4, ({ page := 9, tag := 6, inst := 3, state := 2, srcSet := 0, srcSo := 0, dstSet := 1, dstSo := 2, taken := 0xFF, dirty := 0xFF, pass := 3 } : Migration))] } }, 4, ({ page := 9, tag := 6, inst := 3, state := 2, srcSet := 0, srcSo := 0, dstSet := 1, dstSo := 2, taken := 0xFF, dirty := 0xFF, pass := 3 } : Migration), 1, 1, by decide +kernel⟩⟩

theorem witness_SyncSwitchAndRelease_1 :
    (∃ (s : State) (k : Fin 4096) (m : Migration), s.up = true ∧ nget? k.val s.plc.migs = some m ∧ m.state = 3 ∧ m.drained = false ∧ s.outstanding m.page = 0) ∧
    (∃ (s : State) (k : Fin 4096) (m : Migration) (poison : Nat) (ue : Nat), s.up = true ∧ nget? k.val s.plc.migs = some m ∧ m.state = 3 ∧ m.drained = true ∧ m.ready = false ∧ m.dirty = 0 ∧ s.outstanding m.page = 0) ∧
    (∃ (s : State) (k : Fin 4096) (m : Migration) (poison : Nat) (ue : Nat), s.up = true ∧ nget? k.val s.plc.migs = some m ∧ m.state = 3 ∧ m.drained = true ∧ m.ready = false ∧ (m.dirty ≠ 0 ∨ s.outstanding m.page ≠ 0)) ∧
    (∃ (s : State) (m : Migration) (k : Nat), s.up = true ∧ s.plc.migs = [(k, m)] ∧ m.state = 3 ∧ m.ready = true ∧ s.cmt.queue = [] ∧ s.cmt.cur = none) ∧
    (∃ (s : State), s.up = true ∧ s.plc.migs.all (fun e => e.2.state != 3 || !e.2.ready) = true) ∧
    (∃ (s : State) (k : Fin 4096) (m : Migration), s.up = true ∧ nget? k.val s.plc.migs = some m ∧ m.state = 3 ∧ s.g PLC_SYNC_CFG_SYNC_TRIES ≤ m.syncs ∧ s.hbmUp = true) ∧
    (∃ (s : State) (k : Fin 4096) (m : Migration), s.up = true ∧ nget? k.val s.plc.migs = some m ∧ m.state = 3 ∧ m.syncs < s.g PLC_SYNC_CFG_SYNC_TRIES) :=
  ⟨⟨{ upW with plc := { (upW).plc with migs := [(4, ({ page := 9, tag := 6, inst := 3, state := 3, srcSet := 0, srcSo := 0, dstSet := 1, dstSo := 2, dirty := 5 } : Migration))] } }, 4, ({ page := 9, tag := 6, inst := 3, state := 3, srcSet := 0, srcSo := 0, dstSet := 1, dstSo := 2, dirty := 5 } : Migration), by decide +kernel⟩,
   ⟨{ upW with plc := { (upW).plc with migs := [(4, ({ page := 9, tag := 6, inst := 3, state := 3, srcSet := 0, srcSo := 0, dstSet := 1, dstSo := 2, drained := true, taken := 1 } : Migration))] } }, 4, ({ page := 9, tag := 6, inst := 3, state := 3, srcSet := 0, srcSo := 0, dstSet := 1, dstSo := 2, drained := true, taken := 1 } : Migration), 1, 0, by decide +kernel⟩,
   ⟨{ upW with plc := { (upW).plc with migs := [(4, ({ page := 9, tag := 6, inst := 3, state := 3, srcSet := 0, srcSo := 0, dstSet := 1, dstSo := 2, drained := true, taken := 1, dirty := 2 } : Migration))] } }, 4, ({ page := 9, tag := 6, inst := 3, state := 3, srcSet := 0, srcSo := 0, dstSet := 1, dstSo := 2, drained := true, taken := 1, dirty := 2 } : Migration), 0, 0, by decide +kernel⟩,
   ⟨{ upW with plc := { (upW).plc with migs := [(4, ({ page := 9, tag := 6, inst := 3, state := 3, srcSet := 0, srcSo := 0, dstSet := 1, dstSo := 2, drained := true, ready := true } : Migration))] } }, ({ page := 9, tag := 6, inst := 3, state := 3, srcSet := 0, srcSo := 0, dstSet := 1, dstSo := 2, drained := true, ready := true } : Migration), 4, by decide +kernel⟩,
   ⟨upW, by decide +kernel⟩,
   ⟨{ upW with plc := { (upW).plc with migs := [(4, ({ page := 9, tag := 6, inst := 3, state := 3, srcSet := 0, srcSo := 0, dstSet := 1, dstSo := 2, syncs := 15 } : Migration))] } }, 4, ({ page := 9, tag := 6, inst := 3, state := 3, srcSet := 0, srcSo := 0, dstSet := 1, dstSo := 2, syncs := 15 } : Migration), by decide +kernel⟩,
   ⟨{ (upW.p PLC_SYNC_CFG_SYNC_TRIES 3) with plc := { ((upW.p PLC_SYNC_CFG_SYNC_TRIES 3)).plc with migs := [(4, ({ page := 9, tag := 6, inst := 3, state := 3, srcSet := 0, srcSo := 0, dstSet := 1, dstSo := 2, taken := 1, dirty := 2 } : Migration))] } }, 4, ({ page := 9, tag := 6, inst := 3, state := 3, srcSet := 0, srcSo := 0, dstSet := 1, dstSo := 2, taken := 1, dirty := 2 } : Migration), by decide +kernel⟩⟩

theorem witness_SyncSwitchAndRelease_2 :
    (∃ (s : State) (k : Fin 4096) (m : Migration) (peers : List (DevId × Fin 4294967296)), s.up = true ∧ nget? k.val s.plc.migs = some m ∧ m.state = 4 ∧ epochBefore (s.tellOldest peers).oldestStack m.switchEpoch = false ∧ s.hbmUp = true) ∧
    (∃ (s : State) (set : Fin 1024) (slot : Nat) (x : Nat × Nat × Option Nat) (peers : List (DevId × Fin 4294967296)), s.up = true ∧ s.plc.zeroing.find? (fun y => y.1 == set.val && y.2.1 == slot) = some x ∧ x.2.2.all (fun e => !(epochBefore (s.tellOldest peers).oldestStack e)) = true ∧ s.sw.txns.any (fun e => e.2.kind == .modWrite && e.2.set == set.val && e.2.so / 2 ^ 21 == slot) = false) ∧
    (∃ (s : State), s.up = true) :=
  ⟨⟨{ upW with plc := { (upW).plc with migs := [(4, ({ page := 9, tag := 6, inst := 3, state := 4, srcSet := 0, srcSo := 0, dstSet := 1, dstSo := 2 } : Migration))] } }, 4, ({ page := 9, tag := 6, inst := 3, state := 4, srcSet := 0, srcSo := 0, dstSet := 1, dstSo := 2 } : Migration), [(1, 0)], by decide +kernel⟩,
   ⟨({ upW with plc := { (upW).plc with zeroing := [(1, 5, none)] } }).slotSet 1 5 2, 1, 5, (1, 5, none), [], by decide +kernel⟩,
   ⟨upW.wrN spHbm 32 16 (7 + 3 * 2 ^ 32 + 8 * 2 ^ 48 + 5 * 2 ^ 64 + 2 ^ 96), by decide +kernel⟩⟩

theorem witness_PlacementCommandsTakeEffect_1 :
    (∃ (s : State) (m : Master) (tag : Fin 65536), s.up = true ∧ s.accepts m .PLC_CMD 0 = true ∧ s.on PLC_CMD_STATUS_BUSY = false ∧ (s.plc.cmdDone = false ∨ s.g PLC_CMD_STATUS_TAG ≠ tag) ∧ (s.resolve ((s.g PLC_CMD_ARG_INDEX % 2 ^ 32) * 2 ^ 21)).isSome = true ∧ (nget? (s.g PLC_CMD_ARG_INDEX % 2 ^ 32) s.plc.pages).all (fun o => !o.pin) = true ∧ s.ovrFull (s.g PLC_CMD_ARG_INDEX % 2 ^ 32) = false ∧ s.migOf (s.g PLC_CMD_ARG_INDEX % 2 ^ 32) = none) ∧
    (∃ (s : State) (m : Master) (tag : Fin 65536) (o : PageEntry), s.up = true ∧ s.accepts m .PLC_CMD 0 = true ∧ s.on PLC_CMD_STATUS_BUSY = false ∧ (s.plc.cmdDone = false ∨ s.g PLC_CMD_STATUS_TAG ≠ tag) ∧ nget? (s.g PLC_CMD_ARG_INDEX % 2 ^ 32) s.plc.pages = some o ∧ o.pin = true) ∧
    (∃ (s : State) (m : Master) (tag : Fin 65536) (o : PageEntry), s.up = true ∧ s.accepts m .PLC_CMD 0 = true ∧ s.on PLC_CMD_STATUS_BUSY = false ∧ (s.plc.cmdDone = false ∨ s.g PLC_CMD_STATUS_TAG ≠ tag) ∧ nget? (s.g PLC_CMD_ARG_INDEX % 2 ^ 32) s.plc.pages = some o ∧ o.pin = true ∧ o.unbacked = false) ∧
    (∃ (s : State) (m : Master) (tag : Fin 65536) (e : SegEntry), s.up = true ∧ s.accepts m .PLC_CMD 0 = true ∧ s.on PLC_CMD_STATUS_BUSY = false ∧ (s.plc.cmdDone = false ∨ s.g PLC_CMD_STATUS_TAG ≠ tag) ∧ nget? (s.g PLC_CMD_ARG_INDEX % 2 ^ 23) s.plc.segs = some e ∧ e.valid = true ∧ e.pin = false) ∧
    (∃ (s : State) (m : Master) (tag : Fin 65536) (e : SegEntry), s.up = true ∧ s.accepts m .PLC_CMD 0 = true ∧ s.on PLC_CMD_STATUS_BUSY = false ∧ (s.plc.cmdDone = false ∨ s.g PLC_CMD_STATUS_TAG ≠ tag) ∧ nget? (s.g PLC_CMD_ARG_INDEX % 2 ^ 23) s.plc.segs = some e ∧ e.valid = true ∧ e.pin = true) ∧
    (∃ (s : State) (m : Master) (tag : Fin 65536), s.up = true ∧ s.accepts m .PLC_CMD 0 = true ∧ s.on PLC_CMD_STATUS_BUSY = false ∧ (s.plc.cmdDone = false ∨ s.g PLC_CMD_STATUS_TAG ≠ tag) ∧ s.placeable (s.g PLC_CMD_ARG_SET) = true ∧ (s.g PLC_CMD_ARG_INDEX) < s.slotCount (s.g PLC_CMD_ARG_SET) ∧ s.slotState (s.g PLC_CMD_ARG_SET) (s.g PLC_CMD_ARG_INDEX) = 0) ∧
    (∃ (s : State) (m : Master) (tag : Fin 65536), s.up = true ∧ s.accepts m .PLC_CMD 0 = true ∧ s.on PLC_CMD_STATUS_BUSY = false ∧ (s.plc.cmdDone = false ∨ s.g PLC_CMD_STATUS_TAG ≠ tag) ∧ s.placeable (s.g PLC_CMD_ARG_SET) = true ∧ (s.g PLC_CMD_ARG_INDEX) < s.slotCount (s.g PLC_CMD_ARG_SET) ∧ s.slotState (s.g PLC_CMD_ARG_SET) (s.g PLC_CMD_ARG_INDEX) ≠ 0) :=
  ⟨⟨{ (upW.p PLC_CMD_ARG_INDEX 9) with plc := { ((upW.p PLC_CMD_ARG_INDEX 9)).plc with segs := [(0, { valid := true })] } }, .device, 7, by decide +kernel⟩,
   ⟨{ (upW.p PLC_CMD_ARG_INDEX 9) with plc := { ((upW.p PLC_CMD_ARG_INDEX 9)).plc with segs := [(0, { valid := true })], pages := [(9, { pin := true, set := 4 })] } }, .device, 7, { pin := true, set := 4 }, by decide +kernel⟩,
   ⟨{ (upW.p PLC_CMD_ARG_INDEX 9) with plc := { ((upW.p PLC_CMD_ARG_INDEX 9)).plc with segs := [(0, { valid := true })], pages := [(9, { pin := true, set := 4 })] } }, .device, 7, { pin := true, set := 4 }, by decide +kernel⟩,
   ⟨{ (upW.p PLC_CMD_ARG_INDEX 9) with plc := { ((upW.p PLC_CMD_ARG_INDEX 9)).plc with segs := [(9, { valid := true, pin := false })] } }, .device, 7, { valid := true, pin := false }, by decide +kernel⟩,
   ⟨{ (upW.p PLC_CMD_ARG_INDEX 9) with plc := { ((upW.p PLC_CMD_ARG_INDEX 9)).plc with segs := [(9, { valid := true, pin := true })] } }, .device, 7, { valid := true, pin := true }, by decide +kernel⟩,
   ⟨((upW.p PLC_CMD_ARG_INDEX 5).p PLC_CMD_ARG_SET 1).p PLC_SET_PLACE_EN 1 1 |>.p ILS_CFG_TGT_SIZE 1 1, .device, 7, by decide +kernel⟩,
   ⟨(((upW.p PLC_CMD_ARG_INDEX 5).p PLC_CMD_ARG_SET 1).p PLC_SET_PLACE_EN 1 1 |>.p ILS_CFG_TGT_SIZE 1 1).slotSet 1 5 3, .device, 7, by decide +kernel⟩⟩

theorem witness_PlacementCommandsTakeEffect_2 :
    (∃ (s : State) (m : Master) (tag : Fin 65536), s.up = true ∧ s.accepts m .PLC_CMD 0 = true ∧ s.on PLC_CMD_STATUS_BUSY = false ∧ (s.plc.cmdDone = false ∨ s.g PLC_CMD_STATUS_TAG ≠ tag) ∧ s.placeable (s.g PLC_CMD_ARG_SET) = true ∧ (s.g PLC_CMD_ARG_INDEX) < s.slotCount (s.g PLC_CMD_ARG_SET) ∧ s.slotState (s.g PLC_CMD_ARG_SET) (s.g PLC_CMD_ARG_INDEX) = 1 ∧ s.slotPlaced (s.g PLC_CMD_ARG_SET) (s.g PLC_CMD_ARG_INDEX) = false) ∧
    (∃ (s : State) (m : Master) (tag : Fin 65536) (k : Nat) (x : Migration), s.up = true ∧ s.accepts m .PLC_CMD 0 = true ∧ s.on PLC_CMD_STATUS_BUSY = false ∧ (s.plc.cmdDone = false ∨ s.g PLC_CMD_STATUS_TAG ≠ tag) ∧ s.migOf (s.g PLC_CMD_ARG_INDEX % 2 ^ 32) = some (k, x) ∧ nget? k s.plc.migs = some x ∧ x.state ≠ 4) ∧
    (∃ (s : State) (m : Master) (tag : Fin 65536) (k : Nat) (x : Migration), s.up = true ∧ s.accepts m .PLC_CMD 0 = true ∧ s.on PLC_CMD_STATUS_BUSY = false ∧ (s.plc.cmdDone = false ∨ s.g PLC_CMD_STATUS_TAG ≠ tag) ∧ s.migOf (s.g PLC_CMD_ARG_INDEX % 2 ^ 32) = some (k, x) ∧ x.state = 4) ∧
    (∃ (s : State) (m : Master) (tag : Fin 65536), s.up = true ∧ s.accepts m .PLC_CMD 0 = true ∧ s.on PLC_CMD_STATUS_BUSY = false ∧ s.plc.cmdDone = true ∧ s.g PLC_CMD_STATUS_TAG = tag) ∧
    (∃ (s : State) (m : Master), s.up = true ∧ s.accepts m .PLC_CTRL 0 = true ∧ s.on PLC_CTRL_STOP_ABORT = false) ∧
    (∃ (s : State) (m : Master), s.up = true ∧ s.accepts m .PLC_CTRL 0 = true ∧ s.on PLC_CTRL_STOP_ABORT = true ∧ nsorted s.plc.migs = true) ∧
    (∃ (s : State) (m : Master), s.up = true ∧ s.accepts m .PLC_PROBE_CTRL 0 = true) :=
  ⟨⟨(((upW.p PLC_CMD_ARG_INDEX 5).p PLC_CMD_ARG_SET 1).p PLC_SET_PLACE_EN 1 1 |>.p ILS_CFG_TGT_SIZE 1 1).slotSet 1 5 1, .device, 7, by decide +kernel⟩,
   ⟨{ (upW.p PLC_CMD_ARG_INDEX 9) with plc := { ((upW.p PLC_CMD_ARG_INDEX 9)).plc with migs := [(4, ({ page := 9, tag := 6, inst := 3, state := 1, srcSet := 0, srcSo := 0, dstSet := 1, dstSo := 2 } : Migration))] } }, .device, 7, 4, ({ page := 9, tag := 6, inst := 3, state := 1, srcSet := 0, srcSo := 0, dstSet := 1, dstSo := 2 } : Migration), by decide +kernel⟩,
   ⟨{ (upW.p PLC_CMD_ARG_INDEX 9) with plc := { ((upW.p PLC_CMD_ARG_INDEX 9)).plc with migs := [(4, ({ page := 9, tag := 6, inst := 3, state := 4, srcSet := 0, srcSo := 0, dstSet := 1, dstSo := 2 } : Migration))] } }, .device, 7, 4, ({ page := 9, tag := 6, inst := 3, state := 4, srcSet := 0, srcSo := 0, dstSet := 1, dstSo := 2 } : Migration), by decide +kernel⟩,
   ⟨{ upW with plc := { (upW).plc with cmdDone := true } }, .device, 0, by decide +kernel⟩,
   ⟨upW.p PLC_CTRL_RUN 1, .device, by decide +kernel⟩,
   ⟨{ ((upW.p PLC_CTRL_RUN 1).p PLC_CTRL_STOP_ABORT 1) with plc := { (((upW.p PLC_CTRL_RUN 1).p PLC_CTRL_STOP_ABORT 1)).plc with migs := [(4, ({ page := 9, tag := 6, inst := 3, state := 1, srcSet := 0, srcSo := 0, dstSet := 1, dstSo := 2 } : Migration))] } }, .device, by decide +kernel⟩,
   ⟨{ upW with plc := { (upW).plc with segs := [(0, { valid := true, pin := true, epoch := 8 })] } }, .device, by decide +kernel⟩⟩

theorem witness_RegisterInstructions_1 :
    (∃ (s : State) (th : ThrId) (w : Nat), s.up = true ∧ s.runs th .alu w = true ∧ s.quiet th = true) ∧
    (∃ (s : State) (th : ThrId) (w : Nat), s.up = true ∧ s.runs th .addi w = true ∧ s.quiet th = true) ∧
    (∃ (s : State) (th : ThrId) (w : Nat), s.up = true ∧ s.runs th .andi w = true ∧ s.quiet th = true) ∧
    (∃ (s : State) (th : ThrId) (w : Nat), s.up = true ∧ s.runs th .ori w = true ∧ s.quiet th = true) ∧
    (∃ (s : State) (th : ThrId) (w : Nat), s.up = true ∧ s.runs th .xori w = true ∧ s.quiet th = true) ∧
    (∃ (s : State) (th : ThrId) (w : Nat), s.up = true ∧ s.runs th .shi w = true ∧ s.quiet th = true) ∧
    (∃ (s : State) (th : ThrId) (w : Nat), s.up = true ∧ s.runs th .cati w = true ∧ s.quiet th = true) :=
  ⟨⟨(((atW 9 0x642802).grSet 9 4 7).grSet 9 5 9), 9, 0x642802, by decide +kernel⟩,
   ⟨((atW 9 0x4048000).grSet 9 4 7), 9, 0x4048000, by decide +kernel⟩,
   ⟨((atW 9 0x864FFF0).grSet 9 4 255), 9, 0x864FFF0, by decide +kernel⟩,
   ⟨((atW 9 0xC64FFF0).grSet 9 4 15), 9, 0xC64FFF0, by decide +kernel⟩,
   ⟨((atW 9 0x1064FFFF).grSet 9 4 15), 9, 0x1064FFFF, by decide +kernel⟩,
   ⟨((atW 9 0x146400C4).grSet 9 4 15), 9, 0x146400C4, by decide +kernel⟩,
   ⟨((atW 9 0x18641234).grSet 9 4 (2^64-1)), 9, 0x18641234, by decide +kernel⟩⟩

theorem witness_RegisterInstructions_2 :
    (∃ (s : State) (th : ThrId) (w : Nat), s.up = true ∧ s.runs th .crc w = true ∧ s.quiet th = true) ∧
    (∃ (s : State) (th : ThrId) (w : Nat), s.up = true ∧ s.runs th .mix w = true ∧ s.quiet th = true) ∧
    (∃ (s : State) (th : ThrId) (w : Nat), s.up = true ∧ s.runs th .fhash w = true ∧ s.quiet th = true) :=
  ⟨⟨(((atW 9 0x8064000C).grSet 9 4 15).grSet 9 3 1), 9, 0x8064000C, by decide +kernel⟩,
   ⟨(((atW 9 0x84642800).grSet 9 4 15).grSet 9 5 1), 9, 0x84642800, by decide +kernel⟩,
   ⟨(((atW 9 0x88642800).grSet 9 4 0x30005).grSet 9 5 4096), 9, 0x88642800, by decide +kernel⟩⟩

theorem witness_BranchesAndJumps_1 :
    (∃ (s : State) (th : ThrId) (w : Nat), s.up = true ∧ s.runs th .beq w = true ∧ s.quiet th = true) ∧
    (∃ (s : State) (th : ThrId) (w : Nat), s.up = true ∧ s.runs th .bne w = true ∧ s.quiet th = true) ∧
    (∃ (s : State) (th : ThrId) (w : Nat), s.up = true ∧ s.runs th .blt w = true ∧ s.quiet th = true) ∧
    (∃ (s : State) (th : ThrId) (w : Nat), s.up = true ∧ s.runs th .bge w = true ∧ s.quiet th = true) ∧
    (∃ (s : State) (th : ThrId) (w : Nat), s.up = true ∧ s.runs th .bltu w = true ∧ s.quiet th = true) ∧
    (∃ (s : State) (th : ThrId) (w : Nat), s.up = true ∧ s.runs th .bgeu w = true ∧ s.quiet th = true) ∧
    (∃ (s : State) (th : ThrId) (w : Nat), s.up = true ∧ s.runs th .jal w = true ∧ s.quiet th = true) :=
  ⟨⟨(((atW 9 0x2085FFFF).grSet 9 4 7).grSet 9 5 (2^64-1)), 9, 0x2085FFFF, by decide +kernel⟩,
   ⟨(((atW 9 0x2485FFFF).grSet 9 4 7).grSet 9 5 (2^64-1)), 9, 0x2485FFFF, by decide +kernel⟩,
   ⟨(((atW 9 0x2885FFFF).grSet 9 4 7).grSet 9 5 (2^64-1)), 9, 0x2885FFFF, by decide +kernel⟩,
   ⟨(((atW 9 0x2C85FFFF).grSet 9 4 7).grSet 9 5 (2^64-1)), 9, 0x2C85FFFF, by decide +kernel⟩,
   ⟨(((atW 9 0x3085FFFF).grSet 9 4 7).grSet 9 5 (2^64-1)), 9, 0x3085FFFF, by decide +kernel⟩,
   ⟨(((atW 9 0x3485FFFF).grSet 9 4 7).grSet 9 5 (2^64-1)), 9, 0x3485FFFF, by decide +kernel⟩,
   ⟨(atW 9 0x3A000000), 9, 0x3A000000, by decide +kernel⟩⟩

theorem witness_BranchesAndJumps_2 :
    (∃ (s : State) (th : ThrId) (w : Nat), s.up = true ∧ s.runs th .jalr w = true ∧ s.quiet th = true) :=
  ⟨((atW 9 0x3C840007).grSet 9 4 257), 9, 0x3C840007, by decide +kernel⟩

theorem witness_EngineLoadsAndStores_1 :
    (∃ (s : State) (th : ThrId) (w : Nat) (pl : Eng), s.up = true ∧ s.runs th .ldb w = true ∧ s.quiet th = true ∧ (s.ea th w) % 1 = 0 ∧ s.engCheck th (s.ea th w) 1 0 true = .ok pl ∧ (pl.kind ≠ 2 ∨ s.hbmUp = true)) ∧
    (∃ (s : State) (th : ThrId) (w : Nat) (pl : Eng), s.up = true ∧ s.runs th .ldh w = true ∧ s.quiet th = true ∧ (s.ea th w) % 2 = 0 ∧ s.engCheck th (s.ea th w) 2 0 true = .ok pl ∧ (pl.kind ≠ 2 ∨ s.hbmUp = true)) ∧
    (∃ (s : State) (th : ThrId) (w : Nat) (pl : Eng), s.up = true ∧ s.runs th .ldw w = true ∧ s.quiet th = true ∧ (s.ea th w) % 4 = 0 ∧ s.engCheck th (s.ea th w) 4 0 true = .ok pl ∧ (pl.kind ≠ 2 ∨ s.hbmUp = true)) ∧
    (∃ (s : State) (th : ThrId) (w : Nat) (pl : Eng), s.up = true ∧ s.runs th .ldd w = true ∧ s.quiet th = true ∧ (s.ea th w) % 8 = 0 ∧ s.engCheck th (s.ea th w) 8 0 true = .ok pl ∧ (pl.kind ≠ 2 ∨ s.hbmUp = true)) ∧
    (∃ (s : State) (th : ThrId) (w : Nat) (pl : Eng), s.up = true ∧ s.runs th .stb w = true ∧ s.quiet th = true ∧ (s.ea th w) % 1 = 0 ∧ s.engCheck th (s.ea th w) 1 1 true = .ok pl ∧ (pl.kind ≠ 2 ∨ s.hbmUp = true)) ∧
    (∃ (s : State) (th : ThrId) (w : Nat) (pl : Eng), s.up = true ∧ s.runs th .sth w = true ∧ s.quiet th = true ∧ (s.ea th w) % 2 = 0 ∧ s.engCheck th (s.ea th w) 2 1 true = .ok pl ∧ (pl.kind ≠ 2 ∨ s.hbmUp = true)) ∧
    (∃ (s : State) (th : ThrId) (w : Nat) (pl : Eng), s.up = true ∧ s.runs th .stw w = true ∧ s.quiet th = true ∧ (s.ea th w) % 4 = 0 ∧ s.engCheck th (s.ea th w) 4 1 true = .ok pl ∧ (pl.kind ≠ 2 ∨ s.hbmUp = true)) :=
  ⟨⟨((atW 9 0x40640008).grSet 9 4 0), 9, 0x40640008, ⟨spLocal 2, 8, 0⟩, by decide +kernel⟩,
   ⟨((atW 9 0x44640008).grSet 9 4 0), 9, 0x44640008, ⟨spLocal 2, 8, 0⟩, by decide +kernel⟩,
   ⟨((atW 9 0x48640008).grSet 9 4 0), 9, 0x48640008, ⟨spLocal 2, 8, 0⟩, by decide +kernel⟩,
   ⟨((atW 9 0x4C640008).grSet 9 4 0), 9, 0x4C640008, ⟨spLocal 2, 8, 0⟩, by decide +kernel⟩,
   ⟨(((atW 9 0x50640008).grSet 9 3 4660).grSet 9 4 0), 9, 0x50640008, ⟨spLocal 2, 8, 0⟩, by decide +kernel⟩,
   ⟨(((atW 9 0x54640008).grSet 9 3 4660).grSet 9 4 0), 9, 0x54640008, ⟨spLocal 2, 8, 0⟩, by decide +kernel⟩,
   ⟨(((atW 9 0x58640008).grSet 9 3 4660).grSet 9 4 0), 9, 0x58640008, ⟨spLocal 2, 8, 0⟩, by decide +kernel⟩⟩

theorem witness_EngineLoadsAndStores_2 :
    (∃ (s : State) (th : ThrId) (w : Nat) (pl : Eng), s.up = true ∧ s.runs th .std w = true ∧ s.quiet th = true ∧ (s.ea th w) % 8 = 0 ∧ s.engCheck th (s.ea th w) 8 1 true = .ok pl ∧ (pl.kind ≠ 2 ∨ s.hbmUp = true)) ∧
    (∃ (s : State) (th : ThrId) (w : Nat) (pl : Eng), s.up = true ∧ s.runs th .amoLocal w = true ∧ s.quiet th = true ∧ (s.gr th (wRa w)) % 8 = 0 ∧ s.engCheck th (s.gr th (wRa w)) 8 3 false = .ok pl ∧ (pl.kind ≠ 2 ∨ s.hbmUp = true)) :=
  ⟨⟨(((atW 9 0x5C640008).grSet 9 3 4660).grSet 9 4 0), 9, 0x5C640008, ⟨spLocal 2, 8, 0⟩, by decide +kernel⟩,
   ⟨((((atW 9 0x74642800).grSet 9 3 1).grSet 9 4 8).grSet 9 5 2), 9, 0x74642800, ⟨spLocal 2, 8, 0⟩, by decide +kernel⟩⟩

theorem witness_InstructionsThatTrap_1 :
    (∃ (s : State) (th : ThrId) (w : Nat), s.up = true ∧ s.runs th .syscall w = true ∧ s.quiet th = true ∧ s.inTrap th = false) ∧
    (∃ (s : State) (th : ThrId) (w : Nat), s.up = true ∧ s.runs th .brk w = true ∧ s.quiet th = true ∧ s.inTrap th = false) ∧
    (∃ (s : State) (th : ThrId) (w : Nat), s.up = true ∧ s.runs th .tret w = true ∧ s.quiet th = true ∧ s.inTrap th = false) ∧
    (∃ (s : State) (th : ThrId) (w : Nat), s.up = true ∧ s.runs th .ldh w = true ∧ s.quiet th = true ∧ s.inTrap th = false ∧ (s.ea th w) % 2 ≠ 0) ∧
    (∃ (s : State) (th : ThrId) (w : Nat), s.up = true ∧ s.runs th .ldw w = true ∧ s.quiet th = true ∧ s.inTrap th = false ∧ (s.ea th w) % 4 ≠ 0) ∧
    (∃ (s : State) (th : ThrId) (w : Nat), s.up = true ∧ s.runs th .ldd w = true ∧ s.quiet th = true ∧ s.inTrap th = false ∧ (s.ea th w) % 8 ≠ 0) ∧
    (∃ (s : State) (th : ThrId) (w : Nat), s.up = true ∧ s.runs th .sth w = true ∧ s.quiet th = true ∧ s.inTrap th = false ∧ (s.ea th w) % 2 ≠ 0) :=
  ⟨⟨((atW 9 0xF0001234).grSet 9 4 7), 9, 0xF0001234, by decide +kernel⟩,
   ⟨((atW 9 0xF8001234).grSet 9 4 7), 9, 0xF8001234, by decide +kernel⟩,
   ⟨(atW 9 0xF4000000), 9, 0xF4000000, by decide +kernel⟩,
   ⟨((atW 9 0x44640001).grSet 9 4 0), 9, 0x44640001, by decide +kernel⟩,
   ⟨((atW 9 0x48640001).grSet 9 4 0), 9, 0x48640001, by decide +kernel⟩,
   ⟨((atW 9 0x4C640001).grSet 9 4 0), 9, 0x4C640001, by decide +kernel⟩,
   ⟨((atW 9 0x54640001).grSet 9 4 0), 9, 0x54640001, by decide +kernel⟩⟩

theorem witness_InstructionsThatTrap_2 :
    (∃ (s : State) (th : ThrId) (w : Nat), s.up = true ∧ s.runs th .stw w = true ∧ s.quiet th = true ∧ s.inTrap th = false ∧ (s.ea th w) % 4 ≠ 0) ∧
    (∃ (s : State) (th : ThrId) (w : Nat), s.up = true ∧ s.runs th .std w = true ∧ s.quiet th = true ∧ s.inTrap th = false ∧ (s.ea th w) % 8 ≠ 0) ∧
    (∃ (s : State) (th : ThrId) (w : Nat), s.up = true ∧ s.runs th .ldb w = true ∧ s.quiet th = true ∧ s.inTrap th = false ∧ (s.ea th w) % 1 = 0 ∧ engAt th (s.ea th w) 1 = none) ∧
    (∃ (s : State) (th : ThrId) (w : Nat), s.up = true ∧ s.runs th .ldh w = true ∧ s.quiet th = true ∧ s.inTrap th = false ∧ (s.ea th w) % 2 = 0 ∧ engAt th (s.ea th w) 2 = none) ∧
    (∃ (s : State) (th : ThrId) (w : Nat), s.up = true ∧ s.runs th .ldw w = true ∧ s.quiet th = true ∧ s.inTrap th = false ∧ (s.ea th w) % 4 = 0 ∧ engAt th (s.ea th w) 4 = none) ∧
    (∃ (s : State) (th : ThrId) (w : Nat), s.up = true ∧ s.runs th .ldd w = true ∧ s.quiet th = true ∧ s.inTrap th = false ∧ (s.ea th w) % 8 = 0 ∧ engAt th (s.ea th w) 8 = none) ∧
    (∃ (s : State) (th : ThrId) (w : Nat), s.up = true ∧ s.runs th .stb w = true ∧ s.quiet th = true ∧ s.inTrap th = false ∧ (s.ea th w) % 1 = 0 ∧ engAt th (s.ea th w) 1 = none) :=
  ⟨⟨((atW 9 0x58640001).grSet 9 4 0), 9, 0x58640001, by decide +kernel⟩,
   ⟨((atW 9 0x5C640001).grSet 9 4 0), 9, 0x5C640001, by decide +kernel⟩,
   ⟨((atW 9 0x40640000).grSet 9 4 0x20000), 9, 0x40640000, by decide +kernel⟩,
   ⟨((atW 9 0x44640000).grSet 9 4 0x20000), 9, 0x44640000, by decide +kernel⟩,
   ⟨((atW 9 0x48640000).grSet 9 4 0x20000), 9, 0x48640000, by decide +kernel⟩,
   ⟨((atW 9 0x4C640000).grSet 9 4 0x20000), 9, 0x4C640000, by decide +kernel⟩,
   ⟨((atW 9 0x50640000).grSet 9 4 0x20000), 9, 0x50640000, by decide +kernel⟩⟩

theorem witness_InstructionsThatTrap_3 :
    (∃ (s : State) (th : ThrId) (w : Nat), s.up = true ∧ s.runs th .sth w = true ∧ s.quiet th = true ∧ s.inTrap th = false ∧ (s.ea th w) % 2 = 0 ∧ engAt th (s.ea th w) 2 = none) ∧
    (∃ (s : State) (th : ThrId) (w : Nat), s.up = true ∧ s.runs th .stw w = true ∧ s.quiet th = true ∧ s.inTrap th = false ∧ (s.ea th w) % 4 = 0 ∧ engAt th (s.ea th w) 4 = none) ∧
    (∃ (s : State) (th : ThrId) (w : Nat), s.up = true ∧ s.runs th .std w = true ∧ s.quiet th = true ∧ s.inTrap th = false ∧ (s.ea th w) % 8 = 0 ∧ engAt th (s.ea th w) 8 = none) ∧
    (∃ (s : State) (th : ThrId) (w : Nat) (pl : Eng), s.up = true ∧ s.runs th .ldb w = true ∧ s.quiet th = true ∧ s.inTrap th = false ∧ (s.ea th w) % 1 = 0 ∧ s.engCheck th (s.ea th w) 1 0 true = .ok pl ∧ pl.kind ≠ 2) ∧
    (∃ (s : State) (th : ThrId) (w : Nat) (pl : Eng), s.up = true ∧ s.runs th .ldd w = true ∧ s.quiet th = true ∧ s.inTrap th = false ∧ (s.ea th w) % 8 = 0 ∧ s.engCheck th (s.ea th w) 8 0 true = .ok pl ∧ pl.kind ≠ 2) :=
  ⟨⟨((atW 9 0x54640000).grSet 9 4 0x20000), 9, 0x54640000, by decide +kernel⟩,
   ⟨((atW 9 0x58640000).grSet 9 4 0x20000), 9, 0x58640000, by decide +kernel⟩,
   ⟨((atW 9 0x5C640000).grSet 9 4 0x20000), 9, 0x5C640000, by decide +kernel⟩,
   ⟨((atW 9 0x40640008).grSet 9 4 0), 9, 0x40640008, ⟨spLocal 2, 8, 0⟩, by decide +kernel⟩,
   ⟨((atW 9 0x4C640008).grSet 9 4 0), 9, 0x4C640008, ⟨spLocal 2, 8, 0⟩, by decide +kernel⟩⟩

theorem witness_SpecialRegistersLevelsAndEvents_1 :
    (∃ (s : State) (th : ThrId) (w : Nat), s.up = true ∧ s.runs th .mfs w = true ∧ s.quiet th = true) ∧
    (∃ (s : State) (th : ThrId) (w : Nat), s.up = true ∧ s.runs th .mts w = true ∧ s.quiet th = true) ∧
    (∃ (s : State) (th : ThrId) (w : Nat), s.up = true ∧ s.runs th .tret w = true ∧ s.quiet th = true ∧ s.inTrap th = true) ∧
    (∃ (s : State) (th : ThrId) (w : Nat), s.up = true ∧ s.runs th .yield w = true ∧ s.quiet th = true) ∧
    (∃ (s : State) (th : ThrId) (w : Nat), s.up = true ∧ s.runs th .halt w = true ∧ s.quiet th = true) ∧
    (∃ (s : State) (th : ThrId) (w : Nat), s.up = true ∧ s.runs th .evtwait w = true ∧ s.quiet th = true ∧ ((s.th th).evtPend &&& ((s.gr th (wRa w)) % 2 ^ 32)) ≠ 0) ∧
    (∃ (s : State) (th : ThrId) (w : Nat), s.up = true ∧ s.runs th .evtwait w = true ∧ s.quiet th = true ∧ ((s.th th).evtPend &&& ((s.gr th (wRa w)) % 2 ^ 32)) = 0) :=
  ⟨⟨(atW 9 0xE060000A).thMod 9 (fun x => { x with serrValid := true, serrStatus := 0x20 }), 9, 0xE060000A, by decide +kernel⟩,
   ⟨((atW 9 0xE4600007).grSet 9 3 (2^40+6)), 9, 0xE4600007, by decide +kernel⟩,
   ⟨(((atW 9 0xF4000000)).p TH_STATUS_IN_TRAP 1 0 9).thMod 9 (fun x => { x with trapPc := 0x102 }), 9, 0xF4000000, by decide +kernel⟩,
   ⟨(atW 9 0xFC000000), 9, 0xFC000000, by decide +kernel⟩,
   ⟨(atW 9 0xFC000001), 9, 0xFC000001, by decide +kernel⟩,
   ⟨((atW 9 0xB0642800).grSet 9 4 6).thMod 9 (fun x => { x with evtPend := 0x14 }), 9, 0xB0642800, by decide +kernel⟩,
   ⟨((atW 9 0xB0642800).grSet 9 4 6).thMod 9 (fun x => { x with evtPend := 0x10 }), 9, 0xB0642800, by decide +kernel⟩⟩

theorem witness_SpecialRegistersLevelsAndEvents_2 :
    (∃ (s : State) (th : ThrId) (i : Issued), s.up = true ∧ (s.th th).waiting = .event ∧ (s.th th).issued = some i ∧ i.pc = (s.th th).pc ∧ i.tagged = false ∧ s.quiet th = true ∧ (s.th th).evtPend &&& (s.gr th (wRa i.word) % 2 ^ 32) ≠ 0) ∧
    (∃ (s : State) (th : ThrId) (i : Issued), s.up = true ∧ (s.th th).waiting = .event ∧ (s.th th).issued = some i ∧ i.pc = (s.th th).pc ∧ i.tagged = false ∧ s.quiet th = true ∧ s.gr th (wRb i.word) ≠ 0) ∧
    (∃ (s : State) (th : ThrId), s.up = true ∧ (s.th th).timer.isSome = true) ∧
    (∃ (s : State) (th : ThrId) (w : Nat) (u : Nat), s.up = true ∧ s.runs th .evtsig w = true ∧ s.quiet th = true ∧ 16 ≤ (s.gr th (wRb w) % 32) ∧ s.inStack ((s.gr th (wRa w) % 2 ^ 13) / 2048) = true ∧ s.thrOf (s.gr th (wRa w) % 2 ^ 13) = some u ∧ (s.priv th ≠ 2 ∨ (s.th u).inst = (s.th th).inst)) ∧
    (∃ (s : State) (th : ThrId) (w : Nat), s.up = true ∧ s.runs th .evtsig w = true ∧ s.quiet th = true ∧ (s.gr th (wRb w) % 32) < 16) ∧
    (∃ (s : State) (th : ThrId) (w : Nat), s.up = true ∧ s.runs th .evtsig w = true ∧ s.quiet th = true ∧ 16 ≤ (s.gr th (wRb w) % 32) ∧ s.inStack ((s.gr th (wRa w) % 2 ^ 13) / 2048) = false) ∧
    (∃ (s : State) (th : ThrId) (n : Nat), s.up = true ∧ s.halted th = false ∧ s.inTrap th = false ∧ s.pendingInt th = some n ∧ (s.th th).waiting = .none ∧ (s.th th).issued = none) :=
  ⟨⟨((upW.grSet 9 4 6).grSet 9 5 0).thMod 9 (fun x => { x with waiting := .event, issued := some { word := 0xB0642800, pc := 0 }, evtPend := 4 }), 9, { word := 0xB0642800, pc := 0 }, by decide +kernel⟩,
   ⟨((upW.grSet 9 4 6).grSet 9 5 5).thMod 9 (fun x => { x with waiting := .event, issued := some { word := 0xB0642800, pc := 0 }, evtPend := 0 }), 9, { word := 0xB0642800, pc := 0 }, by decide +kernel⟩,
   ⟨upW.thMod 9 (fun x => { x with timer := some 5 }), 9, by decide +kernel⟩,
   ⟨(((atW 9 0xB4642800).grSet 9 4 9).grSet 9 5 17), 9, 0xB4642800, 9, by decide +kernel⟩,
   ⟨(((atW 9 0xB4642800).grSet 9 4 9).grSet 9 5 15), 9, 0xB4642800, by decide +kernel⟩,
   ⟨(((atW 9 0xB4642800).grSet 9 4 2048).grSet 9 5 16), 9, 0xB4642800, by decide +kernel⟩,
   ⟨(upW.p TH_STATUS_STATE 1 0 9).thMod 9 (fun x => { x with evtPend := 0x30, evtMask := 0xFF }), 9, 4, by decide +kernel⟩⟩

theorem witness_StagingAndMessageInstructions_1 :
    (∃ (s : State) (th : ThrId) (w : Nat) (r : RegName) (i : Nat) (j : Nat) (l : List Staged), s.up = true ∧ s.runs th .stgr w = true ∧ s.quiet th = true ∧ (s.gr th (wRa w)) < 0x4000000 ∧ (s.thGate th 3 (s.gr th (wRa w)) 8 1).isNone = true ∧ regAt (s.gr th (wRa w)) = some (r, i, j) ∧ r.rwe ≠ [] ∧ s.stageOk r i (s.gr th (wRb w)) = true ∧ s.stagePut (s.th th).staging ⟨false, (s.gr th (wRa w)), (s.gr th (wRb w))⟩ = some l) ∧
    (∃ (s : State) (th : ThrId) (w : Nat), s.up = true ∧ s.runs th .stgr w = true ∧ s.quiet th = true ∧ (s.gr th (wRa w)) < 0x4000000 ∧ (s.thGate th 3 (s.gr th (wRa w)) 8 1).isNone = true ∧ regAt (s.gr th (wRa w)) = none) ∧
    (∃ (s : State) (th : ThrId) (w : Nat) (pl : Eng) (l : List Staged), s.up = true ∧ s.runs th .stgm w = true ∧ s.quiet th = true ∧ bits (s.gr th (wRa w)) 35 27 = 0 ∧ bits (s.gr th (wRa w)) 62 2 = 0 ∧ (s.gr th (wRb w)) % 16 = 0 ∧ s.engCheck th (s.gr th (wRb w)) 16 0 false = .ok pl ∧ imageOk 0 (s.rdN pl.sp pl.off 16) = true ∧ s.stagePut (s.th th).staging ⟨true, (s.gr th (wRa w)) % 2 ^ 23, s.rdN pl.sp pl.off 16⟩ = some l) ∧
    (∃ (s : State) (th : ThrId) (w : Nat), s.up = true ∧ s.runs th .stgm w = true ∧ s.quiet th = true ∧ (bits (s.gr th (wRa w)) 35 27 ≠ 0 ∨ bits (s.gr th (wRa w)) 62 2 = 3)) ∧
    (∃ (s : State) (th : ThrId) (w : Nat), s.up = true ∧ s.runs th .stgm w = true ∧ s.quiet th = true ∧ bits (s.gr th (wRa w)) 35 27 = 0 ∧ bits (s.gr th (wRa w)) 62 2 = 2 ∧ nget? ((s.gr th (wRa w)) % 2 ^ 32) s.plc.pages = none ∧ (s.th th).staging = []) ∧
    (∃ (s : State) (th : ThrId) (w : Nat), s.up = true ∧ s.runs th .ecmt w = true ∧ s.quiet th = true ∧ (s.th th).staging = []) ∧
    (∃ (s : State) (th : ThrId) (w : Nat), s.up = true ∧ s.runs th .ecmt w = true ∧ s.quiet th = true ∧ (s.th th).staging ≠ []) :=
  ⟨⟨(((atW 9 0xA0642800).grSet 9 4 (RegName.PC_ROLE_CFG.place 5)).grSet 9 5 0xFFF0000), 9, 0xA0642800, (((regAt (((((atW 9 0xA0642800).grSet 9 4 (RegName.PC_ROLE_CFG.place 5)).grSet 9 5 0xFFF0000)).gr 9 4)).map (·.1)).getD .TB_CFG), 5, 0, [⟨false, ((((atW 9 0xA0642800).grSet 9 4 (RegName.PC_ROLE_CFG.place 5)).grSet 9 5 0xFFF0000)).gr 9 4, ((((atW 9 0xA0642800).grSet 9 4 (RegName.PC_ROLE_CFG.place 5)).grSet 9 5 0xFFF0000)).gr 9 5⟩], by decide +kernel⟩,
   ⟨((atW 9 0xA0642800).grSet 9 4 0x3FFFFF8), 9, 0xA0642800, by decide +kernel⟩,
   ⟨(((atW 9 0xA4642800).grSet 9 4 9).grSet 9 5 16), 9, 0xA4642800, ⟨spLocal 2, 16, 0⟩, [⟨true, 9, 0⟩], by decide +kernel⟩,
   ⟨((atW 9 0xA4642800).grSet 9 4 (3 * 2 ^ 62)), 9, 0xA4642800, by decide +kernel⟩,
   ⟨((atW 9 0xA4642800).grSet 9 4 (2 * 2 ^ 62 + 8)), 9, 0xA4642800, by decide +kernel⟩,
   ⟨(atW 9 0xA8642800), 9, 0xA8642800, by decide +kernel⟩,
   ⟨(((atW 9 0xA8642800).grSet 9 4 7).grSet 9 5 1).thMod 9 (fun x => { x with staging := [⟨true, 9, 0⟩] }), 9, 0xA8642800, by decide +kernel⟩⟩

theorem witness_StagingAndMessageInstructions_2 :
    (∃ (s : State) (th : ThrId) (w : Nat), s.up = true ∧ s.runs th .eabort w = true ∧ s.quiet th = true ∧ (s.th th).staging ≠ []) ∧
    (∃ (s : State) (th : ThrId) (w : Nat), s.up = true ∧ s.runs th .eabort w = true ∧ s.quiet th = true ∧ (s.th th).staging = []) ∧
    (∃ (s : State) (th : ThrId) (w : Nat) (pl : Eng) (u : Nat) (r : State), s.rxPush u (msgBytes (s.tidOf th) (s.th th).inst (s.priv th) ((List.range (wFn w)).map (fun k => leNat (((s.rd pl.sp pl.off (8 * (wFn w))).drop (8 * k)).take 8)))) = some r ∧ s.up = true ∧ s.runs th .mbsend w = true ∧ s.quiet th = true ∧ (s.gr th (wRb w)) % 8 = 0 ∧ 0 < (wFn w) ∧ s.engCheck th (s.gr th (wRb w)) (8 * (wFn w)) 0 false = .ok pl ∧ (s.gr th (wRa w)) < 2 ^ 13 ∧ s.inStack ((s.gr th (wRa w)) / 2048) = true ∧ s.thrOf (s.gr th (wRa w)) = some u ∧ (s.priv th ≠ 2 ∨ (s.th u).inst = (s.th th).inst)) ∧
    (∃ (s : State) (th : ThrId) (w : Nat) (pl : Eng) (u : Nat), s.up = true ∧ s.runs th .mbsend w = true ∧ s.quiet th = true ∧ (s.gr th (wRb w)) % 8 = 0 ∧ 0 < (wFn w) ∧ s.engCheck th (s.gr th (wRb w)) (8 * (wFn w)) 0 false = .ok pl ∧ (s.gr th (wRa w)) < 2 ^ 13 ∧ s.inStack ((s.gr th (wRa w)) / 2048) = true ∧ s.thrOf (s.gr th (wRa w)) = some u ∧ (s.priv th ≠ 2 ∨ (s.th u).inst = (s.th th).inst) ∧ 16 ≤ (s.th u).rxq.length) ∧
    (∃ (s : State) (th : ThrId) (w : Nat), s.up = true ∧ s.runs th .mbsend w = true ∧ s.quiet th = true ∧ (s.gr th (wRb w)) % 8 = 0 ∧ (wFn w) = 0 ∧ (s.gr th (wRa w)) / 2 ^ 62 = 0 ∧ bits (s.gr th (wRa w)) 13 49 ≠ 0) ∧
    (∃ (s : State) (th : ThrId) (w : Nat), s.up = true ∧ s.runs th .mbsend w = true ∧ s.quiet th = true ∧ (s.gr th (wRb w)) % 8 = 0 ∧ (wFn w) = 0 ∧ (s.gr th (wRa w)) < 2 ^ 13 ∧ s.inStack ((s.gr th (wRa w)) / 2048) = false) ∧
    (∃ (s : State) (th : ThrId) (w : Nat) (pl : Eng) (m : List Byte) (ms : List (List Byte)), s.up = true ∧ s.runs th .mbrecv w = true ∧ s.quiet th = true ∧ (s.gr th (wRa w)) % 64 = 0 ∧ s.engCheck th (s.gr th (wRa w)) 64 1 false = .ok pl ∧ (s.th th).rxq = m :: ms) :=
  ⟨⟨(atW 9 0xAC600000).thMod 9 (fun x => { x with staging := [⟨true, 9, 0⟩] }), 9, 0xAC600000, by decide +kernel⟩,
   ⟨(atW 9 0xAC600000), 9, 0xAC600000, by decide +kernel⟩,
   ⟨(((atW 9 0xB8642802).grSet 9 4 40).grSet 9 5 8), 9, 0xB8642802, ⟨spLocal 2, 8, 0⟩, 40, ((((((atW 9 0xB8642802).grSet 9 4 40).grSet 9 5 8)).rxPush 40 (msgBytes (((((atW 9 0xB8642802).grSet 9 4 40).grSet 9 5 8)).tidOf 9) (((((atW 9 0xB8642802).grSet 9 4 40).grSet 9 5 8)).th 9).inst (((((atW 9 0xB8642802).grSet 9 4 40).grSet 9 5 8)).priv 9) ((List.range (2)).map (fun k => leNat (((((((atW 9 0xB8642802).grSet 9 4 40).grSet 9 5 8)).rd (⟨spLocal 2, 8, 0⟩ : Eng).sp (⟨spLocal 2, 8, 0⟩ : Eng).off (8 * (2))).drop (8 * k)).take 8))))).getD ((((atW 9 0xB8642802).grSet 9 4 40).grSet 9 5 8))), rfl, by decide +kernel⟩,
   ⟨(((atW 9 0xB8642802).grSet 9 4 40).grSet 9 5 8).thMod 40 (fun x => { x with rxq := List.replicate 16 [] }), 9, 0xB8642802, ⟨spLocal 2, 8, 0⟩, 40, by decide +kernel⟩,
   ⟨(((atW 9 0xB8642800).grSet 9 4 (2^13)).grSet 9 5 8), 9, 0xB8642800, by decide +kernel⟩,
   ⟨(((atW 9 0xB8642800).grSet 9 4 2048).grSet 9 5 8), 9, 0xB8642800, by decide +kernel⟩,
   ⟨((atW 9 0xBC640000).grSet 9 4 64).thMod 9 (fun x => { x with rxq := [[1, 2], [3]] }), 9, 0xBC640000, ⟨spLocal 2, 64, 0⟩, [1, 2], [[3]], by decide +kernel⟩⟩

theorem witness_StagingAndMessageInstructions_3 :
    (∃ (s : State) (th : ThrId) (w : Nat) (pl : Eng), s.up = true ∧ s.runs th .mbrecv w = true ∧ s.quiet th = true ∧ (s.gr th (wRa w)) % 64 = 0 ∧ s.engCheck th (s.gr th (wRa w)) 64 1 false = .ok pl ∧ (s.th th).rxq = []) ∧
    (∃ (s : State) (th : ThrId) (w : Nat) (r : RegName) (i : Nat) (j : Nat), s.up = true ∧ s.runs th .cld w = true ∧ s.quiet th = true ∧ (s.ea th w) < 0x4000000 ∧ (s.ea th w) % 8 = 0 ∧ (s.thGate th 3 (s.ea th w) 8 0).isNone = true ∧ s.reaches (s.ea th w) = true ∧ targetAt (s.ea th w) = some (.reg r i j)) ∧
    (∃ (s : State) (th : ThrId) (w : Nat), s.up = true ∧ s.runs th .cst w = true ∧ s.quiet th = true ∧ (s.ea th w) < 0x4000000 ∧ (s.thGate th 3 (s.ea th w) 8 1).isNone = true ∧ (((s.thMod th (fun x => { x with waiting := .cst ST_INTERNAL, issued := some { word := w, pc := (s.th th).pc, priv := s.priv th, inst := (s.th th).inst, time := s.now, addr := (s.ea th w) } })).access (.thread th) (s.ea th w) 64 (some (s.gr th (wRd w)))).1.th th).waiting = .cst ST_INTERNAL ∧ (((s.thMod th (fun x => { x with waiting := .cst ST_INTERNAL, issued := some { word := w, pc := (s.th th).pc, priv := s.priv th, inst := (s.th th).inst, time := s.now, addr := (s.ea th w) } })).access (.thread th) (s.ea th w) 64 (some (s.gr th (wRd w)))).1.th th).pc = (s.th th).pc) :=
  ⟨⟨((atW 9 0xBC640000).grSet 9 4 64), 9, 0xBC640000, ⟨spLocal 2, 64, 0⟩, by decide +kernel⟩,
   ⟨((atW 9 0x90640000).grSet 9 4 (RegName.PC_ROLE_CFG.place 5)), 9, 0x90640000, .PC_ROLE_CFG, 5, 0, by decide +kernel⟩,
   ⟨(((atW 9 0x94640000).grSet 9 4 (RegName.BIND_CFG.place)).grSet 9 3 (100 + 200 * 2 ^ 32)), 9, 0x94640000, by decide +kernel⟩⟩

theorem witness_FabricLoads_1 :
    (∃ (s : State) (th : ThrId) (w : Nat) (pl : Eng) (x : FlcLine), s.up = true ∧ s.runs th .fld w = true ∧ s.quiet th = true ∧ (s.ea th w) % 8 = 0 ∧ s.fabCheck th (s.ea th w) 8 0 = .ok pl ∧ (s.th th).storesTo ((s.ea th w) / 64) = false ∧ s.flcGet (thH th) ((s.ea th w) / 64) = some x) ∧
    (∃ (s : State) (th : ThrId) (w : Nat) (pl : Eng) (r : State) (id : Nat), s.up = true ∧ s.runs th .fld w = true ∧ s.quiet th = true ∧ (s.ea th w) % 8 = 0 ∧ s.fabCheck th (s.ea th w) 8 0 = .ok pl ∧ (s.th th).storesTo ((s.ea th w) / 64) = false ∧ s.flcGet (thH th) ((s.ea th w) / 64) = none ∧ (s.admitInternal (s.thTxn th (s.th th).inst .rdS (s.ea th w) [])) = (r, .inFlight id)) ∧
    (∃ (s : State) (th : ThrId) (w : Nat) (pl : Eng) (r : State) (id : Nat), s.up = true ∧ s.runs th .fldu w = true ∧ s.quiet th = true ∧ (s.ea th w) % 8 = 0 ∧ s.fabCheck th (s.ea th w) 8 0 = .ok pl ∧ (s.th th).storesTo ((s.ea th w) / 64) = false ∧ (s.admitInternal (s.thTxn th (s.th th).inst .rdCur (s.ea th w) [])) = (r, .inFlight id)) ∧
    (∃ (s : State) (th : ThrId) (w : Nat) (pl : Eng), s.up = true ∧ s.runs th .fldu w = true ∧ s.quiet th = true ∧ (s.ea th w) % 8 = 0 ∧ s.fabCheck th (s.ea th w) 8 0 = .ok pl ∧ (s.th th).storesTo ((s.ea th w) / 64) = false ∧ s.inTrap th = false ∧ bit (s.th th).tctl 0 = false ∧ s.instIn (s.th th).inst [4, 5] = false ∧ s.instIn (s.th th).inst [3] = true) ∧
    (∃ (s : State) (th : ThrId) (w : Nat) (pl : Eng), s.up = true ∧ s.runs th .fldu w = true ∧ s.quiet th = true ∧ (s.ea th w) % 8 = 0 ∧ s.fabCheck th (s.ea th w) 8 0 = .ok pl ∧ (s.th th).storesTo ((s.ea th w) / 64) = false ∧ bit (s.th th).tctl 0 = true ∧ s.instIn (s.th th).inst [4, 5] = false ∧ s.instIn (s.th th).inst [3] = true) ∧
    (∃ (s : State) (th : ThrId) (w : Nat) (pl : Eng) (q : Eng) (x : FlcLine), s.up = true ∧ s.runs th .flineLd w = true ∧ s.quiet th = true ∧ (s.gr th (wRd w)) % 64 = 0 ∧ s.engCheck th (s.gr th (wRd w)) 64 1 true = .ok q ∧ (s.gr th (wRa w)) % 64 = 0 ∧ s.fabCheck th (s.gr th (wRa w)) 64 0 = .ok pl ∧ (s.th th).storesTo ((s.gr th (wRa w)) / 64) = false ∧ s.flcGet (thH th) ((s.gr th (wRa w)) / 64) = some x ∧ engAt th (s.gr th (wRd w)) 64 = some q) ∧
    (∃ (s : State) (th : ThrId) (w : Nat) (pl : Eng) (q : Eng) (r : State) (id : Nat), s.up = true ∧ s.runs th .flineLd w = true ∧ s.quiet th = true ∧ (s.gr th (wRd w)) % 64 = 0 ∧ s.engCheck th (s.gr th (wRd w)) 64 1 true = .ok q ∧ (s.gr th (wRa w)) % 64 = 0 ∧ s.fabCheck th (s.gr th (wRa w)) 64 0 = .ok pl ∧ (s.th th).storesTo ((s.gr th (wRa w)) / 64) = false ∧ s.flcGet (thH th) ((s.gr th (wRa w)) / 64) = none ∧ (s.admitInternal (s.thTxn th (s.th th).inst .rdS (s.gr th (wRa w)) [])) = (r, .inFlight id)) :=
  ⟨⟨((atW 9 0x60640008).grSet 9 4 0x40).flcPut 0 1 { owned := true, dirty := true, poison := false, rank := 3, inst := 0, data := List.replicate 8 1 ++ List.replicate 56 2 }, 9, 0x60640008, ⟨0, 0x48, 3⟩, { owned := true, dirty := true, poison := false, rank := 3, inst := 0, data := List.replicate 8 1 ++ List.replicate 56 2 }, by decide +kernel⟩,
   ⟨(let X := (((atW 9 0x60640008).grSet 9 4 0x40).p INST_STATUS_STATE 1 0); { X with plc := { X.plc with segs := [(0, { valid := true })] } }), 9, 0x60640008, ⟨0, 0x48, 3⟩, ((let X := (((atW 9 0x60640008).grSet 9 4 0x40).p INST_STATUS_STATE 1 0); { X with plc := { X.plc with segs := [(0, { valid := true })] } }).admitInternal ((let X := (((atW 9 0x60640008).grSet 9 4 0x40).p INST_STATUS_STATE 1 0); { X with plc := { X.plc with segs := [(0, { valid := true })] } }).thTxn 9 0 .rdS 0x48 [])).1, 1, by decide +kernel⟩,
   ⟨(let X := (((atW 9 0x64640008).grSet 9 4 0x40).p INST_STATUS_STATE 1 0); { X with plc := { X.plc with segs := [(0, { valid := true })] } }), 9, 0x64640008, ⟨0, 0x48, 3⟩, ((let X := (((atW 9 0x64640008).grSet 9 4 0x40).p INST_STATUS_STATE 1 0); { X with plc := { X.plc with segs := [(0, { valid := true })] } }).admitInternal ((let X := (((atW 9 0x64640008).grSet 9 4 0x40).p INST_STATUS_STATE 1 0); { X with plc := { X.plc with segs := [(0, { valid := true })] } }).thTxn 9 0 .rdCur 0x48 [])).1, 1, by decide +kernel⟩,
   ⟨((atW 9 0x64640008).grSet 9 4 0x40).p INST_STATUS_STATE 3 0, 9, 0x64640008, ⟨0, 0x48, 3⟩, by decide +kernel⟩,
   ⟨((atW 9 0x64640008).grSet 9 4 0x40).p INST_STATUS_STATE 3 0 |>.thMod 9 (fun x => { x with tctl := 1 }), 9, 0x64640008, ⟨0, 0x48, 3⟩, by decide +kernel⟩,
   ⟨(((atW 9 0x70640000).grSet 9 3 64).grSet 9 4 0x40).flcPut 0 1 { owned := true, dirty := true, poison := false, rank := 3, inst := 0, data := List.replicate 8 1 ++ List.replicate 56 2 }, 9, 0x70640000, ⟨0, 0x40, 3⟩, ⟨spLocal 2, 64, 0⟩, { owned := true, dirty := true, poison := false, rank := 3, inst := 0, data := List.replicate 8 1 ++ List.replicate 56 2 }, by decide +kernel⟩,
   ⟨(let X := ((((atW 9 0x70640000).grSet 9 3 64).grSet 9 4 0x40).p INST_STATUS_STATE 1 0); { X with plc := { X.plc with segs := [(0, { valid := true })] } }), 9, 0x70640000, ⟨0, 0x40, 3⟩, ⟨spLocal 2, 64, 0⟩, ((let X := ((((atW 9 0x70640000).grSet 9 3 64).grSet 9 4 0x40).p INST_STATUS_STATE 1 0); { X with plc := { X.plc with segs := [(0, { valid := true })] } }).admitInternal ((let X := ((((atW 9 0x70640000).grSet 9 3 64).grSet 9 4 0x40).p INST_STATUS_STATE 1 0); { X with plc := { X.plc with segs := [(0, { valid := true })] } }).thTxn 9 0 .rdS 0x40 [])).1, 1, by decide +kernel⟩⟩

theorem witness_FabricLoads_2 :
    (∃ (s : State) (th : ThrId) (w : Nat) (pl : Eng) (q : Eng) (r : State) (id : Nat), s.up = true ∧ s.runs th .flineLdu w = true ∧ s.quiet th = true ∧ (s.gr th (wRd w)) % 64 = 0 ∧ s.engCheck th (s.gr th (wRd w)) 64 1 true = .ok q ∧ (s.gr th (wRa w)) % 64 = 0 ∧ s.fabCheck th (s.gr th (wRa w)) 64 0 = .ok pl ∧ (s.th th).storesTo ((s.gr th (wRa w)) / 64) = false ∧ (s.admitInternal (s.thTxn th (s.th th).inst .rdCur (s.gr th (wRa w)) [])) = (r, .inFlight id)) :=
  ⟨(let X := ((((atW 9 0x70640001).grSet 9 3 64).grSet 9 4 0x40).p INST_STATUS_STATE 1 0); { X with plc := { X.plc with segs := [(0, { valid := true })] } }), 9, 0x70640001, ⟨0, 0x40, 3⟩, ⟨spLocal 2, 64, 0⟩, ((let X := ((((atW 9 0x70640001).grSet 9 3 64).grSet 9 4 0x40).p INST_STATUS_STATE 1 0); { X with plc := { X.plc with segs := [(0, { valid := true })] } }).admitInternal ((let X := ((((atW 9 0x70640001).grSet 9 3 64).grSet 9 4 0x40).p INST_STATUS_STATE 1 0); { X with plc := { X.plc with segs := [(0, { valid := true })] } }).thTxn 9 0 .rdCur 0x40 [])).1, 1, by decide +kernel⟩

theorem witness_FabricStoresAtomicsAndFences_1 :
    (∃ (s : State) (th : ThrId) (w : Nat) (pl : Eng) (x : FlcLine), s.up = true ∧ s.runs th .fst w = true ∧ s.quiet th = true ∧ (s.ea th w) % 8 = 0 ∧ s.fabCheck th (s.ea th w) 8 1 = .ok pl ∧ (s.th th).stores.length < 16 ∧ (s.th th).storesTo ((s.ea th w) / 64) = false ∧ s.flcGet (thH th) ((s.ea th w) / 64) = some x ∧ x.owned = true) ∧
    (∃ (s : State) (th : ThrId) (w : Nat) (pl : Eng) (r : State) (id : Nat), s.up = true ∧ s.runs th .fst w = true ∧ s.quiet th = true ∧ (s.ea th w) % 8 = 0 ∧ s.fabCheck th (s.ea th w) 8 1 = .ok pl ∧ (s.th th).stores.length < 16 ∧ (s.th th).storesTo ((s.ea th w) / 64) = false ∧ s.flcGet (thH th) ((s.ea th w) / 64) = none ∧ s.admitInternal (s.storeTxn th { addr := (s.ea th w), data := leBytes 8 (s.gr th (wRd w)), cached := true, txn := none, inst := (s.th th).inst }) = (r, .inFlight id) ∧ r.thr = s.thr) ∧
    (∃ (s : State) (th : ThrId) (w : Nat) (pl : Eng) (r : State) (id : Nat), s.up = true ∧ s.runs th .fstu w = true ∧ s.quiet th = true ∧ (s.ea th w) % 8 = 0 ∧ s.fabCheck th (s.ea th w) 8 1 = .ok pl ∧ (s.th th).stores.length < 16 ∧ (s.th th).storesTo ((s.ea th w) / 64) = false ∧ s.admitInternal (s.storeTxn th { addr := (s.ea th w), data := leBytes 8 (s.gr th (wRd w)), cached := false, txn := none, inst := (s.th th).inst }) = (r, .inFlight id) ∧ r.thr = s.thr) ∧
    (∃ (s : State) (th : ThrId) (w : Nat) (pl : Eng) (q : Eng) (x : FlcLine), s.up = true ∧ s.runs th .flineSt w = true ∧ s.quiet th = true ∧ (s.gr th (wRd w)) % 64 = 0 ∧ s.engCheck th (s.gr th (wRd w)) 64 0 true = .ok q ∧ (s.gr th (wRa w)) % 64 = 0 ∧ s.fabCheck th (s.gr th (wRa w)) 64 1 = .ok pl ∧ (s.th th).stores.length < 16 ∧ (s.th th).storesTo ((s.gr th (wRa w)) / 64) = false ∧ s.flcGet (thH th) ((s.gr th (wRa w)) / 64) = some x ∧ x.owned = true) ∧
    (∃ (s : State) (th : ThrId) (w : Nat) (pl : Eng) (q : Eng) (r : State) (id : Nat), s.up = true ∧ s.runs th .flineStu w = true ∧ s.quiet th = true ∧ (s.gr th (wRd w)) % 64 = 0 ∧ s.engCheck th (s.gr th (wRd w)) 64 0 true = .ok q ∧ (s.gr th (wRa w)) % 64 = 0 ∧ s.fabCheck th (s.gr th (wRa w)) 64 1 = .ok pl ∧ (s.th th).stores.length < 16 ∧ (s.th th).storesTo ((s.gr th (wRa w)) / 64) = false ∧ s.admitInternal (s.storeTxn th { addr := (s.gr th (wRa w)), data := s.rd q.sp q.off 64, cached := false, txn := none, line := true, inst := (s.th th).inst }) = (r, .inFlight id) ∧ r.thr = s.thr) ∧
    (∃ (s : State) (th : ThrId) (w : Nat) (pl : Eng) (x : FlcLine), s.up = true ∧ s.runs th .amoFabric w = true ∧ s.quiet th = true ∧ (s.gr th (wRa w)) % 8 = 0 ∧ s.fabCheck th (s.gr th (wRa w)) 8 3 = .ok pl ∧ (s.th th).stores = [] ∧ (s.th th).serrPending = false ∧ s.flcGet (thH th) ((s.gr th (wRa w)) / 64) = some x ∧ x.owned = true) ∧
    (∃ (s : State) (th : ThrId) (w : Nat), s.up = true ∧ s.runs th .fenceL w = true ∧ s.quiet th = true) :=
  ⟨⟨(((atW 9 0x68640008).grSet 9 3 5).grSet 9 4 0x40).flcPut 0 1 { owned := true, dirty := true, poison := false, rank := 3, inst := 0, data := List.replicate 8 1 ++ List.replicate 56 2 }, 9, 0x68640008, ⟨0, 0x48, 3⟩, { owned := true, dirty := true, poison := false, rank := 3, inst := 0, data := List.replicate 8 1 ++ List.replicate 56 2 }, by decide +kernel⟩,
   ⟨(let X := ((((atW 9 0x68640008).grSet 9 3 5).grSet 9 4 0x40).p INST_STATUS_STATE 1 0); { X with plc := { X.plc with segs := [(0, { valid := true })] } }), 9, 0x68640008, ⟨0, 0x48, 3⟩, (((let X := ((((atW 9 0x68640008).grSet 9 3 5).grSet 9 4 0x40).p INST_STATUS_STATE 1 0); { X with plc := { X.plc with segs := [(0, { valid := true })] } })).admitInternal (((let X := ((((atW 9 0x68640008).grSet 9 3 5).grSet 9 4 0x40).p INST_STATUS_STATE 1 0); { X with plc := { X.plc with segs := [(0, { valid := true })] } })).storeTxn 9 { addr := ((let X := ((((atW 9 0x68640008).grSet 9 3 5).grSet 9 4 0x40).p INST_STATUS_STATE 1 0); { X with plc := { X.plc with segs := [(0, { valid := true })] } })).ea 9 0x68640008, data := leBytes 8 (((let X := ((((atW 9 0x68640008).grSet 9 3 5).grSet 9 4 0x40).p INST_STATUS_STATE 1 0); { X with plc := { X.plc with segs := [(0, { valid := true })] } })).gr 9 3), cached := true, txn := none, inst := (((let X := ((((atW 9 0x68640008).grSet 9 3 5).grSet 9 4 0x40).p INST_STATUS_STATE 1 0); { X with plc := { X.plc with segs := [(0, { valid := true })] } })).th 9).inst })).1, 1, by decide +kernel⟩,
   ⟨(let X := ((((atW 9 0x6C640008).grSet 9 3 5).grSet 9 4 0x40).p INST_STATUS_STATE 1 0); { X with plc := { X.plc with segs := [(0, { valid := true })] } }), 9, 0x6C640008, ⟨0, 0x48, 3⟩, (((let X := ((((atW 9 0x6C640008).grSet 9 3 5).grSet 9 4 0x40).p INST_STATUS_STATE 1 0); { X with plc := { X.plc with segs := [(0, { valid := true })] } })).admitInternal (((let X := ((((atW 9 0x6C640008).grSet 9 3 5).grSet 9 4 0x40).p INST_STATUS_STATE 1 0); { X with plc := { X.plc with segs := [(0, { valid := true })] } })).storeTxn 9 { addr := ((let X := ((((atW 9 0x6C640008).grSet 9 3 5).grSet 9 4 0x40).p INST_STATUS_STATE 1 0); { X with plc := { X.plc with segs := [(0, { valid := true })] } })).ea 9 0x6C640008, data := leBytes 8 (((let X := ((((atW 9 0x6C640008).grSet 9 3 5).grSet 9 4 0x40).p INST_STATUS_STATE 1 0); { X with plc := { X.plc with segs := [(0, { valid := true })] } })).gr 9 3), cached := false, txn := none, inst := (((let X := ((((atW 9 0x6C640008).grSet 9 3 5).grSet 9 4 0x40).p INST_STATUS_STATE 1 0); { X with plc := { X.plc with segs := [(0, { valid := true })] } })).th 9).inst })).1, 1, by decide +kernel⟩,
   ⟨(((atW 9 0x70640002).grSet 9 3 64).grSet 9 4 0x40).flcPut 0 1 { owned := true, dirty := true, poison := false, rank := 3, inst := 0, data := List.replicate 8 1 ++ List.replicate 56 2 }, 9, 0x70640002, ⟨0, 0x40, 3⟩, ⟨spLocal 2, 64, 0⟩, { owned := true, dirty := true, poison := false, rank := 3, inst := 0, data := List.replicate 8 1 ++ List.replicate 56 2 }, by decide +kernel⟩,
   ⟨(let X := ((((atW 9 0x70640003).grSet 9 3 64).grSet 9 4 0x40).p INST_STATUS_STATE 1 0); { X with plc := { X.plc with segs := [(0, { valid := true })] } }), 9, 0x70640003, ⟨0, 0x40, 3⟩, ⟨spLocal 2, 64, 0⟩, (((let X := ((((atW 9 0x70640003).grSet 9 3 64).grSet 9 4 0x40).p INST_STATUS_STATE 1 0); { X with plc := { X.plc with segs := [(0, { valid := true })] } })).admitInternal ((((let X := ((((atW 9 0x70640003).grSet 9 3 64).grSet 9 4 0x40).p INST_STATUS_STATE 1 0); { X with plc := { X.plc with segs := [(0, { valid := true })] } })).storeTxn 9 { addr := (((let X := ((((atW 9 0x70640003).grSet 9 3 64).grSet 9 4 0x40).p INST_STATUS_STATE 1 0); { X with plc := { X.plc with segs := [(0, { valid := true })] } })).gr 9 4), data := ((let X := ((((atW 9 0x70640003).grSet 9 3 64).grSet 9 4 0x40).p INST_STATUS_STATE 1 0); { X with plc := { X.plc with segs := [(0, { valid := true })] } })).rd (spLocal 2) 64 64, cached := false, txn := none, line := true, inst := (((let X := ((((atW 9 0x70640003).grSet 9 3 64).grSet 9 4 0x40).p INST_STATUS_STATE 1 0); { X with plc := { X.plc with segs := [(0, { valid := true })] } })).th 9).inst }))).1, 1, by decide +kernel⟩,
   ⟨(((atW 9 0x74642810).grSet 9 4 0x40).grSet 9 5 2).flcPut 0 1 { owned := true, dirty := true, poison := false, rank := 3, inst := 0, data := List.replicate 8 1 ++ List.replicate 56 2 }, 9, 0x74642810, ⟨0, 0x40, 3⟩, { owned := true, dirty := true, poison := false, rank := 3, inst := 0, data := List.replicate 8 1 ++ List.replicate 56 2 }, by decide +kernel⟩,
   ⟨(atW 9 0x78000000), 9, 0x78000000, by decide +kernel⟩⟩

theorem witness_FabricStoresAtomicsAndFences_2 :
    (∃ (s : State) (th : ThrId) (w : Nat), s.up = true ∧ s.runs th .fenceF w = true ∧ s.quiet th = true ∧ (s.th th).stores = [] ∧ (s.th th).serrPending = false) ∧
    (∃ (s : State) (th : ThrId) (w : Nat), s.up = true ∧ s.runs th .fenceA w = true ∧ s.quiet th = true ∧ (s.th th).stores = [] ∧ (s.th th).serrPending = false) ∧
    (∃ (s : State) (th : ThrId) (w : Nat), s.up = true ∧ s.runs th .fenceI w = true ∧ s.quiet th = true ∧ (s.th th).stores = [] ∧ (s.th th).serrPending = false) ∧
    (∃ (s : State) (th : ThrId) (w : Nat), s.up = true ∧ s.runs th .fenceF w = true ∧ s.quiet th = true ∧ (s.th th).stores = [] ∧ (s.th th).serrPending = true ∧ bit (s.th th).tctl 0 = false ∧ s.inTrap th = false) ∧
    (∃ (s : State) (th : ThrId) (w : Nat), s.up = true ∧ s.runs th .fenceF w = true ∧ s.quiet th = true ∧ (s.th th).stores ≠ []) ∧
    (∃ (s : State) (th : ThrId) (w : Nat), s.up = true ∧ s.runs th .fenceA w = true ∧ s.quiet th = true ∧ (s.th th).stores = [] ∧ (s.th th).serrPending = true ∧ bit (s.th th).tctl 0 = false ∧ s.inTrap th = false) ∧
    (∃ (s : State) (th : ThrId) (w : Nat), s.up = true ∧ s.runs th .fenceA w = true ∧ s.quiet th = true ∧ (s.th th).stores ≠ []) :=
  ⟨⟨(atW 9 0x78000001), 9, 0x78000001, by decide +kernel⟩,
   ⟨(atW 9 0x78000002), 9, 0x78000002, by decide +kernel⟩,
   ⟨(atW 9 0x78000003), 9, 0x78000003, by decide +kernel⟩,
   ⟨(atW 9 0x78000001).thMod 9 (fun x => { x with serrPending := true, serrAddr := 8, serrStatus := 0x20 }), 9, 0x78000001, by decide +kernel⟩,
   ⟨(atW 9 0x78000001).thMod 9 (fun x => { x with stores := [{ addr := 0, data := [], cached := false, txn := none }] }), 9, 0x78000001, by decide +kernel⟩,
   ⟨(atW 9 0x78000002).thMod 9 (fun x => { x with serrPending := true, serrAddr := 8, serrStatus := 0x20 }), 9, 0x78000002, by decide +kernel⟩,
   ⟨(atW 9 0x78000002).thMod 9 (fun x => { x with stores := [{ addr := 0, data := [], cached := false, txn := none }] }), 9, 0x78000002, by decide +kernel⟩⟩

theorem witness_FabricStoresAtomicsAndFences_3 :
    (∃ (s : State) (th : ThrId) (w : Nat), s.up = true ∧ s.runs th .fenceI w = true ∧ s.quiet th = true ∧ (s.th th).stores = [] ∧ (s.th th).serrPending = true ∧ bit (s.th th).tctl 0 = false ∧ s.inTrap th = false) ∧
    (∃ (s : State) (th : ThrId) (w : Nat), s.up = true ∧ s.runs th .fenceI w = true ∧ s.quiet th = true ∧ (s.th th).stores ≠ []) :=
  ⟨⟨(atW 9 0x78000003).thMod 9 (fun x => { x with serrPending := true, serrAddr := 8, serrStatus := 0x20 }), 9, 0x78000003, by decide +kernel⟩,
   ⟨(atW 9 0x78000003).thMod 9 (fun x => { x with stores := [{ addr := 0, data := [], cached := false, txn := none }] }), 9, 0x78000003, by decide +kernel⟩⟩

theorem witness_FabricAnswersAndSnoops_1 :
    (∃ (s : State) (th : ThrId) (i : Issued) (id : Nat) (a : IntAnswer), s.up = true ∧ (s.th th).waiting = .fabric id ∧ (s.th th).issued = some i ∧ i.pc = (s.th th).pc ∧ i.tagged = false ∧ s.quiet th = true ∧ nget? id s.sw.answers = some a ∧ plvOf i.word = some .fldu ∧ a.status = ST_OK) ∧
    (∃ (s : State) (th : ThrId) (i : Issued) (id : Nat) (a : IntAnswer), s.up = true ∧ (s.th th).waiting = .fabric id ∧ (s.th th).issued = some i ∧ i.pc = (s.th th).pc ∧ i.tagged = false ∧ s.quiet th = true ∧ nget? id s.sw.answers = some a ∧ plvOf i.word = some .fldu ∧ a.status ≠ ST_OK ∧ bit (s.th th).tctl 0 = false ∧ s.inTrap th = false) ∧
    (∃ (s : State) (th : ThrId) (i : Issued) (id : Nat) (a : IntAnswer), s.up = true ∧ (s.th th).waiting = .fabric id ∧ (s.th th).issued = some i ∧ i.pc = (s.th th).pc ∧ i.tagged = false ∧ s.quiet th = true ∧ nget? id s.sw.answers = some a ∧ plvOf i.word = some .fld ∧ a.status = ST_OK) ∧
    (∃ (s : State) (th : ThrId) (i : Issued) (id : Nat) (a : IntAnswer), s.up = true ∧ (s.th th).waiting = .fabric id ∧ (s.th th).issued = some i ∧ i.pc = (s.th th).pc ∧ i.tagged = false ∧ s.quiet th = true ∧ nget? id s.sw.answers = some a ∧ plvOf i.word = some .amoFabric ∧ a.status ≠ ST_OK ∧ bit (s.th th).tctl 0 = true) ∧
    (∃ (s : State) (th : ThrId) (i : Issued) (st : Nat), s.up = true ∧ (s.th th).waiting = .cst st ∧ (s.th th).issued = some i ∧ i.tagged = false ∧ s.quiet th = true ∧ (st = ST_OK ∨ bit (s.th th).tctl 0 = true)) ∧
    (∃ (s : State) (th : ThrId) (i : Issued) (id : Nat), s.up = true ∧ (s.th th).waiting = .fabric id ∧ (s.th th).issued = some i ∧ nget? id s.sw.answers = none) ∧
    (∃ (s : State) (th : ThrId) (i : Issued) (pl : Eng) (r : State) (id : Nat), s.up = true ∧ (s.th th).waiting = .retry ∧ (s.th th).issued = some i ∧ plvOf i.word = some .fldu ∧ s.ea th i.word % 8 = 0 ∧ (s.thMod th (fun x => { x with waiting := .none })).fabCheck th (s.ea th i.word) 8 0 = .ok pl ∧ (s.th th).storesTo (s.ea th i.word / 64) = false ∧ (s.thMod th (fun x => { x with waiting := .none })).admitInternal ((s.thMod th (fun x => { x with waiting := .none })).thTxn th i.inst .rdCur (s.ea th i.word) []) = (r, .inFlight id)) :=
  ⟨⟨(let X := (atW 9 0x64640008).thMod 9 (fun x => { x with waiting := .fabric 1, issued := some { word := 0x64640008, pc := 0, addr := 0x48, space := some 0, tagged := false } }); { X with sw := { X.sw with answers := [(1, ⟨0x80, 9, 0, List.replicate 64 7, 0, none⟩)] } }), 9, { word := 0x64640008, pc := 0, addr := 0x48, space := some 0, tagged := false }, 1, ⟨0x80, 9, 0, List.replicate 64 7, 0, none⟩, by decide +kernel⟩,
   ⟨(let X := (atW 9 0x64640008).thMod 9 (fun x => { x with waiting := .fabric 1, issued := some { word := 0x64640008, pc := 0, addr := 0x48, space := some 0, tagged := false } }); { X with sw := { X.sw with answers := [(1, ⟨0x80, 9, 0x21, List.replicate 64 7, 0, none⟩)] } }), 9, { word := 0x64640008, pc := 0, addr := 0x48, space := some 0, tagged := false }, 1, ⟨0x80, 9, 0x21, List.replicate 64 7, 0, none⟩, by decide +kernel⟩,
   ⟨(let X := (atW 9 0x60640008).thMod 9 (fun x => { x with waiting := .fabric 1, issued := some { word := 0x60640008, pc := 0, addr := 0x48, space := some 0, tagged := false } }); { X with sw := { X.sw with answers := [(1, ⟨0x80, 9, 0, List.replicate 64 7, 0, none⟩)] } }), 9, { word := 0x60640008, pc := 0, addr := 0x48, space := some 0, tagged := false }, 1, ⟨0x80, 9, 0, List.replicate 64 7, 0, none⟩, by decide +kernel⟩,
   ⟨(let X := (atW 9 0x74642810).thMod 9 (fun x => { x with waiting := .fabric 1, issued := some { word := 0x74642810, pc := 0, addr := 0x48, space := some 0, tagged := false }, tctl := 1 }); { X with sw := { X.sw with answers := [(1, ⟨0x80, 9, 0x21, List.replicate 64 7, 0, none⟩)] } }), 9, { word := 0x74642810, pc := 0, addr := 0x48, space := some 0, tagged := false }, 1, ⟨0x80, 9, 0x21, List.replicate 64 7, 0, none⟩, by decide +kernel⟩,
   ⟨(let X := (atW 9 0x94640000).thMod 9 (fun x => { x with waiting := .cst 0, issued := some { word := 0x94640000, pc := 0, addr := 0x48, space := some 0, tagged := false } }); { X with sw := { X.sw with answers := [(1, ⟨0x80, 9, 0, List.replicate 64 7, 0, none⟩)] } }), 9, { word := 0x94640000, pc := 0, addr := 0x48, space := some 0, tagged := false }, 0, by decide +kernel⟩,
   ⟨(let X := (atW 9 0x64640008).thMod 9 (fun x => { x with waiting := .fabric 1, issued := some { word := 0x64640008, pc := 0, addr := 0x48, space := some 0, tagged := false } }); { X with sw := { X.sw with answers := [] } }), 9, { word := 0x64640008, pc := 0, addr := 0x48, space := some 0, tagged := false }, 1, by decide +kernel⟩,
   ⟨(let X := (let X := (atW 9 0x64640008).thMod 9 (fun x => { x with waiting := .retry, issued := some { word := 0x64640008, pc := 0, addr := 0x48, space := some 0, tagged := false } }); { X with sw := { X.sw with answers := [(1, ⟨0x80, 9, 0, List.replicate 64 7, 0, none⟩)] } }).grSet 9 4 0x40; let Y := X.p INST_STATUS_STATE 1 0; { Y with plc := { Y.plc with segs := [(0, { valid := true })] } }), 9, { word := 0x64640008, pc := 0, addr := 0x48, space := some 0, tagged := false }, ⟨0, 0x48, 3⟩, (let S := ((let X := (let X := (atW 9 0x64640008).thMod 9 (fun x => { x with waiting := .retry, issued := some { word := 0x64640008, pc := 0, addr := 0x48, space := some 0, tagged := false } }); { X with sw := { X.sw with answers := [(1, ⟨0x80, 9, 0, List.replicate 64 7, 0, none⟩)] } }).grSet 9 4 0x40; let Y := X.p INST_STATUS_STATE 1 0; { Y with plc := { Y.plc with segs := [(0, { valid := true })] } })).thMod 9 (fun x => { x with waiting := .none }); (S.admitInternal (S.thTxn 9 0 .rdCur 0x48 [])).1), 1, by decide +kernel⟩⟩

theorem witness_FabricAnswersAndSnoops_2 :
    (∃ (s : State) (th : ThrId) (k : Fin 16) (p : PostedStore) (id : Nat) (a : IntAnswer), s.up = true ∧ (s.th th).stores[k.val]? = some p ∧ p.txn = some id ∧ p.sample = none ∧ nget? id s.sw.answers = some a ∧ a.status = ST_OK ∧ p.cached = false) ∧
    (∃ (s : State) (th : ThrId) (k : Fin 16) (p : PostedStore) (id : Nat) (a : IntAnswer), s.up = true ∧ (s.th th).stores[k.val]? = some p ∧ p.txn = some id ∧ p.sample = none ∧ nget? id s.sw.answers = some a ∧ a.status ≠ ST_OK ∧ (s.th th).serrValid = false) ∧
    (∃ (s : State) (th : ThrId) (k : Fin 16) (p : PostedStore) (id : Nat) (r : State), s.up = true ∧ (s.th th).stores[k.val]? = some p ∧ p.txn = none ∧ p.held = false ∧ p.cached = false ∧ ((s.th th).stores.take k).any (fun x => x.addr / 64 == p.addr / 64) = false ∧ s.admitInternal (s.storeTxn th p) = (r, .inFlight id)) ∧
    (∃ (s : State) (th : ThrId) (k : Fin 16) (p : PostedStore) (r : State), s.up = true ∧ (s.th th).stores[k.val]? = some p ∧ p.txn = none ∧ p.held = false ∧ p.cached = false ∧ ((s.th th).stores.take k).any (fun x => x.addr / 64 == p.addr / 64) = false ∧ s.admitInternal (s.storeTxn th p) = (r, .retry) ∧ r.retryAuto th = true) ∧
    (∃ (s : State) (th : ThrId) (p : PostedStore) (id : Nat) (r : State), s.up = true ∧ (s.th th).waiting = .none ∧ (s.th th).stores.find? (fun p => p.held) = some p ∧ p.cached = false ∧ s.admitInternal (s.storeTxn th p) = (r, .inFlight id)) ∧
    (∃ (s : State) (h : HearthId) (line : Nat) (n : SnoopOut), s.up = true ∧ s.hm.hearthSnoops.find? (fun n => n.holder == (s.dev * 4096 + 0x80 + h.val) && n.line == line) = some n ∧ s.snoopHeld h line n.after = false ∧ s.flcGet h line = none) ∧
    (∃ (s : State) (h : HearthId) (line : Nat) (n : SnoopOut) (x : FlcLine), s.up = true ∧ s.hm.hearthSnoops.find? (fun n => n.holder == (s.dev * 4096 + 0x80 + h.val) && n.line == line) = some n ∧ s.snoopHeld h line n.after = false ∧ s.flcGet h line = some x ∧ n.kind = 0) :=
  ⟨⟨(let X := upW.thMod 9 (fun x => { x with stores := [{ addr := 0x48, data := leBytes 8 5, cached := false, txn := some 1 }] }); { X with sw := { X.sw with answers := [(1, ⟨0x80, 9, 0, [], 0, none⟩)] } }), 9, 0, { addr := 0x48, data := leBytes 8 5, cached := false, txn := some 1 }, 1, ⟨0x80, 9, 0, [], 0, none⟩, by decide +kernel⟩,
   ⟨(let X := upW.thMod 9 (fun x => { x with stores := [{ addr := 0x48, data := leBytes 8 5, cached := false, txn := some 1 }] }); { X with sw := { X.sw with answers := [(1, ⟨0x80, 9, 0x20, [], 0, none⟩)] } }), 9, 0, { addr := 0x48, data := leBytes 8 5, cached := false, txn := some 1 }, 1, ⟨0x80, 9, 0x20, [], 0, none⟩, by decide +kernel⟩,
   ⟨(let X := upW.thMod 9 (fun x => { x with stores := [{ addr := 0x48, data := leBytes 8 5, cached := false, txn := none }] }); let Y := X.p INST_STATUS_STATE 1 0; { Y with plc := { Y.plc with segs := [(0, { valid := true })] } }), 9, 0, { addr := 0x48, data := leBytes 8 5, cached := false, txn := none }, 1, (let S : State := ((let X := upW.thMod 9 (fun x => { x with stores := [{ addr := 0x48, data := leBytes 8 5, cached := false, txn := none }] }); let Y := X.p INST_STATUS_STATE 1 0; { Y with plc := { Y.plc with segs := [(0, { valid := true })] } })); S.admitInternal (S.storeTxn 9 { addr := 0x48, data := leBytes 8 5, cached := false, txn := none })).1, by decide +kernel⟩,
   ⟨(let Z := ((let X := upW.thMod 9 (fun x => { x with stores := [{ addr := 0x48, data := leBytes 8 5, cached := false, txn := none }] }); let Y := X.p INST_STATUS_STATE 1 0; { Y with plc := { Y.plc with segs := [(0, { valid := true })] } })).p MTR_CFG_EN 1 3 |>.p MS_CFG_MTR_GLOBAL_EN 1 |>.p MTR_CFG_RED_ACTION 1 3; { Z with sw := { Z.sw with buckets := [(3, ⟨0, 0, 0⟩)] } }), 9, 0, { addr := 0x48, data := leBytes 8 5, cached := false, txn := none }, (let S : State := ((let Z := ((let X := upW.thMod 9 (fun x => { x with stores := [{ addr := 0x48, data := leBytes 8 5, cached := false, txn := none }] }); let Y := X.p INST_STATUS_STATE 1 0; { Y with plc := { Y.plc with segs := [(0, { valid := true })] } })).p MTR_CFG_EN 1 3 |>.p MS_CFG_MTR_GLOBAL_EN 1 |>.p MTR_CFG_RED_ACTION 1 3; { Z with sw := { Z.sw with buckets := [(3, ⟨0, 0, 0⟩)] } })); S.admitInternal (S.storeTxn 9 { addr := 0x48, data := leBytes 8 5, cached := false, txn := none })).1, by decide +kernel⟩,
   ⟨(let X := upW.thMod 9 (fun x => { x with stores := [{ addr := 0x48, data := leBytes 8 5, cached := false, txn := none, held := true }] }); let Y := X.p INST_STATUS_STATE 1 0; { Y with plc := { Y.plc with segs := [(0, { valid := true })] } }), 9, { addr := 0x48, data := leBytes 8 5, cached := false, txn := none, held := true }, 1, (let S : State := ((let X := upW.thMod 9 (fun x => { x with stores := [{ addr := 0x48, data := leBytes 8 5, cached := false, txn := none, held := true }] }); let Y := X.p INST_STATUS_STATE 1 0; { Y with plc := { Y.plc with segs := [(0, { valid := true })] } })); S.admitInternal (S.storeTxn 9 { addr := 0x48, data := leBytes 8 5, cached := false, txn := none, held := true })).1, by decide +kernel⟩,
   ⟨{ upW with hm := { upW.hm with hearthSnoops := [{ holder := 0x80, kind := 0, owner := true, line := 1 }] } }, 0, 1, { holder := 0x80, kind := 0, owner := true, line := 1 }, by decide +kernel⟩,
   ⟨({ upW with hm := { upW.hm with hearthSnoops := [{ holder := 0x80, kind := 0, owner := true, line := 1 }] } }).flcPut 0 1 { owned := true, dirty := true, poison := false, rank := 3, inst := 0, data := List.replicate 8 1 ++ List.replicate 56 2 }, 0, 1, { holder := 0x80, kind := 0, owner := true, line := 1 }, { owned := true, dirty := true, poison := false, rank := 3, inst := 0, data := List.replicate 8 1 ++ List.replicate 56 2 }, by decide +kernel⟩⟩

theorem witness_FabricAnswersAndSnoops_3 :
    (∃ (s : State) (h : HearthId) (line : Nat) (n : SnoopOut) (x : FlcLine), s.up = true ∧ s.hm.hearthSnoops.find? (fun n => n.holder == (s.dev * 4096 + 0x80 + h.val) && n.line == line) = some n ∧ s.snoopHeld h line n.after = false ∧ s.flcGet h line = some x ∧ n.kind = 1) ∧
    (∃ (s : State) (h : HearthId) (line : Nat) (n : SnoopOut) (x : FlcLine), s.up = true ∧ s.hm.hearthSnoops.find? (fun n => n.holder == (s.dev * 4096 + 0x80 + h.val) && n.line == line) = some n ∧ s.snoopHeld h line n.after = false ∧ s.flcGet h line = some x ∧ n.kind = 2) :=
  ⟨⟨({ upW with hm := { upW.hm with hearthSnoops := [{ holder := 0x80, kind := 1, owner := true, line := 1 }] } }).flcPut 0 1 { owned := true, dirty := true, poison := false, rank := 3, inst := 0, data := List.replicate 8 1 ++ List.replicate 56 2 }, 0, 1, { holder := 0x80, kind := 1, owner := true, line := 1 }, { owned := true, dirty := true, poison := false, rank := 3, inst := 0, data := List.replicate 8 1 ++ List.replicate 56 2 }, by decide +kernel⟩,
   ⟨({ upW with hm := { upW.hm with hearthSnoops := [{ holder := 0x80, kind := 2, owner := true, line := 1 }] } }).flcPut 0 1 { owned := true, dirty := true, poison := false, rank := 3, inst := 0, data := List.replicate 8 1 ++ List.replicate 56 2 }, 0, 1, { holder := 0x80, kind := 2, owner := true, line := 1 }, { owned := true, dirty := true, poison := false, rank := 3, inst := 0, data := List.replicate 8 1 ++ List.replicate 56 2 }, by decide +kernel⟩⟩

theorem witness_BlockInstructions_1 :
    (∃ (s : State) (th : ThrId) (w : Nat), s.up = true ∧ s.runs th .bmove w = true ∧ s.quiet th = true ∧ (s.gr th (wRb w)) = 0) ∧
    (∃ (s : State) (th : ThrId) (w : Nat) (d : Eng) (e : Eng), s.up = true ∧ s.runs th .bmove w = true ∧ s.quiet th = true ∧ 0 < (s.gr th (wRb w)) ∧ (s.gr th (wRd w)) < 2 ^ 64 ∧ (s.gr th (wRa w)) < 2 ^ 64 ∧ (s.gr th (wRb w)) ≤ 64 - (s.gr th (wRd w)) % 64 ∧ dFab w = false ∧ aFab w = false ∧ s.engCheck th (s.gr th (wRd w)) (s.gr th (wRb w)) 1 true = .ok d ∧ s.engCheck th (s.gr th (wRa w)) (s.gr th (wRb w)) 0 true = .ok e ∧ engAt th (s.gr th (wRa w)) (s.gr th (wRb w)) = some e) ∧
    (∃ (s : State) (th : ThrId) (w : Nat), s.up = true ∧ s.runs th .bfill w = true ∧ s.quiet th = true ∧ (s.gr th (wRb w)) = 0) ∧
    (∃ (s : State) (th : ThrId) (w : Nat) (d : Eng) (e : Eng), s.up = true ∧ s.runs th .bfill w = true ∧ s.quiet th = true ∧ 0 < (s.gr th (wRb w)) ∧ (s.gr th (wRd w)) < 2 ^ 64 ∧ (s.gr th (wRa w)) < 2 ^ 64 ∧ (s.gr th (wRb w)) ≤ 64 - (s.gr th (wRd w)) % 64 ∧ dFab w = false ∧ s.engCheck th (s.gr th (wRd w)) (s.gr th (wRb w)) 1 true = .ok d) ∧
    (∃ (s : State) (th : ThrId) (w : Nat), s.up = true ∧ s.runs th .bcmp w = true ∧ s.quiet th = true ∧ (s.gr th (wRb w)) = 0) ∧
    (∃ (s : State) (th : ThrId) (w : Nat) (d : Eng) (e : Eng), s.up = true ∧ s.runs th .bcmp w = true ∧ s.quiet th = true ∧ 0 < (s.gr th (wRb w)) ∧ (s.gr th (wRd w)) < 2 ^ 64 ∧ (s.gr th (wRa w)) < 2 ^ 64 ∧ (s.gr th (wRb w)) ≤ 64 - (s.gr th (wRd w)) % 64 ∧ dFab w = false ∧ aFab w = false ∧ s.engCheck th (s.gr th (wRd w)) (s.gr th (wRb w)) 0 true = .ok d ∧ s.engCheck th (s.gr th (wRa w)) (s.gr th (wRb w)) 0 true = .ok e ∧ engAt th (s.gr th (wRa w)) (s.gr th (wRb w)) = some e ∧ engAt th (s.gr th (wRd w)) (s.gr th (wRb w)) = some d) ∧
    (∃ (s : State) (th : ThrId) (i : Issued) (b : Beat) (d : Eng), s.up = true ∧ (s.th th).waiting = .block ∧ (s.th th).issued = some i ∧ i.tagged = false ∧ s.quiet th = true ∧ (s.th th).beats = [b] ∧ b.phase = .reading ∧ dFab i.word = false ∧ (s.progress th i.word b.len).gr th (wRb i.word) = 0 ∧ wOp i.word = 0x35 ∧ b.reads = [] ∧ engAt th b.dst b.len = some d) :=
  ⟨⟨(((atW 9 0xD0642800).grSet 9 3 64).grSet 9 4 128), 9, 0xD0642800, by decide +kernel⟩,
   ⟨((((atW 9 0xD0642800).grSet 9 3 64).grSet 9 4 128).grSet 9 5 16), 9, 0xD0642800, ⟨spLocal 2, 64, 0⟩, ⟨spLocal 2, 128, 0⟩, by decide +kernel⟩,
   ⟨(((atW 9 0xD4642800).grSet 9 3 64).grSet 9 4 128), 9, 0xD4642800, by decide +kernel⟩,
   ⟨((((atW 9 0xD4642800).grSet 9 3 64).grSet 9 4 128).grSet 9 5 16), 9, 0xD4642800, ⟨spLocal 2, 64, 0⟩, ⟨spLocal 2, 128, 0⟩, by decide +kernel⟩,
   ⟨(((atW 9 0xD8642800).grSet 9 3 64).grSet 9 4 128), 9, 0xD8642800, by decide +kernel⟩,
   ⟨((((atW 9 0xD8642800).grSet 9 3 64).grSet 9 4 128).grSet 9 5 16), 9, 0xD8642800, ⟨spLocal 2, 64, 0⟩, ⟨spLocal 2, 128, 0⟩, by decide +kernel⟩,
   ⟨(((atW 9 0xD4642800).grSet 9 3 64).grSet 9 4 128).grSet 9 5 16 |>.thMod 9 (fun x => { x with waiting := .block, issued := some { word := 0xD4642800, pc := 0 }, beats := [{ dst := 64, src := 128, len := 16, reads := [] }] }), 9, { word := 0xD4642800, pc := 0 }, { dst := 64, src := 128, len := 16, reads := [] }, ⟨spLocal 2, 64, 0⟩, by decide +kernel⟩⟩

theorem witness_BlockInstructions_2 :
    (∃ (s : State) (th : ThrId) (i : Issued) (b : Beat) (d : Eng) (bs : List Byte) (r : BeatRead), s.up = true ∧ (s.th th).waiting = .block ∧ (s.th th).issued = some i ∧ i.tagged = false ∧ s.quiet th = true ∧ (s.th th).beats = [b] ∧ b.phase = .reading ∧ dFab i.word = false ∧ (s.progress th i.word b.len).gr th (wRb i.word) = 0 ∧ wOp i.word = 0x34 ∧ b.reads = [r] ∧ r.rd = false ∧ r.txn = none ∧ r.data = some bs ∧ r.status = ST_OK ∧ bs.length = b.len ∧ engAt th b.dst b.len = some d ∧ s.overlapOf th i.word ≠ .above) ∧
    (∃ (s : State) (th : ThrId) (i : Issued) (b : Beat) (d : Eng) (x : BeatRead) (y : BeatRead) (p : List Byte) (q : List Byte), s.up = true ∧ (s.th th).waiting = .block ∧ (s.th th).issued = some i ∧ i.tagged = false ∧ s.quiet th = true ∧ (s.th th).beats = [b] ∧ b.phase = .reading ∧ dFab i.word = false ∧ (s.progress th i.word b.len).gr th (wRb i.word) = 0 ∧ wOp i.word = 0x36 ∧ b.reads = [x, y] ∧ x.rd = true ∧ x.txn = none ∧ x.data = some p ∧ x.status = ST_OK ∧ y.rd = false ∧ y.txn = none ∧ y.data = some q ∧ y.status = ST_OK ∧ p = q) ∧
    (∃ (s : State) (th : ThrId) (i : Issued) (b : Beat) (d : Eng) (x : BeatRead) (y : BeatRead) (p : List Byte) (q : List Byte) (k : Nat), s.up = true ∧ (s.th th).waiting = .block ∧ (s.th th).issued = some i ∧ i.tagged = false ∧ s.quiet th = true ∧ (s.th th).beats = [b] ∧ b.phase = .reading ∧ dFab i.word = false ∧ (s.progress th i.word b.len).gr th (wRb i.word) = 0 ∧ wOp i.word = 0x36 ∧ b.reads = [x, y] ∧ x.rd = true ∧ x.txn = none ∧ x.data = some p ∧ x.status = ST_OK ∧ y.rd = false ∧ y.txn = none ∧ y.data = some q ∧ y.status = ST_OK ∧ firstDiff p q = some k) :=
  ⟨⟨(((atW 9 0xD0642800).grSet 9 3 64).grSet 9 4 128).grSet 9 5 16 |>.thMod 9 (fun x => { x with waiting := .block, issued := some { word := 0xD0642800, pc := 0 }, beats := [{ dst := 64, src := 128, len := 16, reads := [{ rd := false, addr := 128, len := 16, data := some (List.replicate 16 5) }] }] }), 9, { word := 0xD0642800, pc := 0 }, { dst := 64, src := 128, len := 16, reads := [{ rd := false, addr := 128, len := 16, data := some (List.replicate 16 5) }] }, ⟨spLocal 2, 64, 0⟩, List.replicate 16 5, { rd := false, addr := 128, len := 16, data := some (List.replicate 16 5) }, by decide +kernel⟩,
   ⟨(((atW 9 0xD8642800).grSet 9 3 64).grSet 9 4 128).grSet 9 5 16 |>.thMod 9 (fun x => { x with waiting := .block, issued := some { word := 0xD8642800, pc := 0 }, beats := [{ dst := 64, src := 128, len := 16, reads := [{ rd := true, addr := 64, len := 16, data := some (List.replicate 16 5) }, { rd := false, addr := 128, len := 16, data := some (List.replicate 16 5) }] }] }), 9, { word := 0xD8642800, pc := 0 }, { dst := 64, src := 128, len := 16, reads := [{ rd := true, addr := 64, len := 16, data := some (List.replicate 16 5) }, { rd := false, addr := 128, len := 16, data := some (List.replicate 16 5) }] }, ⟨spLocal 2, 64, 0⟩, { rd := true, addr := 64, len := 16, data := some (List.replicate 16 5) }, { rd := false, addr := 128, len := 16, data := some (List.replicate 16 5) }, List.replicate 16 5, List.replicate 16 5, by decide +kernel⟩,
   ⟨(((atW 9 0xD8642800).grSet 9 3 64).grSet 9 4 128).grSet 9 5 16 |>.thMod 9 (fun x => { x with waiting := .block, issued := some { word := 0xD8642800, pc := 0 }, beats := [{ dst := 64, src := 128, len := 16, reads := [{ rd := true, addr := 64, len := 16, data := some (List.replicate 16 5) }, { rd := false, addr := 128, len := 16, data := some (List.replicate 9 5 ++ List.replicate 7 6) }] }] }), 9, { word := 0xD8642800, pc := 0 }, { dst := 64, src := 128, len := 16, reads := [{ rd := true, addr := 64, len := 16, data := some (List.replicate 16 5) }, { rd := false, addr := 128, len := 16, data := some (List.replicate 9 5 ++ List.replicate 7 6) }] }, ⟨spLocal 2, 64, 0⟩, { rd := true, addr := 64, len := 16, data := some (List.replicate 16 5) }, { rd := false, addr := 128, len := 16, data := some (List.replicate 9 5 ++ List.replicate 7 6) }, List.replicate 16 5, List.replicate 9 5 ++ List.replicate 7 6, 9, by decide +kernel⟩⟩

theorem witness_ThreadControlAndImages_1 :
    (∃ (s : State) (m : Master) (t0 : ThrId), s.up = true ∧ s.accepts m .TH_CTRL (thH t0) (thI t0) = true ∧ s.halted t0 = true ∧ s.loaded t0 = true ∧ s.fu.contained.contains (scope 4 t0) = false) ∧
    (∃ (s : State) (m : Master) (t0 : ThrId), s.up = true ∧ s.accepts m .TH_CTRL (thH t0) (thI t0) = true ∧ s.halted t0 = false) ∧
    (∃ (s : State) (m : Master) (t0 : ThrId), s.up = true ∧ s.accepts m .TH_CTRL (thH t0) (thI t0) = true ∧ s.halted t0 = true ∧ s.loaded t0 = false) ∧
    (∃ (s : State) (m : Master) (t0 : ThrId), s.up = true ∧ s.accepts m .TH_CTRL (thH t0) (thI t0) = true ∧ s.halted t0 = false ∧ (s.th t0).waiting = .none ∧ (s.th t0).clearAsked = false) ∧
    (∃ (s : State) (m : Master) (t0 : ThrId), s.up = true ∧ s.accepts m .TH_CTRL (thH t0) (thI t0) = true ∧ s.halted t0 = false ∧ (match (s.th t0).waiting with | .fabric _ => true | _ => false) = true) ∧
    (∃ (s : State) (m : Master) (t0 : ThrId), s.up = true ∧ s.accepts m .TH_CTRL (thH t0) (thI t0) = true ∧ s.halted t0 = true) ∧
    (∃ (s : State) (m : Master) (t0 : ThrId), s.up = true ∧ s.accepts m .TH_CTRL (thH t0) (thI t0) = true ∧ s.halted t0 = true) :=
  ⟨⟨(upW.p TH_STATUS_LOADED 1 0 9), .device, 9, by decide +kernel⟩,
   ⟨(upW.p TH_STATUS_LOADED 1 0 9).p TH_STATUS_STATE 1 0 9, .device, 9, by decide +kernel⟩,
   ⟨upW, .device, 9, by decide +kernel⟩,
   ⟨(upW.p TH_STATUS_LOADED 1 0 9).p TH_STATUS_STATE 1 0 9, .device, 9, by decide +kernel⟩,
   ⟨(upW.p TH_STATUS_LOADED 1 0 9).p TH_STATUS_STATE 1 0 9 |>.thMod 9 (fun x => { x with waiting := .fabric 4 }), .device, 9, by decide +kernel⟩,
   ⟨upW, .device, 9, by decide +kernel⟩,
   ⟨(upW.p TH_STATUS_LOADED 1 0 9).thMod 9 (fun x => { x with evtPend := 4 }), .device, 9, by decide +kernel⟩⟩

theorem witness_ThreadControlAndImages_2 :
    (∃ (s : State) (m : Master) (h : HearthId), s.up = true ∧ s.accepts m .HTH_CTRL h = true ∧ h.val = 15) ∧
    (∃ (s : State) (m : Master) (h : HearthId), s.up = true ∧ s.accepts m .HTH_CTRL h = true ∧ h.val ≠ 15 ∧ (List.range 128).all (fun k => s.halted (128 * h + k)) = true) ∧
    (∃ (s : State) (m : Master) (h : HearthId) (k : Fin 128) (tag : Fin 65536) (inst : Fin 16384), s.up = true ∧ s.accepts m .HTH_LOAD_CMD h = true ∧ s.on HTH_LOAD_STATUS_BUSY h = false ∧ (s.loadTags.contains h.val = false ∨ s.g HTH_LOAD_STATUS_TAG h ≠ tag) ∧ s.halted (128 * h.val + k.val) = false) ∧
    (∃ (s : State) (m : Master) (h : HearthId) (k : Fin 128) (tag : Fin 65536) (inst : Fin 16384), s.up = true ∧ s.accepts m .HTH_LOAD_CMD h = true ∧ s.on HTH_LOAD_STATUS_BUSY h = false ∧ (s.loadTags.contains h.val = false ∨ s.g HTH_LOAD_STATUS_TAG h ≠ tag) ∧ s.halted (128 * h.val + k.val) = true ∧ s.headerStatus (128 * h.val + k.val) inst (s.rd spHbm (s.g HTH_LOAD_SRC_OFFSET h * 64) 256) ≠ ST_OK ∧ (s.g HTH_LOAD_SRC_OFFSET h * 64) + 256 ≤ 0x200000000) ∧
    (∃ (s : State) (m : Master) (h : HearthId) (k : Fin 128) (tag : Fin 65536) (inst : Fin 16384), s.up = true ∧ s.accepts m .HTH_LOAD_CMD h = true ∧ s.on HTH_LOAD_STATUS_BUSY h = false ∧ (s.loadTags.contains h.val = false ∨ s.g HTH_LOAD_STATUS_TAG h ≠ tag) ∧ s.halted (128 * h.val + k.val) = true ∧ s.headerStatus (128 * h.val + k.val) inst (s.rd spHbm (s.g HTH_LOAD_SRC_OFFSET h * 64) 256) = ST_OK ∧ (s.g HTH_LOAD_SRC_OFFSET h * 64) + 256 ≤ 0x200000000 ∧ sectionsOf (s.rd spHbm (s.g HTH_LOAD_SRC_OFFSET h * 64) 256) = [⟨fieldOf (s.rd spHbm (s.g HTH_LOAD_SRC_OFFSET h * 64) 256) 32 4 % 16, fieldOf (s.rd spHbm (s.g HTH_LOAD_SRC_OFFSET h * 64) 256) 36 4, fieldOf (s.rd spHbm (s.g HTH_LOAD_SRC_OFFSET h * 64) 256) 40 4, fieldOf (s.rd spHbm (s.g HTH_LOAD_SRC_OFFSET h * 64) 256) 44 4⟩] ∧ fieldOf (s.rd spHbm (s.g HTH_LOAD_SRC_OFFSET h * 64) 256) 32 4 % 16 ≤ 1) ∧
    (∃ (s : State) (h : HearthId) (o : LoadOp), s.up = true ∧ nget? h.val s.loads = some o ∧ o.late = false ∧ s.imageValid s.hj.keyBlock o.header o.sig o.hash = true ∧ (fieldOf o.header 6 1 = 2 ∨ s.on HJ_STATUS_ERROR_STATE = false) ∧ s.loadInst (128 * h.val + o.thread) (fieldOf o.header 6 1) o.inst = ST_OK ∧ o.thread < 128) ∧
    (∃ (s : State) (h : HearthId) (o : LoadOp), s.up = true ∧ nget? h.val s.loads = some o ∧ o.late = false ∧ s.imageValid s.hj.keyBlock o.header o.sig o.hash = true ∧ (fieldOf o.header 6 1 = 2 ∨ s.on HJ_STATUS_ERROR_STATE = false) ∧ s.loadInst (128 * h.val + o.thread) (fieldOf o.header 6 1) o.inst ≠ ST_OK ∧ o.thread < 128) :=
  ⟨⟨upW, .device, 15, by decide +kernel⟩,
   ⟨(upW.p TH_STATUS_LOADED 1 0 9), .device, 0, by decide +kernel⟩,
   ⟨upW.p TH_STATUS_STATE 1 0 9, .device, 0, 9, 4, 3, by decide +kernel⟩,
   ⟨upW, .device, 0, 9, 4, 3, by decide +kernel⟩,
   ⟨(upW.wr spHbm 0 (leBytes 4 0x56504C4B ++ leBytes 2 1 ++ leBytes 1 1 ++ leBytes 1 1 ++ leBytes 4 64 ++ leBytes 4 5 ++ leBytes 8 0x40 ++ leBytes 8 0x80 ++ leBytes 4 0 ++ leBytes 4 256 ++ leBytes 4 64 ++ leBytes 4 0x100)), .device, 0, 9, 4, 3, by decide +kernel⟩,
   ⟨({ upW with loads := [(0, { thread := 9, tag := 4, inst := 3, header := leBytes 4 0x56504C4B ++ leBytes 2 1 ++ leBytes 1 2 ++ leBytes 1 0 ++ leBytes 8 0 ++ leBytes 8 0x46 ++ List.replicate 232 0, hash := 0, sig := [], dests := [(spLocal 2, 0, 4)] })] }.p INST_STATUS_STATE 1 3).p INST_POOL_THREAD_QUOTA 4 3, 0, { thread := 9, tag := 4, inst := 3, header := leBytes 4 0x56504C4B ++ leBytes 2 1 ++ leBytes 1 2 ++ leBytes 1 0 ++ leBytes 8 0 ++ leBytes 8 0x46 ++ List.replicate 232 0, hash := 0, sig := [], dests := [(spLocal 2, 0, 4)] }, by decide +kernel⟩,
   ⟨{ upW with loads := [(0, { thread := 9, tag := 4, inst := 3, header := leBytes 4 0x56504C4B ++ leBytes 2 1 ++ leBytes 1 2 ++ leBytes 1 0 ++ leBytes 8 0 ++ leBytes 8 0x46 ++ List.replicate 232 0, hash := 0, sig := [], dests := [(spLocal 2, 0, 4)] })] }, 0, { thread := 9, tag := 4, inst := 3, header := leBytes 4 0x56504C4B ++ leBytes 2 1 ++ leBytes 1 2 ++ leBytes 1 0 ++ leBytes 8 0 ++ leBytes 8 0x46 ++ List.replicate 232 0, hash := 0, sig := [], dests := [(spLocal 2, 0, 4)] }, by decide +kernel⟩⟩

theorem witness_ThreadControlAndImages_3 :
    (∃ (s : State) (h : HearthId) (o : LoadOp), s.up = true ∧ nget? h.val s.loads = some o ∧ o.late = false ∧ s.imageValid s.hj.keyBlock o.header o.sig o.hash = false ∧ (fieldOf o.header 6 1 = 2 ∨ s.on HJ_STATUS_ERROR_STATE = false) ∧ o.thread < 128) ∧
    (∃ (s : State) (h : HearthId) (o : LoadOp), s.up = true ∧ nget? h.val s.loads = some o ∧ o.late = false ∧ o.thread < 128) :=
  ⟨⟨{ upW with loads := [(0, { thread := 9, tag := 4, inst := 3, header := leBytes 4 0x56504C4B ++ leBytes 2 1 ++ leBytes 1 2 ++ leBytes 1 0 ++ leBytes 8 0 ++ leBytes 8 0x46 ++ List.replicate 232 0, hash := 1, sig := [], dests := [(spLocal 2, 0, 4)] })] }, 0, { thread := 9, tag := 4, inst := 3, header := leBytes 4 0x56504C4B ++ leBytes 2 1 ++ leBytes 1 2 ++ leBytes 1 0 ++ leBytes 8 0 ++ leBytes 8 0x46 ++ List.replicate 232 0, hash := 1, sig := [], dests := [(spLocal 2, 0, 4)] }, by decide +kernel⟩,
   ⟨{ upW with loads := [(0, { thread := 9, tag := 4, inst := 3, header := leBytes 4 0x56504C4B ++ leBytes 2 1 ++ leBytes 1 2 ++ leBytes 1 0 ++ leBytes 8 0 ++ leBytes 8 0x46 ++ List.replicate 232 0, hash := 0, sig := [], dests := [(spLocal 2, 0, 4)] })] }, 0, { thread := 9, tag := 4, inst := 3, header := leBytes 4 0x56504C4B ++ leBytes 2 1 ++ leBytes 1 2 ++ leBytes 1 0 ++ leBytes 8 0 ++ leBytes 8 0x46 ++ List.replicate 232 0, hash := 0, sig := [], dests := [(spLocal 2, 0, 4)] }, by decide +kernel⟩⟩

theorem witness_CommitSteps_1 :
    (∃ (s : State) (c : Commit) (rest : List Commit), s.up = true ∧ s.isCommitMaster = true ∧ s.cmt.cur = none ∧ s.cmt.queue = c :: rest ∧ c.expect.all (fun e => e == (s.g PLC_EPOCH_STATUS_CUR_EPOCH)) = true ∧ ({ s with cmt := { s.cmt with queue := rest } } : State).commitVerdict c = ST_OK) ∧
    (∃ (s : State) (c : Commit) (rest : List Commit), s.up = true ∧ s.isCommitMaster = true ∧ s.cmt.cur = none ∧ s.cmt.queue = c :: rest ∧ c.expect.any (fun e => e != (s.g PLC_EPOCH_STATUS_CUR_EPOCH)) = true ∧ c.owner = .bridge) ∧
    (∃ (s : State) (d : DevId) (held : ShadowAck) (c : Commit), s.up = true ∧ s.isCommitMaster = true ∧ s.cmt.cur = some c ∧ c.epoch = none ∧ c.acks.contains d.val = false) ∧
    (∃ (s : State) (c : Commit), s.up = true ∧ s.cmt.cur = some c ∧ c.epoch = none ∧ (∀ d ∈ s.commitMembers, d ∈ c.acks) ∧ c.need.all (fun d => s.commitMembers.contains d) = true ∧ ((((s.g PLC_EPOCH_STATUS_CUR_EPOCH) + 1) % 2 ^ 32) + 2 ^ 32 - s.oldestStack) % 2 ^ 32 < 2 ^ 31 ∧ c.owner = .bridge ∧ c.control = true ∧ s.plc.migs = []) ∧
    (∃ (s : State) (c : Commit) (k : Nat) (m : Migration), s.up = true ∧ s.cmt.cur = some c ∧ c.epoch = none ∧ (∀ d ∈ s.commitMembers, d ∈ c.acks) ∧ c.need.all (fun d => s.commitMembers.contains d) = true ∧ ((((s.g PLC_EPOCH_STATUS_CUR_EPOCH) + 1) % 2 ^ 32) + 2 ^ 32 - s.oldestStack) % 2 ^ 32 < 2 ^ 31 ∧ c.owner = .switch [k] ∧ c.control = false ∧ nget? k s.plc.migs = some m ∧ m.state = 3 ∧ s.switchNow c = [(k, m.page)]) ∧
    (∃ (s : State) (d : DevId) (ep : Fin 4294967296) (ctl : Bool) (own : AppliedSet) (c : Commit) (e : Nat), s.up = true ∧ s.isCommitMaster = true ∧ s.commitMembers = [s.dev] ∧ d.val = s.dev ∧ s.cmt.cur = some c ∧ c.epoch = some e ∧ c.applied = [] ∧ c.owner = .bridge ∧ c.control = true ∧ s.hm.msc = [] ∧ s.plc.migs = []) ∧
    (∃ (s : State) (d : DevId) (ep : Fin 4294967296) (ctl : Bool) (own : AppliedSet) (c : Commit) (e : Nat) (i : Issued) (th : Nat), s.up = true ∧ s.isCommitMaster = true ∧ s.commitMembers = [s.dev] ∧ d.val = s.dev ∧ s.cmt.cur = some c ∧ c.epoch = some e ∧ c.applied = [] ∧ c.owner = .thread th ∧ c.entries = [] ∧ s.hm.msc = [] ∧ s.plc.migs = [] ∧ (s.th th).issued = some i ∧ (s.th th).waiting = .commit ∧ i.tagged = false ∧ s.quiet th = true) :=
  ⟨⟨{ upW with cmt := { upW.cmt with queue := [{ id := 1, owner := .bridge, entries := [] }] } }, { id := 1, owner := .bridge, entries := [] }, [], by decide +kernel⟩,
   ⟨{ upW with cmt := { upW.cmt with queue := [{ id := 1, owner := .bridge, entries := [], expect := some 5 }] } }, { id := 1, owner := .bridge, entries := [], expect := some 5 }, [], by decide +kernel⟩,
   ⟨{ upW with cmt := { upW.cmt with cur := some { id := 1, owner := .bridge, entries := [] } } }, 0, ⟨[], some 3⟩, { id := 1, owner := .bridge, entries := [] }, by decide +kernel⟩,
   ⟨{ upW with cmt := { upW.cmt with cur := some { id := 1, owner := .bridge, entries := [], acks := [0] } } }, { id := 1, owner := .bridge, entries := [], acks := [0] }, by decide +kernel⟩,
   ⟨{ upW with cmt := { upW.cmt with cur := some { id := 1, owner := .switch [4], entries := [switchEntry 0 { page := 9, tag := 6, inst := 3, state := 3, srcSet := 0, srcSo := 0, dstSet := 1, dstSo := 2, ready := true }], control := false, acks := [0] } }, plc := { upW.plc with migs := [(4, { page := 9, tag := 6, inst := 3, state := 3, srcSet := 0, srcSo := 0, dstSet := 1, dstSo := 2, ready := true })] } }, { id := 1, owner := .switch [4], entries := [switchEntry 0 { page := 9, tag := 6, inst := 3, state := 3, srcSet := 0, srcSo := 0, dstSet := 1, dstSo := 2, ready := true }], control := false, acks := [0] }, 4, { page := 9, tag := 6, inst := 3, state := 3, srcSet := 0, srcSo := 0, dstSet := 1, dstSo := 2, ready := true }, by decide +kernel⟩,
   ⟨{ upW with cmt := { upW.cmt with cur := some { id := 1, owner := .bridge, entries := [⟨false, RegName.IW_LIMIT.place 3, 7⟩], acks := [0], epoch := some 4 } } }, 0, 4, true, ⟨none, []⟩, { id := 1, owner := .bridge, entries := [⟨false, RegName.IW_LIMIT.place 3, 7⟩], acks := [0], epoch := some 4 }, 4, by decide +kernel⟩,
   ⟨(let X := { upW with cmt := { upW.cmt with cur := some { id := 1, owner := .thread 9, entries := [], acks := [0], epoch := some 4 } } }; X.thMod 9 (fun x => { x with waiting := .commit, issued := some { word := 0xA8642800, pc := 8 }, staging := [⟨true, 9, 0⟩] })), 0, 4, true, ⟨none, []⟩, { id := 1, owner := .thread 9, entries := [], acks := [0], epoch := some 4 }, 4, { word := 0xA8642800, pc := 8 }, 9, by decide +kernel⟩⟩

theorem witness_CommitSteps_2 :
    (∃ (s : State) (id : Nat) (c : Commit), s.up = true ∧ s.cmt.cur = some c ∧ c.id = id ∧ c.epoch = none ∧ c.owner = .bridge) ∧
    (∃ (s : State) (id : Nat) (c : Commit), s.up = true ∧ s.cmt.cur = some c ∧ c.id = id ∧ c.epoch.isSome = true ∧ (∀ x ∈ s.cmt.queue, x.id ≠ id)) :=
  ⟨⟨{ upW with cmt := { upW.cmt with cur := some { id := 1, owner := .bridge, entries := [] } } }, 1, { id := 1, owner := .bridge, entries := [] }, by decide +kernel⟩,
   ⟨{ upW with cmt := { upW.cmt with cur := some { id := 1, owner := .bridge, entries := [], epoch := some 4 } } }, 1, { id := 1, owner := .bridge, entries := [], epoch := some 4 }, by decide +kernel⟩⟩

theorem witness_FlueCommands_1 :
    (∃ (s : State) (m : Master) (f : FlueId) (addr : Word), s.up = true ∧ s.accepts m .FLU_DOORBELL f = true ∧ s.fluGuard m f = none ∧ s.g FLU_CFG_MODE f = 0 ∧ awOk (s.fluPriv f) addr.toNat 0 = true ∧ (s.flu f).run = .idle ∧ s.on FLU_CFG_TRIG_LINE f = false) ∧
    (∃ (s : State) (m : Master) (f : FlueId) (addr : Word), s.up = true ∧ s.accepts m .FLU_DOORBELL f = true ∧ s.fluGuard m f = none ∧ s.g FLU_CFG_MODE f = 1 ∧ (s.flu f).run ≠ .idle) ∧
    (∃ (s : State) (m : Master) (f : FlueId) (addr : Word), s.up = true ∧ s.accepts m .FLU_DOORBELL f = true ∧ s.fluGuard m f = none ∧ s.g FLU_CFG_MODE f = 2) ∧
    (∃ (s : State) (m : Master) (f : FlueId) (addr : Word), s.up = true ∧ s.accepts m .FLU_DOORBELL f = true ∧ s.on FLU_ASSIGN_VALID f = false) ∧
    (∃ (s : State) (m : Master) (f : FlueId), s.up = true ∧ s.accepts m .FLU_CTRL f = true ∧ s.on FLU_ASSIGN_VALID f = false) ∧
    (∃ (s : State) (m : Master) (f : FlueId), s.up = true ∧ s.accepts m .FLU_CTRL f = true ∧ s.fluGuard m f = none ∧ ((s.flu f).code = 1 ∨ (s.flu f).code = 2 ∨ (s.flu f).code = 3) ∧ (s.flu f).stage = .none ∧ (s.flu f).mid = false) ∧
    (∃ (s : State) (m : Master) (f : FlueId), s.up = true ∧ s.accepts m .FLU_CTRL f = true ∧ s.fluGuard m f = none ∧ ((s.flu f).code = 1 ∨ (s.flu f).code = 2 ∨ (s.flu f).code = 3) ∧ (s.flu f).stage = .work ∧ s.on FLU_CFG_STOP_MODE f = false) :=
  ⟨⟨(((((upW.p ISL_STATUS_CLK_PRESENT 1 32 |>.p ISL_STATUS_CLK_PRESENT 1 33).p FLU_ASSIGN_VALID 1 7).p INST_STATUS_STATE 1 0).p FLU_ASSIGN_PRIV 1 7).p FLU_ASSIGN_OWNER_KIND 1 7), .device, 7, BitVec.ofNat 64 0x20000038000040, by decide +kernel⟩,
   ⟨(((((((upW.p ISL_STATUS_CLK_PRESENT 1 32 |>.p ISL_STATUS_CLK_PRESENT 1 33).p FLU_ASSIGN_VALID 1 7).p INST_STATUS_STATE 1 0).p FLU_ASSIGN_PRIV 1 7).p FLU_ASSIGN_OWNER_KIND 1 7).p FLU_CFG_MODE 1 7).fluSet 7 { run := .running }), .device, 7, 0, by decide +kernel⟩,
   ⟨(((((upW.p ISL_STATUS_CLK_PRESENT 1 32 |>.p ISL_STATUS_CLK_PRESENT 1 33).p FLU_ASSIGN_VALID 1 7).p INST_STATUS_STATE 1 0).p FLU_ASSIGN_PRIV 1 7).p FLU_ASSIGN_OWNER_KIND 1 7).p FLU_CFG_MODE 2 7, .device, 7, 0, by decide +kernel⟩,
   ⟨upW, .device, 7, 0, by decide +kernel⟩,
   ⟨upW, .device, 7, by decide +kernel⟩,
   ⟨(((((((upW.p ISL_STATUS_CLK_PRESENT 1 32 |>.p ISL_STATUS_CLK_PRESENT 1 33).p FLU_ASSIGN_VALID 1 7).p INST_STATUS_STATE 1 0).p FLU_ASSIGN_PRIV 1 7).p FLU_ASSIGN_OWNER_KIND 1 7)).fluSet 7 { run := .ready }), .device, 7, by decide +kernel⟩,
   ⟨(((((((upW.p ISL_STATUS_CLK_PRESENT 1 32 |>.p ISL_STATUS_CLK_PRESENT 1 33).p FLU_ASSIGN_VALID 1 7).p INST_STATUS_STATE 1 0).p FLU_ASSIGN_PRIV 1 7).p FLU_ASSIGN_OWNER_KIND 1 7)).fluSet 7 { run := .running, stage := .work, mid := true }), .device, 7, by decide +kernel⟩⟩

theorem witness_FlueCommands_2 :
    (∃ (s : State) (m : Master) (f : FlueId), s.up = true ∧ s.accepts m .FLU_CTRL f = true ∧ s.fluGuard m f = none ∧ ((s.flu f).code = 0 ∨ (s.flu f).code = 4 ∨ (s.flu f).code = 5)) ∧
    (∃ (s : State) (m : Master) (f : FlueId), s.up = true ∧ s.accepts m .FLU_CTRL f = true ∧ s.fluGuard m f = none ∧ (s.flu f).run = .stopped ∧ ((s.flu f).mid = true ∨ (s.flu f).more = true) ∧ s.g FLU_CFG_MODE f ≠ 2 ∧ s.on FLU_CFG_TRIG_LINE f = false) ∧
    (∃ (s : State) (m : Master) (f : FlueId), s.up = true ∧ s.accepts m .FLU_CTRL f = true ∧ s.fluGuard m f = none ∧ (s.flu f).code = 4) ∧
    (∃ (s : State) (m : Master) (f : FlueId), s.up = true ∧ s.accepts m .FLU_CTRL f = true ∧ s.fluGuard m f = none ∧ (s.flu f).run ≠ .idle ∧ (s.flu f).stage = .none ∧ (s.flu f).mid = false ∧ (s.flu f).entry = none ∧ s.g FLU_CFG_MODE f ≠ 2 ∧ s.on FLU_CFG_CQ_EN f = false) ∧
    (∃ (s : State) (m : Master) (f : FlueId), s.up = true ∧ s.accepts m .FLU_CTRL f = true ∧ s.fluGuard m f = none ∧ (s.flu f).run = .idle) ∧
    (∃ (s : State) (m : Master) (f : FlueId), s.up = true ∧ s.accepts m .FLU_CTRL f = true ∧ s.on FLU_ASSIGN_VALID f = true ∧ (s.mPriv m < 2 ∨ s.fluPlacement f = false) ∧ s.g FLU_CFG_MODE f ≠ 2) ∧
    (∃ (s : State) (m : Master) (f : FlueId) (v : Word), s.up = true ∧ s.accepts m .FLU_ASSIGN f = true ∧ (s.flu f).run = .idle ∧ ({ v := v.toNat } : RegW).val FLU_ASSIGN_PRIV ≠ 3 ∧ ({ v := v.toNat } : RegW).val FLU_ASSIGN_PRIV ≠ 0 ∧ ({ v := v.toNat } : RegW).val FLU_ASSIGN_RUN_TMO_US ≠ 0 ∧ s.instState (({ v := v.toNat } : RegW).val FLU_ASSIGN_INST) ≠ 0 ∧ s.g CQ_CFG_INST (({ v := v.toNat } : RegW).val FLU_ASSIGN_CALL_CQ) = ({ v := v.toNat } : RegW).val FLU_ASSIGN_INST ∧ ({ v := v.toNat } : RegW).val FLU_ASSIGN_VALID = 0) :=
  ⟨⟨(((((upW.p ISL_STATUS_CLK_PRESENT 1 32 |>.p ISL_STATUS_CLK_PRESENT 1 33).p FLU_ASSIGN_VALID 1 7).p INST_STATUS_STATE 1 0).p FLU_ASSIGN_PRIV 1 7).p FLU_ASSIGN_OWNER_KIND 1 7), .device, 7, by decide +kernel⟩,
   ⟨(((((((upW.p ISL_STATUS_CLK_PRESENT 1 32 |>.p ISL_STATUS_CLK_PRESENT 1 33).p FLU_ASSIGN_VALID 1 7).p INST_STATUS_STATE 1 0).p FLU_ASSIGN_PRIV 1 7).p FLU_ASSIGN_OWNER_KIND 1 7)).fluSet 7 { run := .stopped, more := true }), .device, 7, by decide +kernel⟩,
   ⟨(((((((upW.p ISL_STATUS_CLK_PRESENT 1 32 |>.p ISL_STATUS_CLK_PRESENT 1 33).p FLU_ASSIGN_VALID 1 7).p INST_STATUS_STATE 1 0).p FLU_ASSIGN_PRIV 1 7).p FLU_ASSIGN_OWNER_KIND 1 7)).fluSet 7 { run := .running, stop := some .pause }), .device, 7, by decide +kernel⟩,
   ⟨(((((((upW.p ISL_STATUS_CLK_PRESENT 1 32 |>.p ISL_STATUS_CLK_PRESENT 1 33).p FLU_ASSIGN_VALID 1 7).p INST_STATUS_STATE 1 0).p FLU_ASSIGN_PRIV 1 7).p FLU_ASSIGN_OWNER_KIND 1 7)).fluSet 7 { run := .ready }), .device, 7, by decide +kernel⟩,
   ⟨(((((upW.p ISL_STATUS_CLK_PRESENT 1 32 |>.p ISL_STATUS_CLK_PRESENT 1 33).p FLU_ASSIGN_VALID 1 7).p INST_STATUS_STATE 1 0).p FLU_ASSIGN_PRIV 1 7).p FLU_ASSIGN_OWNER_KIND 1 7), .device, 7, by decide +kernel⟩,
   ⟨(((((((upW.p ISL_STATUS_CLK_PRESENT 1 32 |>.p ISL_STATUS_CLK_PRESENT 1 33).p FLU_ASSIGN_VALID 1 7).p INST_STATUS_STATE 1 0).p FLU_ASSIGN_PRIV 1 7).p FLU_ASSIGN_OWNER_KIND 1 7)).fluSet 7 { run := .running, mid := true }), .device, 7, by decide +kernel⟩,
   ⟨(((((upW.p ISL_STATUS_CLK_PRESENT 1 32 |>.p ISL_STATUS_CLK_PRESENT 1 33).p FLU_ASSIGN_VALID 1 7).p INST_STATUS_STATE 1 0).p FLU_ASSIGN_PRIV 1 7).p FLU_ASSIGN_OWNER_KIND 1 7), .device, 7, BitVec.ofNat 64 (1 * 2 ^ FLU_ASSIGN_PRIV.lsb + 5 * 2 ^ FLU_ASSIGN_RUN_TMO_US.lsb), by decide +kernel⟩⟩

theorem witness_FlueCommands_3 :
    (∃ (s : State) (m : Master) (f : FlueId) (v : Word), s.up = true ∧ s.accepts m .FLU_ASSIGN f = true ∧ (s.flu f).run ≠ .idle) ∧
    (∃ (s : State) (th : ThrId) (w : Nat), s.up = true ∧ s.runs th .dmal w = true ∧ s.quiet th = true ∧ (s.gr th (wRa w)) ≥ 2048) ∧
    (∃ (s : State) (th : ThrId) (w : Nat), s.up = true ∧ s.runs th .dmal w = true ∧ s.quiet th = true ∧ (s.gr th (wRa w)) < 2048 ∧ (s.on FLU_ASSIGN_VALID (s.gr th (wRa w)) = false ∨ s.fluInst (s.gr th (wRa w)) ≠ (s.th th).inst)) ∧
    (∃ (s : State) (th : ThrId) (w : Nat), s.up = true ∧ s.runs th .dmal w = true ∧ s.quiet th = true ∧ (s.gr th (wRa w)) < 2048 ∧ s.on FLU_ASSIGN_VALID (s.gr th (wRa w)) = true ∧ s.fluInst (s.gr th (wRa w)) = (s.th th).inst ∧ s.fluGuard (.thread th) (s.gr th (wRa w)) = none ∧ s.g FLU_CFG_MODE (s.gr th (wRa w)) = 0 ∧ awOk (s.fluPriv (s.gr th (wRa w))) (s.gr th (wRb w)) 0 = true ∧ (s.flu (s.gr th (wRa w))).run = .idle ∧ s.on FLU_CFG_TRIG_LINE (s.gr th (wRa w)) = false) :=
  ⟨⟨(((((((upW.p ISL_STATUS_CLK_PRESENT 1 32 |>.p ISL_STATUS_CLK_PRESENT 1 33).p FLU_ASSIGN_VALID 1 7).p INST_STATUS_STATE 1 0).p FLU_ASSIGN_PRIV 1 7).p FLU_ASSIGN_OWNER_KIND 1 7)).fluSet 7 { run := .ready }), .device, 7, 0, by decide +kernel⟩,
   ⟨((atW 9 0xC0642800).grSet 9 4 2048), 9, 0xC0642800, by decide +kernel⟩,
   ⟨((atW 9 0xC0642800).grSet 9 4 7), 9, 0xC0642800, by decide +kernel⟩,
   ⟨(((atW 9 0xC0642800).grSet 9 4 7).grSet 9 5 0x20000038000040).p FLU_ASSIGN_VALID 1 7 |>.p FLU_ASSIGN_PRIV 1 7, 9, 0xC0642800, by decide +kernel⟩⟩

theorem witness_MoversAndBeats_1 :
    (∃ (s : State) (die : Fin 2) (f : Nat) (x : Flue) (sp : Nat), s.up = true ∧ s.moversFree die = true ∧ s.fluWaiting die = some (f, x) ∧ x = s.flu f ∧ x.stage = .none ∧ x.entry = none ∧ s.g FLU_CFG_MODE f = 0 ∧ awOk (s.fluPriv f) (s.g FLU_DESC_DESC f) 64 = true ∧ s.g FLU_DESC_DESC f % 64 = 0 ∧ awMem (s.g FLU_DESC_DESC f) = some sp ∧ s.hbmUp = true ∧ s.gateCheck (s.fluGate f) (awAcc (s.g FLU_DESC_DESC f) 64 0 (s.fluPriv f) (s.fluInst f)) = none) ∧
    (∃ (s : State) (die : Fin 2) (f : Nat) (x : Flue), s.up = true ∧ s.moversFree die = true ∧ s.fluWaiting die = some (f, x) ∧ x = s.flu f ∧ x.stage = .none ∧ x.entry = none ∧ s.g FLU_CFG_MODE f = 2) ∧
    (∃ (s : State) (die : Fin 2), s.up = true ∧ s.moversFree die = true ∧ s.fluWaiting die = none) ∧
    (∃ (s : State) (die : Fin 2) (f : Nat) (x : Flue) (v : Nat) (y : Flue), s.up = true ∧ s.moversFree die = false ∧ s.fluWaiting die = some (f, x) ∧ x = s.flu f ∧ x.stage = .none ∧ x.entry = none ∧ s.g FLU_CFG_MODE f = 2 ∧ s.fluVictim die (s.g FLU_CFG_PRIO f) = some (v, y) ∧ v ≠ f) ∧
    (∃ (s : State) (f : FlueId) (p : Part) (sp : Nat), s.up = true ∧ (s.flu f).run = .running ∧ (s.flu f).mover = true ∧ (s.flu f).stage = .fetch ∧ (s.flu f).entry = none ∧ (s.flu f).desc = none ∧ (s.flu f).job.parts = [p] ∧ p.fin = true ∧ p.txn = none ∧ p.status = ST_OK ∧ (s.flu f).mid = false ∧ (s.flu f).stop = none ∧ s.g FLU_CFG_MODE f = 0 ∧ s.on FLU_CFG_TRIG_LINE f = false ∧ descOk (s.fluPriv f) false false (descOf p.data) = true ∧ (descOf p.data).ext = 0 ∧ (descOf p.data).op = 2 ∧ (descOf p.data).dstWrap = 0 ∧ 0 < (descOf p.data).len ∧ (descOf p.data).len ≤ 64 - (descOf p.data).dst % 64 ∧ awMem (descOf p.data).dst = some sp ∧ s.hbmUp = true ∧ awOk (s.fluPriv f) (descOf p.data).dst (descOf p.data).len = true ∧ s.gateCheck (s.fluGate f) (awAcc (descOf p.data).dst (descOf p.data).len 1 (s.fluPriv f) (s.fluInst f)) = none) ∧
    (∃ (s : State) (f : FlueId) (p : Part) (sp : Nat), s.up = true ∧ (s.flu f).run = .running ∧ (s.flu f).mover = true ∧ (s.flu f).stage = .fetch ∧ (s.flu f).entry = none ∧ (s.flu f).desc = none ∧ (s.flu f).job.parts = [p] ∧ p.fin = true ∧ p.txn = none ∧ p.status = ST_OK ∧ (s.flu f).mid = false ∧ (s.flu f).stop = none ∧ s.g FLU_CFG_MODE f = 0 ∧ s.on FLU_CFG_TRIG_LINE f = false ∧ descOk (s.fluPriv f) false false (descOf p.data) = false ∧ s.on FLU_CFG_CQ_EN f = false) ∧
    (∃ (s : State) (f : FlueId) (d : FluDesc) (b : FluBeat) (p : Part) (sp : Nat), s.up = true ∧ (s.flu f).stage = .work ∧ (s.flu f).mover = true ∧ (s.flu f).stop = none ∧ (s.flu f).desc = some d ∧ (s.flu f).beats = [b] ∧ b.phase = .reading ∧ b.src.parts = [p] ∧ p.fin = true ∧ p.txn = none ∧ p.status = ST_OK ∧ p.data.length = b.len ∧ b.cmp.parts = [] ∧ b.nxt.left = 0 ∧ 0 < b.len ∧ d.op = 1 ∧ d.overlaps b = false ∧ awMem b.dst = some sp ∧ s.hbmUp = true ∧ (s.flu f).wrote = [] ∧ s.on FLU_CFG_TRIG_LINE f = false) :=
  ⟨⟨(((((((upW.p ISL_STATUS_CLK_PRESENT 1 32 |>.p ISL_STATUS_CLK_PRESENT 1 33).p FLU_ASSIGN_VALID 1 7).p INST_STATUS_STATE 1 0).p FLU_ASSIGN_PRIV 1 7).p FLU_ASSIGN_OWNER_KIND 1 7).p FLU_DESC_DESC 0x20000038000040 7).fluSet 7 { run := .ready }), 0, 7, { run := .ready }, spHbm, by decide +kernel⟩,
   ⟨(((((((upW.p ISL_STATUS_CLK_PRESENT 1 32 |>.p ISL_STATUS_CLK_PRESENT 1 33).p FLU_ASSIGN_VALID 1 7).p INST_STATUS_STATE 1 0).p FLU_ASSIGN_PRIV 1 7).p FLU_ASSIGN_OWNER_KIND 1 7).p FLU_CFG_MODE 2 7).fluSet 7 { run := .ready }), 0, 7, { run := .ready }, by decide +kernel⟩,
   ⟨upW, 1, by decide +kernel⟩,
   ⟨(let X := (((((((upW.p ISL_STATUS_CLK_PRESENT 1 32 |>.p ISL_STATUS_CLK_PRESENT 1 33).p FLU_ASSIGN_VALID 1 7).p INST_STATUS_STATE 1 0).p FLU_ASSIGN_PRIV 1 7).p FLU_ASSIGN_OWNER_KIND 1 7).p FLU_CFG_MODE 2 7 |>.p FLU_CFG_PRIO 3 7).fluSet 7 { run := .ready }); { X with fl := { X.fl with flues := X.fl.flues ++ (List.range 64).map (fun k => (100 + k, { run := .running, mover := true })) } }), 0, 7, { run := .ready }, 100, { run := .running, mover := true }, by decide +kernel⟩,
   ⟨(((((((upW.p ISL_STATUS_CLK_PRESENT 1 32 |>.p ISL_STATUS_CLK_PRESENT 1 33).p FLU_ASSIGN_VALID 1 7).p INST_STATUS_STATE 1 0).p FLU_ASSIGN_PRIV 1 7).p FLU_ASSIGN_OWNER_KIND 1 7)).fluSet 7 { run := .running, mover := true, stage := .fetch, job := { parts := [{ sp := some spHbm, addr := 64, len := 64, data := (leBytes 8 2 ++ leBytes 8 0 ++ leBytes 8 0 ++ leBytes 8 0x20000038000100 ++ leBytes 8 16 ++ leBytes 8 0x1122334455667788 ++ leBytes 8 0 ++ leBytes 8 0), fin := true }] } }), 7, { sp := some spHbm, addr := 64, len := 64, data := (leBytes 8 2 ++ leBytes 8 0 ++ leBytes 8 0 ++ leBytes 8 0x20000038000100 ++ leBytes 8 16 ++ leBytes 8 0x1122334455667788 ++ leBytes 8 0 ++ leBytes 8 0), fin := true }, spHbm, by decide +kernel⟩,
   ⟨(((((((upW.p ISL_STATUS_CLK_PRESENT 1 32 |>.p ISL_STATUS_CLK_PRESENT 1 33).p FLU_ASSIGN_VALID 1 7).p INST_STATUS_STATE 1 0).p FLU_ASSIGN_PRIV 1 7).p FLU_ASSIGN_OWNER_KIND 1 7)).fluSet 7 { run := .running, mover := true, stage := .fetch, job := { parts := [{ sp := some spHbm, addr := 64, len := 64, data := [], fin := true }] } }), 7, { sp := some spHbm, addr := 64, len := 64, data := [], fin := true }, 0, by decide +kernel⟩,
   ⟨(((((((upW.p ISL_STATUS_CLK_PRESENT 1 32 |>.p ISL_STATUS_CLK_PRESENT 1 33).p FLU_ASSIGN_VALID 1 7).p INST_STATUS_STATE 1 0).p FLU_ASSIGN_PRIV 1 7).p FLU_ASSIGN_OWNER_KIND 1 7)).fluSet 7 { run := .running, mover := true, stage := .work, mid := true, desc := some { w0 := 1, next := 0, src := 0x20000000000040, dst := 0x20000038000100, len := 16, o0 := 0, o1 := 0 }, beats := [{ dst := 0x20000038000100, len := 16, nxt := { src := 0x20000000000050, dst := 0x20000038000110, left := 0, did := 16 }, src := { parts := [{ sp := some spHbm, addr := 64, len := 16, data := List.replicate 16 9, fin := true }] } }] }), 7, { w0 := 1, next := 0, src := 0x20000000000040, dst := 0x20000038000100, len := 16, o0 := 0, o1 := 0 }, { dst := 0x20000038000100, len := 16, nxt := { src := 0x20000000000050, dst := 0x20000038000110, left := 0, did := 16 }, src := { parts := [{ sp := some spHbm, addr := 64, len := 16, data := List.replicate 16 9, fin := true }] } }, { sp := some spHbm, addr := 64, len := 16, data := List.replicate 16 9, fin := true }, spHbm, by decide +kernel⟩⟩

theorem witness_MoversAndBeats_2 :
    (∃ (s : State) (f : FlueId) (d : FluDesc) (b : FluBeat) (p : Part), s.up = true ∧ (s.flu f).stage = .work ∧ (s.flu f).mover = true ∧ (s.flu f).stop = none ∧ (s.flu f).entry = none ∧ (s.flu f).desc = some d ∧ (s.flu f).beats = [b] ∧ b.phase = .reading ∧ b.src.parts = [p] ∧ p.fin = true ∧ p.txn = none ∧ p.status = ST_OK ∧ b.cmp.parts = [] ∧ d.op = 1 ∧ s.g FLU_CFG_MODE f = 0 ∧ s.on FLU_CFG_CQ_EN f = false ∧ s.on FLU_CFG_TRIG_LINE f = false) ∧
    (∃ (s : State) (f : FlueId) (d : FluDesc) (b : FluBeat) (p : Part), s.up = true ∧ (s.flu f).stage = .work ∧ (s.flu f).mover = true ∧ (s.flu f).stop = none ∧ (s.flu f).entry = none ∧ (s.flu f).mid = true ∧ (s.flu f).desc = some d ∧ (s.flu f).beats = [b] ∧ b.phase = .writing ∧ b.out.parts = [p] ∧ p.fin = true ∧ p.txn = none ∧ p.status = ST_OK ∧ b.nxt.left = 0 ∧ d.op = 1 ∧ d.cmpl = false ∧ d.nextValid = false ∧ d.stopBit = false ∧ s.g FLU_CFG_MODE f = 0 ∧ s.on FLU_CFG_TRIG_LINE f = false) ∧
    (∃ (s : State) (f : FlueId), s.up = true ∧ (s.flu f).run = .retry) :=
  ⟨⟨(((((((upW.p ISL_STATUS_CLK_PRESENT 1 32 |>.p ISL_STATUS_CLK_PRESENT 1 33).p FLU_ASSIGN_VALID 1 7).p INST_STATUS_STATE 1 0).p FLU_ASSIGN_PRIV 1 7).p FLU_ASSIGN_OWNER_KIND 1 7)).fluSet 7 { run := .running, mover := true, stage := .work, mid := true, desc := some { w0 := 1, next := 0, src := 0x20000000000040, dst := 0x20000038000100, len := 16, o0 := 0, o1 := 0 }, beats := [{ dst := 0x20000038000100, len := 16, nxt := { src := 0x20000000000050, dst := 0x20000038000110, left := 0, did := 16 }, src := { parts := [{ sp := some spHbm, addr := 64, len := 16, data := List.replicate 16 9, fin := true }] } }] }), 7, { w0 := 1, next := 0, src := 0x20000000000040, dst := 0x20000038000100, len := 16, o0 := 0, o1 := 0 }, { dst := 0x20000038000100, len := 16, nxt := { src := 0x20000000000050, dst := 0x20000038000110, left := 0, did := 16 }, src := { parts := [{ sp := some spHbm, addr := 64, len := 16, data := List.replicate 16 9, fin := true }] } }, { sp := some spHbm, addr := 64, len := 16, data := List.replicate 16 9, fin := true }, by decide +kernel⟩,
   ⟨(((((((upW.p ISL_STATUS_CLK_PRESENT 1 32 |>.p ISL_STATUS_CLK_PRESENT 1 33).p FLU_ASSIGN_VALID 1 7).p INST_STATUS_STATE 1 0).p FLU_ASSIGN_PRIV 1 7).p FLU_ASSIGN_OWNER_KIND 1 7)).fluSet 7 { run := .running, mover := true, stage := .work, mid := true, desc := some { w0 := 1, next := 0, src := 0x20000000000040, dst := 0x20000038000100, len := 16, o0 := 0, o1 := 0 }, beats := [{ dst := 0x20000038000100, len := 16, nxt := { src := 0x20000000000050, dst := 0x20000038000110, left := 0, did := 16 }, phase := .writing, out := { write := true, parts := [{ sp := some spHbm, addr := 64, len := 16, data := List.replicate 16 9, fin := true }] } }] }), 7, { w0 := 1, next := 0, src := 0x20000000000040, dst := 0x20000038000100, len := 16, o0 := 0, o1 := 0 }, { dst := 0x20000038000100, len := 16, nxt := { src := 0x20000000000050, dst := 0x20000038000110, left := 0, did := 16 }, phase := .writing, out := { write := true, parts := [{ sp := some spHbm, addr := 64, len := 16, data := List.replicate 16 9, fin := true }] } }, { sp := some spHbm, addr := 64, len := 16, data := List.replicate 16 9, fin := true }, by decide +kernel⟩,
   ⟨(((((((upW.p ISL_STATUS_CLK_PRESENT 1 32 |>.p ISL_STATUS_CLK_PRESENT 1 33).p FLU_ASSIGN_VALID 1 7).p INST_STATUS_STATE 1 0).p FLU_ASSIGN_PRIV 1 7).p FLU_ASSIGN_OWNER_KIND 1 7)).fluSet 7 { run := .retry }), 7, by decide +kernel⟩⟩

theorem witness_CompletionQueuesLinesAndHelpers_1 :
    (∃ (s : State) (f : FlueId) (e : FluEnd) (d : FluDesc) (q : Nat) (sp : Nat), s.up = true ∧ (s.flu f).stage = .record ∧ (s.flu f).fin = some e ∧ (s.flu f).entry = none ∧ (s.flu f).desc = some d ∧ (s.flu f).job.parts = [] ∧ (s.flu f).stop = none ∧ s.recQueue f e = some q ∧ (nget? q s.fl.cqBusy).isNone = true ∧ s.cqRoom q = true ∧ awMem (s.g CQ_BASE_BASE q + 32 * (s.g CQ_IDX_TAIL q % 2 ^ s.g CQ_CFG_LOG2 q)) = some sp ∧ s.hbmUp = true ∧ awOk (s.fluPriv f) (s.g CQ_BASE_BASE q + 32 * (s.g CQ_IDX_TAIL q % 2 ^ s.g CQ_CFG_LOG2 q)) 32 = true ∧ s.gateCheck (s.fluGate f) (awAcc (s.g CQ_BASE_BASE q + 32 * (s.g CQ_IDX_TAIL q % 2 ^ s.g CQ_CFG_LOG2 q)) 32 1 (s.fluPriv f) (s.fluInst f)) = none ∧ e.kind = 0 ∧ e.status = ST_OK ∧ d.nextValid = false ∧ d.stopBit = false ∧ s.g FLU_CFG_MODE f = 0) ∧
    (∃ (s : State) (m : Master) (q : CqId) (head : Fin 4294967296), s.up = true ∧ s.accepts m .CQ_IDX q = true ∧ (head.val + 2 ^ 32 - s.g CQ_IDX_HEAD q) % 2 ^ 32 ≤ (s.g CQ_IDX_TAIL q + 2 ^ 32 - s.g CQ_IDX_HEAD q) % 2 ^ 32) ∧
    (∃ (s : State) (m : Master) (q : CqId) (head : Fin 4294967296), s.up = true ∧ s.accepts m .CQ_IDX q = true ∧ (s.g CQ_IDX_TAIL q + 2 ^ 32 - s.g CQ_IDX_HEAD q) % 2 ^ 32 < (head.val + 2 ^ 32 - s.g CQ_IDX_HEAD q) % 2 ^ 32) ∧
    (∃ (s : State) (n : Fin 16) (a : Bool), s.up = true ∧ s.on RQL_CFG_BOUND n = false) ∧
    (∃ (s : State) (n : Fin 16) (f : Nat), s.up = true ∧ s.on RQL_CFG_BOUND n = true ∧ s.g RQL_CFG_BOUND_FLUE n = f ∧ (s.flu f).run = .line ∧ s.on RQL_CFG_EN n = true ∧ s.on RQL_CFG_SENSE n = false) ∧
    (∃ (s : State) (m : Master) (n : Fin 1024), s.up = true ∧ s.accepts m .RQL_CFG n = true ∧ 16 ≤ n.val ∧ s.on RQL_CFG_EN n = true ∧ s.on RQL_CFG_SENSE n = true ∧ s.on RQL_CFG_BOUND n = false) ∧
    (∃ (s : State) (m : Master) (n : Fin 1024), s.up = true ∧ s.accepts m .RQL_CFG n = true ∧ n.val < 16) :=
  ⟨⟨(((((((((((upW.p ISL_STATUS_CLK_PRESENT 1 32 |>.p ISL_STATUS_CLK_PRESENT 1 33).p FLU_ASSIGN_VALID 1 7).p INST_STATUS_STATE 1 0).p FLU_ASSIGN_PRIV 1 7).p FLU_ASSIGN_OWNER_KIND 1 7).p FLU_CFG_CQ_EN 1 7).p FLU_CFG_CQ 3 7).p CQ_CFG_EN 1 3).p CQ_CFG_LOG2 4 3).p CQ_BASE_BASE 0x20000038000040 3).fluSet 7 { run := .running, mover := true, stage := .record, desc := some { w0 := 1, next := 0, src := 0x20000000000040, dst := 0x20000038000100, len := 16, o0 := 0, o1 := 0 }, fin := some { status := ST_OK, did := 16 } }), 7, { status := ST_OK, did := 16 }, { w0 := 1, next := 0, src := 0x20000000000040, dst := 0x20000038000100, len := 16, o0 := 0, o1 := 0 }, 3, spHbm, by decide +kernel⟩,
   ⟨upW.p CQ_IDX_TAIL 4 3, .device, 3, 4, by decide +kernel⟩,
   ⟨upW.p CQ_IDX_TAIL 4 3, .device, 3, 5, by decide +kernel⟩,
   ⟨(upW.p RQL_CFG_EN 1 3).p RQL_CFG_SENSE 1 3, 3, true, by decide +kernel⟩,
   ⟨((((((((upW.p ISL_STATUS_CLK_PRESENT 1 32 |>.p ISL_STATUS_CLK_PRESENT 1 33).p FLU_ASSIGN_VALID 1 7).p INST_STATUS_STATE 1 0).p FLU_ASSIGN_PRIV 1 7).p FLU_ASSIGN_OWNER_KIND 1 7).p RQL_CFG_EN 1 3).p RQL_CFG_BOUND 1 3 |>.p RQL_CFG_BOUND_FLUE 7 3).fluSet 7 { run := .line }), 3, 7, by decide +kernel⟩,
   ⟨(upW.p RQL_CFG_EN 1 1023).p RQL_CFG_SENSE 1 1023, .device, 1023, by decide +kernel⟩,
   ⟨upW, .device, 15, by decide +kernel⟩⟩

theorem witness_CompletionQueuesLinesAndHelpers_2 :
    (∃ (s : State) (m : Master) (f : FlueId) (st : Fin 256) (v : Fin 4294967296) (d : FluDesc), s.up = true ∧ s.accepts m .FLU_RUN_RET f = true ∧ (s.flu f).called = true ∧ (s.flu f).entry = none ∧ (s.flu f).desc = some d ∧ (s.flu f).stop = none ∧ d.cmpl = false ∧ d.nextValid = false ∧ d.stopBit = false ∧ st.val = ST_OK ∧ s.g FLU_CFG_MODE f = 0) ∧
    (∃ (s : State) (m : Master) (f : FlueId) (st : Fin 256) (v : Fin 4294967296), s.up = true ∧ s.accepts m .FLU_RUN_RET f = true ∧ (s.flu f).called = false) ∧
    (∃ (s : State) (f : FlueId), s.up = true ∧ (s.flu f).called = true ∧ (s.flu f).entry = none ∧ s.g FLU_CFG_MODE f = 0 ∧ s.on FLU_CFG_CQ_EN f = false) :=
  ⟨⟨(((((((upW.p ISL_STATUS_CLK_PRESENT 1 32 |>.p ISL_STATUS_CLK_PRESENT 1 33).p FLU_ASSIGN_VALID 1 7).p INST_STATUS_STATE 1 0).p FLU_ASSIGN_PRIV 1 7).p FLU_ASSIGN_OWNER_KIND 1 7)).fluSet 7 { run := .helper, called := true, stage := .helper, desc := some { w0 := 1, next := 0, src := 0x20000000000040, dst := 0x20000038000100, len := 16, o0 := 0, o1 := 0 } }), .device, 7, 0, 5, { w0 := 1, next := 0, src := 0x20000000000040, dst := 0x20000038000100, len := 16, o0 := 0, o1 := 0 }, by decide +kernel⟩,
   ⟨(((((upW.p ISL_STATUS_CLK_PRESENT 1 32 |>.p ISL_STATUS_CLK_PRESENT 1 33).p FLU_ASSIGN_VALID 1 7).p INST_STATUS_STATE 1 0).p FLU_ASSIGN_PRIV 1 7).p FLU_ASSIGN_OWNER_KIND 1 7), .device, 7, 9, 5, by decide +kernel⟩,
   ⟨(((((((upW.p ISL_STATUS_CLK_PRESENT 1 32 |>.p ISL_STATUS_CLK_PRESENT 1 33).p FLU_ASSIGN_VALID 1 7).p INST_STATUS_STATE 1 0).p FLU_ASSIGN_PRIV 1 7).p FLU_ASSIGN_OWNER_KIND 1 7)).fluSet 7 { run := .helper, called := true, stage := .helper, desc := some { w0 := 1, next := 0, src := 0x20000000000040, dst := 0x20000038000100, len := 16, o0 := 0, o1 := 0 } }), 7, by decide +kernel⟩⟩

theorem witness_WorkQueueCommands_1 :
    (∃ (s : State) (m : Master) (q : QueueId) (tail : Fin 4294967296), s.up = true ∧ s.accepts m .WQ_DB q = true ∧ s.wqFrozen q = false ∧ s.g WQ_STATUS_STATE q = 1 ∧ (tail.val + 2 ^ 32 - s.g WQ_IDX_TAIL q) % 2 ^ 32 ≤ 2 ^ s.g WQ_RING_RING_LOG2 q - (s.g WQ_IDX_TAIL q + 2 ^ 32 - (s.wq q).pub) % 2 ^ 32) ∧
    (∃ (s : State) (m : Master) (q : QueueId) (tail : Fin 4294967296), s.up = true ∧ s.accepts m .WQ_DB q = true ∧ s.wqFrozen q = false ∧ s.g WQ_STATUS_STATE q = 1 ∧ tail.val ≠ s.g WQ_IDX_TAIL q ∧ (tail.val + 2 ^ 32 - s.g WQ_IDX_TAIL q) % 2 ^ 32 ≤ 2 ^ s.g WQ_RING_RING_LOG2 q - (s.g WQ_IDX_TAIL q + 2 ^ 32 - (s.wq q).pub) % 2 ^ 32 ∧ s.on WQ_CFG_VALID q = true ∧ s.on FLU_ASSIGN_VALID (s.g WQ_CFG_FLUE q) = true ∧ s.g FLU_CFG_MODE (s.g WQ_CFG_FLUE q) = 2 ∧ (s.flu (s.g WQ_CFG_FLUE q)).run = .idle ∧ s.fu.contained = [] ∧ s.on WQ_CFG_EVT_EN q = false ∧ tail.val ≠ s.g WQ_IDX_HEAD q ∧ (s.wq q).short ≠ some tail.val ∧ s.on FLU_CFG_TRIG_LINE (s.g WQ_CFG_FLUE q) = false) ∧
    (∃ (s : State) (m : Master) (q : QueueId) (tail : Fin 4294967296), s.up = true ∧ s.accepts m .WQ_DB q = true ∧ s.wqFrozen q = false ∧ s.g WQ_STATUS_STATE q = 1 ∧ 2 ^ s.g WQ_RING_RING_LOG2 q - (s.g WQ_IDX_TAIL q + 2 ^ 32 - (s.wq q).pub) % 2 ^ 32 < (tail.val + 2 ^ 32 - s.g WQ_IDX_TAIL q) % 2 ^ 32) ∧
    (∃ (s : State) (m : Master) (q : QueueId) (tail : Fin 4294967296), s.up = true ∧ s.accepts m .WQ_DB q = true ∧ s.wqFrozen q = false ∧ s.g WQ_STATUS_STATE q = 0) ∧
    (∃ (s : State) (m : Master) (q : QueueId) (tail : Fin 4294967296), s.up = true ∧ s.accepts m .WQ_DB q = true ∧ s.wqFrozen q = false ∧ s.g WQ_STATUS_STATE q = 2) ∧
    (∃ (s : State) (m : Master) (q : QueueId) (tail : Fin 4294967296), s.up = true ∧ s.accepts m .WQ_DB q = true ∧ s.wqFrozen q = true) ∧
    (∃ (s : State) (q : QueueId) (offset : Nat) (data : List Byte), s.up = true ∧ s.wqFrozen q = false ∧ s.g WQ_STATUS_STATE q = 1 ∧ offset % 32 = 0 ∧ data.length = 64 ∧ offset + 64 ≤ 256 ∧ (wqHeader data).ok = true ∧ (wqHeader data).len = 2 ∧ (s.wq q).inl = [] ∧ s.g WQ_IDX_TAIL q < 2 ^ 32 ∧ 2 ≤ 2 ^ s.g WQ_RING_RING_LOG2 q - (s.g WQ_IDX_TAIL q + 2 ^ 32 - (s.wq q).pub) % 2 ^ 32) :=
  ⟨⟨(((((((((upW.p WQ_STATUS_STATE 1 8191).p WQ_RING_RING_LOG2 4 8191).p WQ_CFG_VALID 1 8191).p WQ_CFG_FLUE 7 8191).p WQ_CFG_INST 5 8191).p FLU_ASSIGN_VALID 1 7).p FLU_ASSIGN_INST 5 7).p FLU_CFG_MODE 2 7).p INST_STATUS_STATE 1 5), .device, 8191, 5, by decide +kernel⟩,
   ⟨(((((((((upW.p WQ_STATUS_STATE 1 8191).p WQ_RING_RING_LOG2 4 8191).p WQ_CFG_VALID 1 8191).p WQ_CFG_FLUE 7 8191).p WQ_CFG_INST 5 8191).p FLU_ASSIGN_VALID 1 7).p FLU_ASSIGN_INST 5 7).p FLU_CFG_MODE 2 7).p INST_STATUS_STATE 1 5), .device, 8191, 5, by decide +kernel⟩,
   ⟨(((((((((upW.p WQ_STATUS_STATE 1 8191).p WQ_RING_RING_LOG2 4 8191).p WQ_CFG_VALID 1 8191).p WQ_CFG_FLUE 7 8191).p WQ_CFG_INST 5 8191).p FLU_ASSIGN_VALID 1 7).p FLU_ASSIGN_INST 5 7).p FLU_CFG_MODE 2 7).p INST_STATUS_STATE 1 5), .device, 8191, 17, by decide +kernel⟩,
   ⟨upW, .device, 8191, 5, by decide +kernel⟩,
   ⟨upW.p WQ_STATUS_STATE 2 8191, .device, 8191, 5, by decide +kernel⟩,
   ⟨upW.p INST_STATUS_STATE 3 0, .device, 8191, 5, by decide +kernel⟩,
   ⟨(((((((((upW.p WQ_STATUS_STATE 1 8191).p WQ_RING_RING_LOG2 4 8191).p WQ_CFG_VALID 1 8191).p WQ_CFG_FLUE 7 8191).p WQ_CFG_INST 5 8191).p FLU_ASSIGN_VALID 1 7).p FLU_ASSIGN_INST 5 7).p FLU_CFG_MODE 2 7).p INST_STATUS_STATE 1 5), 8191, 32, (leBytes 8 (2 + 3 * 2 ^ 8 + 9 * 2 ^ 32) ++ leBytes 8 0 ++ leBytes 8 7 ++ leBytes 8 11 ++ List.replicate 32 5), by decide +kernel⟩⟩

theorem witness_WorkQueueCommands_2 :
    (∃ (s : State) (q : QueueId) (offset : Nat) (data : List Byte), s.up = true ∧ (offset % 32 ≠ 0 ∨ data.length % 32 ≠ 0 ∨ data.length < 32 ∨ 256 < offset + data.length)) ∧
    (∃ (s : State) (m : Master) (q : QueueId), s.up = true ∧ s.accepts m .WQ_CTRL q = true ∧ s.wqFrozen q = false ∧ s.g WQ_STATUS_STATE q = 0 ∧ s.on WQ_CFG_VALID q = false) ∧
    (∃ (s : State) (m : Master) (q : QueueId) (sp : Nat), s.up = true ∧ s.accepts m .WQ_CTRL q = true ∧ s.wqFrozen q = false ∧ s.g WQ_STATUS_STATE q = 0 ∧ s.on WQ_CFG_VALID q = true ∧ (s.wq q).job = none ∧ (s.g WQ_HEAD_ADDR_ADDR q) % 8 = 0 ∧ awOk (s.fluPriv (s.g WQ_CFG_FLUE q)) (s.g WQ_HEAD_ADDR_ADDR q) 8 = true ∧ awMem (s.g WQ_HEAD_ADDR_ADDR q) = some sp ∧ s.hbmUp = true ∧ s.gateCheck (s.fluGate (s.g WQ_CFG_FLUE q)) (awAcc (s.g WQ_HEAD_ADDR_ADDR q) 8 1 (s.fluPriv (s.g WQ_CFG_FLUE q)) (s.fluInst (s.g WQ_CFG_FLUE q))) = none) ∧
    (∃ (s : State) (m : Master) (q : QueueId), s.up = true ∧ s.accepts m .WQ_CTRL q = true ∧ s.wqFrozen q = false ∧ s.g WQ_STATUS_STATE q = 1) ∧
    (∃ (s : State) (m : Master) (q : QueueId), s.up = true ∧ s.accepts m .WQ_CTRL q = true ∧ s.g WQ_STATUS_STATE q = 1 ∧ s.wqEntry q = none ∧ s.on WQ_CFG_VALID q = false) ∧
    (∃ (s : State) (m : Master) (q : QueueId) (w : WqEntry), s.up = true ∧ s.accepts m .WQ_CTRL q = true ∧ s.g WQ_STATUS_STATE q = 1 ∧ s.wqEntry q = some w ∧ w.started = true) ∧
    (∃ (s : State) (m : Master) (q : QueueId), s.up = true ∧ s.accepts m .WQ_CTRL q = true ∧ s.g WQ_STATUS_STATE q ≠ 1) :=
  ⟨⟨(((((((((upW.p WQ_STATUS_STATE 1 8191).p WQ_RING_RING_LOG2 4 8191).p WQ_CFG_VALID 1 8191).p WQ_CFG_FLUE 7 8191).p WQ_CFG_INST 5 8191).p FLU_ASSIGN_VALID 1 7).p FLU_ASSIGN_INST 5 7).p FLU_CFG_MODE 2 7).p INST_STATUS_STATE 1 5), 8191, 240, (leBytes 8 (2 + 3 * 2 ^ 8 + 9 * 2 ^ 32) ++ leBytes 8 0 ++ leBytes 8 7 ++ leBytes 8 11 ++ List.replicate 32 5), by decide +kernel⟩,
   ⟨upW.p WQ_IDX_HEAD 9 8191, .device, 8191, by decide +kernel⟩,
   ⟨(((((((((((upW.p WQ_STATUS_STATE 1 8191).p WQ_RING_RING_LOG2 4 8191).p WQ_CFG_VALID 1 8191).p WQ_CFG_FLUE 7 8191).p WQ_CFG_INST 5 8191).p FLU_ASSIGN_VALID 1 7).p FLU_ASSIGN_INST 5 7).p FLU_CFG_MODE 2 7).p INST_STATUS_STATE 1 5).p ISL_STATUS_CLK_PRESENT 1 32 |>.p ISL_STATUS_CLK_PRESENT 1 33 |>.p WQ_HEAD_ADDR_ADDR 0x20000038000040 8191 |>.p FLU_ASSIGN_PRIV 1 7 |>.p WQ_IDX_HEAD 9 8191).p WQ_STATUS_STATE 0 8191), .device, 8191, spHbm, by decide +kernel⟩,
   ⟨(((((((((upW.p WQ_STATUS_STATE 1 8191).p WQ_RING_RING_LOG2 4 8191).p WQ_CFG_VALID 1 8191).p WQ_CFG_FLUE 7 8191).p WQ_CFG_INST 5 8191).p FLU_ASSIGN_VALID 1 7).p FLU_ASSIGN_INST 5 7).p FLU_CFG_MODE 2 7).p INST_STATUS_STATE 1 5), .device, 8191, by decide +kernel⟩,
   ⟨((upW.p WQ_STATUS_STATE 1 8191).p WQ_RING_RING_LOG2 4 8191), .device, 8191, by decide +kernel⟩,
   ⟨((((((((((upW.p WQ_STATUS_STATE 1 8191).p WQ_RING_RING_LOG2 4 8191).p WQ_CFG_VALID 1 8191).p WQ_CFG_FLUE 7 8191).p WQ_CFG_INST 5 8191).p FLU_ASSIGN_VALID 1 7).p FLU_ASSIGN_INST 5 7).p FLU_CFG_MODE 2 7).p INST_STATUS_STATE 1 5).fluSet 7 { run := .running, mover := true, entry := some { queue := 8191, unit := 4, len := 2, kind := 3, tag := 9, evt := false, started := true } }), .device, 8191, { queue := 8191, unit := 4, len := 2, kind := 3, tag := 9, evt := false, started := true }, by decide +kernel⟩,
   ⟨upW, .device, 8191, by decide +kernel⟩⟩

theorem witness_WorkQueueCommands_3 :
    (∃ (s : State) (q : QueueId) (w : WqEntry), s.up = true ∧ s.g WQ_STATUS_STATE q = 2 ∧ s.wqEntry q = some w) ∧
    (∃ (s : State) (m : Master) (q : QueueId) (v : Word), s.up = true ∧ s.accepts m .WQ_CFG q = true ∧ s.g WQ_STATUS_STATE q = 0 ∧ s.on WQ_CFG_VALID q = false ∧ ({ v := v.toNat } : RegW).val WQ_CFG_VALID = 1 ∧ s.g FLU_ASSIGN_INST (({ v := v.toNat } : RegW).val WQ_CFG_FLUE) = ({ v := v.toNat } : RegW).val WQ_CFG_INST ∧ (s.flu (({ v := v.toNat } : RegW).val WQ_CFG_FLUE)).run = .idle ∧ s.g CQ_CFG_INST (({ v := v.toNat } : RegW).val WQ_CFG_CQ) = ({ v := v.toNat } : RegW).val WQ_CFG_INST ∧ s.instState (({ v := v.toNat } : RegW).val WQ_CFG_INST) ≠ 0 ∧ ((s.instQueues (({ v := v.toNat } : RegW).val WQ_CFG_INST)).filter (· != q.val)).length < s.g INST_POOL_WQ_QUOTA (({ v := v.toNat } : RegW).val WQ_CFG_INST)) ∧
    (∃ (s : State) (m : Master) (q : QueueId) (v : Word), s.up = true ∧ s.accepts m .WQ_CFG q = true ∧ s.g WQ_STATUS_STATE q ≠ 0) ∧
    (∃ (s : State) (f : FlueId) (w : WqEntry) (p : Part), s.up = true ∧ s.g FLU_CFG_MODE f = 2 ∧ (s.flu f).run = .running ∧ (s.flu f).stage = .fetch ∧ (s.flu f).entry = some w ∧ w.started = false ∧ w.len = 0 ∧ (s.flu f).job.parts = [p] ∧ p.fin = true ∧ p.txn = none ∧ p.status = ST_OK ∧ (wqHeader p.data).ok = false) ∧
    (∃ (s : State) (f : FlueId) (w : WqEntry) (p : Part), s.up = true ∧ s.g FLU_CFG_MODE f = 2 ∧ (s.flu f).run = .running ∧ (s.flu f).mover = true ∧ (s.flu f).stop = none ∧ (s.flu f).stage = .fetch ∧ (s.flu f).entry = some w ∧ w.started = false ∧ w.len = 0 ∧ (s.flu f).mid = false ∧ (s.flu f).job.parts = [p] ∧ p.fin = true ∧ p.txn = none ∧ p.status = ST_OK ∧ (wqHeader p.data).ok = true ∧ (wqHeader p.data).kind = 3 ∧ (wqHeader p.data).len ≤ (s.g WQ_IDX_TAIL w.queue + 2 ^ 32 - w.unit) % 2 ^ 32) ∧
    (∃ (s : State) (f : FlueId) (w : WqEntry) (p : Part), s.up = true ∧ s.g FLU_CFG_MODE f = 2 ∧ (s.flu f).run = .running ∧ (s.flu f).stage = .fetch ∧ (s.flu f).entry = some w ∧ w.started = false ∧ w.len = 0 ∧ (s.flu f).job.parts = [p] ∧ p.fin = true ∧ p.txn = none ∧ p.status = ST_OK ∧ (wqHeader p.data).ok = true ∧ (s.g WQ_IDX_TAIL w.queue + 2 ^ 32 - w.unit) % 2 ^ 32 < (wqHeader p.data).len ∧ (s.wqOf f).any (fun q => q != w.queue && s.wqEligible q) = false) ∧
    (∃ (s : State) (q : QueueId) (v : Nat) (p : Part), s.up = true ∧ (s.wq q).job = some (v, { write := true, parts := [p] }) ∧ p.fin = true ∧ p.txn = none ∧ p.status = ST_OK ∧ (s.wq q).want = false) :=
  ⟨⟨(((((((((((upW.p WQ_STATUS_STATE 1 8191).p WQ_RING_RING_LOG2 4 8191).p WQ_CFG_VALID 1 8191).p WQ_CFG_FLUE 7 8191).p WQ_CFG_INST 5 8191).p FLU_ASSIGN_VALID 1 7).p FLU_ASSIGN_INST 5 7).p FLU_CFG_MODE 2 7).p INST_STATUS_STATE 1 5).fluSet 7 { run := .running, mover := true, entry := some { queue := 8191, unit := 4, len := 2, kind := 3, tag := 9, evt := false, started := true } }).p WQ_STATUS_STATE 2 8191), 8191, { queue := 8191, unit := 4, len := 2, kind := 3, tag := 9, evt := false, started := true }, by decide +kernel⟩,
   ⟨((((upW.p FLU_ASSIGN_INST 5 7).p CQ_CFG_INST 5 3).p INST_STATUS_STATE 1 5).p INST_POOL_WQ_QUOTA 1 5), .device, 8191, BitVec.ofNat 64 (2 ^ WQ_CFG_VALID.lsb + 5 * 2 ^ WQ_CFG_INST.lsb + 7 * 2 ^ WQ_CFG_FLUE.lsb + 3 * 2 ^ WQ_CFG_CQ.lsb), by decide +kernel⟩,
   ⟨(((((((((upW.p WQ_STATUS_STATE 1 8191).p WQ_RING_RING_LOG2 4 8191).p WQ_CFG_VALID 1 8191).p WQ_CFG_FLUE 7 8191).p WQ_CFG_INST 5 8191).p FLU_ASSIGN_VALID 1 7).p FLU_ASSIGN_INST 5 7).p FLU_CFG_MODE 2 7).p INST_STATUS_STATE 1 5), .device, 8191, BitVec.ofNat 64 (2 ^ WQ_CFG_VALID.lsb + 5 * 2 ^ WQ_CFG_INST.lsb + 7 * 2 ^ WQ_CFG_FLUE.lsb + 3 * 2 ^ WQ_CFG_CQ.lsb), by decide +kernel⟩,
   ⟨(((((((((((upW.p WQ_STATUS_STATE 1 8191).p WQ_RING_RING_LOG2 4 8191).p WQ_CFG_VALID 1 8191).p WQ_CFG_FLUE 7 8191).p WQ_CFG_INST 5 8191).p FLU_ASSIGN_VALID 1 7).p FLU_ASSIGN_INST 5 7).p FLU_CFG_MODE 2 7).p INST_STATUS_STATE 1 5).p WQ_IDX_TAIL 6 8191).fluSet 7 { run := .running, mover := true, stage := .fetch, entry := some { queue := 8191, unit := 4, len := 0, kind := 0, tag := 0, evt := false }, job := { parts := [{ sp := some spHbm, addr := 64, len := 32, data := List.replicate 32 0, fin := true }] } }), 7, { queue := 8191, unit := 4, len := 0, kind := 0, tag := 0, evt := false }, { sp := some spHbm, addr := 64, len := 32, data := List.replicate 32 0, fin := true }, by decide +kernel⟩,
   ⟨(((((((((((upW.p WQ_STATUS_STATE 1 8191).p WQ_RING_RING_LOG2 4 8191).p WQ_CFG_VALID 1 8191).p WQ_CFG_FLUE 7 8191).p WQ_CFG_INST 5 8191).p FLU_ASSIGN_VALID 1 7).p FLU_ASSIGN_INST 5 7).p FLU_CFG_MODE 2 7).p INST_STATUS_STATE 1 5).p WQ_IDX_TAIL 6 8191).fluSet 7 { run := .running, mover := true, stage := .fetch, entry := some { queue := 8191, unit := 4, len := 0, kind := 0, tag := 0, evt := false }, job := { parts := [{ sp := some spHbm, addr := 64, len := 32, data := (leBytes 8 (2 + 3 * 2 ^ 8 + 9 * 2 ^ 32) ++ leBytes 8 0 ++ leBytes 8 7 ++ leBytes 8 11 ++ List.replicate 32 5), fin := true }] } }), 7, { queue := 8191, unit := 4, len := 0, kind := 0, tag := 0, evt := false }, { sp := some spHbm, addr := 64, len := 32, data := (leBytes 8 (2 + 3 * 2 ^ 8 + 9 * 2 ^ 32) ++ leBytes 8 0 ++ leBytes 8 7 ++ leBytes 8 11 ++ List.replicate 32 5), fin := true }, by decide +kernel⟩,
   ⟨((((((((((((upW.p WQ_STATUS_STATE 1 8191).p WQ_RING_RING_LOG2 4 8191).p WQ_CFG_VALID 1 8191).p WQ_CFG_FLUE 7 8191).p WQ_CFG_INST 5 8191).p FLU_ASSIGN_VALID 1 7).p FLU_ASSIGN_INST 5 7).p FLU_CFG_MODE 2 7).p INST_STATUS_STATE 1 5).p WQ_IDX_TAIL 6 8191).fluSet 7 { run := .running, mover := true, stage := .fetch, entry := some { queue := 8191, unit := 4, len := 0, kind := 0, tag := 0, evt := false }, job := { parts := [{ sp := some spHbm, addr := 64, len := 32, data := (leBytes 8 (2 + 3 * 2 ^ 8 + 9 * 2 ^ 32) ++ leBytes 8 0 ++ leBytes 8 7 ++ leBytes 8 11 ++ List.replicate 32 5), fin := true }] } }).p WQ_IDX_TAIL 5 8191), 7, { queue := 8191, unit := 4, len := 0, kind := 0, tag := 0, evt := false }, { sp := some spHbm, addr := 64, len := 32, data := (leBytes 8 (2 + 3 * 2 ^ 8 + 9 * 2 ^ 32) ++ leBytes 8 0 ++ leBytes 8 7 ++ leBytes 8 11 ++ List.replicate 32 5), fin := true }, by decide +kernel⟩,
   ⟨(upW.wqMod 8191 (fun x => { x with job := some (9, { write := true, parts := [{ sp := none, addr := 64, len := 8, fin := true, data := [] }] }) })), 8191, 9, { sp := none, addr := 64, len := 8, fin := true, data := [] }, by decide +kernel⟩⟩

theorem witness_WorkQueueCommands_4 :
    (∃ (s : State) (q : QueueId) (v : Nat) (p : Part), s.up = true ∧ (s.wq q).job = some (v, { write := true, parts := [p] }) ∧ p.fin = true ∧ p.txn = none ∧ p.status ≠ ST_OK ∧ (s.wq q).want = false) :=
  ⟨(upW.wqMod 8191 (fun x => { x with job := some (9, { write := true, parts := [{ sp := none, addr := 64, len := 8, status := 3, fin := true, data := [] }] }) })), 8191, 9, { sp := none, addr := 64, len := 8, status := 3, fin := true, data := [] }, by decide +kernel⟩

theorem witness_MailboxAndThreadGateCommands_1 :
    (∃ (s : State) (m : Master) (i : InstId) (tag : Fin 65536) (len : Fin 32), s.up = true ∧ s.accepts m .MBX_DB i = true ∧ s.instState i = 1 ∧ 1 ≤ len.val ∧ len.val ≤ 16 ∧ s.on MBX_CFG_SERVER_VALID i = true ∧ s.on MBX_STATUS_BUSY i = false ∧ ((s.ix i).answered = false ∨ s.g MBX_STATUS_LAST_TAG i ≠ tag) ∧ (s.thrOf (s.g MBX_CFG_SERVER_TID i)).isSome = false) ∧
    (∃ (s : State) (m : Master) (i : InstId) (tag : Fin 65536) (len : Fin 32) (th : Nat), s.up = true ∧ s.accepts m .MBX_DB i = true ∧ s.instState i = 1 ∧ 1 ≤ len.val ∧ len.val ≤ 16 ∧ s.on MBX_CFG_SERVER_VALID i = true ∧ s.on MBX_STATUS_BUSY i = false ∧ ((s.ix i).answered = false ∨ s.g MBX_STATUS_LAST_TAG i ≠ tag) ∧ s.thrOf (s.g MBX_CFG_SERVER_TID i) = some th) ∧
    (∃ (s : State) (m : Master) (i : InstId) (tag : Fin 65536) (len : Fin 32), s.up = true ∧ s.accepts m .MBX_DB i = true ∧ s.instState i = 3) ∧
    (∃ (s : State) (m : Master) (i : InstId) (tag : Fin 65536) (len : Fin 32), s.up = true ∧ s.accepts m .MBX_DB i = true ∧ s.instState i = 1 ∧ s.on MBX_CFG_SERVER_VALID i = false) ∧
    (∃ (s : State) (m : Master) (i : InstId) (tag : Fin 65536) (len : Fin 32), s.up = true ∧ s.accepts m .MBX_DB i = true ∧ s.instState i = 1 ∧ (len.val = 0 ∨ 16 < len.val)) ∧
    (∃ (s : State) (m : Master) (i : InstId) (tag : Fin 65536) (len : Fin 32), s.up = true ∧ s.accepts m .MBX_DB i = true ∧ s.instState i = 1 ∧ 1 ≤ len.val ∧ len.val ≤ 16 ∧ s.on MBX_CFG_SERVER_VALID i = true ∧ s.on MBX_STATUS_BUSY i = true ∧ (s.ix i).cmdTag ≠ tag) ∧
    (∃ (s : State) (m : Master) (i : InstId) (tag : Fin 65536) (len : Fin 32), s.up = true ∧ s.accepts m .MBX_DB i = true ∧ s.instState i = 1 ∧ 1 ≤ len.val ∧ len.val ≤ 16 ∧ s.on MBX_CFG_SERVER_VALID i = true ∧ s.on MBX_STATUS_BUSY i = true ∧ (s.ix i).cmdTag = tag) :=
  ⟨⟨(((((upW.p INST_STATUS_STATE 1 5).p MBX_CFG_SERVER_VALID 1 5).p MBX_CFG_SERVER_TID 9 5).p MBX_CFG_LAND 4 5).p MBX_CFG_SERVER_TID 2057 5), .device, 5, 77, 16, by decide +kernel⟩,
   ⟨((((upW.p INST_STATUS_STATE 1 5).p MBX_CFG_SERVER_VALID 1 5).p MBX_CFG_SERVER_TID 9 5).p MBX_CFG_LAND 4 5), .device, 5, 77, 16, 9, by decide +kernel⟩,
   ⟨upW.p INST_STATUS_STATE 3 5, .device, 5, 77, 16, by decide +kernel⟩,
   ⟨upW.p INST_STATUS_STATE 1 5, .device, 5, 77, 16, by decide +kernel⟩,
   ⟨((((upW.p INST_STATUS_STATE 1 5).p MBX_CFG_SERVER_VALID 1 5).p MBX_CFG_SERVER_TID 9 5).p MBX_CFG_LAND 4 5), .device, 5, 77, 17, by decide +kernel⟩,
   ⟨(((((((upW.p INST_STATUS_STATE 1 5).p MBX_CFG_SERVER_VALID 1 5).p MBX_CFG_SERVER_TID 9 5).p MBX_CFG_LAND 4 5).p MBX_STATUS_BUSY 1 5).ixMod 5 (fun x => { x with cmdTag := 77 })).ixMod 5 (fun x => { x with cmdTag := 78 })), .device, 5, 77, 16, by decide +kernel⟩,
   ⟨((((((upW.p INST_STATUS_STATE 1 5).p MBX_CFG_SERVER_VALID 1 5).p MBX_CFG_SERVER_TID 9 5).p MBX_CFG_LAND 4 5).p MBX_STATUS_BUSY 1 5).ixMod 5 (fun x => { x with cmdTag := 77 })), .device, 5, 77, 16, by decide +kernel⟩⟩

theorem witness_MailboxAndThreadGateCommands_2 :
    (∃ (s : State) (i : InstId), s.up = true ∧ s.on MBX_STATUS_BUSY i = true ∧ s.instState i ≠ 2 ∧ s.instState i ≠ 3) ∧
    (∃ (s : State) (i : InstId), s.up = true ∧ s.on MBX_STATUS_BUSY i = false) ∧
    (∃ (s : State) (m : Master) (th : ThrId) (set : Fin 2) (r : Fin 16) (v : Word), s.up = true ∧ s.accepts m .TG_HI th (16 * set.val + r.val) = true ∧ s.gateOpen th (16 * set.val + r.val) = true) ∧
    (∃ (s : State) (m : Master) (th : ThrId) (set : Fin 2) (r : Fin 16) (v : Word), s.up = true ∧ s.accepts m .TG_HI th (16 * set.val + r.val) = true ∧ s.gateOpen th (16 * set.val + r.val) = false) ∧
    (∃ (s : State) (m : Master) (th : ThrId) (set : Fin 2) (r : Fin 16) (v : Word), s.up = true ∧ s.accepts m .TG_LO th (16 * set.val + r.val) = true ∧ s.gateOpen th (16 * set.val + r.val) = true ∧ ({ v := v.toNat } : RegW).reserved .TG_LO = false ∧ (({ v := v.toNat } : RegW).val (tgFld PG_LO_SPACE) = 2 ∨ ({ v := v.toNat } : RegW).val (tgFld PG_LO_HEARTH) = 0) ∧ (RegW.mk (s.heldHi th (16 * set.val + r.val)) true true).reserved .TG_HI = false ∧ (({ v := v.toNat } : RegW).val (tgFld PG_LO_VALID) = 0 ∨ ({ v := v.toNat } : RegW).val (tgFld PG_LO_BASE) ≤ bits (s.heldHi th (16 * set.val + r.val)) (tgFld PG_HI_LIMIT).lsb (tgFld PG_HI_LIMIT).width)) ∧
    (∃ (s : State) (m : Master) (th : ThrId) (set : Fin 2) (r : Fin 16) (v : Word), s.up = true ∧ s.accepts m .TG_LO th (16 * set.val + r.val) = true ∧ s.gateOpen th (16 * set.val + r.val) = true ∧ ({ v := v.toNat } : RegW).val (tgFld PG_LO_VALID) = 1 ∧ bits (s.heldHi th (16 * set.val + r.val)) (tgFld PG_HI_LIMIT).lsb (tgFld PG_HI_LIMIT).width < ({ v := v.toNat } : RegW).val (tgFld PG_LO_BASE)) ∧
    (∃ (s : State) (m : Master) (th : ThrId), s.up = true ∧ s.accepts m .TG_CTRL th = true ∧ s.halted th = true) :=
  ⟨⟨((((((upW.p INST_STATUS_STATE 1 5).p MBX_CFG_SERVER_VALID 1 5).p MBX_CFG_SERVER_TID 9 5).p MBX_CFG_LAND 4 5).p MBX_STATUS_BUSY 1 5).ixMod 5 (fun x => { x with cmdTag := 77 })), 5, by decide +kernel⟩,
   ⟨upW, 5, by decide +kernel⟩,
   ⟨upW, .device, 2047, 1, 15, BitVec.ofNat 64 0x40, by decide +kernel⟩,
   ⟨(upW.p TH_STATUS_STATE 1 15 127), .device, 2047, 0, 15, 0, by decide +kernel⟩,
   ⟨(upW.thMod 2047 (fun x => { x with gateHi := [(31, 5 * 2 ^ (tgFld PG_HI_LIMIT).lsb)] })), .device, 2047, 1, 15, BitVec.ofNat 64 (2 ^ (tgFld PG_LO_VALID).lsb + 3 * 2 ^ (tgFld PG_LO_BASE).lsb), by decide +kernel⟩,
   ⟨(upW.thMod 2047 (fun x => { x with gateHi := [(31, 5 * 2 ^ (tgFld PG_HI_LIMIT).lsb)] })), .device, 2047, 1, 15, BitVec.ofNat 64 (2 ^ (tgFld PG_LO_VALID).lsb + 6 * 2 ^ (tgFld PG_LO_BASE).lsb), by decide +kernel⟩,
   ⟨upW, .device, 2047, by decide +kernel⟩⟩

theorem witness_MailboxAndThreadGateCommands_3 :
    (∃ (s : State) (m : Master) (th : ThrId), s.up = true ∧ s.accepts m .TG_CTRL th = true ∧ s.halted th = false) :=
  ⟨(upW.p TH_STATUS_STATE 1 15 127), .device, 2047, by decide +kernel⟩

theorem witness_InstanceCommands_1 :
    (∃ (s : State) (m : Master) (i : InstId) (tag : Fin 65536), s.up = true ∧ s.accepts m .INST_CMD i = true ∧ s.on INST_STATUS_BUSY i = false ∧ ((s.ix i).done = false ∨ s.g INST_STATUS_TAG i ≠ tag) ∧ s.instState i = 0 ∧ s.poolsHold i (fun f => s.g f i) = true) ∧
    (∃ (s : State) (m : Master) (i : InstId) (tag : Fin 65536), s.up = true ∧ s.accepts m .INST_CMD i = true ∧ s.on INST_STATUS_BUSY i = false ∧ ((s.ix i).done = false ∨ s.g INST_STATUS_TAG i ≠ tag) ∧ s.instState i = 0 ∧ s.poolsHold i (fun f => s.g f i) = false) ∧
    (∃ (s : State) (m : Master) (i : InstId) (tag : Fin 65536), s.up = true ∧ s.accepts m .INST_CMD i = true ∧ s.on INST_STATUS_BUSY i = false ∧ ((s.ix i).done = false ∨ s.g INST_STATUS_TAG i ≠ tag) ∧ s.instState i ≠ 0) ∧
    (∃ (s : State) (m : Master) (i : InstId) (tag : Fin 65536), s.up = true ∧ s.accepts m .INST_CMD i = true ∧ s.on INST_STATUS_BUSY i = false ∧ ((s.ix i).done = false ∨ s.g INST_STATUS_TAG i ≠ tag) ∧ (s.instState i = 1 ∨ s.instState i = 3 ∨ s.instState i = 4) ∧ s.instInUse i = false ∧ s.on MBX_STATUS_BUSY i = false ∧ (s.sw.txns.any (fun e => e.2.place == .penalty && e.2.inst == s.instId i)) = false) :=
  ⟨⟨upW.p INST_POOL_THREAD_QUOTA 64 5, .device, 5, 77, by decide +kernel⟩,
   ⟨upW.p INST_OVF_OVF_QUOTA 67108865 5, .device, 5, 77, by decide +kernel⟩,
   ⟨(upW.p INST_STATUS_STATE 1 5), .device, 5, 77, by decide +kernel⟩,
   ⟨(upW.p INST_STATUS_STATE 4 5), .device, 5, 77, by decide +kernel⟩⟩

theorem witness_InstanceCommands_2 :
    (∃ (s : State) (m : Master) (i : InstId) (tag : Fin 65536), s.up = true ∧ s.accepts m .INST_CMD i = true ∧ s.on INST_STATUS_BUSY i = false ∧ ((s.ix i).done = false ∨ s.g INST_STATUS_TAG i ≠ tag) ∧ s.instState i = 0) ∧
    (∃ (s : State) (m : Master) (i : InstId) (tag : Fin 65536), s.up = true ∧ s.accepts m .INST_CMD i = true ∧ s.on INST_STATUS_BUSY i = false ∧ ((s.ix i).done = false ∨ s.g INST_STATUS_TAG i ≠ tag) ∧ s.instState i = 1 ∧ s.instInUse i = true) ∧
    (∃ (s : State) (m : Master) (i : InstId) (tag : Fin 65536) (f : Nat), s.up = true ∧ s.accepts m .INST_CMD i = true ∧ s.on INST_STATUS_BUSY i = false ∧ ((s.ix i).done = false ∨ s.g INST_STATUS_TAG i ≠ tag) ∧ s.instState i ≠ 0 ∧ s.instQueues i = [] ∧ s.instFlues i = [f] ∧ s.instThreads (s.instId i) = [] ∧ s.on MBX_STATUS_BUSY i = true ∧ s.g FLU_CFG_MODE f ≠ 2 ∧ (s.sw.txns.any (fun e => e.2.place == .penalty && e.2.inst == s.instId i)) = false) ∧
    (∃ (s : State) (i : InstId), s.up = true ∧ s.instState i = 5 ∧ s.instQuiet i = true ∧ (s.ix i).ending = 1 ∧ (s.ix i).contain = false ∧ (s.ix i).op ≠ 0) :=
  ⟨⟨upW, .device, 5, 77, by decide +kernel⟩,
   ⟨((upW.p INST_STATUS_STATE 1 5).p IW_BASE_VALID 1 5), .device, 5, 77, by decide +kernel⟩,
   ⟨(((((upW.p INST_STATUS_STATE 1 5).p FLU_ASSIGN_VALID 1 7).p FLU_ASSIGN_INST 5 7).fluSet 7 { run := .stopped, mid := true }).p MBX_STATUS_BUSY 1 5), .device, 5, 77, 7, by decide +kernel⟩,
   ⟨((upW.p INST_STATUS_STATE 5 5).ixMod 5 (fun x => { x with ending := 1, op := 32, tag := 9 })), 5, by decide +kernel⟩⟩

theorem witness_InstanceCommands_3 :
    (∃ (s : State) (i : InstId), s.up = true ∧ s.instState i = 5 ∧ s.instQuiet i = true ∧ (s.ix i).ending = 0) ∧
    (∃ (s : State) (i : InstId), s.up = true ∧ (s.instState i ≠ 5 ∨ s.instQuiet i = false)) ∧
    (∃ (s : State) (m : Master) (i : InstId) (tag : Fin 65536), s.up = true ∧ s.accepts m .INST_CMD i = true ∧ s.on INST_STATUS_BUSY i = false ∧ ((s.ix i).done = false ∨ s.g INST_STATUS_TAG i ≠ tag) ∧ s.instState i = 4) ∧
    (∃ (s : State) (m : Master) (i : InstId) (tag : Fin 65536), s.up = true ∧ s.accepts m .INST_CMD i = true ∧ s.on INST_STATUS_BUSY i = false ∧ ((s.ix i).done = false ∨ s.g INST_STATUS_TAG i ≠ tag) ∧ s.instState i = 1) :=
  ⟨⟨((upW.p INST_STATUS_STATE 5 5).ixMod 5 (fun x => { x with ending := 0, op := 2 })), 5, by decide +kernel⟩,
   ⟨upW, 5, by decide +kernel⟩,
   ⟨(upW.p INST_STATUS_STATE 4 5), .device, 5, 77, by decide +kernel⟩,
   ⟨(upW.p INST_STATUS_STATE 1 5), .device, 5, 77, by decide +kernel⟩⟩

theorem witness_InstanceCommands_4 :
    (∃ (s : State) (m : Master) (i : InstId) (tag : Fin 65536) (f : Nat), s.up = true ∧ s.accepts m .INST_CMD i = true ∧ s.on INST_STATUS_BUSY i = false ∧ ((s.ix i).done = false ∨ s.g INST_STATUS_TAG i ≠ tag) ∧ s.instState i = 1 ∧ s.instFlues i = [f] ∧ s.instThreads (s.instId i) = [] ∧ (s.flu f).run = .ready ∧ (s.flu f).stage = .none ∧ (s.flu f).mid = false) ∧
    (∃ (s : State) (m : Master) (i : InstId) (tag : Fin 65536) (th : Nat), s.up = true ∧ s.accepts m .INST_CMD i = true ∧ s.on INST_STATUS_BUSY i = false ∧ ((s.ix i).done = false ∨ s.g INST_STATUS_TAG i ≠ tag) ∧ s.instState i = 1 ∧ s.instFlues i = [] ∧ s.instThreads (s.instId i) = [th] ∧ s.halted th = false ∧ (s.th th).waiting = .none ∧ (s.th th).clearAsked = false ∧ s.on CHM_CFG_EN (thH th) = false) ∧
    (∃ (s : State) (m : Master) (i : InstId) (tag : Fin 65536), s.up = true ∧ s.accepts m .INST_CMD i = true ∧ s.on INST_STATUS_BUSY i = false ∧ ((s.ix i).done = false ∨ s.g INST_STATUS_TAG i ≠ tag) ∧ s.instState i = 3) ∧
    (∃ (s : State) (i : InstId), s.up = true ∧ s.instState i = 2 ∧ s.freezeOver i = true ∧ (s.ix i).contain = false) :=
  ⟨⟨((((upW.p INST_STATUS_STATE 1 5).p FLU_ASSIGN_VALID 1 7).p FLU_ASSIGN_INST 5 7).fluSet 7 { run := .ready }), .device, 5, 77, 7, by decide +kernel⟩,
   ⟨((((((upW.p INST_STATUS_STATE 1 5).p TH_STATUS_LOADED 1 15 127).p TH_STATUS_BASE_PRIV 2 15 127).p ENG_CFG_P2_INST 5 15 31).p TH_STATUS_STATE 1 15 127)), .device, 5, 77, 2047, by decide +kernel⟩,
   ⟨(upW.p INST_STATUS_STATE 3 5), .device, 5, 77, by decide +kernel⟩,
   ⟨(upW.p INST_STATUS_STATE 2 5), 5, by decide +kernel⟩⟩

theorem witness_InstanceCommands_5 :
    (∃ (s : State) (i : InstId), s.up = true ∧ s.instState i = 2 ∧ s.freezeOver i = false) ∧
    (∃ (s : State) (m : Master) (i : InstId) (tag : Fin 65536) (th : Nat), s.up = true ∧ s.accepts m .INST_CMD i = true ∧ s.on INST_STATUS_BUSY i = false ∧ ((s.ix i).done = false ∨ s.g INST_STATUS_TAG i ≠ tag) ∧ s.instState i = 3 ∧ (s.ix i).pending = false ∧ s.instFlues i = [] ∧ s.instThreads (s.instId i) = [th] ∧ s.instQueues i = [] ∧ s.halted th = true ∧ (s.th th).frozen = true ∧ s.fu.contained = []) ∧
    (∃ (s : State) (m : Master) (i : InstId) (tag : Fin 65536), s.up = true ∧ s.accepts m .INST_CMD i = true ∧ s.on INST_STATUS_BUSY i = false ∧ ((s.ix i).done = false ∨ s.g INST_STATUS_TAG i ≠ tag) ∧ s.instState i = 3 ∧ (s.ix i).pending = true) ∧
    (∃ (s : State) (i : InstId) (tag : Fin 65536) (sp : Nat), s.up = true ∧ s.on INST_STATUS_BUSY i = false ∧ ((s.ix i).done = false ∨ s.g INST_STATUS_TAG i ≠ tag) ∧ s.instState i = 3 ∧ awMem (s.g INST_ARG0_ARG0 i) = some sp ∧ awOk 0 (s.g INST_ARG0_ARG0 i) ((s.instImage i).1.length + (s.instImage i).2.length) = true) :=
  ⟨⟨((((upW.p INST_STATUS_STATE 2 5).p FLU_ASSIGN_VALID 1 7).p FLU_ASSIGN_INST 5 7).fluSet 7 { run := .running }), 5, by decide +kernel⟩,
   ⟨((((((((upW.p INST_STATUS_STATE 3 5).p TH_STATUS_LOADED 1 15 127).p TH_STATUS_BASE_PRIV 2 15 127).p ENG_CFG_P2_INST 5 15 31).p TH_STATUS_STATE 1 15 127)).p TH_STATUS_STATE 0 15 127).thMod 2047 (fun x => { x with frozen := true })), .device, 5, 77, 2047, by decide +kernel⟩,
   ⟨((upW.p INST_STATUS_STATE 3 5).ixMod 5 (fun x => { x with queues := [([], false)] })), .device, 5, 77, by decide +kernel⟩,
   ⟨((((upW.p INST_STATUS_STATE 3 5).p FLU_ASSIGN_VALID 1 7).p FLU_ASSIGN_INST 5 7).p INST_ARG0_ARG0 0x20000038000040 5), 5, 77, spHbm, by decide +kernel⟩⟩

theorem witness_InstanceCommands_6 :
    (∃ (s : State) (m : Master) (i : InstId) (tag : Fin 65536), s.up = true ∧ s.accepts m .INST_CMD i = true ∧ s.on INST_STATUS_BUSY i = false ∧ ((s.ix i).done = false ∨ s.g INST_STATUS_TAG i ≠ tag) ∧ s.instState i ≠ 3) ∧
    (∃ (s : State) (m : Master) (i : InstId) (tag : Fin 65536), s.up = true ∧ s.accepts m .INST_CMD i = true ∧ s.on INST_STATUS_BUSY i = false ∧ ((s.ix i).done = false ∨ s.g INST_STATUS_TAG i ≠ tag) ∧ (s.ix i).flues.length ≤ (s.g INST_ARG0_ARG0 i)) ∧
    (∃ (s : State) (m : Master) (i : InstId) (tag : Fin 65536) (r : List Byte), s.up = true ∧ s.accepts m .INST_CMD i = true ∧ s.on INST_STATUS_BUSY i = false ∧ ((s.ix i).done = false ∨ s.g INST_STATUS_TAG i ≠ tag) ∧ (s.ix i).flues[(s.g INST_ARG0_ARG0 i)]? = some (r, true)) ∧
    (∃ (s : State) (m : Master) (i : InstId) (tag : Fin 65536), s.up = true ∧ s.accepts m .INST_CMD i = true ∧ s.on INST_STATUS_BUSY i = false ∧ ((s.ix i).done = false ∨ s.g INST_STATUS_TAG i ≠ tag) ∧ (s.ix i).queues.length ≤ (s.g INST_ARG0_ARG0 i)) :=
  ⟨⟨(upW.p INST_STATUS_STATE 1 5), .device, 5, 77, by decide +kernel⟩,
   ⟨upW, .device, 5, 77, by decide +kernel⟩,
   ⟨(upW.ixMod 5 (fun x => { x with flues := [([], true)] })), .device, 5, 77, [], by decide +kernel⟩,
   ⟨upW, .device, 5, 77, by decide +kernel⟩⟩

theorem witness_InstanceCommands_7 :
    (∃ (s : State) (m : Master) (i : InstId) (tag : Fin 65536) (r : List Byte), s.up = true ∧ s.accepts m .INST_CMD i = true ∧ s.on INST_STATUS_BUSY i = false ∧ ((s.ix i).done = false ∨ s.g INST_STATUS_TAG i ≠ tag) ∧ (s.ix i).queues[(s.g INST_ARG0_ARG0 i)]? = some (r, true)) ∧
    (∃ (s : State) (m : Master) (i : InstId) (tag : Fin 65536), s.up = true ∧ s.accepts m .INST_CMD i = true ∧ s.on INST_STATUS_BUSY i = false ∧ ((s.ix i).done = false ∨ s.g INST_STATUS_TAG i ≠ tag) ∧ (s.ix i).threads.length ≤ (s.g INST_ARG0_ARG0 i)) ∧
    (∃ (s : State) (m : Master) (i : InstId) (tag : Fin 65536) (r : List Byte), s.up = true ∧ s.accepts m .INST_CMD i = true ∧ s.on INST_STATUS_BUSY i = false ∧ ((s.ix i).done = false ∨ s.g INST_STATUS_TAG i ≠ tag) ∧ (s.ix i).threads[(s.g INST_ARG0_ARG0 i)]? = some (r, true)) ∧
    (∃ (s : State) (m : Master) (i : InstId) (tag : Fin 65536) (r : List Byte), s.up = true ∧ s.accepts m .INST_CMD i = true ∧ s.on INST_STATUS_BUSY i = false ∧ ((s.ix i).done = false ∨ s.g INST_STATUS_TAG i ≠ tag) ∧ (s.ix i).flues[(s.g INST_ARG0_ARG0 i)]? = some (r, false) ∧ (s.g INST_ARG1_ARG1 i) < 2048 ∧ s.on FLU_ASSIGN_VALID (s.g INST_ARG1_ARG1 i) = true ∧ s.g FLU_ASSIGN_INST (s.g INST_ARG1_ARG1 i) = i ∧ (s.flu (s.g INST_ARG1_ARG1 i)).run = .idle ∧ fieldOf r 0 8 % 4 ≤ 1 ∧ s.g FLU_CFG_MODE (s.g INST_ARG1_ARG1 i) ≠ 2 ∧ ({ v := fieldOf r 0 8 } : RegW).val FLU_CFG_PRIO ≤ s.g FLU_ASSIGN_PRIO_MAX (s.g INST_ARG1_ARG1 i) ∧ s.g CQ_CFG_INST (({ v := fieldOf r 0 8 } : RegW).val FLU_CFG_CQ) = i ∧ ({ v := fieldOf r 0 8 } : RegW).val FLU_CFG_TRIG_LINE = 0) :=
  ⟨⟨(upW.ixMod 5 (fun x => { x with queues := [([], true)] })), .device, 5, 77, [], by decide +kernel⟩,
   ⟨upW, .device, 5, 77, by decide +kernel⟩,
   ⟨(upW.ixMod 5 (fun x => { x with threads := [([], true)] })), .device, 5, 77, [], by decide +kernel⟩,
   ⟨(((((upW.p INST_STATUS_STATE 3 5).p FLU_ASSIGN_VALID 1 7).p FLU_ASSIGN_INST 5 7).ixMod 5 (fun x => { x with flues := [(List.replicate 8 0 ++ leBytes 8 0x40 ++ List.replicate 112 0, false)] })).p INST_ARG1_ARG1 7 5 |>.p CQ_CFG_INST 5 0), .device, 5, 77, (List.replicate 8 0 ++ leBytes 8 0x40 ++ List.replicate 112 0), by decide +kernel⟩⟩

theorem witness_InstanceCommands_8 :
    (∃ (s : State) (m : Master) (i : InstId) (tag : Fin 65536) (r : List Byte), s.up = true ∧ s.accepts m .INST_CMD i = true ∧ s.on INST_STATUS_BUSY i = false ∧ ((s.ix i).done = false ∨ s.g INST_STATUS_TAG i ≠ tag) ∧ (s.ix i).queues[(s.g INST_ARG0_ARG0 i)]? = some (r, false) ∧ (s.g INST_ARG1_ARG1 i) < 8192 ∧ s.on WQ_CFG_VALID (s.g INST_ARG1_ARG1 i) = true ∧ s.g WQ_CFG_INST (s.g INST_ARG1_ARG1 i) = i ∧ s.g WQ_STATUS_STATE (s.g INST_ARG1_ARG1 i) = 0 ∧ s.g CQ_CFG_INST (bits (fieldOf r 0 8) 44 12) = i) ∧
    (∃ (s : State) (m : Master) (i : InstId) (tag : Fin 65536) (r : List Byte), s.up = true ∧ s.accepts m .INST_CMD i = true ∧ s.on INST_STATUS_BUSY i = false ∧ ((s.ix i).done = false ∨ s.g INST_STATUS_TAG i ≠ tag) ∧ (s.ix i).threads[(s.g INST_ARG0_ARG0 i)]? = some (r, false) ∧ (s.g INST_ARG1_ARG1 i) / 2048 = s.dev ∧ s.halted ((s.g INST_ARG1_ARG1 i) % 2048) = true ∧ s.loaded ((s.g INST_ARG1_ARG1 i) % 2048) = true ∧ s.basePriv ((s.g INST_ARG1_ARG1 i) % 2048) = 2 ∧ s.p2Inst ((s.g INST_ARG1_ARG1 i) % 2048) = s.instId i ∧ (s.th ((s.g INST_ARG1_ARG1 i) % 2048)).codeHash = fieldOf r 320 48) ∧
    (∃ (s : State) (m : Master) (i : InstId) (tag : Fin 65536), s.up = true ∧ s.accepts m .INST_CMD i = true ∧ s.on INST_STATUS_BUSY i = true) ∧
    (∃ (s : State) (m : Master) (i : InstId) (tag : Fin 65536), s.up = true ∧ s.accepts m .INST_CMD i = true ∧ s.on INST_STATUS_BUSY i = false ∧ (s.ix i).done = true ∧ s.g INST_STATUS_TAG i = tag) :=
  ⟨⟨(((((upW.p INST_STATUS_STATE 3 5).p WQ_CFG_VALID 1 9).p WQ_CFG_INST 5 9).p WQ_CFG_FLUE 7 9).p CQ_CFG_INST 5 0 |>.p INST_ARG1_ARG1 9 5 |>.ixMod 5 (fun x => { x with queues := [(List.replicate 32 0 ++ leBytes 8 0x700000003 ++ leBytes 8 1 ++ List.replicate 16 0, false)] })), .device, 5, 77, (List.replicate 32 0 ++ leBytes 8 0x700000003 ++ leBytes 8 1 ++ List.replicate 16 0), by decide +kernel⟩,
   ⟨(((((((((upW.p INST_STATUS_STATE 3 5).p TH_STATUS_LOADED 1 15 127).p TH_STATUS_BASE_PRIV 2 15 127).p ENG_CFG_P2_INST 5 15 31).p TH_STATUS_STATE 1 15 127)).p TH_STATUS_STATE 0 15 127).p INST_ARG1_ARG1 2047 5).ixMod 5 (fun x => { x with threads := [(leBytes 8 0x1234 ++ List.replicate 504 0, false)] })), .device, 5, 77, (leBytes 8 0x1234 ++ List.replicate 504 0), by decide +kernel⟩,
   ⟨upW.p INST_STATUS_BUSY 1 5, .device, 5, 77, by decide +kernel⟩,
   ⟨((upW.p INST_STATUS_TAG 77 5).ixMod 5 (fun x => { x with done := true })), .device, 5, 77, by decide +kernel⟩⟩

theorem witness_FaultUnitCommands_1 :
    (∃ (s : State) (r : Report), s.fuUp = true ∧ s.fu.waiting.find? (fun r => !(s.heldReport r)) = some r ∧ s.primaryOf r = none ∧ s.on FU_LOG_CFG_WRAP = true ∧ s.entryLevel r.source r.cls = 0 ∧ s.fu.pend.contains (r.cls, r.scope) = false ∧ r.cls ≠ DF ∧ r.bank = none ∧ s.fu.skipped.contains (s.fu.seq % 128) = false) ∧
    (∃ (s : State) (r : Report) (p : Nat), s.fuUp = true ∧ s.fu.waiting.find? (fun r => !(s.heldReport r)) = some r ∧ s.primaryOf r = some p ∧ s.on FU_LOG_CFG_WRAP = true ∧ s.fu.skipped.contains (s.fu.seq % 128) = false ∧ r.bank = none) ∧
    (∃ (s : State) (r : Report), s.fuUp = true ∧ s.fu.waiting.find? (fun r => !(s.heldReport r)) = some r ∧ s.primaryOf r = none ∧ s.on FU_LOG_CFG_WRAP = true ∧ s.entryLevel r.source r.cls = 3 ∧ s.fu.pend.contains (r.cls, r.scope) = false ∧ containable r.scope = false) ∧
    (∃ (s : State) (r : Report), s.fuUp = true ∧ s.fu.waiting.find? (fun r => !(s.heldReport r)) = some r ∧ s.primaryOf r = none ∧ s.on FU_LOG_CFG_WRAP = true ∧ s.entryLevel r.source r.cls = 2 ∧ s.fu.pend.contains (r.cls, r.scope) = true ∧ 2 < s.g FU_CTRL_ESC_CAP ∧ containable r.scope = false) ∧
    (∃ (s : State) (r : Report), s.fuUp = true ∧ s.fu.waiting.find? (fun r => !(s.heldReport r)) = some r ∧ s.primaryOf r = none ∧ s.on FU_LOG_CFG_WRAP = true ∧ s.entryLevel r.source r.cls = 2 ∧ s.fu.pend.contains (r.cls, r.scope) = false ∧ r.scope / 4096 = 4 ∧ s.fu.contained.contains r.scope = false ∧ s.halted (r.scope % 4096) = false ∧ (s.th (r.scope % 4096)).waiting = .none ∧ (s.th (r.scope % 4096)).clearAsked = false ∧ s.on CHM_CFG_EN (thH (r.scope % 4096)) = false) ∧
    (∃ (s : State), s.fuUp = true ∧ s.fu.waiting = []) ∧
    (∃ (s : State) (r : Record) (rs : List Record), s.up = true ∧ s.fu.ringWait = r :: rs ∧ (s.on FU_LOG_CFG_WRAP = true ∨ s.slotHeld r.seq = false)) :=
  ⟨⟨({ ((upW.p FU_LOG_CFG_WRAP 1).p FU_SRC_LEVEL_CE 0 (src 0x12 0)) with fu := { ((upW.p FU_LOG_CFG_WRAP 1).p FU_SRC_LEVEL_CE 0 (src 0x12 0)).fu with waiting := [{ source := src 0x12 0, cls := CE, scope := 0 }] } }), { source := src 0x12 0, cls := CE, scope := 0 }, by decide +kernel⟩,
   ⟨(let X := ({ (upW.p FU_LOG_CFG_WRAP 1) with fu := { (upW.p FU_LOG_CFG_WRAP 1).fu with waiting := [{ source := src 0x12 0, cls := CE, scope := 0, causes := [(5, 6)] }] } }); { X with fu := { X.fu with lastRec := [((5, 6), 3)] } }), { source := src 0x12 0, cls := CE, scope := 0, causes := [(5, 6)] }, 3, by decide +kernel⟩,
   ⟨({ ((upW.p FU_LOG_CFG_WRAP 1).p FU_SRC_LEVEL_CE 3 (src 0x04 0)) with fu := { ((upW.p FU_LOG_CFG_WRAP 1).p FU_SRC_LEVEL_CE 3 (src 0x04 0)).fu with waiting := [{ source := src 0x04 0, cls := CE, scope := 0 }] } }), { source := src 0x04 0, cls := CE, scope := 0 }, by decide +kernel⟩,
   ⟨(let X := ({ (((upW.p FU_LOG_CFG_WRAP 1).p FU_SRC_LEVEL_CE 2 (src 0x04 0)).p FU_CTRL_ESC_CAP 3) with fu := { (((upW.p FU_LOG_CFG_WRAP 1).p FU_SRC_LEVEL_CE 2 (src 0x04 0)).p FU_CTRL_ESC_CAP 3).fu with waiting := [{ source := src 0x04 0, cls := CE, scope := 0 }] } }); { X with fu := { X.fu with pend := [(0, 0)] } }), { source := src 0x04 0, cls := CE, scope := 0 }, by decide +kernel⟩,
   ⟨({ (((upW.p FU_LOG_CFG_WRAP 1).p FU_SRC_LEVEL_PF 2 (src 0x04 0)).p TH_STATUS_STATE 1 15 127) with fu := { (((upW.p FU_LOG_CFG_WRAP 1).p FU_SRC_LEVEL_PF 2 (src 0x04 0)).p TH_STATUS_STATE 1 15 127).fu with waiting := [{ source := src 0x04 0, cls := PF, scope := scope 4 2047 }] } }), { source := src 0x04 0, cls := PF, scope := scope 4 2047 }, by decide +kernel⟩,
   ⟨upW, by decide +kernel⟩,
   ⟨({ (upW.p FU_LOG_CFG_WRAP 1) with fu := { (upW.p FU_LOG_CFG_WRAP 1).fu with ringWait := [{ rpt := { source := src 0x04 0, cls := CE, scope := 0 }, seq := 5, primarySeq := 0, level := 0, escalated := false, conseq := false, already := false }] } }), { rpt := { source := src 0x04 0, cls := CE, scope := 0 }, seq := 5, primarySeq := 0, level := 0, escalated := false, conseq := false, already := false }, [], by decide +kernel⟩⟩

theorem witness_FaultUnitCommands_2 :
    (∃ (s : State) (n : Fin 128) (y : Fin 65536) (r : Record), s.fuUp = true ∧ nget? n.val s.fu.odl = some r) ∧
    (∃ (s : State) (n : Fin 128) (y : Fin 65536), s.fuUp = true ∧ nget? n.val s.fu.odl = none) ∧
    (∃ (s : State) (m : Master) (tag : Fin 65536), s.fuUp = true ∧ s.accepts m .FU_CMD 0 = true ∧ (s.fu.cmdDone = false ∨ s.g FU_CMD_STATUS_TAG ≠ tag) ∧ s.fu.pend.contains (s.g FU_CMD_ARG_CLASS, s.g FU_CMD_ARG_SCOPE) = true) ∧
    (∃ (s : State) (m : Master) (tag : Fin 65536), s.fuUp = true ∧ s.accepts m .FU_CMD 0 = true ∧ (s.fu.cmdDone = false ∨ s.g FU_CMD_STATUS_TAG ≠ tag) ∧ s.fu.pend.contains (s.g FU_CMD_ARG_CLASS, s.g FU_CMD_ARG_SCOPE) = false) ∧
    (∃ (s : State) (m : Master) (tag : Fin 65536), s.fuUp = true ∧ s.accepts m .FU_CMD 0 = true ∧ (s.fu.cmdDone = false ∨ s.g FU_CMD_STATUS_TAG ≠ tag) ∧ s.fu.pend.any (fun p => p.1 == s.g FU_CMD_ARG_CLASS) = true) ∧
    (∃ (s : State) (m : Master) (tag : Fin 65536), s.fuUp = true ∧ s.accepts m .FU_CMD 0 = true ∧ (s.fu.cmdDone = false ∨ s.g FU_CMD_STATUS_TAG ≠ tag) ∧ s.fu.pend.any (fun p => p.1 == s.g FU_CMD_ARG_CLASS) = false) ∧
    (∃ (s : State) (m : Master) (tag : Fin 65536), s.fuUp = true ∧ s.accepts m .FU_CMD 0 = true ∧ (s.fu.cmdDone = false ∨ s.g FU_CMD_STATUS_TAG ≠ tag) ∧ ((s.g FU_CMD_ARG_SCOPE) / 4096 = 3 ∨ (s.g FU_CMD_ARG_SCOPE) / 4096 = 4) ∧ s.fu.contained.contains (s.g FU_CMD_ARG_SCOPE) = true) :=
  ⟨⟨({ upW with fu := { upW.fu with odl := [(5, { rpt := { source := src 0x04 0, cls := CE, scope := 0 }, seq := 5, primarySeq := 0, level := 0, escalated := false, conseq := false, already := false })] } }), 5, 9, { rpt := { source := src 0x04 0, cls := CE, scope := 0 }, seq := 5, primarySeq := 0, level := 0, escalated := false, conseq := false, already := false }, by decide +kernel⟩,
   ⟨upW, 5, 9, by decide +kernel⟩,
   ⟨({ upW with fu := { upW.fu with pend := [(0, 0), (0, 5)] } }), .device, 9, by decide +kernel⟩,
   ⟨upW, .device, 9, by decide +kernel⟩,
   ⟨({ upW with fu := { upW.fu with pend := [(0, 0), (0, 5)] } }), .device, 9, by decide +kernel⟩,
   ⟨upW, .device, 9, by decide +kernel⟩,
   ⟨({ (upW.p FU_CMD_ARG_SCOPE (scope 3 7)) with fu := { upW.fu with contained := [scope 3 7] } }), .device, 9, by decide +kernel⟩⟩

theorem witness_FaultUnitCommands_3 :
    (∃ (s : State) (m : Master) (tag : Fin 65536), s.fuUp = true ∧ s.accepts m .FU_CMD 0 = true ∧ (s.fu.cmdDone = false ∨ s.g FU_CMD_STATUS_TAG ≠ tag) ∧ (s.g FU_CMD_ARG_SCOPE) / 4096 = 2 ∧ s.fu.contained.contains (s.g FU_CMD_ARG_SCOPE) = true) ∧
    (∃ (s : State) (m : Master) (tag : Fin 65536), s.fuUp = true ∧ s.accepts m .FU_CMD 0 = true ∧ (s.fu.cmdDone = false ∨ s.g FU_CMD_STATUS_TAG ≠ tag) ∧ ((s.g FU_CMD_ARG_SCOPE) / 4096 = 2 ∨ (s.g FU_CMD_ARG_SCOPE) / 4096 = 3 ∨ (s.g FU_CMD_ARG_SCOPE) / 4096 = 4) ∧ s.fu.contained.contains (s.g FU_CMD_ARG_SCOPE) = false) ∧
    (∃ (s : State) (m : Master) (tag : Fin 65536), s.fuUp = true ∧ s.accepts m .FU_CMD 0 = true ∧ (s.fu.cmdDone = false ∨ s.g FU_CMD_STATUS_TAG ≠ tag) ∧ ((s.g FU_CMD_ARG_SCOPE) / 4096 < 2 ∨ 4 < (s.g FU_CMD_ARG_SCOPE) / 4096)) ∧
    (∃ (s : State) (m : Master) (tag : Fin 65536), s.fuUp = true ∧ s.accepts m .FU_CMD 0 = true ∧ (s.fu.cmdDone = false ∨ s.g FU_CMD_STATUS_TAG ≠ tag) ∧ (s.p0 m = true ∨ m = .hjelvon) ∧ s.on FU_STATUS_FAULT_ASSERTED = true) ∧
    (∃ (s : State) (m : Master) (tag : Fin 65536), s.fuUp = true ∧ s.accepts m .FU_CMD 0 = true ∧ (s.fu.cmdDone = false ∨ s.g FU_CMD_STATUS_TAG ≠ tag) ∧ (s.p0 m = true ∨ m = .hjelvon) ∧ s.on FU_STATUS_FAULT_ASSERTED = false) ∧
    (∃ (s : State) (m : Master) (tag : Fin 65536), s.fuUp = true ∧ s.accepts m .FU_CMD 0 = true ∧ (s.fu.cmdDone = false ∨ s.g FU_CMD_STATUS_TAG ≠ tag) ∧ s.p0 m = false ∧ m ≠ .hjelvon) ∧
    (∃ (s : State) (m : Master) (tag : Fin 65536), s.fuUp = true ∧ s.accepts m .FU_CMD 0 = true ∧ (s.fu.cmdDone = false ∨ s.g FU_CMD_STATUS_TAG ≠ tag) ∧ (s.p0 m = true ∨ m = .hjelvon) ∧ dfSources.any (fun n => s.on FU_SRC_PRESENT n) = false ∧ s.on FU_LOG_STATUS_LOG_LOST = false ∧ s.on PU_STATUS_PILOT = false ∧ s.up = true ∧ s.on FU_STATUS_EMBER_RUN = false) :=
  ⟨⟨({ ((upW.p FU_CMD_ARG_SCOPE (scope 2 7)).p PC_QUIESCE_STATUS_ISOLATED 1 7) with fu := { upW.fu with contained := [scope 2 7] } }), .device, 9, by decide +kernel⟩,
   ⟨upW.p FU_CMD_ARG_SCOPE (scope 4 7), .device, 9, by decide +kernel⟩,
   ⟨upW, .device, 9, by decide +kernel⟩,
   ⟨upW.p FU_STATUS_FAULT_ASSERTED 1, .hjelvon, 9, by decide +kernel⟩,
   ⟨upW, .hjelvon, 9, by decide +kernel⟩,
   ⟨upW, .bridge, 9, by decide +kernel⟩,
   ⟨upW.p FU_STATUS_EMBER_RUN 0, .hjelvon, 9, by decide +kernel⟩⟩

theorem witness_FaultUnitCommands_4 :
    (∃ (s : State) (m : Master) (tag : Fin 65536), s.fuUp = true ∧ s.accepts m .FU_CMD 0 = true ∧ (s.fu.cmdDone = false ∨ s.g FU_CMD_STATUS_TAG ≠ tag) ∧ s.on FU_LOG_STATUS_LOG_LOST = true) ∧
    (∃ (s : State) (m : Master) (tag : Fin 65536), s.fuUp = true ∧ s.accepts m .FU_CMD 0 = true ∧ s.fu.cmdDone = true ∧ s.g FU_CMD_STATUS_TAG = tag) ∧
    (∃ (s : State) (m : Master) (tag : Fin 65536), s.fuUp = false) ∧
    (∃ (s : State) (m : Master) (v : Word), s.fuUp = true ∧ s.accepts m .FU_INJ 0 = true ∧ sourceDefined (({ v := v.toNat } : RegW).val FU_INJ_SOURCE) = true ∧ scopeHolds (({ v := v.toNat } : RegW).val FU_INJ_SOURCE) (({ v := v.toNat } : RegW).val FU_INJ_SCOPE) = true) ∧
    (∃ (s : State) (m : Master) (v : Word), s.fuUp = true ∧ s.accepts m .FU_INJ 0 = true ∧ (sourceDefined (({ v := v.toNat } : RegW).val FU_INJ_SOURCE) = false ∨ scopeHolds (({ v := v.toNat } : RegW).val FU_INJ_SOURCE) (({ v := v.toNat } : RegW).val FU_INJ_SCOPE) = false)) ∧
    (∃ (s : State), s.fuUp = true ∧ s.on FU_STATUS_EMBER_RUN = true) ∧
    (∃ (s : State), s.fuUp = true ∧ s.on FU_STATUS_EMBER_RUN = false) :=
  ⟨⟨upW.p FU_LOG_STATUS_LOG_LOST 1, .hjelvon, 9, by decide +kernel⟩,
   ⟨({ (upW.p FU_CMD_STATUS_TAG 9) with fu := { upW.fu with cmdDone := true } }), .device, 9, by decide +kernel⟩,
   ⟨State.reset, .device, 9, by decide +kernel⟩,
   ⟨upW, .device, BitVec.ofNat 64 (src 0x0D 0 * 2 ^ FU_INJ_SOURCE.lsb + 2 ^ FU_INJ_ARMED.lsb), by decide +kernel⟩,
   ⟨upW, .device, 0, by decide +kernel⟩,
   ⟨upW.p FU_STATUS_EMBER_RUN 1, by decide +kernel⟩,
   ⟨upW.p FU_STATUS_EMBER_RUN 0, by decide +kernel⟩⟩

theorem witness_RegisterAccesses_1 :
    (∃ (s : State) (m : Master) (addr : Fin 67108864) (width : Nat) (r : RegName) (i : Nat) (j : Nat) (v : Word), s.csGate m addr (width / 8) 1 = none ∧ s.reaches addr = true ∧ (width = 32 ∨ width = 64) ∧ addr.val % (width / 8) = 0 ∧ targetAt (addr.val / 8 * 8) = some (.reg r i j) ∧ s.sees m (.reg r i j) = true ∧ s.mayWrite m r i = true) ∧
    (∃ (s : State) (m : Master) (addr : Fin 67108864) (width : Nat) (r : RegName) (i : Nat) (j : Nat) (v : Word), s.csGate m addr (width / 8) 1 = none ∧ s.reaches addr = true ∧ (width = 32 ∨ width = 64) ∧ addr.val % (width / 8) = 0 ∧ targetAt (addr.val / 8 * 8) = some (.reg r i j) ∧ s.sees m (.reg r i j) = true ∧ s.mayWrite m r i = true ∧ plainRegs.contains r = true ∧ s.rwOk r i j (s.carry m r i j addr width v.toNat) = true) ∧
    (∃ (s : State) (m : Master) (addr : Fin 67108864) (width : Nat) (r : RegName) (i : Nat) (j : Nat) (v : Word), s.csGate m addr (width / 8) 1 = none ∧ s.reaches addr = true ∧ (width = 32 ∨ width = 64) ∧ addr.val % (width / 8) = 0 ∧ targetAt (addr.val / 8 * 8) = some (.reg r i j) ∧ s.sees m (.reg r i j) = true ∧ s.mayWrite m r i = true ∧ plainRegs.contains r = true ∧ s.rwOk r i j (s.carry m r i j addr width v.toNat) = false) ∧
    (∃ (s : State) (m : Master) (addr : Fin 67108864) (width : Nat) (r : RegName) (i : Nat) (j : Nat) (v : Word), s.csGate m addr (width / 8) 1 = none ∧ s.reaches addr = true ∧ (width = 32 ∨ width = 64) ∧ addr.val % (width / 8) = 0 ∧ targetAt (addr.val / 8 * 8) = some (.reg r i j) ∧ s.sees m (.reg r i j) = true ∧ s.mayWrite m r i = false ∧ r ≠ .TALLY ∧ r ≠ .RBC) ∧
    (∃ (s : State) (m : Master) (addr : Fin 67108864) (width : Nat) (r : RegName) (i : Nat) (j : Nat), s.csGate m addr (width / 8) 0 = none ∧ s.reaches addr = true ∧ (width = 32 ∨ width = 64) ∧ addr.val % (width / 8) = 0 ∧ targetAt (addr.val / 8 * 8) = some (.reg r i j) ∧ s.sees m (.reg r i j) = true) ∧
    (∃ (s : State) (m : Master) (addr : Fin 67108864) (width : Nat) (r : RegName) (i : Nat) (j : Nat), s.csGate m addr (width / 8) 0 = none ∧ s.reaches addr = true ∧ (width = 32 ∨ width = 64) ∧ addr.val % (width / 8) = 0 ∧ targetAt (addr.val / 8 * 8) = some (.reg r i j) ∧ s.sees m (.reg r i j) = true ∧ width = 64) ∧
    (∃ (s : State) (m : Master) (addr : Fin 67108864) (width : Nat) (v : Word), s.csGate m addr (width / 8) 1 = none ∧ s.reaches addr = true ∧ (match targetAt (addr.val / 8 * 8) with | some (.inl _ _) => true | _ => false) = false ∧ ((width ≠ 32 ∧ width ≠ 64) ∨ addr.val % (width / 8) ≠ 0)) :=
  ⟨⟨upW, .device, ⟨(RegName.TB_STEP).place 0, by decide⟩, 64, .TB_STEP, 0, 0, BitVec.ofNat 64 (7 + 9 * 2 ^ 32), by decide +kernel⟩,
   ⟨upW, .device, ⟨(RegName.HOME_TMO_CFG).place 0, by decide⟩, 64, .HOME_TMO_CFG, 0, 0, BitVec.ofNat 64 (7 + 9 * 2 ^ 32), by decide +kernel⟩,
   ⟨upW, .device, ⟨(RegName.HOME_TMO_CFG).place 0, by decide⟩, 64, .HOME_TMO_CFG, 0, 0, 0, by decide +kernel⟩,
   ⟨upW, .hjelvon, ⟨(RegName.BR_CMT).place 0, by decide⟩, 64, .BR_CMT, 0, 0, 0, by decide +kernel⟩,
   ⟨upW.p FU_SRC_CNT_COUNT 9 5, .device, ⟨(RegName.FU_SRC_CNT).place 5, by decide⟩, 64, .FU_SRC_CNT, 5, 0, by decide +kernel⟩,
   ⟨upW.p FU_SRC_CNT_COUNT 9 5, .device, ⟨(RegName.FU_SRC_CNT).place 5, by decide⟩, 64, .FU_SRC_CNT, 5, 0, by decide +kernel⟩,
   ⟨upW, .device, 0x100004, 64, 5, by decide +kernel⟩⟩

theorem witness_RegisterAccesses_2 :
    (∃ (s : State) (m : Master) (addr : Fin 67108864) (width : Nat), s.csGate m addr (width / 8) 0 = none ∧ s.reaches addr = true ∧ (match targetAt (addr.val / 8 * 8) with | some (.inl _ _) => true | _ => false) = false ∧ ((width ≠ 32 ∧ width ≠ 64) ∨ addr.val % (width / 8) ≠ 0)) ∧
    (∃ (s : State) (m : Master) (addr : Fin 67108864) (width : Nat) (v : Word), s.csGate m addr (width / 8) 1 = none ∧ s.reaches addr = false) ∧
    (∃ (s : State) (m : Master) (addr : Fin 67108864) (width : Nat), s.csGate m addr (width / 8) 0 = none ∧ s.reaches addr = false) ∧
    (∃ (s : State) (m : Master) (addr : Fin 67108864) (width : Nat) (v : Word) (g : GateAcc × Nat × Option Nat), s.csGate m addr (width / 8) 1 = some g) ∧
    (∃ (s : State) (m : Master) (addr : Fin 67108864) (width : Nat) (b : Bool), s.csGate m addr (width / 8) (if b then 1 else 0) = none ∧ s.reaches addr = true ∧ (width = 32 ∨ width = 64) ∧ addr.val % (width / 8) = 0 ∧ targetAt (addr.val / 8 * 8) = none) ∧
    (∃ (s : State) (m : Master) (addr : Fin 67108864) (width : Nat) (b : Bool) (g : GateAcc × Nat × Option Nat), targetAt (addr.val / 8 * 8) = none ∧ s.csGate m addr (width / 8) (if b then 1 else 0) = some g) :=
  ⟨⟨upW, .device, 0x100000, 16, by decide +kernel⟩,
   ⟨State.reset, .device, 0x400000, 64, 0, by decide +kernel⟩,
   ⟨State.reset, .device, 0x400000, 64, by decide +kernel⟩,
   ⟨upW, .bridge, 0x000FF8, 64, 3, (((upW).csGate .bridge 0xFF8 8 1).getD ({ space := 0, addr := 0, len := 0, kind := 0, level := 0, inst := 0 }, 0, none)), by decide +kernel⟩,
   ⟨upW, .device, ⟨0xFFFFF8, by decide⟩, 32, true, by decide +kernel⟩,
   ⟨upW, .bridge, 0x000FF8, 64, true, (((upW).csGate .bridge 0xFF8 8 1).getD ({ space := 0, addr := 0, len := 0, kind := 0, level := 0, inst := 0 }, 0, none)), by decide +kernel⟩⟩

theorem witness_LinkTrainingAndLoss_1 :
    (∃ (s : State) (l : LinkId), s.up = true ∧ s.linkState l = 0 ∧ s.on SRF_CFG_EN l = true ∧ s.on HJ_GATE_CLK_GATED (48 + l / 2) = false ∧ s.on HJ_GATE_PWR_GATED (48 + l / 2) = false) ∧
    (∃ (s : State) (l : LinkId), (s.up = false ∨ s.linkState l ≠ 0)) ∧
    (∃ (s : State) (l : LinkId), s.up = true ∧ s.linkState l = 1) ∧
    (∃ (s : State) (l : LinkId), s.up = true ∧ s.linkState l ≠ 1) ∧
    (∃ (s : State) (l : LinkId), s.up = true ∧ s.linkState l = 6 ∧ s.on SRF_CFG_EN l = true ∧ s.on HJ_GATE_CLK_GATED (48 + l / 2) = false ∧ s.on HJ_GATE_PWR_GATED (48 + l / 2) = false) ∧
    (∃ (s : State) (l : LinkId) (bytes : List Byte) (n : Nat) (h : FrameHdr) (pl : List Byte), readFrame bytes = .good n h pl ∧ s.up = true ∧ s.on SRF_STATUS_LOCKED l = true ∧ h.type = 3 ∧ s.linkState l = 3 ∧ (s.link l).train = pl ∧ 6 < (s.link l).trainCnt ∧ plField pl 20 8 ≠ s.g ID_SERIAL_UNIQUE_ID ∧ (bit (plField pl 0 1) 2 = false ∨ s.masterStrap = false)) ∧
    (∃ (s : State) (l : LinkId) (bytes : List Byte) (n : Nat) (h : FrameHdr) (pl : List Byte), readFrame bytes = .good n h pl ∧ s.up = true ∧ s.on SRF_STATUS_LOCKED l = true ∧ h.type = 3 ∧ s.linkState l = 3 ∧ (s.link l).train = pl ∧ 6 < (s.link l).trainCnt ∧ plField pl 20 8 = s.g ID_SERIAL_UNIQUE_ID) :=
  ⟨⟨((upW.p SRF_STATUS_STATE 0 2).p SRF_CFG_EN 1 2), 2, by decide +kernel⟩,
   ⟨(upW.p SRF_STATUS_STATE 4 2), 2, by decide +kernel⟩,
   ⟨(upW.p SRF_STATUS_STATE 1 2), 2, by decide +kernel⟩,
   ⟨upW, 2, by decide +kernel⟩,
   ⟨((upW.p SRF_STATUS_STATE 6 2).p SRF_CFG_EN 1 2), 2, by decide +kernel⟩,
   ⟨(((upW.p SRF_STATUS_STATE 3 2).p SRF_STATUS_LOCKED 1 2).linkMod 2 (fun x => { x with train := (((leBytes 1 (1 + 4) ++ leBytes 1 3 ++ leBytes 2 0x0203 ++ leBytes 4 7 ++ leBytes 4 8 ++ leBytes 4 9 ++ leBytes 4 10 ++ leBytes 8 11) ++ List.replicate 228 0).take 228), trainCnt := 7 })), 2, (frameBytes { type := 3 } (leBytes 1 (1 + 4) ++ leBytes 1 3 ++ leBytes 2 0x0203 ++ leBytes 4 7 ++ leBytes 4 8 ++ leBytes 4 9 ++ leBytes 4 10 ++ leBytes 8 11)), 0, { type := 3 }, (((leBytes 1 (1 + 4) ++ leBytes 1 3 ++ leBytes 2 0x0203 ++ leBytes 4 7 ++ leBytes 4 8 ++ leBytes 4 9 ++ leBytes 4 10 ++ leBytes 8 11) ++ List.replicate 228 0).take 228), frame_read_1, by decide +kernel⟩,
   ⟨(((((upW.p SRF_STATUS_STATE 3 2).p SRF_STATUS_LOCKED 1 2).linkMod 2 (fun x => { x with train := (((leBytes 1 (1 + 4) ++ leBytes 1 3 ++ leBytes 2 0x0203 ++ leBytes 4 7 ++ leBytes 4 8 ++ leBytes 4 9 ++ leBytes 4 10 ++ leBytes 8 11) ++ List.replicate 228 0).take 228), trainCnt := 7 }))).p ID_SERIAL_UNIQUE_ID 11), 2, (frameBytes { type := 3 } (leBytes 1 (1 + 4) ++ leBytes 1 3 ++ leBytes 2 0x0203 ++ leBytes 4 7 ++ leBytes 4 8 ++ leBytes 4 9 ++ leBytes 4 10 ++ leBytes 8 11)), 0, { type := 3 }, (((leBytes 1 (1 + 4) ++ leBytes 1 3 ++ leBytes 2 0x0203 ++ leBytes 4 7 ++ leBytes 4 8 ++ leBytes 4 9 ++ leBytes 4 10 ++ leBytes 8 11) ++ List.replicate 228 0).take 228), frame_read_1, by decide +kernel⟩⟩

theorem witness_LinkTrainingAndLoss_2 :
    (∃ (s : State) (l : LinkId) (bytes : List Byte) (n : Nat) (h : FrameHdr) (pl : List Byte), readFrame bytes = .good n h pl ∧ s.up = true ∧ s.on SRF_STATUS_LOCKED l = true ∧ h.type = 3 ∧ s.linkState l = 3 ∧ (s.link l).train ≠ pl) ∧
    (∃ (s : State) (l : LinkId) (bytes : List Byte) (n : Nat) (h : FrameHdr) (pl : List Byte), readFrame bytes = .good n h pl ∧ s.up = true ∧ s.on SRF_STATUS_LOCKED l = true ∧ h.type = 3 ∧ s.linkState l = 4) ∧
    (∃ (s : State) (m : Master) (l : LinkId), s.up = true ∧ s.accepts m .SRF_CFG l = true ∧ s.linkState l = 4) ∧
    (∃ (s : State) (m : Master) (l : LinkId), s.up = true ∧ s.accepts m .SRF_CFG l = true ∧ s.linkState l ≠ 4) ∧
    (∃ (s : State) (l : LinkId), s.up = true ∧ s.linkState l = 5 ∧ s.on SRF_STATUS_LOCKED l = true ∧ (s.link l).trainCnt ≠ 0) ∧
    (∃ (s : State) (l : LinkId), s.up = true ∧ s.linkState l = 5 ∧ (s.on SRF_STATUS_LOCKED l = false ∨ (s.link l).trainCnt = 0)) ∧
    (∃ (s : State) (l : LinkId), s.up = true ∧ s.linkState l ≠ 0 ∧ (s.link l).replay = [] ∧ (s.link l).part = [] ∧ (s.link l).req = [] ∧ (s.link l).snp = [] ∧ (s.link l).rsp = [] ∧ s.sw.txns.all (fun e => match e.2.place with | .stack _ => e.2.path / 16 != l + 1 | _ => true) = true ∧ s.stk.join = none) :=
  ⟨⟨((upW.p SRF_STATUS_STATE 3 2).p SRF_STATUS_LOCKED 1 2), 2, (frameBytes { type := 3 } (leBytes 1 (1 + 4) ++ leBytes 1 3 ++ leBytes 2 0x0203 ++ leBytes 4 7 ++ leBytes 4 8 ++ leBytes 4 9 ++ leBytes 4 10 ++ leBytes 8 11)), 0, { type := 3 }, (((leBytes 1 (1 + 4) ++ leBytes 1 3 ++ leBytes 2 0x0203 ++ leBytes 4 7 ++ leBytes 4 8 ++ leBytes 4 9 ++ leBytes 4 10 ++ leBytes 8 11) ++ List.replicate 228 0).take 228), frame_read_1, by decide +kernel⟩,
   ⟨((upW.p SRF_STATUS_STATE 4 2).p SRF_STATUS_LOCKED 1 2), 2, (frameBytes { type := 3 } (leBytes 1 (1 + 4) ++ leBytes 1 3 ++ leBytes 2 0x0203 ++ leBytes 4 7 ++ leBytes 4 8 ++ leBytes 4 9 ++ leBytes 4 10 ++ leBytes 8 11)), 0, { type := 3 }, (((leBytes 1 (1 + 4) ++ leBytes 1 3 ++ leBytes 2 0x0203 ++ leBytes 4 7 ++ leBytes 4 8 ++ leBytes 4 9 ++ leBytes 4 10 ++ leBytes 8 11) ++ List.replicate 228 0).take 228), frame_read_1, by decide +kernel⟩,
   ⟨((upW.p SRF_STATUS_STATE 4 2).p SRF_STATUS_LOCKED 1 2), .device, 2, by decide +kernel⟩,
   ⟨upW, .device, 2, by decide +kernel⟩,
   ⟨(((upW.p SRF_STATUS_STATE 5 2).p SRF_STATUS_LOCKED 1 2).linkMod 2 (fun x => { x with trainCnt := 1 })), 2, by decide +kernel⟩,
   ⟨(upW.p SRF_STATUS_STATE 5 2), 2, by decide +kernel⟩,
   ⟨(upW.p SRF_STATUS_STATE 4 2), 2, by decide +kernel⟩⟩

theorem witness_LinkTrainingAndLoss_3 :
    (∃ (s : State) (l : LinkId) (f : TxFrame) (id : Nat) (x : Txn), s.up = true ∧ s.linkState l ≠ 0 ∧ (s.link l).replay = [f] ∧ f.reqs = [id] ∧ f.units = [] ∧ nsorted s.sw.txns = true ∧ s.txn id = some x ∧ x.dev = s.dev ∧ x.kind = .rdCur ∧ x.parent = none ∧ (s.link l).part = [] ∧ (s.link l).req = [] ∧ (s.link l).snp = [] ∧ (s.link l).rsp = [] ∧ s.sw.txns.all (fun e => match e.2.place with | .stack _ => e.2.path / 16 != l + 1 | _ => true) = true ∧ s.stk.join = none) ∧
    (∃ (s : State) (l : LinkId), s.up = true ∧ s.linkState l = 0) ∧
    (∃ (s : State) (l : LinkId), s.up = true ∧ s.linkState l = 5 ∧ (s.link l).replay = [] ∧ (s.link l).part = [] ∧ (s.link l).req = [] ∧ (s.link l).snp = [] ∧ (s.link l).rsp = [] ∧ s.sw.txns.all (fun e => match e.2.place with | .stack _ => e.2.path / 16 != l + 1 | _ => true) = true ∧ s.stk.join = none) ∧
    (∃ (s : State) (l : LinkId), s.up = true ∧ s.linkState l ≠ 5) ∧
    (∃ (s : State) (m : Master) (l : LinkId), s.up = true ∧ s.accepts m .SRF_CFG l = true ∧ s.linkState l ≠ 0 ∧ (s.link l).replay = [] ∧ (s.link l).part = [] ∧ (s.link l).req = [] ∧ (s.link l).snp = [] ∧ (s.link l).rsp = [] ∧ s.sw.txns.all (fun e => match e.2.place with | .stack _ => e.2.path / 16 != l + 1 | _ => true) = true ∧ s.stk.join = none) ∧
    (∃ (s : State) (m : Master) (l : LinkId), s.up = true ∧ s.accepts m .SRF_CFG l = true ∧ s.linkState l = 0) ∧
    (∃ (s : State) (l : LinkId) (f : TxFrame) (fs : List TxFrame), s.up = true ∧ s.linkState l = 4 ∧ (s.link l).replay = f :: fs ∧ (s.link l).resend = none ∧ (s.link l).stall + 1 < s.g SRF_CFG_REPLAY_RETRAIN l) :=
  ⟨⟨(((upW.p SRF_STATUS_STATE 4 2).linkMod 2 (fun x => { x with replay := [{ seq := 3, vc := 0, payload := [], reqs := [9] }] })).txnSet 9 { src := 0x80, tag := 1, dev := 0, inst := 0, cls := 0, kind := .rdCur, addr := 64, len := 64, data := [], mask := 0, place := .remote 2 1 }), 2, { seq := 3, vc := 0, payload := [], reqs := [9] }, 9, { src := 0x80, tag := 1, dev := 0, inst := 0, cls := 0, kind := .rdCur, addr := 64, len := 64, data := [], mask := 0, place := .remote 2 1 }, by decide +kernel⟩,
   ⟨upW, 2, by decide +kernel⟩,
   ⟨(upW.p SRF_STATUS_STATE 5 2), 2, by decide +kernel⟩,
   ⟨upW, 2, by decide +kernel⟩,
   ⟨((upW.p SRF_STATUS_STATE 4 2).p SRF_CFG_EN 1 2), .device, 2, by decide +kernel⟩,
   ⟨((upW.p SRF_STATUS_STATE 0 2).p SRF_CFG_EN 1 2), .device, 2, by decide +kernel⟩,
   ⟨(((upW.p SRF_STATUS_STATE 4 2).linkMod 2 (fun x => { x with replay := [{ seq := 3, vc := 0, payload := [], reqs := [9] }] })).p SRF_CFG_REPLAY_RETRAIN 4 2), 2, { seq := 3, vc := 0, payload := [], reqs := [9] }, [], by decide +kernel⟩⟩

theorem witness_LinkTrainingAndLoss_4 :
    (∃ (s : State) (l : LinkId) (f : TxFrame) (fs : List TxFrame), s.up = true ∧ s.linkState l = 4 ∧ (s.link l).replay = f :: fs ∧ (s.link l).resend = none ∧ s.g SRF_CFG_REPLAY_RETRAIN l ≤ (s.link l).stall + 1) ∧
    (∃ (s : State) (l : LinkId), s.up = true ∧ (s.link l).replay = []) :=
  ⟨⟨((upW.p SRF_STATUS_STATE 4 2).linkMod 2 (fun x => { x with replay := [{ seq := 3, vc := 0, payload := [], reqs := [9] }], stall := 14 })), 2, { seq := 3, vc := 0, payload := [], reqs := [9] }, [], by decide +kernel⟩,
   ⟨(upW.p SRF_STATUS_STATE 4 2), 2, by decide +kernel⟩⟩

theorem witness_LinkFramesAndRemoteTimeouts_1 :
    (∃ (s : State) (l : LinkId) (bytes : List Byte) (n : Nat) (h : FrameHdr) (pl : List Byte) (rest : List Byte), readFrame bytes = .good n h pl ∧ s.up = true ∧ s.on SRF_STATUS_LOCKED l = true ∧ h.type = 1 ∧ s.linkState l = 4 ∧ h.seq = (s.g SRF_STATUS_RX_EXP l) ∧ ngetD (s.link l).rcvd h.vc 0 + 2 ^ 32 - ngetD (s.link l).taken h.vc 0 < 2 ^ 32 + vcSize h.vc ∧ h.nak = false ∧ unitsOf 300 (ngetD (s.link l).rx h.vc [] ++ pl.take (4 * h.len)) = ([], rest)) ∧
    (∃ (s : State) (l : LinkId) (bytes : List Byte) (n : Nat) (h : FrameHdr) (pl : List Byte), readFrame bytes = .good n h pl ∧ s.up = true ∧ s.on SRF_STATUS_LOCKED l = true ∧ h.type = 1 ∧ s.linkState l = 4 ∧ 1 ≤ ((s.g SRF_STATUS_RX_EXP l) + 4096 - h.seq) % 4096 ∧ ((s.g SRF_STATUS_RX_EXP l) + 4096 - h.seq) % 4096 ≤ 2048 ∧ h.nak = false ∧ h.seq ≠ (s.g SRF_STATUS_RX_EXP l)) ∧
    (∃ (s : State) (l : LinkId) (bytes : List Byte) (n : Nat) (h : FrameHdr) (pl : List Byte), readFrame bytes = .good n h pl ∧ s.up = true ∧ s.on SRF_STATUS_LOCKED l = true ∧ h.type = 1 ∧ s.linkState l = 4 ∧ h.seq = (s.g SRF_STATUS_RX_EXP l) ∧ 2 ^ 32 + vcSize h.vc ≤ ngetD (s.link l).rcvd h.vc 0 + 2 ^ 32 - ngetD (s.link l).taken h.vc 0) ∧
    (∃ (s : State) (l : LinkId) (bytes : List Byte) (n : Nat), readFrame bytes = .badCrc n ∧ s.up = true ∧ s.on SRF_STATUS_LOCKED l = true ∧ s.linkState l = 4 ∧ (s.link l).bad < 3) :=
  ⟨⟨(((upW.p SRF_STATUS_STATE 4 2).p SRF_STATUS_LOCKED 1 2).p SRF_STATUS_RX_EXP 3 2), 2, (frameBytes { type := 1, seq := 3, ack := 4095, len := 1 } [1, 2, 3, 4]), 0, { type := 1, seq := 3, ack := 4095, len := 1 }, (([1, 2, 3, 4] ++ List.replicate 228 0).take 228), [1, 2, 3, 4], frame_read_2, by decide +kernel⟩,
   ⟨(((upW.p SRF_STATUS_STATE 4 2).p SRF_STATUS_LOCKED 1 2).p SRF_STATUS_RX_EXP 4 2), 2, (frameBytes { type := 1, seq := 3, ack := 4095, len := 1 } [1, 2, 3, 4]), 0, { type := 1, seq := 3, ack := 4095, len := 1 }, (([1, 2, 3, 4] ++ List.replicate 228 0).take 228), frame_read_2, by decide +kernel⟩,
   ⟨((((upW.p SRF_STATUS_STATE 4 2).p SRF_STATUS_LOCKED 1 2).p SRF_STATUS_RX_EXP 3 2).linkMod 2 (fun x => { x with rcvd := [(0, 512)] })), 2, (frameBytes { type := 1, seq := 3, ack := 4095, len := 1 } [1, 2, 3, 4]), 0, { type := 1, seq := 3, ack := 4095, len := 1 }, (([1, 2, 3, 4] ++ List.replicate 228 0).take 228), frame_read_2, by decide +kernel⟩,
   ⟨(((upW.p SRF_STATUS_STATE 4 2).p SRF_STATUS_LOCKED 1 2).p SRF_STATUS_RX_EXP 3 2), 2, (List.replicate 256 0), 0, by decide +kernel⟩⟩

theorem witness_LinkFramesAndRemoteTimeouts_2 :
    (∃ (s : State) (l : LinkId) (bytes : List Byte) (n : Nat), readFrame bytes = .badCrc n ∧ s.up = true ∧ s.on SRF_STATUS_LOCKED l = true ∧ s.linkState l = 4 ∧ 3 ≤ (s.link l).bad) ∧
    (∃ (s : State) (l : LinkId) (bytes : List Byte) (n : Nat) (h : FrameHdr) (pl : List Byte) (f : TxFrame) (fs : List TxFrame), readFrame bytes = .good n h pl ∧ s.up = true ∧ s.on SRF_STATUS_LOCKED l = true ∧ h.type = 0 ∧ s.linkState l = 4 ∧ h.nak = false ∧ (s.link l).replay = f :: fs ∧ f.seq = h.ack) ∧
    (∃ (s : State) (l : LinkId) (bytes : List Byte) (n : Nat) (h : FrameHdr) (pl : List Byte), readFrame bytes = .good 0 h pl ∧ s.up = true ∧ s.on SRF_STATUS_LOCKED l = false ∧ n = 0 ∧ h.type = 0 ∧ s.linkState l = 2 ∧ (s.link l).good = 3) ∧
    (∃ (s : State) (l : LinkId) (bytes : List Byte) (n : Nat) (h : FrameHdr) (pl : List Byte), readFrame bytes = .good n h pl ∧ s.up = true ∧ s.on SRF_STATUS_LOCKED l = true ∧ h.type = 2 ∧ s.linkState l = 4 ∧ h.nak = false ∧ s.g STK_STATUS_STATE ≠ 2) :=
  ⟨⟨((((upW.p SRF_STATUS_STATE 4 2).p SRF_STATUS_LOCKED 1 2).p SRF_STATUS_RX_EXP 3 2).linkMod 2 (fun x => { x with bad := 3 })), 2, (List.replicate 256 0), 0, by decide +kernel⟩,
   ⟨((((upW.p SRF_STATUS_STATE 4 2).p SRF_STATUS_LOCKED 1 2).p SRF_STATUS_RX_EXP 3 2).linkMod 2 (fun x => { x with replay := [{ seq := 3, vc := 0, payload := [], reqs := [9] }] })), 2, (frameBytes { type := 0, ack := 3 } []), 0, { type := 0, ack := 3 }, (([] ++ List.replicate 228 0).take 228), { seq := 3, vc := 0, payload := [], reqs := [9] }, [], frame_read_3, by decide +kernel⟩,
   ⟨((upW.p SRF_STATUS_STATE 2 2).linkMod 2 (fun x => { x with good := 3 })), 2, (frameBytes { type := 0, ack := 3 } []), 0, { type := 0, ack := 3 }, (([] ++ List.replicate 228 0).take 228), frame_read_3, by decide +kernel⟩,
   ⟨(((upW.p SRF_STATUS_STATE 4 2).p SRF_STATUS_LOCKED 1 2).p SRF_STATUS_RX_EXP 3 2), 2, (frameBytes { type := 2, ack := 4095 } (leBytes 4 600 ++ leBytes 4 200 ++ leBytes 4 700 ++ leBytes 8 5 ++ leBytes 8 6 ++ leBytes 8 7)), 0, { type := 2, ack := 4095 }, (((leBytes 4 600 ++ leBytes 4 200 ++ leBytes 4 700 ++ leBytes 8 5 ++ leBytes 8 6 ++ leBytes 8 7) ++ List.replicate 228 0).take 228), frame_read_4, by decide +kernel⟩⟩

theorem witness_LinkFramesAndRemoteTimeouts_3 :
    (∃ (s : State) (l : LinkId) (bytes : List Byte) (n : Nat) (h : FrameHdr) (pl : List Byte), readFrame bytes = .good n h pl ∧ s.up = true ∧ s.on SRF_STATUS_LOCKED l = true ∧ h.type = 2 ∧ s.linkState l = 4 ∧ h.nak = false ∧ s.g STK_STATUS_STATE = 2 ∧ s.g SRF_PEER_DEV l = s.g STK_STATUS_MASTER_DEV ∧ s.hm.departed = [] ∧ plField pl 37 1 % 16 = 0 ∧ bit (plField pl 36 1 % 16) s.dev = true) ∧
    (∃ (s : State) (l : LinkId), s.up = true ∧ s.on ISL_STATUS_CLK_PRESENT (34 + l / 2) = true ∧ [0, 1, 2].all (fun vc => ngetD (s.link l).rx vc [] == []) = true ∧ s.linkState l = 4 ∧ s.ctrlDue l = false ∧ (s.link l).resend = none ∧ (s.on SRF_STATUS_IN_SERVICE l = false ∨ 256 ≤ (s.link l).replay.length)) ∧
    (∃ (s : State) (l : LinkId), s.up = true ∧ s.on ISL_STATUS_CLK_PRESENT (34 + l / 2) = true ∧ [0, 1, 2].all (fun vc => ngetD (s.link l).rx vc [] == []) = true ∧ s.linkState l = 4 ∧ s.ctrlDue l = true) ∧
    (∃ (s : State) (l : LinkId), s.up = true ∧ s.on ISL_STATUS_CLK_PRESENT (34 + l / 2) = true ∧ [0, 1, 2].all (fun vc => ngetD (s.link l).rx vc [] == []) = true ∧ s.linkState l = 3) :=
  ⟨⟨(((((upW.p SRF_STATUS_STATE 4 2).p SRF_STATUS_LOCKED 1 2).p SRF_STATUS_RX_EXP 3 2)).p STK_STATUS_STATE 2), 2, (frameBytes { type := 2, ack := 4095 } (List.replicate 36 0 ++ [3, 0])), 0, { type := 2, ack := 4095 }, (((List.replicate 36 0 ++ [3, 0]) ++ List.replicate 228 0).take 228), frame_read_5, by decide +kernel⟩,
   ⟨(((upW.p SRF_STATUS_STATE 4 2).p ISL_STATUS_CLK_PRESENT 1 35).p SRF_CFG_CTRL_PERIOD 64 2), 2, by decide +kernel⟩,
   ⟨(((upW.p SRF_STATUS_STATE 4 2).p ISL_STATUS_CLK_PRESENT 1 35).linkMod 2 (fun x => { x with sinceCtrl := 254 })), 2, by decide +kernel⟩,
   ⟨((upW.p SRF_STATUS_STATE 3 2).p ISL_STATUS_CLK_PRESENT 1 35), 2, by decide +kernel⟩⟩

theorem witness_LinkFramesAndRemoteTimeouts_4 :
    (∃ (s : State) (l : LinkId) (f : TxFrame), s.up = true ∧ s.on ISL_STATUS_CLK_PRESENT (34 + l / 2) = true ∧ [0, 1, 2].all (fun vc => ngetD (s.link l).rx vc [] == []) = true ∧ s.linkState l = 4 ∧ s.ctrlDue l = false ∧ (s.link l).resend = some 0 ∧ (s.link l).replay = [f]) ∧
    (∃ (s : State) (l : LinkId) (u : StackUnit), s.up = true ∧ s.on ISL_STATUS_CLK_PRESENT (34 + l / 2) = true ∧ [0, 1, 2].all (fun vc => ngetD (s.link l).rx vc [] == []) = true ∧ s.linkState l = 4 ∧ s.ctrlDue l = false ∧ (s.link l).resend = none ∧ s.on SRF_STATUS_IN_SERVICE l = true ∧ (s.link l).replay.length < 256 ∧ 0 < (s.link l).avail 2 ∧ (s.link l).avail 2 ≤ 512 ∧ (s.link l).part = [] ∧ (s.link l).rsp = [u] ∧ u.bytes.length ≤ 228) ∧
    (∃ (s : State) (id : Nat) (x : Txn) (l : Nat) (d : Nat), s.up = true ∧ nsorted s.sw.txns = true ∧ s.txn id = some x ∧ x.place = .remote l d ∧ x.dev = s.dev ∧ x.parent = none ∧ x.kind = .rdCur) ∧
    (∃ (s : State) (id : Nat), s.up = true ∧ s.txn id = none) :=
  ⟨⟨((((upW.p SRF_STATUS_STATE 4 2).p ISL_STATUS_CLK_PRESENT 1 35).p SRF_CFG_CTRL_PERIOD 64 2).linkMod 2 (fun x => { x with replay := [{ seq := 3, vc := 0, payload := [], reqs := [9] }], resend := some 0 })), 2, { seq := 3, vc := 0, payload := [], reqs := [9] }, by decide +kernel⟩,
   ⟨(((((upW.p SRF_STATUS_STATE 4 2).p ISL_STATUS_CLK_PRESENT 1 35).p SRF_CFG_CTRL_PERIOD 64 2).p SRF_STATUS_IN_SERVICE 1 2).linkMod 2 (fun x => { x with rsp := [{ kind := 2, code := 0, sdev := 0, ddev := 1, tag := 9 }] })), 2, { kind := 2, code := 0, sdev := 0, ddev := 1, tag := 9 }, by decide +kernel⟩,
   ⟨(upW.txnSet 9 { src := 0x80, tag := 1, dev := 0, inst := 0, cls := 0, kind := .rdCur, addr := 64, len := 64, data := [], mask := 0, place := .remote 2 1 }), 9, { src := 0x80, tag := 1, dev := 0, inst := 0, cls := 0, kind := .rdCur, addr := 64, len := 64, data := [], mask := 0, place := .remote 2 1 }, 2, 1, by decide +kernel⟩,
   ⟨upW, 9, by decide +kernel⟩⟩

theorem witness_StackJoinsSplitsAndTime_1 :
    (∃ (s : State) (ahead : Int) (d : Nat) (l : Nat), s.up = true ∧ s.stk.join = some (d, l, 3)) ∧
    (∃ (s : State) (ahead : Int) (d : Nat) (l : Nat), s.up = true ∧ s.stk.join = some (d, l, 3) ∧ 1000000 < ahead) ∧
    (∃ (s : State) (ahead : Int) (d : Nat) (l : Nat), s.up = true ∧ s.stk.join = some (d, l, 3) ∧ s.g STK_STATUS_STATE ≠ 1 ∧ ahead ≤ 0) ∧
    (∃ (s : State) (ahead : Int) (d : Nat) (l : Nat), s.up = true ∧ s.stk.join = some (d, l, 3) ∧ s.g STK_STATUS_STATE = 1 ∧ ahead ≤ 1000000) ∧
    (∃ (s : State) (ahead : Int), s.up = true ∧ s.stk.join = none ∧ s.g STK_STATUS_STATE = 2 ∧ 0 < ahead ∧ ahead ≤ 1000000) ∧
    (∃ (s : State) (d : Nat) (l : Nat), s.up = true ∧ s.stk.join = some (d, l, 3)) ∧
    (∃ (s : State), s.up = true ∧ s.stk.join = none) :=
  ⟨⟨({ (upW.p STK_STATUS_STATE 3) with stk := { upW.stk with join := some (1, 2, 3) } }), 0, 1, 2, by decide +kernel⟩,
   ⟨({ (upW.p STK_STATUS_STATE 1) with stk := { upW.stk with join := some (1, 2, 3) } }), 1000001, 1, 2, by decide +kernel⟩,
   ⟨({ (upW.p STK_STATUS_STATE 3) with stk := { upW.stk with join := some (1, 2, 3) } }), 0, 1, 2, by decide +kernel⟩,
   ⟨({ (upW.p STK_STATUS_STATE 1) with stk := { upW.stk with join := some (1, 2, 3) } }), -5, 1, 2, by decide +kernel⟩,
   ⟨upW.p STK_STATUS_STATE 2, 5, by decide +kernel⟩,
   ⟨({ (upW.p STK_STATUS_STATE 3) with stk := { upW.stk with join := some (1, 2, 3) } }), 1, 2, by decide +kernel⟩,
   ⟨upW, by decide +kernel⟩⟩

theorem witness_StackJoinsSplitsAndTime_2 :
    (∃ (s : State) (x : JoinImage) (d : Nat) (l : Nat), s.up = true ∧ s.stk.join = some (d, l, 5) ∧ s.g STK_STATUS_STATE = 1) ∧
    (∃ (s : State) (x : JoinImage) (d : Nat) (l : Nat), s.up = true ∧ s.stk.join = some (d, l, 5) ∧ s.g STK_STATUS_STATE ≠ 1) ∧
    (∃ (s : State) (x : JoinImage) (d : Nat) (l : Nat), s.up = true ∧ s.stk.join = some (d, l, 6) ∧ s.g STK_STATUS_STATE = 1 ∧ s.stk.copy = some x ∧ s.sw.txns.any (fun e => e.2.dev == s.dev && e.2.kind.composed) = false) ∧
    (∃ (s : State) (d : Nat) (l : Nat), s.up = true ∧ s.stk.join = some (d, l, 6) ∧ s.g STK_STATUS_STATE ≠ 1) ∧
    (∃ (s : State) (d : DevId), s.up = true ∧ s.cutOff d = true ∧ d.val ≠ s.dev ∧ s.g STK_STATUS_STATE = 3 ∧ bit (s.g STK_STATUS_MEMBERS) d = true ∧ s.hm.departed.contains d.val = false) ∧
    (∃ (s : State) (d : DevId), s.up = true ∧ s.cutOff d = true ∧ d.val ≠ s.dev ∧ s.g STK_STATUS_STATE = 2 ∧ s.g STK_STATUS_MASTER_DEV = d) ∧
    (∃ (s : State) (d : DevId), s.up = true ∧ (s.cutOff d = false ∨ d.val = s.dev)) :=
  ⟨⟨({ (upW.p STK_STATUS_STATE 1) with stk := { upW.stk with join := some (1, 2, 5) } }), { skip := false, regs := [], segs := [], pages := [], epoch := 7, generation := 5, stackId := 0x1234 }, 1, 2, by decide +kernel⟩,
   ⟨({ (upW.p STK_STATUS_STATE 3) with stk := { upW.stk with join := some (1, 2, 5) } }), { skip := false, regs := [], segs := [], pages := [], epoch := 7, generation := 5, stackId := 0x1234 }, 1, 2, by decide +kernel⟩,
   ⟨(let X := ({ (upW.p STK_STATUS_STATE 1) with stk := { upW.stk with join := some (1, 2, 6) } }); { X with stk := { X.stk with copy := some { skip := false, regs := [], segs := [], pages := [], epoch := 7, generation := 5, stackId := 0x1234 } } }), { skip := false, regs := [], segs := [], pages := [], epoch := 7, generation := 5, stackId := 0x1234 }, 1, 2, by decide +kernel⟩,
   ⟨({ (upW.p STK_STATUS_STATE 3) with stk := { upW.stk with join := some (1, 2, 6) } }), 1, 2, by decide +kernel⟩,
   ⟨((upW.p STK_STATUS_STATE 3).p STK_STATUS_MEMBERS 3), 1, by decide +kernel⟩,
   ⟨((upW.p STK_STATUS_STATE 2).p STK_STATUS_MASTER_DEV 1), 1, by decide +kernel⟩,
   ⟨upW, 0, by decide +kernel⟩⟩

theorem witness_StackJoinsSplitsAndTime_3 :
    (∃ (s : State) (l : Nat) (num : Int), s.up = true ∧ (List.range 4).find? (fun l => s.linkState l == 4 && s.g SRF_PEER_DEV l == s.g STK_STATUS_MASTER_DEV) = some l ∧ s.g STK_STATUS_STATE = 2 ∧ (s.link l).sampled = true ∧ num = ((((s.link l).ctrlRx : Int) - (s.link l).ctrlTx) - (((s.link l).echoRx : Int) - (s.link l).echoTx)) * 1000 - sext (s.g SRF_CFG_ASYM_PS l) 16 ∧ -20000 ≤ num ∧ num ≤ 20000) ∧
    (∃ (s : State) (l : Nat) (num : Int), s.up = true ∧ (List.range 4).find? (fun l => s.linkState l == 4 && s.g SRF_PEER_DEV l == s.g STK_STATUS_MASTER_DEV) = some l ∧ s.g STK_STATUS_STATE = 2 ∧ (s.link l).sampled = true ∧ num = ((((s.link l).ctrlRx : Int) - (s.link l).ctrlTx) - (((s.link l).echoRx : Int) - (s.link l).echoTx)) * 1000 - sext (s.g SRF_CFG_ASYM_PS l) 16 ∧ num / 2000 < -1000) ∧
    (∃ (s : State), s.up = true ∧ (List.range 4).find? (fun l => s.linkState l == 4 && s.g SRF_PEER_DEV l == s.g STK_STATUS_MASTER_DEV) = none) ∧
    (∃ (s : State), s.up = true ∧ s.stk.drawFailed = true ∧ s.drbgOk = true) ∧
    (∃ (s : State), s.up = true ∧ s.stk.drawFailed = false) :=
  ⟨⟨(({ (((upW.p SRF_STATUS_STATE 4 2).p SRF_PEER_DEV 1 2).p STK_STATUS_STATE 2).p STK_STATUS_MASTER_DEV 1 with stk := { upW.stk with inTol := 3 } }).linkMod 2 (fun x => { x with sampled := true, ctrlRx := 104, ctrlTx := 100, echoRx := 100, echoTx := 100 })), 2, 4000, by decide +kernel⟩,
   ⟨(({ (((upW.p SRF_STATUS_STATE 4 2).p SRF_PEER_DEV 1 2).p STK_STATUS_STATE 2).p STK_STATUS_MASTER_DEV 1 with stk := { upW.stk with inTol := 3 } }).linkMod 2 (fun x => { x with sampled := true, ctrlRx := 100, ctrlTx := 5100, echoRx := 100, echoTx := 100 })), 2, -5000000, by decide +kernel⟩,
   ⟨upW, by decide +kernel⟩,
   ⟨({ (upW.p HJ_DRBG_STATUS_INSTANTIATED 1) with stk := { upW.stk with drawFailed := true } }), by decide +kernel⟩,
   ⟨upW, by decide +kernel⟩⟩

theorem witness_DamperCommands_1 :
    (∃ (s : State) (m : Master) (c : SlotId), s.accepts m .DMP_CTRL c = true ∧ s.powered c = false ∧ s.g DMP_STATUS_STATE c = 0 ∧ s.on PU_STATUS_PILOT = false ∧ s.g DMP_LIM_FAST_MA c ≠ 0 ∧ s.curveValid (s.g DMP_CFG_CURVE_SEL c) = true ∧ s.on DMP_STATUS_SHORT_NOW c = false ∧ s.g DMP_CFG_BUDGET_W c + s.g DMP_GSTATUS_BUDGET_USED_W ≤ s.g DMP_GCFG_TOTAL_W) ∧
    (∃ (s : State) (m : Master) (c : SlotId), s.accepts m .DMP_CTRL c = true ∧ s.powered c = false ∧ s.g DMP_STATUS_STATE c = 0 ∧ s.on PU_STATUS_PILOT = false ∧ s.g DMP_LIM_FAST_MA c ≠ 0 ∧ s.curveValid (s.g DMP_CFG_CURVE_SEL c) = true ∧ s.on DMP_STATUS_SHORT_NOW c = false ∧ s.g DMP_GCFG_TOTAL_W < s.g DMP_CFG_BUDGET_W c + s.g DMP_GSTATUS_BUDGET_USED_W) ∧
    (∃ (s : State) (m : Master) (c : SlotId), s.accepts m .DMP_CTRL c = true ∧ s.powered c = true) ∧
    (∃ (s : State) (m : Master) (c : SlotId), s.accepts m .DMP_CTRL c = true ∧ s.powered c = false ∧ (s.g DMP_STATUS_STATE c ≠ 0 ∨ s.g DMP_LIM_FAST_MA c = 0 ∨ s.curveValid (s.g DMP_CFG_CURVE_SEL c) = false)) ∧
    (∃ (s : State) (m : Master) (c : SlotId) (f : Bool), s.accepts m .DMP_CTRL c = true ∧ s.powered c = true ∧ s.on DMP_CFG_PORT_VALID c = false) ∧
    (∃ (s : State) (m : Master) (c : SlotId) (f : Bool), s.accepts m .DMP_CTRL c = true ∧ s.powered c = true ∧ s.on DMP_CFG_PORT_VALID c = true ∧ f = false ∧ s.up = true ∧ (s.portState (s.g DMP_CFG_PORT c) = 0 ∨ s.portState (s.g DMP_CFG_PORT c) = 1)) ∧
    (∃ (s : State) (m : Master) (c : SlotId) (f : Bool), s.accepts m .DMP_CTRL c = true ∧ s.powered c = false) :=
  ⟨⟨((((upW.p DMP_CURVE_EN 1 0 3).p DMP_CURVE_I_MA 5000 0 3).p DMP_CURVE_T_US 2 0 3).p DMP_LIM_FAST_MA 20000 31), .device, 31, by decide +kernel⟩,
   ⟨((((upW.p DMP_CURVE_EN 1 0 3).p DMP_CURVE_I_MA 5000 0 3).p DMP_CURVE_T_US 2 0 3).p DMP_LIM_FAST_MA 20000 31).p DMP_GSTATUS_BUDGET_USED_W 2400, .device, 31, by decide +kernel⟩,
   ⟨upW.p DMP_STATUS_STATE 2 31, .device, 31, by decide +kernel⟩,
   ⟨upW.p DMP_STATUS_STATE 3 31, .device, 31, by decide +kernel⟩,
   ⟨(upW.p DMP_STATUS_STATE 2 31).p DMP_CFG_PORT_VALID 0 31, .device, 31, false, by decide +kernel⟩,
   ⟨((upW.p DMP_STATUS_STATE 2 31).p DMP_CFG_PORT_VALID 1 31 |>.p DMP_CFG_PORT 9 31 |>.p PC_QUIESCE_STATUS_STATE 0 9), .device, 31, false, by decide +kernel⟩,
   ⟨upW, .device, 31, true, by decide +kernel⟩⟩

theorem witness_DamperCommands_2 :
    (∃ (s : State) (m : Master) (c : SlotId), s.accepts m .DMP_CTRL c = true ∧ (s.g DMP_STATUS_STATE c = 3 ∨ (s.g DMP_STATUS_STATE c = 4 ∧ s.on DMP_STATUS_SHORT_NOW c = false))) ∧
    (∃ (s : State) (m : Master) (c : SlotId), s.accepts m .DMP_CTRL c = true ∧ s.g DMP_STATUS_STATE c = 4 ∧ s.on DMP_STATUS_SHORT_NOW c = true) ∧
    (∃ (s : State) (m : Master) (c : SlotId), s.accepts m .DMP_CTRL c = true ∧ s.g DMP_STATUS_STATE c ≠ 3 ∧ s.g DMP_STATUS_STATE c ≠ 4) ∧
    (∃ (s : State) (m : Master) (c : SlotId) (n : Fin 8), s.accepts m .DMP_CFG c = true ∧ (s.powered c = false ∨ s.curveValid n = true)) ∧
    (∃ (s : State) (m : Master) (c : SlotId) (n : Fin 8), s.accepts m .DMP_CFG c = true ∧ s.powered c = true ∧ s.curveValid n = false) ∧
    (∃ (s : State) (c : SlotId) (ma : Fin 40001) (p : Nat × Nat × Nat), s.powered c = true ∧ s.curve (s.g DMP_CFG_CURVE_SEL c) = [p] ∧ p.2.1 ≤ ma.val ∧ p.2.2 ≤ ngetD (s.dm c).counts p.1 0 + 1) ∧
    (∃ (s : State) (c : SlotId) (ma : Fin 40001) (p : Nat × Nat × Nat), s.powered c = true ∧ s.curve (s.g DMP_CFG_CURVE_SEL c) = [p] ∧ p.2.1 ≤ ma.val ∧ ngetD (s.dm c).counts p.1 0 + 1 < p.2.2) :=
  ⟨⟨upW.p DMP_STATUS_STATE 4 31, .device, 31, by decide +kernel⟩,
   ⟨(upW.p DMP_STATUS_STATE 4 31).p DMP_STATUS_SHORT_NOW 1 31, .device, 31, by decide +kernel⟩,
   ⟨upW.p DMP_STATUS_STATE 2 31, .device, 31, by decide +kernel⟩,
   ⟨((((upW.p DMP_CURVE_EN 1 0 3).p DMP_CURVE_I_MA 5000 0 3).p DMP_CURVE_T_US 2 0 3).p DMP_LIM_FAST_MA 20000 31).p DMP_STATUS_STATE 2 31, .device, 31, 0, by decide +kernel⟩,
   ⟨((((upW.p DMP_CURVE_EN 1 0 3).p DMP_CURVE_I_MA 5000 0 3).p DMP_CURVE_T_US 2 0 3).p DMP_LIM_FAST_MA 20000 31).p DMP_STATUS_STATE 2 31, .device, 31, 7, by decide +kernel⟩,
   ⟨((((((upW.p DMP_CURVE_EN 1 0 3).p DMP_CURVE_I_MA 5000 0 3).p DMP_CURVE_T_US 2 0 3).p DMP_LIM_FAST_MA 20000 31).p DMP_STATUS_STATE 2 31).dmMod 31 (fun x => { x with counts := [(3, 1)] })), 31, 5000, (3, 5000, 2), by decide +kernel⟩,
   ⟨(((((upW.p DMP_CURVE_EN 1 0 3).p DMP_CURVE_I_MA 5000 0 3).p DMP_CURVE_T_US 2 0 3).p DMP_LIM_FAST_MA 20000 31).p DMP_STATUS_STATE 2 31), 31, 5000, (3, 5000, 2), by decide +kernel⟩⟩

theorem witness_DamperCommands_3 :
    (∃ (s : State) (c : SlotId) (ma : Fin 40001) (p : Nat × Nat × Nat), s.powered c = true ∧ s.curve (s.g DMP_CFG_CURVE_SEL c) = [p] ∧ ma.val < p.2.1 ∧ 0 < p.2.2) ∧
    (∃ (s : State) (c : SlotId) (ma : Fin 40001), s.powered c = false) ∧
    (∃ (s : State) (c : SlotId), s.powered c = true) ∧
    (∃ (s : State) (c : SlotId), s.powered c = false) ∧
    (∃ (s : State) (c : SlotId), s.g DMP_STATUS_STATE c = 1 ∧ (s.dm c).overdrive = false) ∧
    (∃ (s : State) (c : SlotId), s.g DMP_STATUS_STATE c = 1 ∧ (s.dm c).overdrive = true) ∧
    (∃ (s : State) (c : SlotId), s.g DMP_STATUS_STATE c ≠ 1) :=
  ⟨⟨((((((upW.p DMP_CURVE_EN 1 0 3).p DMP_CURVE_I_MA 5000 0 3).p DMP_CURVE_T_US 2 0 3).p DMP_LIM_FAST_MA 20000 31).p DMP_STATUS_STATE 2 31).dmMod 31 (fun x => { x with counts := [(3, 1)] })), 31, 4999, (3, 5000, 2), by decide +kernel⟩,
   ⟨upW, 31, 40000, by decide +kernel⟩,
   ⟨upW.p DMP_STATUS_STATE 1 31, 31, by decide +kernel⟩,
   ⟨upW, 31, by decide +kernel⟩,
   ⟨((upW.p DMP_STATUS_STATE 1 31).dmMod 31 (fun x => { x with overdrive := false })), 31, by decide +kernel⟩,
   ⟨((upW.p DMP_STATUS_STATE 1 31).dmMod 31 (fun x => { x with overdrive := true })), 31, by decide +kernel⟩,
   ⟨upW, 31, by decide +kernel⟩⟩

theorem witness_DamperCommands_4 :
    (∃ (s : State) (c : SlotId) (vin : Fin 16001) (vout : Fin 16001) (ov : BitVec 16), s.g DMP_STATUS_STATE c = 1 ∧ s.g DMP_LIM_PG_MV c ≤ vout.val ∧ 4000 < sext ov.toNat 16 ∧ s.on DMP_STATUS_SHORT_NOW c = false) ∧
    (∃ (s : State) (c : SlotId) (vin : Fin 16001) (vout : Fin 16001) (ov : BitVec 16), s.g DMP_STATUS_STATE c = 0 ∧ s.g DMP_LIM_SHORT_MV c ≤ vout.val ∧ s.on DMP_STATUS_SHORT_NOW c = false ∧ s.g DMP_LIM_SHORT_DLY_MS c * 125 ≤ (s.dm c).low + 1) ∧
    (∃ (s : State) (c : SlotId) (vin : Fin 16001) (vout : Fin 16001) (ov : BitVec 16), vin.val < s.g DMP_GCFG_WARN_VIN_MV ∧ (s.dm c).belowVin = false) ∧
    (∃ (s : State) (c : SlotId), s.warns c = false) ∧
    (∃ (s : State) (c : SlotId), s.warns c = true ∧ s.on DMP_STATUS_PWRWARN c = true) ∧
    (∃ (s : State), (s.on DMP_PFAIL_CFG_PF_EN = false ∨ (s.on DMP_GSTATUS_PF_ACTIVE = true ∧ s.on DMP_GSTATUS_PF_DONE = false))) ∧
    (∃ (s : State), s.up = true ∧ s.on DMP_PFAIL_CFG_PF_EN = true ∧ s.on DMP_GSTATUS_PF_ACTIVE = false ∧ s.on DMP_PFAIL_CFG_PF_MSC_OFF = true ∧ s.on DMP_PFAIL_CFG_PF_FLUSH = false) :=
  ⟨⟨upW.p DMP_STATUS_STATE 1 31, 31, 12000, 12000, 5000, by decide +kernel⟩,
   ⟨((upW.p DMP_LIM_SHORT_DLY_MS 1 31).dmMod 31 (fun x => { x with low := 124 })), 31, 12000, 12000, 0, by decide +kernel⟩,
   ⟨upW, 31, 7000, 0, 0, by decide +kernel⟩,
   ⟨((upW.p DMP_STATUS_PWRWARN 1 31).dmMod 31 (fun x => { x with hold := true })), 31, by decide +kernel⟩,
   ⟨((upW.p DMP_STATUS_PWRWARN 1 31).p DMP_CTRL_FORCE_WARN 1 31), 31, by decide +kernel⟩,
   ⟨upW.p DMP_PFAIL_CFG_PF_EN 0, by decide +kernel⟩,
   ⟨(((upW.p DMP_PFAIL_CFG_PF_EN 1).p DMP_PFAIL_CFG_PF_MSC_OFF 1).p DMP_PFAIL_CFG_PF_FLUSH 0), by decide +kernel⟩⟩

theorem witness_DamperCommands_5 :
    (∃ (s : State), s.up = true ∧ s.on DMP_PFAIL_CFG_PF_EN = true ∧ s.on DMP_GSTATUS_PF_ACTIVE = false ∧ s.on DMP_PFAIL_CFG_PF_MSC_OFF = true ∧ s.on DMP_PFAIL_CFG_PF_FLUSH = true ∧ s.on MSC_CTRL_FLUSH_BUSY = false ∧ s.hm.msc.all (fun e => !e.2.dirty) = true) ∧
    (∃ (s : State), s.on DMP_GSTATUS_PF_ACTIVE = true ∧ s.on DMP_GSTATUS_PF_DONE = false ∧ s.cond (gerrSrc DMP_GERR_PF_LATE) 0 = false) ∧
    (∃ (s : State), (s.on DMP_GSTATUS_PF_ACTIVE = false ∨ s.on DMP_GSTATUS_PF_DONE = true)) :=
  ⟨⟨(((upW.p DMP_PFAIL_CFG_PF_EN 1).p DMP_PFAIL_CFG_PF_MSC_OFF 1).p DMP_PFAIL_CFG_PF_FLUSH 1), by decide +kernel⟩,
   ⟨((upW.p DMP_GSTATUS_PF_ACTIVE 1).p DMP_GSTATUS_PF_DONE 0), by decide +kernel⟩,
   ⟨upW, by decide +kernel⟩⟩

theorem witness_HjelvonStarts_1 :
    (∃ (s : State) (m : Master) (k : ChanId) (tag : Fin 65536) (o : HjOp), s.accepts m .HJ_CMD k = true ∧ s.on HJ_RESP_BUSY k = false ∧ (s.hj.done.contains k.val = false ∨ s.g HJ_RESP_TAG k ≠ tag) ∧ s.on HJ_STATUS_ERROR_STATE = false ∧ s.hj.ops = [] ∧ o = { master := m, opcode := 1, tag := tag, args := (List.range 4).map (fun a => s.g HJ_ARG_ARG k a) } ∧ s.hjMay m 1 = true ∧ s.hjStartStatus o = ST_OK ∧ s.drbgOk = true ∧ (pubLen (bits (o.arg 0) 12 4) = 0 ∨ (s.rangeCheck m (o.arg 1) (pubLen (bits (o.arg 0) 12 4)) 1).2 = true)) ∧
    (∃ (s : State) (m : Master) (k : ChanId) (tag : Fin 65536), s.accepts m .HJ_CMD k = true ∧ s.on HJ_RESP_BUSY k = true) ∧
    (∃ (s : State) (m : Master) (k : ChanId) (tag : Fin 65536), s.accepts m .HJ_CMD k = true ∧ s.on HJ_RESP_BUSY k = false ∧ s.hj.done.contains k.val = true ∧ s.g HJ_RESP_TAG k = tag) ∧
    (∃ (s : State) (m : Master) (k : ChanId) (tag : Fin 65536) (o : HjOp), s.accepts m .HJ_CMD k = true ∧ s.on HJ_RESP_BUSY k = false ∧ (s.hj.done.contains k.val = false ∨ s.g HJ_RESP_TAG k ≠ tag) ∧ s.on HJ_STATUS_ERROR_STATE = false ∧ s.hj.ops = [] ∧ o = { master := m, opcode := 2, tag := tag, args := (List.range 4).map (fun a => s.g HJ_ARG_ARG k a) } ∧ s.hjMay m 2 = true ∧ s.hjStartStatus o = ST_OK ∧ (match o.uses with | some u => s.slotUse m u.1 u.2.1 u.2.2 | none => ST_OK) = ST_OK ∧ o.inputs.all (fun x => (s.rangeCheck m x.1 x.2 0).2) = true) ∧
    (∃ (s : State) (m : Master) (k : ChanId) (tag : Fin 65536) (o : HjOp), s.accepts m .HJ_CMD k = true ∧ s.on HJ_RESP_BUSY k = false ∧ (s.hj.done.contains k.val = false ∨ s.g HJ_RESP_TAG k ≠ tag) ∧ s.on HJ_STATUS_ERROR_STATE = false ∧ s.hj.ops = [] ∧ o = { master := m, opcode := 3, tag := tag, args := (List.range 4).map (fun a => s.g HJ_ARG_ARG k a) } ∧ s.hjMay m 3 = true ∧ s.hjStartStatus o = ST_OK) ∧
    (∃ (s : State) (m : Master) (k : ChanId) (tag : Fin 65536) (o : HjOp), s.accepts m .HJ_CMD k = true ∧ s.on HJ_RESP_BUSY k = false ∧ (s.hj.done.contains k.val = false ∨ s.g HJ_RESP_TAG k ≠ tag) ∧ s.on HJ_STATUS_ERROR_STATE = false ∧ s.hj.ops = [] ∧ o = { master := m, opcode := 4, tag := tag, args := (List.range 4).map (fun a => s.g HJ_ARG_ARG k a) } ∧ s.hjMay m 4 = true ∧ s.hjStartStatus o = ST_OK) ∧
    (∃ (s : State) (m : Master) (k : ChanId) (tag : Fin 65536) (o : HjOp), s.accepts m .HJ_CMD k = true ∧ s.on HJ_RESP_BUSY k = false ∧ (s.hj.done.contains k.val = false ∨ s.g HJ_RESP_TAG k ≠ tag) ∧ s.on HJ_STATUS_ERROR_STATE = false ∧ s.hj.ops = [] ∧ o = { master := m, opcode := 5, tag := tag, args := (List.range 4).map (fun a => s.g HJ_ARG_ARG k a) } ∧ s.hjMay m 5 = true ∧ s.hjStartStatus o = ST_OK ∧ o.inputs.all (fun x => (s.rangeCheck m x.1 x.2 0).2) = true) :=
  ⟨⟨((upW.p HJ_DRBG_STATUS_INSTANTIATED 1).p HJ_ARG_ARG (17 + 2 ^ 12 + 3 * 2 ^ 16) 5 0), .device, 5, 77, { master := .device, opcode := 1, tag := 77, args := (List.range 4).map (fun a => (((upW.p HJ_DRBG_STATUS_INSTANTIATED 1).p HJ_ARG_ARG (17 + 2 ^ 12 + 3 * 2 ^ 16) 5 0)).g HJ_ARG_ARG 5 a) }, by decide +kernel⟩,
   ⟨upW.p HJ_RESP_BUSY 1 5, .device, 5, 77, by decide +kernel⟩,
   ⟨({ (upW.p HJ_RESP_TAG 77 5) with hj := { upW.hj with done := [5] } }), .device, 5, 77, by decide +kernel⟩,
   ⟨(((((upW.p HJ_DRBG_STATUS_INSTANTIATED 1).p HJ_ARG_ARG (18 + 2 ^ 12) 5 0).p HJ_ARG_ARG 17 5 1).p HJ_ARG_ARG 0x20000038000040 5 2).keySet 17 { state := 1, type := 5, usage := 8, owner := 1, gen := 5, key := 77 }), .device, 5, 77, { master := .device, opcode := 2, tag := 77, args := (List.range 4).map (fun a => ((((((upW.p HJ_DRBG_STATUS_INSTANTIATED 1).p HJ_ARG_ARG (18 + 2 ^ 12) 5 0).p HJ_ARG_ARG 17 5 1).p HJ_ARG_ARG 0x20000038000040 5 2).keySet 17 { state := 1, type := 5, usage := 8, owner := 1, gen := 5, key := 77 })).g HJ_ARG_ARG 5 a) }, by decide +kernel⟩,
   ⟨(((upW.p HJ_DRBG_STATUS_INSTANTIATED 1).p HJ_ARG_ARG 17 5 0).keySet 17 { state := 1, type := 1, usage := 3, owner := 1, gen := 5, key := 77 }), .device, 5, 77, { master := .device, opcode := 3, tag := 77, args := (List.range 4).map (fun a => ((((upW.p HJ_DRBG_STATUS_INSTANTIATED 1).p HJ_ARG_ARG 17 5 0).keySet 17 { state := 1, type := 1, usage := 3, owner := 1, gen := 5, key := 77 })).g HJ_ARG_ARG 5 a) }, by decide +kernel⟩,
   ⟨((upW.p HJ_DRBG_STATUS_INSTANTIATED 1).p HJ_ARG_ARG 17 5 0), .device, 5, 77, { master := .device, opcode := 4, tag := 77, args := (List.range 4).map (fun a => (((upW.p HJ_DRBG_STATUS_INSTANTIATED 1).p HJ_ARG_ARG 17 5 0)).g HJ_ARG_ARG 5 a) }, by decide +kernel⟩,
   ⟨((((upW.p HJ_DRBG_STATUS_INSTANTIATED 1).p HJ_ARG_ARG 1 5 0).p HJ_ARG_ARG 0x20000038000040 5 1).p HJ_ARG_ARG 64 5 2), .device, 5, 77, { master := .device, opcode := 5, tag := 77, args := (List.range 4).map (fun a => (((((upW.p HJ_DRBG_STATUS_INSTANTIATED 1).p HJ_ARG_ARG 1 5 0).p HJ_ARG_ARG 0x20000038000040 5 1).p HJ_ARG_ARG 64 5 2)).g HJ_ARG_ARG 5 a) }, by decide +kernel⟩⟩

theorem witness_HjelvonStarts_2 :
    (∃ (s : State) (m : Master) (k : ChanId) (tag : Fin 65536) (o : HjOp), s.accepts m .HJ_CMD k = true ∧ s.on HJ_RESP_BUSY k = false ∧ (s.hj.done.contains k.val = false ∨ s.g HJ_RESP_TAG k ≠ tag) ∧ s.on HJ_STATUS_ERROR_STATE = false ∧ s.hj.ops = [] ∧ o = { master := m, opcode := 16, tag := tag, args := (List.range 4).map (fun a => s.g HJ_ARG_ARG k a) } ∧ s.hjMay m 16 = true ∧ s.hjStartStatus o = ST_OK ∧ (match o.uses with | some u => s.slotUse m u.1 u.2.1 u.2.2 | none => ST_OK) = ST_OK ∧ s.drbgOk = true ∧ o.inputs.all (fun x => (s.rangeCheck m x.1 x.2 0).2) = true) ∧
    (∃ (s : State) (m : Master) (k : ChanId) (tag : Fin 65536) (o : HjOp), s.accepts m .HJ_CMD k = true ∧ s.on HJ_RESP_BUSY k = false ∧ (s.hj.done.contains k.val = false ∨ s.g HJ_RESP_TAG k ≠ tag) ∧ s.on HJ_STATUS_ERROR_STATE = false ∧ s.hj.ops = [] ∧ o = { master := m, opcode := 17, tag := tag, args := (List.range 4).map (fun a => s.g HJ_ARG_ARG k a) } ∧ s.hjMay m 17 = true ∧ s.hjStartStatus o = ST_OK ∧ (match o.uses with | some u => s.slotUse m u.1 u.2.1 u.2.2 | none => ST_OK) = ST_OK ∧ o.inputs.all (fun x => (s.rangeCheck m x.1 x.2 0).2) = true) ∧
    (∃ (s : State) (m : Master) (k : ChanId) (tag : Fin 65536) (o : HjOp), s.accepts m .HJ_CMD k = true ∧ s.on HJ_RESP_BUSY k = false ∧ (s.hj.done.contains k.val = false ∨ s.g HJ_RESP_TAG k ≠ tag) ∧ s.on HJ_STATUS_ERROR_STATE = false ∧ s.hj.ops = [] ∧ o = { master := m, opcode := 18, tag := tag, args := (List.range 4).map (fun a => s.g HJ_ARG_ARG k a) } ∧ s.hjMay m 18 = true ∧ s.hjStartStatus o = ST_OK ∧ (match o.uses with | some u => s.slotUse m u.1 u.2.1 u.2.2 | none => ST_OK) = ST_OK ∧ s.drbgOk = true ∧ o.inputs.all (fun x => (s.rangeCheck m x.1 x.2 0).2) = true) ∧
    (∃ (s : State) (m : Master) (k : ChanId) (tag : Fin 65536) (o : HjOp), s.accepts m .HJ_CMD k = true ∧ s.on HJ_RESP_BUSY k = false ∧ (s.hj.done.contains k.val = false ∨ s.g HJ_RESP_TAG k ≠ tag) ∧ s.on HJ_STATUS_ERROR_STATE = false ∧ s.hj.ops = [] ∧ o = { master := m, opcode := 19, tag := tag, args := (List.range 4).map (fun a => s.g HJ_ARG_ARG k a) } ∧ s.hjMay m 19 = true ∧ s.hjStartStatus o = ST_OK ∧ o.inputs.all (fun x => (s.rangeCheck m x.1 x.2 0).2) = true) ∧
    (∃ (s : State) (m : Master) (k : ChanId) (tag : Fin 65536) (o : HjOp), s.accepts m .HJ_CMD k = true ∧ s.on HJ_RESP_BUSY k = false ∧ (s.hj.done.contains k.val = false ∨ s.g HJ_RESP_TAG k ≠ tag) ∧ s.on HJ_STATUS_ERROR_STATE = false ∧ s.hj.ops = [] ∧ o = { master := m, opcode := 20, tag := tag, args := (List.range 4).map (fun a => s.g HJ_ARG_ARG k a) } ∧ s.hjMay m 20 = true ∧ s.hjStartStatus o = ST_OK ∧ o.inputs.all (fun x => (s.rangeCheck m x.1 x.2 0).2) = true) ∧
    (∃ (s : State) (m : Master) (k : ChanId) (tag : Fin 65536) (o : HjOp), s.accepts m .HJ_CMD k = true ∧ s.on HJ_RESP_BUSY k = false ∧ (s.hj.done.contains k.val = false ∨ s.g HJ_RESP_TAG k ≠ tag) ∧ s.on HJ_STATUS_ERROR_STATE = false ∧ s.hj.ops = [] ∧ o = { master := m, opcode := 21, tag := tag, args := (List.range 4).map (fun a => s.g HJ_ARG_ARG k a) } ∧ s.hjMay m 21 = true ∧ s.hjStartStatus o = ST_OK ∧ (match o.uses with | some u => s.slotUse m u.1 u.2.1 u.2.2 | none => ST_OK) = ST_OK ∧ o.inputs.all (fun x => (s.rangeCheck m x.1 x.2 0).2) = true) ∧
    (∃ (s : State) (m : Master) (k : ChanId) (tag : Fin 65536) (o : HjOp), s.accepts m .HJ_CMD k = true ∧ s.on HJ_RESP_BUSY k = false ∧ (s.hj.done.contains k.val = false ∨ s.g HJ_RESP_TAG k ≠ tag) ∧ s.on HJ_STATUS_ERROR_STATE = false ∧ s.hj.ops = [] ∧ o = { master := m, opcode := 32, tag := tag, args := (List.range 4).map (fun a => s.g HJ_ARG_ARG k a) } ∧ s.hjMay m 32 = true ∧ s.hjStartStatus o = ST_OK ∧ s.drbgOk = true) :=
  ⟨⟨((((((upW.p HJ_DRBG_STATUS_INSTANTIATED 1).p HJ_ARG_ARG 17 5 0).p HJ_ARG_ARG 0x20000038000040 5 1).p HJ_ARG_ARG 0x20000038000040 5 2).p HJ_ARG_ARG 64 5 3).keySet 17 { state := 1, type := 1, usage := 3, owner := 1, gen := 5, key := 77 }), .device, 5, 77, { master := .device, opcode := 16, tag := 77, args := (List.range 4).map (fun a => (((((((upW.p HJ_DRBG_STATUS_INSTANTIATED 1).p HJ_ARG_ARG 17 5 0).p HJ_ARG_ARG 0x20000038000040 5 1).p HJ_ARG_ARG 0x20000038000040 5 2).p HJ_ARG_ARG 64 5 3).keySet 17 { state := 1, type := 1, usage := 3, owner := 1, gen := 5, key := 77 })).g HJ_ARG_ARG 5 a) }, by decide +kernel⟩,
   ⟨((((((upW.p HJ_DRBG_STATUS_INSTANTIATED 1).p HJ_ARG_ARG 17 5 0).p HJ_ARG_ARG 0x20000038000040 5 1).p HJ_ARG_ARG 0x20000038000040 5 2).p HJ_ARG_ARG 64 5 3).keySet 17 { state := 1, type := 1, usage := 3, owner := 1, gen := 5, key := 77 }), .device, 5, 77, { master := .device, opcode := 17, tag := 77, args := (List.range 4).map (fun a => (((((((upW.p HJ_DRBG_STATUS_INSTANTIATED 1).p HJ_ARG_ARG 17 5 0).p HJ_ARG_ARG 0x20000038000040 5 1).p HJ_ARG_ARG 0x20000038000040 5 2).p HJ_ARG_ARG 64 5 3).keySet 17 { state := 1, type := 1, usage := 3, owner := 1, gen := 5, key := 77 })).g HJ_ARG_ARG 5 a) }, by decide +kernel⟩,
   ⟨(((((upW.p HJ_DRBG_STATUS_INSTANTIATED 1).p HJ_ARG_ARG 17 5 0).p HJ_ARG_ARG 0x20000038000040 5 1).p HJ_ARG_ARG 0x20000038000040 5 2).keySet 17 { state := 1, type := 3, usage := 4, owner := 1, gen := 5, key := 77 }), .device, 5, 77, { master := .device, opcode := 18, tag := 77, args := (List.range 4).map (fun a => ((((((upW.p HJ_DRBG_STATUS_INSTANTIATED 1).p HJ_ARG_ARG 17 5 0).p HJ_ARG_ARG 0x20000038000040 5 1).p HJ_ARG_ARG 0x20000038000040 5 2).keySet 17 { state := 1, type := 3, usage := 4, owner := 1, gen := 5, key := 77 })).g HJ_ARG_ARG 5 a) }, by decide +kernel⟩,
   ⟨(((((upW.p HJ_DRBG_STATUS_INSTANTIATED 1).p HJ_ARG_ARG 0 5 0).p HJ_ARG_ARG 0x20000038000040 5 1).p HJ_ARG_ARG 0x20000038000040 5 2).p HJ_ARG_ARG 0x20000038000040 5 3), .device, 5, 77, { master := .device, opcode := 19, tag := 77, args := (List.range 4).map (fun a => ((((((upW.p HJ_DRBG_STATUS_INSTANTIATED 1).p HJ_ARG_ARG 0 5 0).p HJ_ARG_ARG 0x20000038000040 5 1).p HJ_ARG_ARG 0x20000038000040 5 2).p HJ_ARG_ARG 0x20000038000040 5 3)).g HJ_ARG_ARG 5 a) }, by decide +kernel⟩,
   ⟨(((((upW.p HJ_DRBG_STATUS_INSTANTIATED 1).p HJ_ARG_ARG 0 5 0).p HJ_ARG_ARG 0x20000038000040 5 1).p HJ_ARG_ARG 64 5 2).p HJ_ARG_ARG 0x20000038000040 5 3), .device, 5, 77, { master := .device, opcode := 20, tag := 77, args := (List.range 4).map (fun a => ((((((upW.p HJ_DRBG_STATUS_INSTANTIATED 1).p HJ_ARG_ARG 0 5 0).p HJ_ARG_ARG 0x20000038000040 5 1).p HJ_ARG_ARG 64 5 2).p HJ_ARG_ARG 0x20000038000040 5 3)).g HJ_ARG_ARG 5 a) }, by decide +kernel⟩,
   ⟨((((((upW.p HJ_DRBG_STATUS_INSTANTIATED 1).p HJ_ARG_ARG 17 5 0).p HJ_ARG_ARG 0x20000038000040 5 1).p HJ_ARG_ARG 64 5 2).p HJ_ARG_ARG 0x20000038000040 5 3).keySet 17 { state := 1, type := 2, usage := 4, owner := 1, gen := 5, key := 77 }), .device, 5, 77, { master := .device, opcode := 21, tag := 77, args := (List.range 4).map (fun a => (((((((upW.p HJ_DRBG_STATUS_INSTANTIATED 1).p HJ_ARG_ARG 17 5 0).p HJ_ARG_ARG 0x20000038000040 5 1).p HJ_ARG_ARG 64 5 2).p HJ_ARG_ARG 0x20000038000040 5 3).keySet 17 { state := 1, type := 2, usage := 4, owner := 1, gen := 5, key := 77 })).g HJ_ARG_ARG 5 a) }, by decide +kernel⟩,
   ⟨((((upW.p HJ_DRBG_STATUS_INSTANTIATED 1).p HJ_ARG_ARG 0 5 0).p HJ_ARG_ARG 0x20000038000040 5 1).p HJ_ARG_ARG 40 5 2), .device, 5, 77, { master := .device, opcode := 32, tag := 77, args := (List.range 4).map (fun a => (((((upW.p HJ_DRBG_STATUS_INSTANTIATED 1).p HJ_ARG_ARG 0 5 0).p HJ_ARG_ARG 0x20000038000040 5 1).p HJ_ARG_ARG 40 5 2)).g HJ_ARG_ARG 5 a) }, by decide +kernel⟩⟩

theorem witness_HjelvonStarts_3 :
    (∃ (s : State) (m : Master) (k : ChanId) (tag : Fin 65536) (o : HjOp), s.accepts m .HJ_CMD k = true ∧ s.on HJ_RESP_BUSY k = false ∧ (s.hj.done.contains k.val = false ∨ s.g HJ_RESP_TAG k ≠ tag) ∧ s.on HJ_STATUS_ERROR_STATE = false ∧ s.hj.ops = [] ∧ o = { master := m, opcode := 48, tag := tag, args := (List.range 4).map (fun a => s.g HJ_ARG_ARG k a) } ∧ s.hjMay m 48 = true ∧ s.hjStartStatus o = ST_OK) ∧
    (∃ (s : State) (m : Master) (k : ChanId) (tag : Fin 65536) (o : HjOp), s.accepts m .HJ_CMD k = true ∧ s.on HJ_RESP_BUSY k = false ∧ (s.hj.done.contains k.val = false ∨ s.g HJ_RESP_TAG k ≠ tag) ∧ s.on HJ_STATUS_ERROR_STATE = false ∧ s.hj.ops = [] ∧ o = { master := m, opcode := 49, tag := tag, args := (List.range 4).map (fun a => s.g HJ_ARG_ARG k a) } ∧ s.hjMay m 49 = true ∧ s.hjStartStatus o = ST_OK) ∧
    (∃ (s : State) (m : Master) (k : ChanId) (tag : Fin 65536) (o : HjOp), s.accepts m .HJ_CMD k = true ∧ s.on HJ_RESP_BUSY k = false ∧ (s.hj.done.contains k.val = false ∨ s.g HJ_RESP_TAG k ≠ tag) ∧ s.on HJ_STATUS_ERROR_STATE = false ∧ s.hj.ops = [] ∧ o = { master := m, opcode := 64, tag := tag, args := (List.range 4).map (fun a => s.g HJ_ARG_ARG k a) } ∧ s.hjMay m 64 = true ∧ s.hjStartStatus o = ST_OK) ∧
    (∃ (s : State) (m : Master) (k : ChanId) (tag : Fin 65536) (o : HjOp), s.accepts m .HJ_CMD k = true ∧ s.on HJ_RESP_BUSY k = false ∧ (s.hj.done.contains k.val = false ∨ s.g HJ_RESP_TAG k ≠ tag) ∧ s.on HJ_STATUS_ERROR_STATE = false ∧ s.hj.ops = [] ∧ o = { master := m, opcode := 65, tag := tag, args := (List.range 4).map (fun a => s.g HJ_ARG_ARG k a) } ∧ s.hjMay m 65 = true ∧ s.hjStartStatus o = ST_OK) ∧
    (∃ (s : State) (m : Master) (k : ChanId) (tag : Fin 65536), s.accepts m .HJ_CMD k = true ∧ s.on HJ_RESP_BUSY k = false ∧ (s.hj.done.contains k.val = false ∨ s.g HJ_RESP_TAG k ≠ tag) ∧ s.on HJ_STATUS_ERROR_STATE = true) ∧
    (∃ (s : State) (m : Master) (k : ChanId) (tag : Fin 65536), s.accepts m .HJ_CMD k = true ∧ s.on HJ_RESP_BUSY k = false ∧ (s.hj.done.contains k.val = false ∨ s.g HJ_RESP_TAG k ≠ tag) ∧ s.on HJ_STATUS_ERROR_STATE = false ∧ s.hj.ops = [] ∧ s.hjMay m 5 = false) ∧
    (∃ (s : State) (m : Master) (k : ChanId) (tag : Fin 65536), s.accepts m .HJ_CMD k = true ∧ s.on HJ_RESP_BUSY k = false ∧ (s.hj.done.contains k.val = false ∨ s.g HJ_RESP_TAG k ≠ tag) ∧ s.on HJ_STATUS_ERROR_STATE = false ∧ s.hj.ops = [] ∧ s.hjMay m 49 = false) :=
  ⟨⟨(((upW.p HJ_DRBG_STATUS_INSTANTIATED 1).p HJ_ARG_ARG 9 5 0).p HJ_ARG_ARG 5 5 1), .device, 5, 77, { master := .device, opcode := 48, tag := 77, args := (List.range 4).map (fun a => ((((upW.p HJ_DRBG_STATUS_INSTANTIATED 1).p HJ_ARG_ARG 9 5 0).p HJ_ARG_ARG 5 5 1)).g HJ_ARG_ARG 5 a) }, by decide +kernel⟩,
   ⟨(((upW.p HJ_DRBG_STATUS_INSTANTIATED 1).p HJ_ARG_ARG 2 5 0).p HJ_ARG_ARG 5 5 1), .device, 5, 77, { master := .device, opcode := 49, tag := 77, args := (List.range 4).map (fun a => ((((upW.p HJ_DRBG_STATUS_INSTANTIATED 1).p HJ_ARG_ARG 2 5 0).p HJ_ARG_ARG 5 5 1)).g HJ_ARG_ARG 5 a) }, by decide +kernel⟩,
   ⟨(upW.p HJ_DRBG_STATUS_INSTANTIATED 1), .device, 5, 77, { master := .device, opcode := 64, tag := 77, args := (List.range 4).map (fun a => ((upW.p HJ_DRBG_STATUS_INSTANTIATED 1)).g HJ_ARG_ARG 5 a) }, by decide +kernel⟩,
   ⟨((upW.p HJ_DRBG_STATUS_INSTANTIATED 1).keySet 17 { state := 1, type := 1, usage := 3, owner := 1, gen := 5, key := 77 }), .device, 5, 77, { master := .device, opcode := 65, tag := 77, args := (List.range 4).map (fun a => (((upW.p HJ_DRBG_STATUS_INSTANTIATED 1).keySet 17 { state := 1, type := 1, usage := 3, owner := 1, gen := 5, key := 77 })).g HJ_ARG_ARG 5 a) }, by decide +kernel⟩,
   ⟨upW.p HJ_STATUS_ERROR_STATE 1, .device, 5, 77, by decide +kernel⟩,
   ⟨upW, .bridge, 28, 77, by decide +kernel⟩,
   ⟨upW, .bridge, 28, 77, by decide +kernel⟩⟩

theorem witness_HjelvonStarts_4 :
    (∃ (s : State) (m : Master) (k : ChanId) (tag : Fin 65536), s.accepts m .HJ_CMD k = true ∧ s.on HJ_RESP_BUSY k = false ∧ (s.hj.done.contains k.val = false ∨ s.g HJ_RESP_TAG k ≠ tag) ∧ s.on HJ_STATUS_ERROR_STATE = false ∧ s.hj.ops = [] ∧ s.hjMay m 16 = false) :=
  ⟨upW, .bridge, 28, 77, by decide +kernel⟩

theorem witness_HjelvonResults_1 :
    (∃ (s : State) (k : ChanId) (pass : Bool) (o : HjOp), s.hjOp k = some o ∧ s.hj.ops = [(k.val, o)] ∧ o.running = true ∧ o.out = none ∧ o.opcode = 1 ∧ o.reads = [] ∧ (s.slot (o.arg 0 % 2 ^ 8)).state ≠ 2 ∧ s.drbgOk = true ∧ pubLen (bits (o.arg 0) 12 4) = 0) ∧
    (∃ (s : State) (k : ChanId) (pass : Bool) (o : HjOp), s.hjOp k = some o ∧ s.hj.ops = [(k.val, o)] ∧ o.running = true ∧ o.out = none ∧ o.opcode = 1 ∧ o.reads = [] ∧ (s.slot (o.arg 0 % 2 ^ 8)).state ≠ 2 ∧ s.drbgOk = false) ∧
    (∃ (s : State) (k : ChanId) (pass : Bool) (o : HjOp) (p : Part), s.hjOp k = some o ∧ s.hj.ops = [(k.val, o)] ∧ o.running = true ∧ o.out = none ∧ o.opcode = 2 ∧ o.reads = [{ parts := [p] }] ∧ p.fin = true ∧ p.txn = none ∧ p.status = ST_OK ∧ (s.slot (o.arg 0 % 2 ^ 8)).state ≠ 2) ∧
    (∃ (s : State) (k : ChanId) (pass : Bool) (o : HjOp), s.hjOp k = some o ∧ s.hj.ops = [(k.val, o)] ∧ o.running = true ∧ o.out = none ∧ o.opcode = 3 ∧ o.reads = [] ∧ s.users (o.arg 0) = []) ∧
    (∃ (s : State) (k : ChanId) (pass : Bool) (o : HjOp), s.hjOp k = some o ∧ o.running = true ∧ o.out = none ∧ o.opcode = 3 ∧ o.reads = [] ∧ s.users (o.arg 0) ≠ [] ∧ nsorted s.hj.ops = true) ∧
    (∃ (s : State) (k : ChanId) (pass : Bool) (o : HjOp), s.hjOp k = some o ∧ s.hj.ops = [(k.val, o)] ∧ o.running = true ∧ o.out = none ∧ o.opcode = 4 ∧ o.reads = []) ∧
    (∃ (s : State) (k : ChanId) (pass : Bool) (o : HjOp), s.hjOp k = some o ∧ s.hj.ops = [(k.val, o)] ∧ o.running = true ∧ o.out = none ∧ o.opcode = 5 ∧ o.reads = [] ∧ o.arg 2 = 0) :=
  ⟨⟨(let X := (((upW.p HJ_DRBG_STATUS_INSTANTIATED 1).p ISL_STATUS_CLK_PRESENT 1 32).p ISL_STATUS_CLK_PRESENT 1 33); { X with hj := { X.hj with ops := [(5, { master := .device, opcode := 1, tag := 9, args := [17 + 2 ^ 12 + 3 * 2 ^ 16, 0, 0, 0], running := true, slot := none, key := 0, reads := [] })] } }), 5, true, { master := .device, opcode := 1, tag := 9, args := [17 + 2 ^ 12 + 3 * 2 ^ 16, 0, 0, 0], running := true, slot := none, key := 0, reads := [] }, by decide +kernel⟩,
   ⟨(let X := (upW.p HJ_DRBG_STATUS_INSTANTIATED 0); { X with hj := { X.hj with ops := [(5, { master := .device, opcode := 1, tag := 9, args := [17 + 2 ^ 12 + 3 * 2 ^ 16, 0, 0, 0], running := true, slot := none, key := 0, reads := [] })] } }), 5, true, { master := .device, opcode := 1, tag := 9, args := [17 + 2 ^ 12 + 3 * 2 ^ 16, 0, 0, 0], running := true, slot := none, key := 0, reads := [] }, by decide +kernel⟩,
   ⟨(let X := (((upW.p HJ_DRBG_STATUS_INSTANTIATED 1).p ISL_STATUS_CLK_PRESENT 1 32).p ISL_STATUS_CLK_PRESENT 1 33); { X with hj := { X.hj with ops := [(5, { master := .device, opcode := 2, tag := 9, args := [17 + 2 ^ 12, 0, 0, 0], running := true, slot := none, key := 0, reads := [{ parts := [{ sp := some spHbm, addr := 64, len := 48, data := List.replicate 60 3, fin := true }] }] })] } }), 5, true, { master := .device, opcode := 2, tag := 9, args := [17 + 2 ^ 12, 0, 0, 0], running := true, slot := none, key := 0, reads := [{ parts := [{ sp := some spHbm, addr := 64, len := 48, data := List.replicate 60 3, fin := true }] }] }, { sp := some spHbm, addr := 64, len := 48, data := List.replicate 60 3, fin := true }, by decide +kernel⟩,
   ⟨(let X := (upW.keySet 17 { state := 2, gen := 5, key := 9 }); { X with hj := { X.hj with ops := [(5, { master := .device, opcode := 3, tag := 9, args := [17, 0, 0, 0], running := true, slot := none, key := 0, reads := [] })] } }), 5, true, { master := .device, opcode := 3, tag := 9, args := [17, 0, 0, 0], running := true, slot := none, key := 0, reads := [] }, by decide +kernel⟩,
   ⟨({ upW with hj := { upW.hj with ops := [(5, { master := .device, opcode := 3, tag := 9, args := [17, 0, 0, 0], running := true, slot := none, key := 0, reads := [] }), (6, { master := .device, opcode := 20, tag := 9, args := [0, 0, 0, 0], running := true, slot := some 17, key := 0, reads := [] })] } }), 5, true, { master := .device, opcode := 3, tag := 9, args := [17, 0, 0, 0], running := true, slot := none, key := 0, reads := [] }, by decide +kernel⟩,
   ⟨(let X := (upW.keySet 17 { state := 1, gen := 5, key := 9 }); { X with hj := { X.hj with ops := [(5, { master := .device, opcode := 4, tag := 9, args := [17, 0, 0, 0], running := true, slot := none, key := 0, reads := [] })] } }), 5, true, { master := .device, opcode := 4, tag := 9, args := [17, 0, 0, 0], running := true, slot := none, key := 0, reads := [] }, by decide +kernel⟩,
   ⟨(let X := (((upW.p HJ_DRBG_STATUS_INSTANTIATED 1).p ISL_STATUS_CLK_PRESENT 1 32).p ISL_STATUS_CLK_PRESENT 1 33); { X with hj := { X.hj with ops := [(5, { master := .device, opcode := 5, tag := 9, args := [3, 0, 0, 0], running := true, slot := none, key := 0, reads := [] })] } }), 5, true, { master := .device, opcode := 5, tag := 9, args := [3, 0, 0, 0], running := true, slot := none, key := 0, reads := [] }, by decide +kernel⟩⟩

theorem witness_HjelvonResults_2 :
    (∃ (s : State) (k : ChanId) (pass : Bool) (o : HjOp) (p : Part), s.hjOp k = some o ∧ s.hj.ops = [(k.val, o)] ∧ o.running = true ∧ o.out = none ∧ o.opcode = 5 ∧ o.reads = [{ parts := [p] }] ∧ p.fin = true ∧ p.txn = none ∧ p.status = ST_OK ∧ o.arg 2 ≠ 0) ∧
    (∃ (s : State) (k : ChanId) (pass : Bool) (o : HjOp) (p : Part) (sp : Nat), s.hjOp k = some o ∧ s.hj.ops = [(k.val, o)] ∧ o.running = true ∧ o.out = none ∧ o.opcode = 16 ∧ o.reads = [{ parts := [p] }] ∧ p.fin = true ∧ p.txn = none ∧ p.status = ST_OK ∧ o.master = .device ∧ s.drbgOk = true ∧ p.data.length = o.gcmLen ∧ (sp = spHbm → s.hbmUp = true) ∧ awMem (o.arg 2) = some sp ∧ awOk 0 (o.arg 2) (o.gcmLen + 28) = true) ∧
    (∃ (s : State) (k : ChanId) (pass : Bool) (o : HjOp) (p : Part) (sp : Nat), s.hjOp k = some o ∧ s.hj.ops = [(k.val, o)] ∧ o.running = true ∧ o.out = none ∧ o.opcode = 17 ∧ o.reads = [{ parts := [p] }] ∧ p.fin = true ∧ p.txn = none ∧ p.status = ST_OK ∧ o.master = .device ∧ p.data.length = o.gcmLen + 28 ∧ o.aadLen ≤ o.gcmLen ∧ (sp = spHbm → s.hbmUp = true) ∧ awMem (o.arg 2) = some sp ∧ awOk 0 (o.arg 2) o.gcmLen = true) ∧
    (∃ (s : State) (k : ChanId) (pass : Bool) (o : HjOp) (p : Part) (sp : Nat), s.hjOp k = some o ∧ s.hj.ops = [(k.val, o)] ∧ o.running = true ∧ o.out = none ∧ o.opcode = 18 ∧ o.reads = [{ parts := [p] }] ∧ p.fin = true ∧ p.txn = none ∧ p.status = ST_OK ∧ o.master = .device ∧ s.drbgOk = true ∧ awMem (o.arg 2) = some sp ∧ (sp = spHbm → s.hbmUp = true)) ∧
    (∃ (s : State) (k : ChanId) (pass : Bool) (o : HjOp) (p : Part) (q : Part) (r : Part), s.hjOp k = some o ∧ s.hj.ops = [(k.val, o)] ∧ o.running = true ∧ o.out = none ∧ o.opcode = 19 ∧ o.reads = [{ parts := [p] }, { parts := [q] }, { parts := [r] }] ∧ p.fin = true ∧ p.txn = none ∧ p.status = ST_OK ∧ q.fin = true ∧ q.txn = none ∧ q.status = ST_OK ∧ r.fin = true ∧ r.txn = none ∧ r.status = ST_OK) ∧
    (∃ (s : State) (k : ChanId) (pass : Bool) (o : HjOp) (p : Part) (sp : Nat), s.hjOp k = some o ∧ s.hj.ops = [(k.val, o)] ∧ o.running = true ∧ o.out = none ∧ o.opcode = 20 ∧ o.reads = [{ parts := [p] }] ∧ p.fin = true ∧ p.txn = none ∧ p.status = ST_OK ∧ o.master = .device ∧ (sp = spHbm → s.hbmUp = true) ∧ awMem (o.arg 3) = some sp ∧ awOk 0 (o.arg 3) 48 = true) ∧
    (∃ (s : State) (k : ChanId) (pass : Bool) (o : HjOp) (p : Part) (sp : Nat), s.hjOp k = some o ∧ s.hj.ops = [(k.val, o)] ∧ o.running = true ∧ o.out = none ∧ o.opcode = 21 ∧ o.reads = [{ parts := [p] }] ∧ p.fin = true ∧ p.txn = none ∧ p.status = ST_OK ∧ o.master = .device ∧ (sp = spHbm → s.hbmUp = true) ∧ awMem (o.arg 3) = some sp ∧ awOk 0 (o.arg 3) 48 = true) :=
  ⟨⟨(let X := (((upW.p HJ_DRBG_STATUS_INSTANTIATED 1).p ISL_STATUS_CLK_PRESENT 1 32).p ISL_STATUS_CLK_PRESENT 1 33); { X with hj := { X.hj with ops := [(5, { master := .device, opcode := 5, tag := 9, args := [3, 0, 64, 0], running := true, slot := none, key := 0, reads := [{ parts := [{ sp := some spHbm, addr := 64, len := 48, data := List.replicate 64 3, fin := true }] }] })] } }), 5, true, { master := .device, opcode := 5, tag := 9, args := [3, 0, 64, 0], running := true, slot := none, key := 0, reads := [{ parts := [{ sp := some spHbm, addr := 64, len := 48, data := List.replicate 64 3, fin := true }] }] }, { sp := some spHbm, addr := 64, len := 48, data := List.replicate 64 3, fin := true }, by decide +kernel⟩,
   ⟨(let X := (((upW.p HJ_DRBG_STATUS_INSTANTIATED 1).p ISL_STATUS_CLK_PRESENT 1 32).p ISL_STATUS_CLK_PRESENT 1 33); { X with hj := { X.hj with ops := [(5, { master := .device, opcode := 16, tag := 9, args := [17, 0, 0x20000038000040, 48 + 16 * 2 ^ 32], running := true, slot := some 17, key := 77, reads := [{ parts := [{ sp := some spHbm, addr := 64, len := 48, data := List.replicate 48 3, fin := true }] }] })] } }), 5, true, { master := .device, opcode := 16, tag := 9, args := [17, 0, 0x20000038000040, 48 + 16 * 2 ^ 32], running := true, slot := some 17, key := 77, reads := [{ parts := [{ sp := some spHbm, addr := 64, len := 48, data := List.replicate 48 3, fin := true }] }] }, { sp := some spHbm, addr := 64, len := 48, data := List.replicate 48 3, fin := true }, spHbm, by decide +kernel⟩,
   ⟨(let X := (((upW.p HJ_DRBG_STATUS_INSTANTIATED 1).p ISL_STATUS_CLK_PRESENT 1 32).p ISL_STATUS_CLK_PRESENT 1 33); { X with hj := { X.hj with ops := [(5, { master := .device, opcode := 17, tag := 9, args := [17, 0, 0x20000038000040, 48 + 16 * 2 ^ 32], running := true, slot := some 17, key := 77, reads := [{ parts := [{ sp := some spHbm, addr := 64, len := 48, data := List.replicate 76 3, fin := true }] }] })] } }), 5, true, { master := .device, opcode := 17, tag := 9, args := [17, 0, 0x20000038000040, 48 + 16 * 2 ^ 32], running := true, slot := some 17, key := 77, reads := [{ parts := [{ sp := some spHbm, addr := 64, len := 48, data := List.replicate 76 3, fin := true }] }] }, { sp := some spHbm, addr := 64, len := 48, data := List.replicate 76 3, fin := true }, spHbm, by decide +kernel⟩,
   ⟨(let X := (((upW.p HJ_DRBG_STATUS_INSTANTIATED 1).p ISL_STATUS_CLK_PRESENT 1 32).p ISL_STATUS_CLK_PRESENT 1 33); { X with hj := { X.hj with ops := [(5, { master := .device, opcode := 18, tag := 9, args := [17, 0, 0x20000038000040, 0], running := true, slot := some 17, key := 77, reads := [{ parts := [{ sp := some spHbm, addr := 64, len := 48, data := List.replicate 48 3, fin := true }] }] })] } }), 5, true, { master := .device, opcode := 18, tag := 9, args := [17, 0, 0x20000038000040, 0], running := true, slot := some 17, key := 77, reads := [{ parts := [{ sp := some spHbm, addr := 64, len := 48, data := List.replicate 48 3, fin := true }] }] }, { sp := some spHbm, addr := 64, len := 48, data := List.replicate 48 3, fin := true }, spHbm, by decide +kernel⟩,
   ⟨(let X := (((upW.p HJ_DRBG_STATUS_INSTANTIATED 1).p ISL_STATUS_CLK_PRESENT 1 32).p ISL_STATUS_CLK_PRESENT 1 33); { X with hj := { X.hj with ops := [(5, { master := .device, opcode := 19, tag := 9, args := [0, 0, 0, 0], running := true, slot := none, key := 0, reads := [{ parts := [{ sp := some spHbm, addr := 64, len := 48, data := List.replicate 8 3, fin := true }] }, { parts := [{ sp := some spHbm, addr := 64, len := 48, data := List.replicate 8 3, fin := true }] }, { parts := [{ sp := some spHbm, addr := 64, len := 48, data := List.replicate 8 3, fin := true }] }] })] } }), 5, true, { master := .device, opcode := 19, tag := 9, args := [0, 0, 0, 0], running := true, slot := none, key := 0, reads := [{ parts := [{ sp := some spHbm, addr := 64, len := 48, data := List.replicate 8 3, fin := true }] }, { parts := [{ sp := some spHbm, addr := 64, len := 48, data := List.replicate 8 3, fin := true }] }, { parts := [{ sp := some spHbm, addr := 64, len := 48, data := List.replicate 8 3, fin := true }] }] }, { sp := some spHbm, addr := 64, len := 48, data := List.replicate 8 3, fin := true }, { sp := some spHbm, addr := 64, len := 48, data := List.replicate 8 3, fin := true }, { sp := some spHbm, addr := 64, len := 48, data := List.replicate 8 3, fin := true }, by decide +kernel⟩,
   ⟨(let X := (((upW.p HJ_DRBG_STATUS_INSTANTIATED 1).p ISL_STATUS_CLK_PRESENT 1 32).p ISL_STATUS_CLK_PRESENT 1 33); { X with hj := { X.hj with ops := [(5, { master := .device, opcode := 20, tag := 9, args := [0, 0, 64, 0x20000038000040], running := true, slot := none, key := 0, reads := [{ parts := [{ sp := some spHbm, addr := 64, len := 48, data := List.replicate 64 3, fin := true }] }] })] } }), 5, true, { master := .device, opcode := 20, tag := 9, args := [0, 0, 64, 0x20000038000040], running := true, slot := none, key := 0, reads := [{ parts := [{ sp := some spHbm, addr := 64, len := 48, data := List.replicate 64 3, fin := true }] }] }, { sp := some spHbm, addr := 64, len := 48, data := List.replicate 64 3, fin := true }, spHbm, by decide +kernel⟩,
   ⟨(let X := (((upW.p HJ_DRBG_STATUS_INSTANTIATED 1).p ISL_STATUS_CLK_PRESENT 1 32).p ISL_STATUS_CLK_PRESENT 1 33); { X with hj := { X.hj with ops := [(5, { master := .device, opcode := 21, tag := 9, args := [17, 0, 64, 0x20000038000040], running := true, slot := some 17, key := 77, reads := [{ parts := [{ sp := some spHbm, addr := 64, len := 48, data := List.replicate 64 3, fin := true }] }] })] } }), 5, true, { master := .device, opcode := 21, tag := 9, args := [17, 0, 64, 0x20000038000040], running := true, slot := some 17, key := 77, reads := [{ parts := [{ sp := some spHbm, addr := 64, len := 48, data := List.replicate 64 3, fin := true }] }] }, { sp := some spHbm, addr := 64, len := 48, data := List.replicate 64 3, fin := true }, spHbm, by decide +kernel⟩⟩

theorem witness_HjelvonResults_3 :
    (∃ (s : State) (k : ChanId) (pass : Bool) (o : HjOp) (sp : Nat), s.hjOp k = some o ∧ s.hj.ops = [(k.val, o)] ∧ o.running = true ∧ o.out = none ∧ o.opcode = 32 ∧ o.reads = [] ∧ o.master = .device ∧ s.drbgOk = true ∧ 0 < o.arg 2 ∧ o.arg 2 ≤ 16 ∧ (sp = spHbm → s.hbmUp = true) ∧ awMem (o.arg 1) = some sp ∧ awOk 0 (o.arg 1) (o.arg 2) = true) ∧
    (∃ (s : State) (k : ChanId) (pass : Bool) (o : HjOp), s.hjOp k = some o ∧ s.hj.ops = [(k.val, o)] ∧ o.running = true ∧ o.out = none ∧ o.opcode = 48 ∧ o.reads = [] ∧ o.arg 0 ≤ 63 ∧ o.arg 1 < 2 ^ 32 ∧ s.g TALLY_VALUE (o.arg 0) ≠ o.arg 1 ∧ s.g TALLY_REMAIN (o.arg 0) ≠ 0 ∧ s.tallyTakes (o.arg 0) (o.arg 1) = true) ∧
    (∃ (s : State) (k : ChanId) (pass : Bool) (o : HjOp), s.hjOp k = some o ∧ s.hj.ops = [(k.val, o)] ∧ o.running = true ∧ o.out = none ∧ o.opcode = 48 ∧ o.reads = [] ∧ o.arg 0 ≤ 63 ∧ o.arg 1 < 2 ^ 32 ∧ s.g TALLY_VALUE (o.arg 0) ≠ o.arg 1 ∧ (s.g TALLY_REMAIN (o.arg 0) = 0 ∨ s.tallyTakes (o.arg 0) (o.arg 1) = false)) ∧
    (∃ (s : State) (k : ChanId) (pass : Bool) (o : HjOp), s.hjOp k = some o ∧ s.hj.ops = [(k.val, o)] ∧ o.running = true ∧ o.out = none ∧ o.opcode = 48 ∧ o.reads = [] ∧ o.arg 0 ≤ 63 ∧ o.arg 1 < 2 ^ 32 ∧ s.g TALLY_VALUE (o.arg 0) = o.arg 1) ∧
    (∃ (s : State) (k : ChanId) (pass : Bool) (o : HjOp), s.hjOp k = some o ∧ s.hj.ops = [(k.val, o)] ∧ o.running = true ∧ o.out = none ∧ o.opcode = 49 ∧ o.reads = [] ∧ o.arg 0 ≤ 3 ∧ s.g RBC_COUNT (o.arg 0) < o.arg 1 ∧ o.arg 1 ≤ 128 ∧ (o.arg 0 ≠ 0 ∨ o.arg 1 ≤ s.hj.svn) ∧ (o.arg 0 ≠ 1 ∨ o.arg 1 ≤ s.p0Version / 2 ^ 24)) ∧
    (∃ (s : State) (k : ChanId) (pass : Bool) (o : HjOp), s.hjOp k = some o ∧ s.hj.ops = [(k.val, o)] ∧ o.running = true ∧ o.out = none ∧ o.opcode = 49 ∧ o.reads = [] ∧ o.arg 0 = 0 ∧ s.g RBC_COUNT 0 < o.arg 1 ∧ s.hj.svn < o.arg 1) ∧
    (∃ (s : State) (k : ChanId) (pass : Bool) (o : HjOp), s.hjOp k = some o ∧ s.hj.ops = [(k.val, o)] ∧ o.running = true ∧ o.out = none ∧ o.opcode = 49 ∧ o.reads = [] ∧ o.arg 0 ≤ 3 ∧ o.arg 1 ≤ s.g RBC_COUNT (o.arg 0)) :=
  ⟨⟨(let X := (((upW.p HJ_DRBG_STATUS_INSTANTIATED 1).p ISL_STATUS_CLK_PRESENT 1 32).p ISL_STATUS_CLK_PRESENT 1 33); { X with hj := { X.hj with ops := [(5, { master := .device, opcode := 32, tag := 9, args := [0, 0x20000038000040, 12, 0], running := true, slot := none, key := 0, reads := [] })] } }), 5, true, { master := .device, opcode := 32, tag := 9, args := [0, 0x20000038000040, 12, 0], running := true, slot := none, key := 0, reads := [] }, spHbm, by decide +kernel⟩,
   ⟨(let X := (((upW.p HJ_DRBG_STATUS_INSTANTIATED 1).p ISL_STATUS_CLK_PRESENT 1 32).p ISL_STATUS_CLK_PRESENT 1 33); { X with hj := { X.hj with ops := [(5, { master := .device, opcode := 48, tag := 9, args := [0, 3, 0, 0], running := true, slot := none, key := 0, reads := [] })] } }), 5, true, { master := .device, opcode := 48, tag := 9, args := [0, 3, 0, 0], running := true, slot := none, key := 0, reads := [] }, by decide +kernel⟩,
   ⟨(let X := (((upW.p HJ_DRBG_STATUS_INSTANTIATED 1).p ISL_STATUS_CLK_PRESENT 1 32).p ISL_STATUS_CLK_PRESENT 1 33); { X with hj := { X.hj with ops := [(5, { master := .device, opcode := 48, tag := 9, args := [0, 4, 0, 0], running := true, slot := none, key := 0, reads := [] })] } }), 5, true, { master := .device, opcode := 48, tag := 9, args := [0, 4, 0, 0], running := true, slot := none, key := 0, reads := [] }, by decide +kernel⟩,
   ⟨(let X := (((upW.p HJ_DRBG_STATUS_INSTANTIATED 1).p ISL_STATUS_CLK_PRESENT 1 32).p ISL_STATUS_CLK_PRESENT 1 33); { X with hj := { X.hj with ops := [(5, { master := .device, opcode := 48, tag := 9, args := [9, 0, 0, 0], running := true, slot := none, key := 0, reads := [] })] } }), 5, true, { master := .device, opcode := 48, tag := 9, args := [9, 0, 0, 0], running := true, slot := none, key := 0, reads := [] }, by decide +kernel⟩,
   ⟨(let X := (((upW.p HJ_DRBG_STATUS_INSTANTIATED 1).p ISL_STATUS_CLK_PRESENT 1 32).p ISL_STATUS_CLK_PRESENT 1 33); { X with hj := { X.hj with ops := [(5, { master := .device, opcode := 49, tag := 9, args := [2, 128, 0, 0], running := true, slot := none, key := 0, reads := [] })] } }), 5, true, { master := .device, opcode := 49, tag := 9, args := [2, 128, 0, 0], running := true, slot := none, key := 0, reads := [] }, by decide +kernel⟩,
   ⟨(let X := (((upW.p HJ_DRBG_STATUS_INSTANTIATED 1).p ISL_STATUS_CLK_PRESENT 1 32).p ISL_STATUS_CLK_PRESENT 1 33); { X with hj := { X.hj with ops := [(5, { master := .device, opcode := 49, tag := 9, args := [0, 128, 0, 0], running := true, slot := none, key := 0, reads := [] })] } }), 5, true, { master := .device, opcode := 49, tag := 9, args := [0, 128, 0, 0], running := true, slot := none, key := 0, reads := [] }, by decide +kernel⟩,
   ⟨(let X := (((upW.p HJ_DRBG_STATUS_INSTANTIATED 1).p ISL_STATUS_CLK_PRESENT 1 32).p ISL_STATUS_CLK_PRESENT 1 33); { X with hj := { X.hj with ops := [(5, { master := .device, opcode := 49, tag := 9, args := [2, 0, 0, 0], running := true, slot := none, key := 0, reads := [] })] } }), 5, true, { master := .device, opcode := 49, tag := 9, args := [2, 0, 0, 0], running := true, slot := none, key := 0, reads := [] }, by decide +kernel⟩⟩

theorem witness_HjelvonResults_4 :
    (∃ (s : State) (k : ChanId) (pass : Bool) (o : HjOp), s.hjOp k = some o ∧ s.hj.ops = [(k.val, o)] ∧ o.running = true ∧ o.out = none ∧ o.opcode = 64 ∧ o.reads = [] ∧ pass = true) ∧
    (∃ (s : State) (k : ChanId) (pass : Bool) (o : HjOp), s.hjOp k = some o ∧ s.hj.ops = [(k.val, o)] ∧ o.running = true ∧ o.out = none ∧ o.opcode = 64 ∧ o.reads = [] ∧ pass = false) ∧
    (∃ (s : State) (k : ChanId) (pass : Bool) (o : HjOp), s.hjOp k = some o ∧ s.hj.ops = [(k.val, o)] ∧ o.running = true ∧ o.out = none ∧ o.opcode = 65 ∧ o.reads = []) ∧
    (∃ (s : State) (k : ChanId) (pass : Bool), s.hj.ops = []) :=
  ⟨⟨(let X := upW; { X with hj := { X.hj with ops := [(5, { master := .device, opcode := 64, tag := 9, args := [0, 0, 0, 0], running := true, slot := none, key := 0, reads := [] })] } }), 5, true, { master := .device, opcode := 64, tag := 9, args := [0, 0, 0, 0], running := true, slot := none, key := 0, reads := [] }, by decide +kernel⟩,
   ⟨(let X := upW; { X with hj := { X.hj with ops := [(5, { master := .device, opcode := 64, tag := 9, args := [0, 0, 0, 0], running := true, slot := none, key := 0, reads := [] })] } }), 5, false, { master := .device, opcode := 64, tag := 9, args := [0, 0, 0, 0], running := true, slot := none, key := 0, reads := [] }, by decide +kernel⟩,
   ⟨(let X := upW; { X with hj := { X.hj with ops := [(5, { master := .device, opcode := 65, tag := 9, args := [0, 0, 0, 0], running := true, slot := none, key := 0, reads := [] })] } }), 5, true, { master := .device, opcode := 65, tag := 9, args := [0, 0, 0, 0], running := true, slot := none, key := 0, reads := [] }, by decide +kernel⟩,
   ⟨upW, 5, true, by decide +kernel⟩⟩

theorem witness_HjelvonExpiriesGatesAndMessages_1 :
    (∃ (s : State) (k : ChanId) (o : HjOp), s.hjOp k = some o ∧ s.hj.ops = [(k.val, o)] ∧ o.running = true ∧ o.opcode = 3 ∧ o.reads = [] ∧ s.users (o.arg 0) = []) ∧
    (∃ (s : State) (k : ChanId) (o : HjOp) (j : Nat) (u : HjOp), s.hj.ops = [(k.val, o), (j, u)] ∧ k.val < j ∧ o.running = true ∧ o.opcode = 3 ∧ o.reads = [] ∧ o.slot = none ∧ u.running = true ∧ u.slot = some (o.arg 0) ∧ u.out = none ∧ u.reads = []) ∧
    (∃ (s : State) (k : ChanId), s.hjOp k = none) ∧
    (∃ (s : State) (page : Nat) (bytes : List Byte) (leaf : Nat) (tries : Nat), s.hj.leaves[page]? = some leaf ∧ tries = (if s.hj.page = page then s.hj.pageTries else 0) ∧ tries < 2) ∧
    (∃ (s : State) (page : Nat) (bytes : List Byte) (leaf : Nat) (tries : Nat), s.hj.leaves[page]? = some leaf ∧ tries = (if s.hj.page = page then s.hj.pageTries else 0) ∧ tries = 2) ∧
    (∃ (s : State) (q : Option (Fin 32)) (page : Nat) (bytes : List Byte), s.hj.leaves[page]? = none) ∧
    (∃ (s : State), s.hj.ops = []) :=
  ⟨⟨(let X := (((upW.p HJ_DRBG_STATUS_INSTANTIATED 1).p ISL_STATUS_CLK_PRESENT 1 32).p ISL_STATUS_CLK_PRESENT 1 33); { X with hj := { X.hj with ops := [(5, { master := .device, opcode := 3, tag := 9, args := [17, 0, 0, 0], running := true, slot := none, key := 0, reads := [] })] } }), 5, { master := .device, opcode := 3, tag := 9, args := [17, 0, 0, 0], running := true, slot := none, key := 0, reads := [] }, by decide +kernel⟩,
   ⟨({ upW with hj := { upW.hj with ops := [(5, { master := .device, opcode := 3, tag := 9, args := [17, 0, 0, 0], running := true, slot := none, key := 0, reads := [] }), (6, { master := .device, opcode := 20, tag := 9, args := [0, 0, 0, 0], running := true, slot := some 17, key := 0, reads := [] })] } }), 5, { master := .device, opcode := 3, tag := 9, args := [17, 0, 0, 0], running := true, slot := none, key := 0, reads := [] }, 6, { master := .device, opcode := 20, tag := 9, args := [0, 0, 0, 0], running := true, slot := some 17, key := 0, reads := [] }, by decide +kernel⟩,
   ⟨upW, 5, by decide +kernel⟩,
   ⟨({ upW with hj := { upW.hj with leaves := [7], page := 0, pageTries := 1 } }), 0, [1], 7, 1, by decide +kernel⟩,
   ⟨({ upW with hj := { upW.hj with leaves := [7], page := 0, pageTries := 2 } }), 0, [1], 7, 2, by decide +kernel⟩,
   ⟨upW, none, 4, [], by decide +kernel⟩,
   ⟨upW, by decide +kernel⟩⟩

theorem witness_HjelvonExpiriesGatesAndMessages_2 :
    (∃ (s : State) (pass : Bool), s.cond (src 0x10 0) 0 = true ∧ s.g HJ_DRBG_STATUS_RECOVERY_TRIES < 3 ∧ s.on HJ_STATUS_ERROR_STATE = false) ∧
    (∃ (s : State) (pass : Bool), (s.cond (src 0x10 0) 0 = false ∨ 3 ≤ s.g HJ_DRBG_STATUS_RECOVERY_TRIES)) ∧
    (∃ (s : State), s.on HJ_DRBG_STATUS_HEALTHY = true ∧ s.on HJ_STATUS_ERROR_STATE = false) ∧
    (∃ (s : State), s.on HJ_DRBG_STATUS_HEALTHY = false) ∧
    (∃ (s : State) (m : Master) (g : Fin 50), gateable g = true ∧ s.accepts m .HJ_GATE g = true ∧ s.unitIdle g = true ∧ s.on HJ_GATE_HELD g = false) ∧
    (∃ (s : State) (m : Master) (g : Fin 50), gateable g = true ∧ s.accepts m .HJ_GATE g = true ∧ s.unitIdle g = true ∧ s.on HJ_GATE_HELD g = true) ∧
    (∃ (s : State) (m : Master) (g : Fin 50), gateable g = true ∧ s.accepts m .HJ_GATE g = true ∧ s.unitIdle g = false) :=
  ⟨⟨(upW.condBegin (src 0x10 0) 0), true, by decide +kernel⟩,
   ⟨upW, true, by decide +kernel⟩,
   ⟨upW.p HJ_DRBG_STATUS_HEALTHY 1, by decide +kernel⟩,
   ⟨upW.p HJ_DRBG_STATUS_HEALTHY 0, by decide +kernel⟩,
   ⟨((upW.p SRF_CFG_EN 0 2).p SRF_CFG_EN 0 3), .device, 49, by decide +kernel⟩,
   ⟨(((upW.p SRF_CFG_EN 0 2).p SRF_CFG_EN 0 3).p HJ_GATE_HELD 1 49), .device, 49, by decide +kernel⟩,
   ⟨(upW.p SRF_CFG_EN 1 2), .device, 49, by decide +kernel⟩⟩

theorem witness_HjelvonExpiriesGatesAndMessages_3 :
    (∃ (s : State) (m : Master) (g : Fin 50), gateable g = false) ∧
    (∃ (s : State) (m : Master) (g : Fin 50), gateable g = true ∧ s.accepts m .HJ_GATE g = true ∧ s.on HJ_GATE_PWR_OFF g = false) ∧
    (∃ (s : State) (m : Master) (g : Fin 50), gateable g = true ∧ s.accepts m .HJ_GATE g = true ∧ s.on HJ_GATE_CLK_OFF g = false) ∧
    (∃ (s : State) (g : Fin 50), s.unitHeld g = false ∧ s.on HJ_GATE_PENDING g = true ∧ s.unitIdle g = true) ∧
    (∃ (s : State) (g : Fin 50), s.unitHeld g = false ∧ s.on HJ_GATE_PENDING g = false) ∧
    (∃ (s : State) (g : Fin 50), s.unitHeld g = true) ∧
    (∃ (s : State) (g : Fin 50), 47 ≤ g.val ∧ s.on HJ_GATE_CLK_OFF g = false ∧ s.on HJ_GATE_PWR_OFF g = false) :=
  ⟨⟨upW, .device, 47, by decide +kernel⟩,
   ⟨((upW.p HJ_GATE_CLK_OFF 1 49).p HJ_GATE_CLK_GATED 1 49), .device, 49, by decide +kernel⟩,
   ⟨((upW.p HJ_GATE_PWR_OFF 1 49).p HJ_GATE_PWR_GATED 1 49), .device, 49, by decide +kernel⟩,
   ⟨((((upW.p SRF_CFG_EN 0 2).p SRF_CFG_EN 0 3).p HJ_GATE_HELD 1 49).p HJ_GATE_PENDING 1 49), 49, by decide +kernel⟩,
   ⟨(upW.p HJ_GATE_HELD 1 49), 49, by decide +kernel⟩,
   ⟨({ upW with stk := { upW.stk with join := some (1, 1, 3) } }), 48, by decide +kernel⟩,
   ⟨((upW.p HJ_GATE_CLK_GATED 1 49).p HJ_GATE_PWR_GATED 1 49), 49, by decide +kernel⟩⟩

theorem witness_HjelvonExpiriesGatesAndMessages_4 :
    (∃ (s : State) (g : Fin 50), (s.on HJ_GATE_CLK_OFF g = true ∨ s.on HJ_GATE_PWR_OFF g = true) ∧ s.on HJ_GATE_PWR_GATED g = false) ∧
    (∃ (s : State) (c : PortId) (n : Fin 256) (bs : List Byte), s.up = true ∧ s.linkUp c = true ∧ (s.g PC_LINK_STATUS_ROLE_BOUND c = 1 ∨ s.g PC_LINK_STATUS_ROLE_BOUND c = 3) ∧ s.on HJ_STATUS_ERROR_STATE = false ∧ s.measurement n = some bs) ∧
    (∃ (s : State) (c : PortId) (n : Fin 8), s.up = true ∧ s.linkUp c = true ∧ (s.g PC_LINK_STATUS_ROLE_BOUND c = 1 ∨ s.g PC_LINK_STATUS_ROLE_BOUND c = 3) ∧ s.on HJ_STATUS_ERROR_STATE = false ∧ (n.val = 0 ∨ (s.slot n).state = 1)) ∧
    (∃ (s : State) (c : PortId) (n : Fin 8) (nonce : List Byte), s.up = true ∧ s.linkUp c = true ∧ (s.g PC_LINK_STATUS_ROLE_BOUND c = 1 ∨ s.g PC_LINK_STATUS_ROLE_BOUND c = 3) ∧ s.on HJ_STATUS_ERROR_STATE = false ∧ (n.val = 0 ∨ (s.slot n).state = 1) ∧ s.drbgOk = true) ∧
    (∃ (s : State) (c : PortId) (n : Fin 256), s.up = true ∧ s.linkUp c = true ∧ (s.g PC_LINK_STATUS_ROLE_BOUND c = 1 ∨ s.g PC_LINK_STATUS_ROLE_BOUND c = 3) ∧ s.on HJ_STATUS_ERROR_STATE = false) ∧
    (∃ (s : State) (c : PortId) (h : Fin 65536), s.up = true ∧ s.linkUp c = true ∧ (s.g PC_LINK_STATUS_ROLE_BOUND c = 1 ∨ s.g PC_LINK_STATUS_ROLE_BOUND c = 3) ∧ s.on HJ_STATUS_ERROR_STATE = false) ∧
    (∃ (s : State) (c : PortId) (r : SpdmRequest), s.up = true ∧ (s.linkUp c = false ∨ (s.g PC_LINK_STATUS_ROLE_BOUND c ≠ 1 ∧ s.g PC_LINK_STATUS_ROLE_BOUND c ≠ 3))) :=
  ⟨⟨(upW.p HJ_GATE_CLK_OFF 1 49), 49, by decide +kernel⟩,
   ⟨((upW.p PC_LINK_STATUS_LINK_STATE 2 9).p PC_LINK_STATUS_ROLE_BOUND 1 9), 9, 5, (List.replicate 8 0), by decide +kernel⟩,
   ⟨((upW.p PC_LINK_STATUS_LINK_STATE 2 9).p PC_LINK_STATUS_ROLE_BOUND 1 9), 9, 0, by decide +kernel⟩,
   ⟨(((upW.p PC_LINK_STATUS_LINK_STATE 2 9).p PC_LINK_STATUS_ROLE_BOUND 1 9).p HJ_DRBG_STATUS_INSTANTIATED 1), 9, 0, [1, 2], by decide +kernel⟩,
   ⟨((upW.p PC_LINK_STATUS_LINK_STATE 2 9).p PC_LINK_STATUS_ROLE_BOUND 1 9), 9, 3, by decide +kernel⟩,
   ⟨((upW.p PC_LINK_STATUS_LINK_STATE 2 9).p PC_LINK_STATUS_ROLE_BOUND 1 9), 9, 0, by decide +kernel⟩,
   ⟨upW, 9, (.measurement 1), by decide +kernel⟩⟩

theorem witness_BridgeAndStageResponder_1 :
    (∃ (s : State) (bytes : List Byte) (r : SpiReq), spiReq ((bytes ++ List.replicate 32 0).take 32) = some r ∧ spiOps.contains r.op = true ∧ s.br.spi = none ∧ (s.br.spiDone = false ∨ s.g BR_STATUS_LAST_TAG ≠ r.tag)) ∧
    (∃ (s : State) (bytes : List Byte), spiReq ((bytes ++ List.replicate 32 0).take 32) = none) ∧
    (∃ (s : State) (edges : Nat) (bytes : List Byte), edges ≠ 256) ∧
    (∃ (s : State) (tag : Fin 256) (addr : Fin 67108864), s.br.spi = none ∧ (s.br.spiDone = false ∨ s.g BR_STATUS_LAST_TAG ≠ tag)) ∧
    (∃ (s : State) (tag : Fin 256) (addr : Fin 67108864), s.br.spi.isSome = true) ∧
    (∃ (s : State) (tag : Fin 256) (addr : Fin 67108864) (data : Fin 18446744073709551616), s.br.spi = none ∧ (s.br.spiDone = false ∨ s.g BR_STATUS_LAST_TAG ≠ tag)) ∧
    (∃ (s : State) (tag : Fin 256) (addr : Fin 67108864) (data : Fin 18446744073709551616), s.br.spi.isSome = true) :=
  ⟨⟨upW, ((leBytes 1 0x10 ++ leBytes 1 7 ++ leBytes 4 0x104000 ++ leBytes 8 0) ++ leBytes 2 (crc16 (leBytes 1 0x10 ++ leBytes 1 7 ++ leBytes 4 0x104000 ++ leBytes 8 0))), ⟨0x10, 7, 0x104000, 0⟩, by decide +kernel⟩,
   ⟨upW, [1], by decide +kernel⟩,
   ⟨upW, 255, [], by decide +kernel⟩,
   ⟨upW, 7, 0x104000, by decide +kernel⟩,
   ⟨({ upW with br := { upW.br with spi := some { op := 0x10, tag := 3, addr := 0, data := 0 } } }), 7, 0x104000, by decide +kernel⟩,
   ⟨upW, 7, 0x104000, 5, by decide +kernel⟩,
   ⟨({ upW with br := { upW.br with spi := some { op := 0x10, tag := 3, addr := 0, data := 0 } } }), 7, 0x104000, 5, by decide +kernel⟩⟩

theorem witness_BridgeAndStageResponder_2 :
    (∃ (s : State) (tag : Fin 256) (addr : Fin 67108864) (data : Fin 4294967296), s.br.spi = none ∧ (s.br.spiDone = false ∨ s.g BR_STATUS_LAST_TAG ≠ tag)) ∧
    (∃ (s : State) (tag : Fin 256) (addr : Fin 67108864) (data : Fin 4294967296), s.br.spi.isSome = true) ∧
    (∃ (s : State) (o : SpiOp), s.br.spi = some o ∧ o.result = none ∧ (o.op = 0x10 ∨ o.op = 0x11) ∧ s.cond (clkCond 36).1 (clkCond 36).2 = false) ∧
    (∃ (s : State) (o : SpiOp), s.br.spi = some o ∧ o.result = none ∧ (o.op = 0x20 ∨ o.op = 0x21) ∧ s.cond (clkCond 36).1 (clkCond 36).2 = false) ∧
    (∃ (s : State), s.cond (clkCond 36).1 (clkCond 36).2 = true) ∧
    (∃ (s : State) (o : SpiOp), s.br.spi = some o ∧ o.result.isSome = true) ∧
    (∃ (s : State) (o : SpiOp) (r : Nat × Nat), s.br.spi = some o ∧ o.result = some r) :=
  ⟨⟨upW, 7, 0x104000, 5, by decide +kernel⟩,
   ⟨({ upW with br := { upW.br with spi := some { op := 0x10, tag := 3, addr := 0, data := 0 } } }), 7, 0x104000, 5, by decide +kernel⟩,
   ⟨({ upW with br := { upW.br with spi := some { op := 0x10, tag := 3, addr := 0, data := 0 } } }), { op := 0x10, tag := 3, addr := 0, data := 0 }, by decide +kernel⟩,
   ⟨({ upW with br := { upW.br with spi := some { op := 0x20, tag := 3, addr := 0x104000, data := 5 } } }), { op := 0x20, tag := 3, addr := 0x104000, data := 5 }, by decide +kernel⟩,
   ⟨(({ upW with br := { upW.br with spi := some { op := 0x10, tag := 3, addr := 0, data := 0 } } }).condBegin (clkCond 36).1 (clkCond 36).2), by decide +kernel⟩,
   ⟨({ upW with br := { upW.br with spi := some { op := 0x10, tag := 3, addr := 0, data := 0, result := some (0, 5) } } }), { op := 0x10, tag := 3, addr := 0, data := 0, result := some (0, 5) }, by decide +kernel⟩,
   ⟨({ upW with br := { upW.br with spi := some { op := 0x10, tag := 3, addr := 0, data := 0, result := some (0, 5) } } }), { op := 0x10, tag := 3, addr := 0, data := 0, result := some (0, 5) }, (0, 5), by decide +kernel⟩⟩

theorem witness_BridgeAndStageResponder_3 :
    (∃ (s : State) (o : SpiOp), s.br.spi = some o ∧ o.result = none) ∧
    (∃ (s : State), s.br.spi = none) ∧
    (∃ (s : State) (b : Fin 8) (x : RxBuf), nget? b.val s.br.rx = some x ∧ s.br.responder = true ∧ x.whole = true ∧ mctpKind (s.rxBytes b x) = some 2) ∧
    (∃ (s : State) (b : Fin 8) (x : RxBuf), nget? b.val s.br.rx = some x ∧ s.br.responder = true ∧ x.whole = true ∧ mctpKind (s.rxBytes b x) = some 1 ∧ 5 ≤ (s.rxBytes b x).length ∧ (((s.rxBytes b x).getD 3 0).toNat % 4) < 2 ∧ 8 ≤ (((s.rxBytes b x).getD 4 0).toNat) ∧ (((s.rxBytes b x).getD 4 0).toNat) < 255) ∧
    (∃ (s : State) (b : Fin 8) (x : RxBuf), nget? b.val s.br.rx = some x ∧ s.br.responder = true ∧ x.whole = true ∧ mctpKind (s.rxBytes b x) = some 1 ∧ 5 ≤ (s.rxBytes b x).length ∧ (2 ≤ (((s.rxBytes b x).getD 3 0).toNat % 4) ∨ (((s.rxBytes b x).getD 4 0).toNat) < 8 ∨ (((s.rxBytes b x).getD 4 0).toNat) = 255)) ∧
    (∃ (s : State) (b : Fin 8) (x : RxBuf), nget? b.val s.br.rx = some x ∧ s.br.responder = true ∧ x.whole = true ∧ mctpKind (s.rxBytes b x) = some 4 ∧ 4 ≤ (s.rxBytes b x).length ∧ [0xFF, 0x00, 0x7F].contains ((s.rxBytes b x).getD 3 0).toNat = true) ∧
    (∃ (s : State) (b : Fin 8) (x : RxBuf), nget? b.val s.br.rx = some x ∧ s.br.responder = true ∧ x.whole = true ∧ mctpKind (s.rxBytes b x) = some 4 ∧ 4 ≤ (s.rxBytes b x).length ∧ [0xFF, 0x00, 0x7F].contains ((s.rxBytes b x).getD 3 0).toNat = false) :=
  ⟨⟨({ upW with br := { upW.br with spi := some { op := 0x10, tag := 3, addr := 0, data := 0 } } }), { op := 0x10, tag := 3, addr := 0, data := 0 }, by decide +kernel⟩,
   ⟨upW, by decide +kernel⟩,
   ⟨(({ upW with br := { upW.br with rx := [(3, { src := 9, dst := 0, tag := 2, owner := true, len := 3, seq := 1, whole := true })], eid := 12 } }).wr (spRx 3) 0 [0, 0x80, 2]), 3, { src := 9, dst := 0, tag := 2, owner := true, len := 3, seq := 1, whole := true }, by decide +kernel⟩,
   ⟨(({ upW with br := { upW.br with rx := [(3, { src := 9, dst := 0, tag := 2, owner := true, len := 5, seq := 1, whole := true })], eid := 12 } }).wr (spRx 3) 0 [0, 0x80, 1, 0, 20]), 3, { src := 9, dst := 0, tag := 2, owner := true, len := 5, seq := 1, whole := true }, by decide +kernel⟩,
   ⟨(({ upW with br := { upW.br with rx := [(3, { src := 9, dst := 0, tag := 2, owner := true, len := 5, seq := 1, whole := true })], eid := 12 } }).wr (spRx 3) 0 [0, 0x80, 1, 0, 7]), 3, { src := 9, dst := 0, tag := 2, owner := true, len := 5, seq := 1, whole := true }, by decide +kernel⟩,
   ⟨(({ upW with br := { upW.br with rx := [(3, { src := 9, dst := 0, tag := 2, owner := true, len := 4, seq := 1, whole := true })], eid := 12 } }).wr (spRx 3) 0 [0, 0x80, 4, 127]), 3, { src := 9, dst := 0, tag := 2, owner := true, len := 4, seq := 1, whole := true }, by decide +kernel⟩,
   ⟨(({ upW with br := { upW.br with rx := [(3, { src := 9, dst := 0, tag := 2, owner := true, len := 4, seq := 1, whole := true })], eid := 12 } }).wr (spRx 3) 0 [0, 0x80, 4, 1]), 3, { src := 9, dst := 0, tag := 2, owner := true, len := 4, seq := 1, whole := true }, by decide +kernel⟩⟩

theorem witness_BridgeAndStageResponder_4 :
    (∃ (s : State) (b : Fin 8) (x : RxBuf), nget? b.val s.br.rx = some x ∧ s.br.responder = true ∧ x.whole = true ∧ mctpKind (s.rxBytes b x) = some 5) ∧
    (∃ (s : State) (b : Fin 8) (x : RxBuf), nget? b.val s.br.rx = some x ∧ s.br.responder = true ∧ x.whole = true ∧ mctpKind (s.rxBytes b x) = some 0x101) ∧
    (∃ (s : State) (b : Fin 8) (x : RxBuf), nget? b.val s.br.rx = some x ∧ s.br.responder = true ∧ x.whole = true ∧ mctpKind (s.rxBytes b x) = some 0x102 ∧ 7 ≤ (s.rxBytes b x).length ∧ s.fuUp = true ∧ ((s.rxBytes b x).getD 6 0).toNat < 128) ∧
    (∃ (s : State) (b : Fin 8) (x : RxBuf), nget? b.val s.br.rx = some x ∧ s.br.responder = true ∧ x.whole = true ∧ mctpKind (s.rxBytes b x) = some 0x102 ∧ 7 ≤ (s.rxBytes b x).length ∧ (s.fuUp = false ∨ 128 ≤ ((s.rxBytes b x).getD 6 0).toNat)) ∧
    (∃ (s : State) (b : Fin 8) (x : RxBuf), nget? b.val s.br.rx = some x ∧ s.br.responder = true ∧ x.whole = true ∧ mctpKind (s.rxBytes b x) = some 0x103 ∧ 10 ≤ (s.rxBytes b x).length) ∧
    (∃ (s : State) (b : Fin 8) (x : RxBuf), nget? b.val s.br.rx = some x ∧ s.br.responder = true ∧ x.whole = true ∧ mctpKind (s.rxBytes b x) = some 0x104 ∧ 8 ≤ (s.rxBytes b x).length ∧ s.on PU_CMD_STATUS_BUSY = false ∧ (s.pu.cmdDone = false ∨ s.g PU_CMD_STATUS_TAG ≠ (leNat (((s.rxBytes b x).drop 6).take 2))) ∧ s.g PU_STATUS_STAGE ≠ 0 ∧ s.pu.held = false ∧ s.pu.flushing = none ∧ (s.up = false ∨ s.on PU_CFG_FLUSH_ON_RESET = false)) ∧
    (∃ (s : State) (b : Fin 8), (nget? b.val s.br.rx = none ∨ s.br.responder = false)) :=
  ⟨⟨(({ upW with br := { upW.br with rx := [(3, { src := 9, dst := 0, tag := 2, owner := true, len := 3, seq := 1, whole := true })], eid := 12 } }).wr (spRx 3) 0 [0, 0x80, 5]), 3, { src := 9, dst := 0, tag := 2, owner := true, len := 3, seq := 1, whole := true }, by decide +kernel⟩,
   ⟨(({ upW with br := { upW.br with rx := [(3, { src := 9, dst := 0, tag := 2, owner := true, len := 6, seq := 1, whole := true })], eid := 12 } }).wr (spRx 3) 0 [0x7F, 0, 0, 6, 0x47, 1]), 3, { src := 9, dst := 0, tag := 2, owner := true, len := 6, seq := 1, whole := true }, by decide +kernel⟩,
   ⟨(({ upW with br := { upW.br with rx := [(3, { src := 9, dst := 0, tag := 2, owner := true, len := 7, seq := 1, whole := true })], eid := 12 } }).wr (spRx 3) 0 [0x7F, 0, 0, 6, 0x47, 2, 5]), 3, { src := 9, dst := 0, tag := 2, owner := true, len := 7, seq := 1, whole := true }, by decide +kernel⟩,
   ⟨(({ upW with br := { upW.br with rx := [(3, { src := 9, dst := 0, tag := 2, owner := true, len := 7, seq := 1, whole := true })], eid := 12 } }).wr (spRx 3) 0 [0x7F, 0, 0, 6, 0x47, 2, 200]), 3, { src := 9, dst := 0, tag := 2, owner := true, len := 7, seq := 1, whole := true }, by decide +kernel⟩,
   ⟨(({ upW with br := { upW.br with rx := [(3, { src := 9, dst := 0, tag := 2, owner := true, len := 10, seq := 1, whole := true })], eid := 12 } }).wr (spRx 3) 0 [0x7F, 0, 0, 6, 0x47, 3, 0, 0, 0, 0]), 3, { src := 9, dst := 0, tag := 2, owner := true, len := 10, seq := 1, whole := true }, by decide +kernel⟩,
   ⟨((({ upW with br := { upW.br with rx := [(3, { src := 9, dst := 0, tag := 2, owner := true, len := 8, seq := 1, whole := true })], eid := 12 } }).wr (spRx 3) 0 [0x7F, 0, 0, 6, 0x47, 4, 9, 0]).p PU_STATUS_STAGE 15), 3, { src := 9, dst := 0, tag := 2, owner := true, len := 8, seq := 1, whole := true }, by decide +kernel⟩,
   ⟨upW, 3, by decide +kernel⟩⟩

theorem witness_BridgeAndStageResponder_5 :
    (∃ (s : State) (p : MctpPacket) (b : Nat), s.on BR_CFG_SMB_EN = true ∧ p.pecOk = true ∧ p.som = true ∧ s.rxOf p = none ∧ (List.range 8).find? (fun b => (nget? b s.br.rx).isNone) = some b ∧ p.payload.length ≤ 4096 ∧ s.br.responder = false) ∧
    (∃ (s : State) (p : MctpPacket) (b : Nat) (x : RxBuf), s.on BR_CFG_SMB_EN = true ∧ p.pecOk = true ∧ p.som = false ∧ p.eom = false ∧ s.rxOf p = some (b, x) ∧ p.seq.val = x.seq ∧ x.len + p.payload.length ≤ 4096) ∧
    (∃ (s : State) (p : MctpPacket), s.on BR_CFG_SMB_EN = true ∧ p.pecOk = false) ∧
    (∃ (s : State) (p : MctpPacket), s.on BR_CFG_SMB_EN = false) ∧
    (∃ (s : State) (b : Fin 8) (x : RxBuf), nget? b.val s.br.rx = some x ∧ x.whole = false) ∧
    (∃ (s : State) (b : Fin 8), nget? b.val s.br.rx = none) ∧
    (∃ (s : State) (m : Master) (v : Fin 256) (b : Fin 8), s.accepts m .SMB_RX_REL 0 = true) :=
  ⟨⟨({ (upW.p BR_CFG_SMB_EN 1) with br := { upW.br with responder := false } }), { src := 9, dst := 0, som := true, eom := true, seq := 1, owner := true, tag := 2, payload := [1, 2, 3], pecOk := true }, 0, by decide +kernel⟩,
   ⟨({ (upW.p BR_CFG_SMB_EN 1) with br := { upW.br with rx := [(4, { src := 9, dst := 0, tag := 2, owner := true, len := 64, seq := 1, whole := false })] } }), { src := 9, dst := 0, som := false, eom := false, seq := 1, owner := true, tag := 2, payload := [1, 2, 3], pecOk := true }, 4, { src := 9, dst := 0, tag := 2, owner := true, len := 64, seq := 1, whole := false }, by decide +kernel⟩,
   ⟨({ (upW.p BR_CFG_SMB_EN 1) with br := { upW.br with responder := false } }), { src := 9, dst := 0, som := true, eom := true, seq := 1, owner := true, tag := 2, payload := [1, 2, 3], pecOk := false }, by decide +kernel⟩,
   ⟨(upW.p BR_CFG_SMB_EN 0), { src := 9, dst := 0, som := true, eom := true, seq := 1, owner := true, tag := 2, payload := [1, 2, 3], pecOk := true }, by decide +kernel⟩,
   ⟨({ upW with br := { upW.br with rx := [(4, { src := 9, dst := 0, tag := 2, owner := true, len := 64, seq := 1, whole := false })] } }), 4, { src := 9, dst := 0, tag := 2, owner := true, len := 64, seq := 1, whole := false }, by decide +kernel⟩,
   ⟨upW, 4, by decide +kernel⟩,
   ⟨({ upW with br := { upW.br with rx := [(4, { src := 9, dst := 0, tag := 2, owner := true, len := 64, seq := 1, whole := false })] } }), .device, 16, 4, by decide +kernel⟩⟩

theorem witness_BridgeAndStageResponder_6 :
    (∃ (s : State) (m : Master) (v : Word), s.accepts m .SMB_TX_CMD 0 = true ∧ 1 ≤ ({ v := v.toNat } : RegW).val SMB_TX_CMD_LEN ∧ ({ v := v.toNat } : RegW).val SMB_TX_CMD_LEN ≤ 4096 ∧ ({ v := v.toNat } : RegW).val SMB_TX_CMD_GO = 1 ∧ nget? (({ v := v.toNat } : RegW).val SMB_TX_CMD_BUF) s.br.tx = none) ∧
    (∃ (s : State) (m : Master) (v : Word), s.accepts m .SMB_TX_CMD 0 = true ∧ 1 ≤ ({ v := v.toNat } : RegW).val SMB_TX_CMD_LEN ∧ ({ v := v.toNat } : RegW).val SMB_TX_CMD_LEN ≤ 4096 ∧ ({ v := v.toNat } : RegW).val SMB_TX_CMD_GO = 1 ∧ (nget? (({ v := v.toNat } : RegW).val SMB_TX_CMD_BUF) s.br.tx).isSome = true) ∧
    (∃ (s : State) (m : Master) (v : Word), s.accepts m .SMB_TX_CMD 0 = true ∧ (({ v := v.toNat } : RegW).val SMB_TX_CMD_LEN = 0 ∨ 4096 < ({ v := v.toNat } : RegW).val SMB_TX_CMD_LEN)) ∧
    (∃ (s : State) (b : Fin 4) (w : Nat), nget? b.val s.br.tx = some w ∧ s.on BR_CFG_NOTICE_EN = false) ∧
    (∃ (s : State) (b : Fin 4) (sent : Nat) (w : Nat), nget? b.val s.br.tx = some w ∧ s.on BR_CFG_NOTICE_EN = false) ∧
    (∃ (s : State) (b : Fin 4), nget? b.val s.br.tx = none) ∧
    (∃ (s : State) (dw : Nat) (th : Nat), s.up = true ∧ s.br.notices = [dw] ∧ s.thrOf (s.g BR_CFG_NOTICE_TID) = some th ∧ (s.th th).rxq.length < 16) :=
  ⟨⟨upW, .device, BitVec.ofNat 64 (2 * 2 ^ SMB_TX_CMD_BUF.lsb + 100 * 2 ^ SMB_TX_CMD_LEN.lsb + 2 ^ SMB_TX_CMD_GO.lsb), by decide +kernel⟩,
   ⟨({ upW with br := { upW.br with tx := [(2, 0)] } }), .device, BitVec.ofNat 64 (2 * 2 ^ SMB_TX_CMD_BUF.lsb + 100 * 2 ^ SMB_TX_CMD_LEN.lsb + 2 ^ SMB_TX_CMD_GO.lsb), by decide +kernel⟩,
   ⟨upW, .device, 0, by decide +kernel⟩,
   ⟨({ upW with br := { upW.br with tx := [(2, 100 * 256 + 2)] } }), 2, (100 * 256 + 2), by decide +kernel⟩,
   ⟨({ upW with br := { upW.br with tx := [(2, 100 * 256 + 2)] } }), 2, 1, (100 * 256 + 2), by decide +kernel⟩,
   ⟨upW, 2, by decide +kernel⟩,
   ⟨({ upW with br := { upW.br with notices := [9] } }), 9, 0, by decide +kernel⟩⟩

theorem witness_BridgeAndStageResponder_7 :
    (∃ (s : State) (dw : Nat), s.br.notices = [dw] ∧ s.noticePut dw = none) ∧
    (∃ (s : State) (x : Nat) (rest : List Nat), s.on SB_CFG_SB_EN = true ∧ s.br.sweep = none ∧ (List.range 8).filter (fun x => s.on SB_EXP_VALID x) = x :: rest) ∧
    (∃ (s : State), s.on SB_CFG_SB_EN = true ∧ s.br.sweep.isSome = true) ∧
    (∃ (s : State), s.on SB_CFG_SB_EN = false) ∧
    (∃ (s : State) (us : Fin 65536) (x : Nat), s.br.sweep = some [x] ∧ s.br.due = false) ∧
    (∃ (s : State) (d : Fin 65536) (us : Fin 65536) (x : Nat) (j : Fin 4), s.br.sweep = some [x] ∧ s.br.due = false) ∧
    (∃ (s : State) (d : Option (Fin 65536)) (us : Fin 65536), s.br.sweep = none) :=
  ⟨⟨({ State.reset with br := { upW.br with notices := [9] } }), 9, by decide +kernel⟩,
   ⟨(((List.range 8).foldl (fun s x => s.p SB_EXP_VALID 0 x) upW).p SB_EXP_VALID 1 2 |>.p SB_CFG_SB_EN 1), 2, [], by decide +kernel⟩,
   ⟨({ (upW.p SB_CFG_SB_EN 1) with br := { upW.br with sweep := some [2] } }), by decide +kernel⟩,
   ⟨(upW.p SB_CFG_SB_EN 0), by decide +kernel⟩,
   ⟨({ upW with br := { upW.br with sweep := some [2], sweepUs := 7 } }), 5, 2, by decide +kernel⟩,
   ⟨({ upW with br := { upW.br with sweep := some [2], sweepUs := 7 } }), 0x0DDD, 5, 2, 1, by decide +kernel⟩,
   ⟨upW, none, 5, by decide +kernel⟩⟩

theorem witness_BridgeAndStageResponder_8 :
    (∃ (s : State) (m : Master) (tag : Fin 65536) (expect : Option (Fin 4294967296)), s.accepts m .BR_CMT 0 = true ∧ s.on BR_CMT_STATUS_BUSY = false ∧ (s.cmt.bridgeDone = false ∨ s.g BR_CMT_STATUS_TAG ≠ tag)) ∧
    (∃ (s : State) (m : Master) (tag : Fin 65536), s.accepts m .BR_CMT 0 = true ∧ s.on BR_CMT_STATUS_BUSY = false ∧ (s.cmt.bridgeDone = false ∨ s.g BR_CMT_STATUS_TAG ≠ tag)) ∧
    (∃ (s : State) (m : Master) (tag : Fin 65536), s.accepts m .BR_CMT 0 = true ∧ s.on BR_CMT_STATUS_BUSY = true) :=
  ⟨⟨upW, .device, 9, (some 5), by decide +kernel⟩,
   ⟨upW, .device, 9, by decide +kernel⟩,
   ⟨(upW.p BR_CMT_STATUS_BUSY 1), .device, 9, by decide +kernel⟩⟩

theorem witness_ResetsStagesAndPilotLight_1 :
    (∃ (s : State) (dev : DevId) (ms : Bool) (octal : Bool) (n : Nat), s.pins.pwrgood = false) ∧
    (∃ (s : State) (dev : DevId) (ms : Bool) (octal : Bool), s.pins.pwrgood = true) ∧
    (∃ (s : State), s.pins.pwrgood = true) ∧
    (∃ (s : State), s.pins.pwrgood = false) ∧
    (∃ (s : State), s.g PU_STATUS_STAGE ≠ 0) ∧
    (∃ (s : State), s.g PU_STATUS_STAGE = 0) ∧
    (∃ (s : State) (m : Master) (tag : Fin 65536), s.accepts m .PU_CMD 0 = true ∧ s.on PU_CMD_STATUS_BUSY = false ∧ (s.pu.cmdDone = false ∨ s.g PU_CMD_STATUS_TAG ≠ tag) ∧ s.g PU_STATUS_STAGE ≠ 0 ∧ s.pu.held = false ∧ s.pu.flushing = none ∧ (s.up = false ∨ s.on PU_CFG_FLUSH_ON_RESET = false)) :=
  ⟨⟨({ ((((upW.p TALLY_VALUE 5 9).p MIR_CFG_EN 1).wr spHbm 64 [1]).p RBC_COUNT 7 2) with pins := { upW.pins with pwrgood := false } }), 2, true, false, 9, by decide +kernel⟩,
   ⟨({ upW with pins := { upW.pins with pwrgood := true } }), 2, true, false, by decide +kernel⟩,
   ⟨({ (upW.p MSC_STATUS_DIRTY_LINES 3 0) with pins := { upW.pins with pwrgood := true, thermtrip := true } }), by decide +kernel⟩,
   ⟨({ upW with pins := { upW.pins with pwrgood := false } }), by decide +kernel⟩,
   ⟨((((upW.p TALLY_VALUE 5 9).p MIR_CFG_EN 1).wr spHbm 64 [1]).p RBC_COUNT 7 2), by decide +kernel⟩,
   ⟨State.reset, by decide +kernel⟩,
   ⟨((((((upW.p TALLY_VALUE 5 9).p MIR_CFG_EN 1).wr spHbm 64 [1]).p RBC_COUNT 7 2).p PU_CFG_FLUSH_ON_RESET 0)), .device, 9, by decide +kernel⟩⟩

theorem witness_ResetsStagesAndPilotLight_2 :
    (∃ (s : State) (m : Master) (tag : Fin 65536), s.accepts m .PU_CMD 0 = true ∧ s.on PU_CMD_STATUS_BUSY = false ∧ (s.pu.cmdDone = false ∨ s.g PU_CMD_STATUS_TAG ≠ tag) ∧ s.g PU_STATUS_STAGE ≠ 0 ∧ s.pu.held = false ∧ s.pu.flushing = none ∧ s.up = true ∧ s.on PU_CFG_FLUSH_ON_RESET = true ∧ s.hm.msc.all (fun e => !e.2.dirty) = true) ∧
    (∃ (s : State) (m : Master) (tag : Fin 65536), s.accepts m .PU_CMD 0 = true ∧ s.on PU_CMD_STATUS_BUSY = true) ∧
    (∃ (s : State) (m : Master) (tag : Fin 65536), s.accepts m .PU_CMD 0 = true ∧ s.on PU_CMD_STATUS_BUSY = false ∧ s.pu.cmdDone = true ∧ s.g PU_CMD_STATUS_TAG = tag) ∧
    (∃ (s : State) (k : Nat), s.pu.flushing = some k) ∧
    (∃ (s : State), s.pu.flushing = none) ∧
    (∃ (s : State) (k : Nat) (us : Fin 4294967296), (s.g PU_STATUS_STAGE = 5 ∨ s.g PU_STATUS_STAGE = 7 ∨ s.g PU_STATUS_STAGE = 8) ∧ s.pu.held = false) ∧
    (∃ (s : State) (k : Nat) (us : Fin 4294967296), s.g PU_STATUS_STAGE = 4 ∧ s.pu.held = false) :=
  ⟨⟨(((((upW.p TALLY_VALUE 5 9).p MIR_CFG_EN 1).wr spHbm 64 [1]).p RBC_COUNT 7 2).p PU_CFG_FLUSH_ON_RESET 1), .device, 9, by decide +kernel⟩,
   ⟨(upW.p PU_CMD_STATUS_BUSY 1), .device, 9, by decide +kernel⟩,
   ⟨({ (upW.p PU_CMD_STATUS_TAG 9) with pu := { upW.pu with cmdDone := true } }), .device, 9, by decide +kernel⟩,
   ⟨({ ((((upW.p TALLY_VALUE 5 9).p MIR_CFG_EN 1).wr spHbm 64 [1]).p RBC_COUNT 7 2) with pu := { upW.pu with flushing := some 3 } }), 3, by decide +kernel⟩,
   ⟨upW, by decide +kernel⟩,
   ⟨(State.reset.p PU_STATUS_STAGE 7), 0, 9, by decide +kernel⟩,
   ⟨(State.reset.p PU_STATUS_STAGE 4), 3, 9, by decide +kernel⟩⟩

theorem witness_ResetsStagesAndPilotLight_3 :
    (∃ (s : State) (k : Nat) (us : Fin 4294967296), s.g PU_STATUS_STAGE = 6 ∧ s.pu.held = false) ∧
    (∃ (s : State) (d : Fin 65536) (us : Fin 4294967296), 4 ≤ s.g PU_STATUS_STAGE ∧ s.g PU_STATUS_STAGE ≤ 9 ∧ s.pu.held = false) ∧
    (∃ (s : State) (mv : List (Fin 65536)) (us : Fin 4294967296), s.g PU_STATUS_STAGE = 1 ∧ (List.range 7).all (fun r => !(decide ((mv.map (·.val)).getD r 0 * 10 < (railWindows.getD r (0, 0)).1)) && !(decide ((mv.map (·.val)).getD r 0 * 10 > (railWindows.getD r (0, 0)).2))) = true ∧ s.pu.held = false) ∧
    (∃ (s : State) (mv : List (Fin 65536)) (us : Fin 4294967296) (r : Fin 7), s.g PU_STATUS_STAGE = 1 ∧ (decide ((mv.map (·.val)).getD r 0 * 10 < (railWindows.getD r (0, 0)).1) = true ∨ decide ((mv.map (·.val)).getD r 0 * 10 > (railWindows.getD r (0, 0)).2) = true) ∧ (List.range r).all (fun r => !(decide ((mv.map (·.val)).getD r 0 * 10 < (railWindows.getD r (0, 0)).1)) && !(decide ((mv.map (·.val)).getD r 0 * 10 > (railWindows.getD r (0, 0)).2))) = true ∧ s.pu.held = false) ∧
    (∃ (s : State) (n : Fin 4) (us : Fin 4294967296), s.g PU_STATUS_STAGE = 3 ∧ s.pu.held = false) ∧
    (∃ (s : State) (n : Fin 4) (us : Fin 4294967296), s.g PU_STATUS_STAGE = 3 ∧ s.pu.held = false) ∧
    (∃ (s : State) (k : Fin 16) (n : Fin 4) (e : Bool) (us : Fin 4294967296), s.g PU_STATUS_STAGE = 3 ∧ s.pu.held = false) :=
  ⟨⟨(State.reset.p PU_STATUS_STAGE 6), 3, 9, by decide +kernel⟩,
   ⟨(State.reset.p PU_STATUS_STAGE 9), 0x1234, 9, by decide +kernel⟩,
   ⟨(State.reset.p PU_STATUS_STAGE 1), [800, 3300, 1800, 1100, 1200, 750, 750], 9, by decide +kernel⟩,
   ⟨(State.reset.p PU_STATUS_STAGE 1), [800, 3000, 1800, 1100, 1200, 750, 750], 9, 1, by decide +kernel⟩,
   ⟨(State.reset.p PU_STATUS_STAGE 3), 1, 9, by decide +kernel⟩,
   ⟨(State.reset.p PU_STATUS_STAGE 3), 3, 9, by decide +kernel⟩,
   ⟨(State.reset.p PU_STATUS_STAGE 3), 5, 0, true, 9, by decide +kernel⟩⟩

theorem witness_ResetsStagesAndPilotLight_4 :
    (∃ (s : State) (a : List Byte) (b : List Byte) (us : Fin 4294967296), s.g PU_STATUS_STAGE = 2 ∧ s.g TALLY_VALUE 0 ≠ 3 ∧ fieldOf ((a ++ List.replicate 0x3000 0).take 0x3000) 0 4 ≠ 0x4B424A48 ∧ fieldOf ((b ++ List.replicate 0x3000 0).take 0x3000) 0 4 ≠ 0x4B424A48 ∧ s.pu.held = false) ∧
    (∃ (s : State) (a : List Byte) (b : List Byte) (us : Fin 4294967296), s.g PU_STATUS_STAGE = 2 ∧ s.g TALLY_VALUE 0 = 3 ∧ s.pu.held = false) ∧
    (∃ (s : State) (r : StageResult) (us : Fin 4294967296), s.pu.held = true) ∧
    (∃ (s : State), 1 ≤ s.g PU_STATUS_STAGE ∧ s.g PU_STATUS_STAGE ≤ 9 ∧ s.pu.held = false) ∧
    (∃ (s : State), (s.g PU_STATUS_STAGE = 0 ∨ 9 < s.g PU_STATUS_STAGE ∨ s.pu.held = true)) ∧
    (∃ (s : State), s.pins.pwrgood = true) :=
  ⟨⟨(State.reset.p PU_STATUS_STAGE 2), [], [1], 9, by decide +kernel⟩,
   ⟨((State.reset.p PU_STATUS_STAGE 2).p TALLY_VALUE 3 0), [], [], 9, by decide +kernel⟩,
   ⟨({ (State.reset.p PU_STATUS_STAGE 5) with pu := { upW.pu with held := true } }), (.pass 0), 9, by decide +kernel⟩,
   ⟨(State.reset.p PU_STATUS_STAGE 9), by decide +kernel⟩,
   ⟨upW, by decide +kernel⟩,
   ⟨({ upW with pins := { upW.pins with pwrgood := true } }), by decide +kernel⟩⟩

theorem witness_CountersAndChimney_1 :
    (∃ (s : State) (m : Master), s.up = true ∧ s.accepts m .CNT_CTRL 0 = true ∧ s.on CNT_STATUS_SWEEPING = false) ∧
    (∃ (s : State) (m : Master), s.up = true ∧ s.accepts m .CNT_CTRL 0 = true ∧ s.on CNT_STATUS_SWEEPING = true) ∧
    (∃ (s : State), s.up = true ∧ s.g CNT_CFG_SWEEP_PERIOD_US ≠ 0 ∧ s.on CNT_STATUS_SWEEPING = false) ∧
    (∃ (s : State), s.up = true ∧ s.g CNT_CFG_SWEEP_PERIOD_US ≠ 0 ∧ s.on CNT_STATUS_SWEEPING = true) ∧
    (∃ (s : State), s.up = true ∧ s.g CNT_CFG_SWEEP_PERIOD_US = 0) ∧
    (∃ (s : State), s.up = true ∧ s.on CNT_STATUS_SWEEPING = true ∧ s.cnt.due = false ∧ s.on CNT_CFG_NOTE_EN = false) ∧
    (∃ (s : State), s.up = true ∧ s.on CNT_STATUS_SWEEPING = true ∧ s.cnt.due = false) :=
  ⟨⟨upW, .device, by decide +kernel⟩,
   ⟨upW.p CNT_STATUS_SWEEPING 1, .device, by decide +kernel⟩,
   ⟨upW.p CNT_CFG_SWEEP_PERIOD_US 10, by decide +kernel⟩,
   ⟨(upW.p CNT_CFG_SWEEP_PERIOD_US 10).p CNT_STATUS_SWEEPING 1, by decide +kernel⟩,
   ⟨upW.p CNT_CFG_SWEEP_PERIOD_US 0, by decide +kernel⟩,
   ⟨(((upW.p CNT_STATUS_SWEEPING 1).p CNT_SNAP_SNAP_BASE (0x40000000 / 64)).p CNT_CFG_BANK_FIRST 157 |>.p CNT_CFG_BANK_LAST 158), by decide +kernel⟩,
   ⟨(((upW.p CNT_STATUS_SWEEPING 1).p CNT_SNAP_SNAP_BASE (0x40000000 / 64)).p CNT_CFG_BANK_FIRST 157 |>.p CNT_CFG_BANK_LAST 158), by decide +kernel⟩⟩

theorem witness_CountersAndChimney_2 :
    (∃ (s : State) (ok : Bool), s.up = true ∧ s.on CNT_STATUS_SWEEPING = true ∧ s.cnt.due = true ∧ s.on CNT_CFG_NOTE_EN = false) ∧
    (∃ (s : State) (ok : Bool), s.up = true ∧ s.on CNT_STATUS_SWEEPING = false) ∧
    (∃ (s : State) (m : Master) (c : Fin 256) (j : Fin 8) (v : Word), s.up = true ∧ s.accepts m .CSET_MAP c j = true ∧ s.setFrozen c = false ∧ ({ v := v.toNat } : RegW).val CSET_MAP_USED = 1 ∧ s.on CSET_CFG_VALID c = true ∧ (({ v := v.toNat } : RegW).val CSET_MAP_COUNTER) < bankCount (({ v := v.toNat } : RegW).val CSET_MAP_BANK) ∧ s.on CNT_SEL_BOUND (({ v := v.toNat } : RegW).val CSET_MAP_BANK) (({ v := v.toNat } : RegW).val CSET_MAP_COUNTER) = false ∧ s.on CNT_SEL_EN (({ v := v.toNat } : RegW).val CSET_MAP_BANK) (({ v := v.toNat } : RegW).val CSET_MAP_COUNTER) = false ∧ s.slotCounter c j = none) ∧
    (∃ (s : State) (m : Master) (c : Fin 256) (j : Fin 8) (v : Word) (b : Nat) (k : Nat), s.up = true ∧ s.accepts m .CSET_MAP c j = true ∧ s.setFrozen c = false ∧ ({ v := v.toNat } : RegW).val CSET_MAP_USED = 0 ∧ s.slotCounter c j = some (b, k)) ∧
    (∃ (s : State) (m : Master) (c : Fin 256) (j : Fin 8) (v : Word), s.up = true ∧ s.accepts m .CSET_MAP c j = true ∧ s.setFrozen c = true) ∧
    (∃ (s : State) (x : Nat × Nat × Nat) (th : Nat), s.up = true ∧ s.cnt.notices = [x] ∧ s.thrOf (s.g CNT_CFG_NOTE_TID) = some th ∧ (s.th th).rxq.length < 16) ∧
    (∃ (s : State) (x : Nat × Nat × Nat) (th : Nat), s.up = true ∧ s.cnt.notices = [x] ∧ s.thrOf (s.g CNT_CFG_NOTE_TID) = some th ∧ 16 ≤ (s.th th).rxq.length) :=
  ⟨⟨(let X := (((upW.p CNT_STATUS_SWEEPING 1).p CNT_SNAP_SNAP_BASE (0x40000000 / 64)).p CNT_CFG_BANK_FIRST 157 |>.p CNT_CFG_BANK_LAST 158); { X with cnt := { X.cnt with due := true } }), true, by decide +kernel⟩,
   ⟨upW, true, by decide +kernel⟩,
   ⟨upW.p CSET_CFG_VALID 1 5, .device, 5, 7, BitVec.ofNat 64 (157 * 2 ^ CSET_MAP_BANK.lsb + 3 * 2 ^ CSET_MAP_COUNTER.lsb + 2 ^ CSET_MAP_USED.lsb), by decide +kernel⟩,
   ⟨((((upW.p CSET_CFG_VALID 1 5).p CSET_MAP_USED 1 5 7).p CSET_MAP_BANK 157 5 7).p CSET_MAP_COUNTER 3 5 7), .device, 5, 7, 0, 157, 3, by decide +kernel⟩,
   ⟨((upW.p CSET_CFG_VALID 1 5).p INST_STATUS_STATE 3 0), .device, 5, 7, BitVec.ofNat 64 (157 * 2 ^ CSET_MAP_BANK.lsb + 3 * 2 ^ CSET_MAP_COUNTER.lsb + 2 ^ CSET_MAP_USED.lsb), by decide +kernel⟩,
   ⟨({ upW with cnt := { upW.cnt with notices := [(1, 2, 3)] } }), (1, 2, 3), 0, by decide +kernel⟩,
   ⟨(({ upW with cnt := { upW.cnt with notices := [(1, 2, 3)] } }).thMod 0 (fun x => { x with rxq := List.replicate 16 [] })), (1, 2, 3), 0, by decide +kernel⟩⟩

theorem witness_CountersAndChimney_3 :
    (∃ (s : State) (h : HearthId) (ok : Bool) (q : Nat), s.up = true ∧ ok = false ∧ nget? h.val s.cnt.chmSeq = some q) ∧
    (∃ (s : State) (h : HearthId) (ok : Bool), s.up = true ∧ ok = true) :=
  ⟨⟨({ upW with cnt := { upW.cnt with chmSeq := [(3, 9)] } }), 3, false, 9, by decide +kernel⟩,
   ⟨upW, 3, true, by decide +kernel⟩⟩

end Sys2Proof.Tests
end

section
/-! PROOFS. An instruction of a thread that is ready, and the results of divisions and shifts (R172). -/

namespace Sys2Proof.Machine

/-! ## The state of a quiet thread -/

/-- What it is for an instruction to run: the thread is ready, its fetch passes, and the word there is of a row that its level permits. -/
theorem State.runs_iff {s : State} {t : Nat} {p : Plv} {w : Nat} :
    s.runs t p w = true ↔ s.ready t = true ∧ ∃ e, s.fetchCheck t = .ok e ∧
      leNat (s.fetchBytes t e (s.th t).pc) = w ∧ plvOf w = some p ∧ plvAllowed p w (s.priv t) = true := by
  unfold State.runs
  cases s.fetchCheck t with
  | ok e => simp [and_assoc]
  | bad code arg gate => simp

theorem State.quiet_iff {s : State} {t : Nat} :
    s.quiet t = true ↔ s.on CHM_CFG_EN (thH t) = false ∧ (s.th t).clearAsked = false ∧ (s.th t).stopAsked = false := by
  simp [State.quiet, and_assoc]

/-- A change of a thread that leaves its pending CLEAR and STOP as they are leaves it quiet. -/
theorem State.quiet_thMod {s : State} {t : Nat} {f : Thread → Thread} (h : s.quiet t = true)
    (hc : (f (s.th t)).clearAsked = (s.th t).clearAsked) (hs : (f (s.th t)).stopAsked = (s.th t).stopAsked) :
    (s.thMod t f).quiet t = true := by
  obtain ⟨hen, hclear, hstop⟩ := State.quiet_iff.mp h
  refine State.quiet_iff.mpr ⟨hen, ?_, ?_⟩
  · rw [State.th_thMod_self, hc, hclear]
  · rw [State.th_thMod_self, hs, hstop]

theorem State.quiet_grSet {s : State} {t : Nat} (h : s.quiet t = true) (r v : Nat) : (s.grSet t r v).quiet t = true := by
  apply State.quiet_thMod h <;> unfold Thread.grSet <;> split <;> rfl

theorem State.quiet_goesTo {s : State} {t : Nat} (h : s.quiet t = true) (next : Nat) : (s.goesTo t next).quiet t = true :=
  State.quiet_thMod h rfl rfl

/-- The value written to a general register is cut to 64 bits (R167). -/
theorem State.grSet_mod (s : State) (t r v : Nat) : s.grSet t r (v % 2 ^ 64) = s.grSet t r v := by
  unfold State.grSet Thread.grSet
  rw [Nat.mod_mod]

/-! ## From issue to the next instruction -/

/-- At a hearth that does not sample an instruction issues untagged and changes nothing (R412). -/
theorem State.chmTag_of_quiet {s : State} {t : Nat} (h : s.quiet t = true) (w : Nat) : s.chmTag t w = (s, false) := by
  have hen := (State.quiet_iff.mp h).1
  simp [State.chmTag, State.chmMatch, hen]

theorem State.issue_fst_of_quiet {s : State} {t : Nat} (h : s.quiet t = true) (w : Nat) : (s.issue t w).1 = s := by
  rw [State.issue, State.chmTag_of_quiet h]

theorem State.issue_tagged_of_quiet {s : State} {t : Nat} (h : s.quiet t = true) (w : Nat) : (s.issue t w).2.tagged = false := by
  rw [State.issue, State.chmTag_of_quiet h]

theorem State.issue_word (s : State) (t w : Nat) : (s.issue t w).2.word = w := rfl

theorem State.issue_pc (s : State) (t w : Nat) : (s.issue t w).2.pc = (s.th t).pc := rfl

theorem State.chmRecord_of_untagged (s : State) (t : Nat) {i : Issued} (h : i.tagged = false) (status trap : Nat) :
    s.chmRecord t i status trap = s := by
  simp [State.chmRecord, h]

theorem State.stopHere_of_quiet {s : State} {t : Nat} (h : s.quiet t = true) : s.stopHere t = s := by
  obtain ⟨-, hclear, hstop⟩ := State.quiet_iff.mp h
  simp [State.stopHere, hclear, hstop]

/-- An untagged instruction of a quiet thread completes with nothing but the move to the next one. -/
theorem State.retire_of_quiet {s : State} {t : Nat} (h : s.quiet t = true) {i : Issued} (hi : i.tagged = false) (status next : Nat) :
    s.retire t i status next = s.goesTo t next := by
  change ((s.goesTo t next).chmRecord t i status 0).stopHere t = _
  rw [State.chmRecord_of_untagged _ _ hi, State.stopHere_of_quiet (State.quiet_goesTo h next)]

/-- The command of the row that a ready thread has fetched runs that row's meaning. -/
theorem runPlv_of_runs {s : State} {th : ThrId} {p : Plv} {w : Nat} (hup : s.up = true) (hr : s.runs th p w = true)
    (f : State → Issued → Option State) :
    runPlv p th f s = .next ((f (s.issue th w).1 (s.issue th w).2).getD s) := by
  obtain ⟨hready, e, hfetch, hword, hrow, hlevel⟩ := State.runs_iff.mp hr
  have hpriv : s.plvPriv th p w = false := by simp [State.plvPriv, hlevel]
  rw [runPlv, runFetch, whenUp_up hup]
  simp [hready, hfetch, hword, hrow, hpriv]

/-- A register instruction of a quiet thread writes its value to RD and goes to the next instruction. -/
theorem regInstr_of_runs {s : State} {th : ThrId} {p : Plv} {w : Nat} (hup : s.up = true) (hr : s.runs th p w = true)
    (hq : s.quiet th = true) (v : State → Nat → Nat) :
    regInstr p th v s = .next ((s.grSet th (wRd w) (v s w)).goesTo th ((s.th th).pc + 4)) := by
  rw [regInstr, runPlv_of_runs hup hr, State.issue_fst_of_quiet hq]
  change Host.Outcome.next (State.retireRd s th (s.issue th w).2 (v s (s.issue th w).2.word)) = _
  rw [State.retireRd, State.issue_word, State.issue_pc,
    State.retire_of_quiet (State.quiet_grSet hq _ _) (State.issue_tagged_of_quiet hq w)]

theorem exec_alu (th : ThrId) (s : State) : exec (.alu th) s = execAlu th s := rfl

theorem exec_shi (th : ThrId) (s : State) : exec (.shi th) s = execShi th s := rfl

theorem exec_alu_of_runs {s : State} {th : ThrId} {w : Nat} (hup : s.up = true) (hr : s.runs th .alu w = true) (hq : s.quiet th = true) :
    exec (.alu th) s =
      .next ((s.grSet th (wRd w) (aluFn (wFn w) (s.gr th (wRa w)) (s.gr th (wRb w)))).goesTo th ((s.th th).pc + 4)) := by
  rw [exec_alu, execAlu, regInstr_of_runs hup hr hq]

theorem exec_shi_of_runs {s : State} {th : ThrId} {w : Nat} (hup : s.up = true) (hr : s.runs th .shi w = true) (hq : s.quiet th = true) :
    exec (.shi th) s = .next ((s.grSet th (wRd w) (shiFn (s.gr th (wRa w)) (wImm w))).goesTo th ((s.th th).pc + 4)) := by
  rw [exec_shi, execShi, regInstr_of_runs hup hr hq]

/-! ## Division and shifts (R172) -/

/-- A division by 0 returns all ones. -/
theorem aluFn_quotient_by_zero {fn : Nat} (h : fn = 0x10 ∨ fn = 0x12) (a : Nat) : aluFn fn a 0 = 2 ^ 64 - 1 := by
  rcases h with rfl | rfl <;> rfl

/-- A remainder by 0 is the dividend. -/
theorem aluFn_remainder_by_zero {fn : Nat} (h : fn = 0x11 ∨ fn = 0x13) (a : Nat) : aluFn fn a 0 = a := by
  rcases h with rfl | rfl <;> rfl

/-- The quotient of −2^63 by −1 does not fit 64 bits and wraps to −2^63. -/
theorem div64_min_by_minus_one : div64 (2 ^ 63) (2 ^ 64 - 1) = 2 ^ 63 := by decide

theorem rem64_min_by_minus_one : rem64 (2 ^ 63) (2 ^ 64 - 1) = 0 := by decide

/-- A rotation written to a register is the sum of its two parts, cut to 64 bits. -/
theorem State.grSet_ror64 (s : State) (t r v n : Nat) :
    s.grSet t r (ror64 v n) = s.grSet t r ((v / 2 ^ (n % 64) + v * 2 ^ (64 - n % 64) % 2 ^ 64) % 2 ^ 64) := by
  rw [State.grSet_mod, ror64, srl64, w64, Nat.mod_mod]

/-- The shift's kind, IMM[7:6], in the instruction's word. -/
theorem bits_wImm_kind (w : Nat) : bits (wImm w) 6 2 = bits w 6 2 := by
  unfold wImm bits
  omega

/-! SHI by its kind, IMM[7:6]: left, right, arithmetic right, and rotation. -/

theorem shiFn_sll {a imm : Nat} (h : bits imm 6 2 = 0) : shiFn a imm = sll64 a imm := by simp only [shiFn, h]
theorem shiFn_srl {a imm : Nat} (h : bits imm 6 2 = 1) : shiFn a imm = srl64 a imm := by simp only [shiFn, h]
theorem shiFn_sra {a imm : Nat} (h : bits imm 6 2 = 2) : shiFn a imm = sra64 a imm := by simp only [shiFn, h]
theorem shiFn_ror {a imm : Nat} (h : bits imm 6 2 = 3) : shiFn a imm = ror64 a imm := by simp only [shiFn, h]

/-- Settles O57: a ready instruction writes `aluFn` or `shiFn` of its operands to RD, and R172 says what these are. -/
theorem divisionAndShifts : Obligations.DivisionAndShifts := by
  refine ⟨fun th s w hup hr hq hfn => ?division, fun th s w v n hup hr hq hv hn => ?alu, fun th s w v n hup hr hq hv hn => ?shi⟩
  case division =>
    refine ⟨_, exec_alu_of_runs hup hr hq, fun hb hfn => ?_, fun hb hfn => ?_, fun ha hb => ⟨fun hfn => ?_, fun hfn => ?_⟩⟩
    · rw [hb, aluFn_quotient_by_zero hfn]
    · rw [hb, aluFn_remainder_by_zero hfn]
    · rw [ha, hb, hfn]; exact div64_min_by_minus_one
    · rw [ha, hb, hfn]; exact rem64_min_by_minus_one
  case alu =>
    subst hv hn
    rw [exec_alu_of_runs hup hr hq]
    refine ⟨fun hfn => ?_, fun hfn => ?_, fun hfn => ?_, fun hfn => ?_⟩ <;> rw [hfn]
    · rfl
    · rfl
    · rfl
    · rw [← State.grSet_ror64]; rfl
  case shi =>
    subst hv hn
    rw [exec_shi_of_runs hup hr hq, ← bits_wImm_kind]
    refine ⟨fun hk => ?_, fun hk => ?_, fun hk => ?_, fun hk => ?_⟩
    · rw [shiFn_sll hk]; rfl
    · rw [shiFn_srl hk]; rfl
    · rw [shiFn_sra hk]; rfl
    · rw [shiFn_ror hk, State.grSet_ror64]

end Sys2Proof.Machine
end

section
/-! PROOFS. The check of an access at a gate: the regions and the one that decides (R290), and the default map (R291). -/

namespace Sys2Proof.Machine

theorem bit_eq_testBit (v n : Nat) : bit v n = v.testBit n := by
  rw [Nat.testBit_eq_decide_div_mod_eq]
  rfl

/-! ## The region that decides (R290) -/

theorem regionMatches_iff (lo hi : Fld → Nat) (x : GateAcc) (a : Nat) : regionMatches lo hi x a = true ↔
    lo PG_LO_VALID = 1 ∧ lo PG_LO_SPACE = x.space ∧ (x.space = 2 → lo PG_LO_HEARTH = x.hearth) ∧
    lo PG_LO_BASE ≤ a / 4096 ∧ a / 4096 ≤ hi PG_HI_LIMIT ∧
    (hi PG_HI_INST_ANY = 1 ∨ hi PG_HI_INST_DEV * 4096 + hi PG_HI_INST = x.inst) := by
  simp only [regionMatches, Bool.and_eq_true, Bool.or_eq_true, beq_iff_eq, bne_iff_ne, decide_eq_true_eq, and_assoc,
    imp_iff_not_or]

theorem regionMatches_of_not_valid {lo : Fld → Nat} (h : lo PG_LO_VALID ≠ 1) (hi : Fld → Nat) (x : GateAcc) (a : Nat) :
    regionMatches lo hi x a = false :=
  Bool.eq_false_iff.mpr fun hm => h ((regionMatches_iff lo hi x a).mp hm).1

/-- The lowest-numbered region that matches decides. -/
theorem State.decider_eq_some_iff {s : State} {g : Gate} {x : GateAcc} {a r : Nat} : s.decider g x a = some r ↔
    regionMatches (s.region g r) (s.region g r) x a = true ∧ r < g.count ∧
    ∀ q, q < r → regionMatches (s.region g q) (s.region g q) x a = false := by
  simp only [State.decider, List.find?_range_eq_some, List.mem_range, Bool.not_eq_true']

theorem State.decider_eq_none_iff {s : State} {g : Gate} {x : GateAcc} {a : Nat} : s.decider g x a = none ↔
    ∀ r, r < g.count → regionMatches (s.region g r) (s.region g r) x a = false := by
  simp only [State.decider, List.find?_range_eq_none, Bool.not_eq_true']

/-- The deciding region's bits for the level checked give the answer. -/
theorem State.partOk_of_decider {s : State} {g : Gate} {x : GateAcc} {a r : Nat} (h : s.decider g x a = some r) :
    s.partOk g x a = (permits (if x.level = 0 then s.region g r PG_LO_P0_RWX else if x.level = 1 then s.region g r PG_LO_P1_RWX
      else s.region g r PG_LO_P2_RWX) x.space x.kind, some r) := by
  simp only [State.partOk, h]
  match x.level with
  | 0 => rfl
  | 1 => rfl
  | _ + 2 => rfl

theorem State.partOk_of_no_decider {s : State} {g : Gate} {x : GateAcc} {a : Nat} (h : s.decider g x a = none) :
    s.partOk g x a = (defaultMap x.level x.space a x.kind, none) := by
  simp only [State.partOk, h]

/-! ## Permission bits by the kind of access (R290, Table 14-3) -/

theorem permits_read (rwx space : Nat) : permits rwx space 0 = rwx.testBit 0 := bit_eq_testBit rwx 0

theorem permits_write (rwx space : Nat) : permits rwx space 1 = rwx.testBit 1 := bit_eq_testBit rwx 1

theorem permits_execute (rwx space : Nat) : permits rwx space 2 = (space != 2 || rwx.testBit 2) := by
  by_cases h : space = 2
  · simp [permits, h, bit_eq_testBit]
  · simp [permits, h]

theorem permits_amo (rwx space : Nat) : permits rwx space 3 = (rwx.testBit 0 && rwx.testBit 1) := by
  simp only [permits, bit_eq_testBit]

/-! ## The default map (R291, Table 14-2) -/

theorem defaultMap_tenant {level : Nat} (h : 2 ≤ level) (space a kind : Nat) : defaultMap level space a kind = false :=
  if_pos h

theorem defaultMap_fabric {level : Nat} (h : level < 2) (a kind : Nat) : defaultMap level 0 a kind = true :=
  if_neg (Nat.not_le.mpr h)

theorem defaultMap_shared {level : Nat} (h : level < 2) (a kind : Nat) : defaultMap level 2 a kind = true :=
  if_neg (Nat.not_le.mpr h)

/-- A row that refuses P1's writes below `bound` passes P0, every read and fetch, and every address from `bound` on. -/
theorem p0_or_not_write_below (level kind a bound : Nat) :
    (level == 0 || !((kind != 0 && kind != 2) && decide (a < bound))) =
      (level == 0 || kind == 0 || kind == 2 || decide (bound ≤ a)) := by
  rw [Bool.eq_iff_iff]
  simp only [Bool.or_eq_true, Bool.not_eq_true', Bool.and_eq_false_iff, bne_eq_false_iff_eq, beq_iff_eq, decide_eq_false_iff_not,
    decide_eq_true_eq, Nat.not_lt, or_assoc]

theorem defaultMap_hbm {level : Nat} (h : level < 2) (a kind : Nat) :
    defaultMap level 1 a kind = (level == 0 || kind == 0 || kind == 2 || decide (0x38000000 ≤ a)) :=
  (if_neg (Nat.not_le.mpr h)).trans (p0_or_not_write_below level kind a 0x38000000)

theorem defaultMap_control {level : Nat} (h : level < 2) (a kind : Nat) :
    defaultMap level 3 a kind = (level == 0 || kind == 0 || kind == 2 || decide (0x100000 ≤ a)) :=
  (if_neg (Nat.not_le.mpr h)).trans (p0_or_not_write_below level kind a 0x100000)

/-- The default map at P0 and P1, over the four spaces of Table 14-2. -/
theorem defaultMap_manager {level space : Nat} (h : level < 2) (hs : space ≤ 3) (a kind : Nat) : defaultMap level space a kind =
    (level == 0 || space == 0 || space == 2 || kind == 0 || kind == 2 ||
      (space == 1 && decide (0x38000000 ≤ a)) || (space == 3 && decide (0x100000 ≤ a))) := by
  match space, hs with
  | 0, _ => simp [defaultMap_fabric h]
  | 1, _ => simp [defaultMap_hbm h]
  | 2, _ => simp [defaultMap_shared h]
  | 3, _ => simp [defaultMap_control h]

/-! ## The check of a whole access (R292) -/

/-- An access has a part at its first byte, an access of no bytes too. -/
theorem addr_mem_gateParts (addr len : Nat) : addr ∈ gateParts addr len :=
  List.mem_map.mpr ⟨0, List.mem_range.mpr (Nat.succ_pos _), if_pos rfl⟩

theorem State.gateCheck_isSome_of_part {s : State} {g : Gate} {x : GateAcc} {a : Nat} (ha : a ∈ gateParts x.addr x.len)
    (hf : (s.partOk g x a).1 = false) : (s.gateCheck g x).isSome = true :=
  List.findSome?_isSome_iff.mpr ⟨a, ha, by simp [hf]⟩

/-- At a gate with no valid region no region decides. -/
theorem State.decider_eq_none_of_no_valid {s : State} {g : Gate} (h : ∀ r, r < g.count → s.region g r PG_LO_VALID ≠ 1)
    (x : GateAcc) (a : Nat) : s.decider g x a = none :=
  State.decider_eq_none_iff.mpr fun r hr => regionMatches_of_not_valid (h r hr) (s.region g r) x a

theorem State.partOk_tenant_refused {s : State} {g : Gate} {x : GateAcc} {a : Nat} (h : s.decider g x a = none)
    (hl : 2 ≤ x.level) : (s.partOk g x a).1 = false := by
  rw [State.partOk_of_no_decider h, defaultMap_tenant hl]

/-- Settles O45: `decider` finds the lowest region that matches; with none, the default map refuses P2 and its rows answer P0 and P1. -/
theorem gateRules : Obligations.GateRules := by
  refine ⟨regionMatches_iff, fun s g x a r hr hm hlow => ?decides,
    fun rwx space => ⟨permits_read rwx space, permits_write rwx space, permits_execute rwx space, permits_amo rwx space⟩,
    fun s g x a hnone => ⟨fun hl => ?tenant, fun hl _ hs => ?manager⟩, fun s g x hl hv => ?noValid⟩
  case decides => exact State.partOk_of_decider (State.decider_eq_some_iff.mpr ⟨hm, hr, hlow⟩)
  case tenant => exact State.partOk_tenant_refused (State.decider_eq_none_iff.mpr hnone) hl
  case manager => rw [State.partOk_of_no_decider (State.decider_eq_none_iff.mpr hnone), defaultMap_manager hl hs]
  case noValid =>
    exact State.gateCheck_isSome_of_part (addr_mem_gateParts x.addr x.len)
      (State.partOk_tenant_refused (State.decider_eq_none_of_no_valid hv x x.addr) hl)

end Sys2Proof.Machine
end
